-- ==== Sys2Proof/Word.lean ====
section
/-! DEFINITION. Bytes, byte order and saturating counts (spec/00_scope.md R6–R10, R30).

Registers and encoded fields are bit vectors; counts, sizes, ticks and indices are `Nat`; alternatives are
inductive types. -/

namespace Sys2Proof

/-- One byte. -/
abbrev Byte := BitVec 8

/-- One 32-bit register or memory word. -/
abbrev Word := BitVec 32

/-- A string of bytes, byte offset 0 first (R9, R10). -/
abbrev Bytes := List Byte

/-- The `n` low bytes of `v`, most significant first: on-wire byte order (R9). -/
def beBytes : (n : Nat) → (v : Nat) → Bytes
  | 0, _ => []
  | n + 1, v => BitVec.ofNat 8 (v / 256 ^ n) :: beBytes n v

/-- The `n` low bytes of `v`, least significant first: memory and register byte order (R9). -/
def leBytes : (n : Nat) → (v : Nat) → Bytes
  | 0, _ => []
  | n + 1, v => BitVec.ofNat 8 v :: leBytes n (v / 256)

/-- The number a byte string stands for, most significant byte first. -/
def ofBe (l : Bytes) : Nat := l.foldl (fun a b => a * 256 + b.toNat) 0

/-- The number a byte string stands for, least significant byte first. -/
def ofLe : Bytes → Nat
  | [] => 0
  | b :: l => b.toNat + 256 * ofLe l

/-- `n` zero bytes. -/
def zeros (n : Nat) : Bytes := List.replicate n 0

/-- `l` cut or zero-filled to exactly `n` bytes. -/
def padTo (n : Nat) (l : Bytes) : Bytes := (l ++ zeros n).take n

/-- The bytes `[off, off + n)` of `l`. -/
def slice (off n : Nat) (l : Bytes) : Bytes := (l.drop off).take n

/-- Adds to a statistic counter that saturates at `top` and never wraps (R30, "counts"). -/
def satAdd (top c n : Nat) : Nat := min top (c + n)

/-- Adds one to a 16-bit statistic counter. -/
def sat16 (c : Nat) : Nat := satAdd 0xFFFF c 1

/-- One bit of a number. -/
def bitOf (b : Bool) (k : Nat) : Nat := if b then 2 ^ k else 0

/-- Rounds up to a multiple of `m`. -/
def ceilDiv (a m : Nat) : Nat := (a + m - 1) / m

@[simp] theorem beBytes_length (n v : Nat) : (beBytes n v).length = n := by
  induction n with
  | zero => rfl
  | succ n ih => simp [beBytes, ih]

@[simp] theorem leBytes_length (n v : Nat) : (leBytes n v).length = n := by
  induction n generalizing v with
  | zero => rfl
  | succ n ih => simp [leBytes, ih]

@[simp] theorem padTo_length (n : Nat) (l : Bytes) : (padTo n l).length = n := by
  simp [padTo, zeros]

theorem satAdd_le (top c n : Nat) : satAdd top c n ≤ top := Nat.min_le_left ..

theorem sat16_le (c : Nat) : sat16 c ≤ 0xFFFF := satAdd_le ..

end Sys2Proof
end

