-- ==== Sys2Proof/Syntax.lean ====
section
/-! DEFINITION. The commands of the block: one constructor of `Instr` per row of spec/opcode_table.json, with the
names its operands use. The table gives no bits and no operands; the operands are what the rule of each row
needs from outside the model (assumption log 10). -/

namespace Sys2Proof

/-! ## Names shared by commands and state -/

/-- The orderable parts (spec/00_scope.md R1, R2). -/
inductive Part | tn1616 | tn1612 | tn1608
deriving DecidableEq, Repr

/-- Channel class, encoded U 0, L 1, H 2, A 3 (spec/03_straps.md R107). -/
inductive EClass | u | l | h | a
deriving DecidableEq, Repr

/-- The five firings in lifecycle order (spec/06_lifecycle.md R209). -/
inductive Firing | greenware | bisque | glazed | fired | sherd
deriving DecidableEq, Repr

/-- The tamper grade in force on a die (spec/07_tamper.md R250). -/
inductive Grade | none | watch | crazed | shattered
deriving DecidableEq, Repr

/-- The freeze sources of a guarded output (spec/08_channels.md R311). -/
inductive FreezeSrc | notick | provisional | crazed | main | pfail | exchange
deriving DecidableEq, Repr

/-- Functions of a FEN pad (spec/02_package.md R85). -/
inductive FenFn | p | g
deriving DecidableEq, Repr

/-- Functions of an LNK pad (spec/02_package.md R85). -/
inductive LnkFn | t | e
deriving DecidableEq, Repr

/-- The two kinds of pin that have more than one function (spec/02_package.md R85). -/
inductive PadKind | fen | lnk
deriving DecidableEq, Repr

/-- The three window-length registers of a channel (spec/08_channels.md R300). -/
inductive WinLen | tconf | hb | hold
deriving DecidableEq, Repr

/-- The tick sources (spec/04_power_clocks.md R146). -/
inductive TickSrc | rc32 | xo32
deriving DecidableEq, Repr

/-- The better references of spec/04_power_clocks.md R148. -/
inductive RefId | xo32 | xo25 | beacon
deriving DecidableEq, Repr

/-- The two reference switches of spec/04_power_clocks.md R150. -/
inductive SwitchKind | tick | fpll
deriving DecidableEq, Repr

/-- Wake sources (spec/04_power_clocks.md R160). -/
inductive WakeSrc
  | kernelTick | demandEdge | linkFrame | uplinkPacket | kilnRequest
  | kilnDoorbell | tamperTrip | svcDoor | pfailFall | kilnTimer | slipJoint
deriving DecidableEq, Repr

/-- The reasons of a Hold (spec/05_startup.md R200), with the FUSE_MARGINAL hold of R178. -/
inductive HoldReason | ringHaltPart | noImage | optionInvalid | watchdogLoop | kilnLoop | fuseMarginal
deriving DecidableEq, Repr

/-- The two uplink ports (spec/11_uplink.md R406). -/
inductive Port | a | b
deriving DecidableEq, Repr

/-- Partner states in the order of spec/10_link_sessions.md R392. -/
inductive PState | present | absent | silent | slow | faulty | hostile
deriving DecidableEq, Repr

/-- Why a received burst is not a decoded burst (spec/09_link_line.md R336). -/
inductive LineErr | coding | notBytes | tooLong | badEnd
deriving DecidableEq, Repr

/-- A received burst as the line receiver hands it over (spec/09_link_line.md R334–R339).
`start` is the bit time of its first preamble transition after E of the outstanding request, if any. -/
structure Burst where
  body : Bytes
  start : Option Nat := none
  inverted : Bool := false
  err : Option LineErr := none
deriving DecidableEq, Repr

/-- Outcome of a fingerprint capture: a profile of 256 points, or disturbed (spec/09_link_line.md R343, R345). -/
inductive Capture | profile (points : List Int) | disturbed
deriving DecidableEq, Repr

/-- Occasions of a fingerprint (spec/09_link_line.md R351), coded 1 to 4 (spec/11_uplink.md R418). -/
inductive FpOccasion | beforeHandshake | periodic | cableChanged | reportOnly
deriving DecidableEq, Repr


/-- Kinds of fuse word (spec/05_startup.md R175, spec/19_keys_counters.md R717). -/
inductive FuseKind | security | trim | reserved
deriving DecidableEq, Repr

/-- Kinds of reference event (spec/07_tamper.md R255), coded 1 to 4 (spec/11_uplink.md R418). -/
inductive RefEvent | surge | pfail | upaAlarm | upbAlarm
deriving DecidableEq, Repr

/-- Causes of a Sherd, coded 1 to 4 (spec/06_lifecycle.md R222). -/
inductive SherdCause | tamper | operator | vendor | factory
deriving DecidableEq, Repr

/-- Completion codes of descriptors (spec/15_rings.md R593). -/
inductive Code
  | done | doneSame | malformed | length | access | slot | value | verdict | notErased | order
  | verify | uncorrectable | counterExhausted | abortReset | abortTamper | abortPeer
deriving DecidableEq, Repr

/-- The engines with descriptor rings (spec/15_rings.md R574). -/
inductive Eng | fae | sae | dig | wmu | flc | ksm | lnk | upl | sjm | kiln
deriving DecidableEq, Repr

/-- The four reads of a fuse word: primary low, primary high, redundant low, redundant high margin
(spec/05_startup.md R174). -/
structure FuseReads where
  pl : Nat := 0
  ph : Nat := 0
  rl : Nat := 0
  rh : Nat := 0
deriving DecidableEq, Repr

/-- Privilege levels (spec/13_cores.md R500). -/
inductive PLevel | p0 | p1 | p2
deriving DecidableEq, Repr

/-- Ring states (spec/15_rings.md R577). -/
inductive RingSt | off | running | stopping | halted | resetting
deriving DecidableEq, Repr

/-- Kernel calls' outcome codes are in spec/21_applets.md; applet run states (R775, R781). -/
inductive AppSt | absent | ready | running | waiting | throttled | exchanging | quarantined
deriving DecidableEq, Repr

/-- Health of a modulator input (spec/12_metrology.md R454). -/
inductive Health | ok | stuck | overrange
deriving DecidableEq, Repr

/-- MPULSE selections (spec/12_metrology.md R477). -/
inductive MpSel | off | ch (n : Nat) | swid
deriving DecidableEq, Repr

/-- The two ends of the Slip Joint (spec/12_metrology.md R481). -/
inductive SjSide | main | ocnoix
deriving DecidableEq, Repr

/-- Legal-log areas, coded 1 to 3 (spec/12_metrology.md R466, R469). -/
inductive LArea | interval | daily | event
deriving DecidableEq, Repr

/-- The two AES engines a main-die core reaches (spec/16_cipher.md R612, R613). -/
inductive CipherEng | fae | sae
deriving DecidableEq, Repr

/-- The configuration registers of a ring (spec/15_rings.md R577). -/
inductive RingReg | base | size | policy
deriving DecidableEq, Repr


/-- How far a PROGRAM comes: it starts and has completed `n` pages with the next one's pulses under way; it ends; or the page
with this index in its block fails its verify (spec/20_flash.md R741, R742). -/
inductive ProgEv | starts (n : Nat) | ends | verifyFails (page : Nat)
deriving DecidableEq, Repr

/-- How far an ERASE comes: its pulses begin, or it ends with or without a passing verify (spec/20_flash.md R744). -/
inductive EraseEv | starts | ends (verifyOk : Bool)
deriving DecidableEq, Repr

/-- A Slip Joint frame as an end receives it: its link fields, whether its CRC is right, the session counter and MAC of a session
frame, and its payload (spec/12_metrology.md R481, R482). -/
structure SjRx where
  lseq : Nat
  ack : Nat
  credit : Nat := 8
  crcOk : Bool := true
  ctr : Nat := 0
  mac : Bytes := []
  payload : Bytes := []
deriving DecidableEq, Repr

/-- The exact sums of one channel over a window (spec/12_metrology.md R456): of the squared voltage samples, the squared current
samples, and their products, offsets corrected. -/
structure Sums where
  sv : Nat
  si : Nat
  s : Int
deriving DecidableEq, Repr

/-- The factory order in the information block (spec/23_test_observe.md R847): scrap or build, whether it is valid, and the hashes that
spec/06_lifecycle.md R224 burns. -/
structure FactoryOrder where
  scrap : Bool := false
  valid : Bool := false
  vendorHash : Bytes := []
  rootHash : Bytes := []
deriving DecidableEq, Repr

/-- What wafer probe wrote into the part before its first power-up: main-die and Ocnoix fuse words, the Ocnoix keys and firmware, the
option-area copies and the factory order of the information block, and the factory Wheel image (spec/23_test_observe.md R847;
spec/06_lifecycle.md R231; assumption log 1). -/
structure Probe where
  fuses : List (Nat × Nat) := []
  otp : List (Nat × Nat) := []
  kv : Bytes := []
  ka : Bytes := []
  fw : Bytes := []
  fwVersion : Nat := 0
  opt0 : Bytes := []
  opt1 : Bytes := []
  order : Option FactoryOrder := none
  wheel : Bytes := []
  release : Nat := 0
deriving DecidableEq, Repr


/-- Size of a core's load or store: every one is aligned and at most four bytes (spec/13_cores.md R498, spec/14_protection.md R549). -/
inductive AccSize | byte | half | word
deriving DecidableEq, Repr

/-- What the error code of a memory finds in the word or page that an access reads: nothing, an error it corrects, or one it cannot
(spec/13_cores.md R513). -/
inductive Ecc | clean | corrected | uncorrectable
deriving DecidableEq, Repr

/-- Which register a write names: a register of the register space by its address, or a CSR of the writing core (spec/00_scope.md R18,
spec/13_cores.md R500, R508). -/
inductive RegTarget | space (addr : Nat) | csr (addr : Nat)
deriving DecidableEq, Repr

/-- Fields of a write to an IPT or a gate region register (spec/14_protection.md R565, R566). -/
inductive RegionReg | iptStart (n : Fin 64) | iptEnd (n : Fin 64) | iptPerm (n : Fin 64)
  | gateBase (g : Fin 26) (r : Fin 8) | gatePerm (g : Fin 26) (r : Fin 8)
deriving DecidableEq, Repr
/-- The commands of the Sherd, one constructor for each row of the table, those with operands first and each part in the table's
order. The table gives the rows no bits; the operands of a row are what its rule lets the outside choose (assumption log 10). -/
inductive Instr where
  /-- `VAO_VALID` (R172): VAO becomes valid and the part makes a cold start through phases A to H. -/
  | vaoValid (testEn svcLow doorOpen pfailLow nrstLow : Bool) (probe : Probe)
  /-- `VMET_VALID` (R487): VMET becomes valid and the Ocnoix die starts: fuses, XOM, firmware check, journal restore, known-answer test, then measuring. -/
  | vmetValid (sealHigh : Bool) (badChains : List Nat) (xomOk : Bool)
  /-- `VMET_INVALID` (R464): VMET becomes invalid: the Ocnoix die stops accumulating, commits one journal page from VMCAP, and SJM descriptors complete ABORT_PEER. -/
  | vmetInvalid (commitOk : Bool)
  /-- `CODE_FIRST_PASS` (R104): The first CODE pass samples all twelve pins and connects the class L passthrough of channels that read L or out of window. -/
  | codeFirstPass (samples : List (Option Nat))
  /-- `CODE_SECOND_PASS` (R105): The second pass settles each pin's level, and U, H, A and marginal-L channels take their settled class together. -/
  | codeSecondPass (samples : List (Option Nat))
  /-- `CODE_REREAD_PASS` (R121): A 60 s re-read pass judges each CODE pin changed or returned, raising a Watch event on a first change. -/
  | codeRereadPass (first second : List (Option Nat))
  /-- `QUALIFICATION_COMPLETE` (R152): A better reference qualifies and the switch back to it begins at the next tick boundary. -/
  | qualificationComplete (r : RefId)
  /-- `REFERENCE_SWITCH_COMPLETE` (R151): A reference switch completes and any loss, return or qualification held during it is acted on. -/
  | referenceSwitchComplete (k : SwitchKind)
  /-- `TICK_SOURCE_RETURN` (R155): A tick source returns and each channel leaves the bypass at the first tick boundary. -/
  | tickSourceReturn (src : TickSrc)
  /-- `FPLL_LOCK_FAIL` (R167): The FPLL fails to lock, retries on RC25, and leaves the main island off if the retry fails. -/
  | fpllLockFail (retryFails : Bool)
  /-- `WAKE` (R160): A wake source wakes its island within the latency of the table of wake sources. -/
  | wake (src : WakeSrc)
  /-- `SENSOR_TRIP` (R240): A main-die sensor condition completes its filter, is latched and graded Watch, Crazed or Shattered. -/
  | sensorTrip (cause index : Nat)
  /-- `DISCRIMINABLE_ANOMALY` (R257): A VIO dip, VAO dip or pad injection is excused by a recent reference event or opens a provisional hold. -/
  | discriminableAnomaly (cause index : Nat)
  /-- `REFERENCE_EVENT` (R258): A SURGE, PFAIL edge or common-mode alarm is sampled and excuses anomalies whose window contains it, ending the hold. -/
  | referenceEvent (k : RefEvent)
  /-- `KILN_SELFCHECK_DONE` (R262): The Kiln self-check ends: a pass clears Crazed, a failure starts a new quiet interval. -/
  | kilnSelfcheckDone (pass : Bool) (front : List (Nat × Nat))
  /-- `TEMPERATURE_SAMPLE` (R241): Every 328 ticks the AO island samples each temperature sensor and checks its limits and rate. -/
  | temperatureSample (samples : List Int)
  /-- `OCNOIX_SENSOR_TRIP` (R246): An Ocnoix sensor trips and grades the Ocnoix die, raising METFAULT and dropping the Slip Joint session above Watch. -/
  | ocnoixSensorTrip (cause index : Nat) (nearSurge : Bool)
  /-- `DMD_RISE` (R282): The filtered demand rises; on an H or A channel the main island is woken, on L the passthrough drives FEN high. -/
  | dmdRise (c : Fin 16)
  /-- `DMD_FALL` (R296): The filtered demand falls, the latch clears and FEN falls, even while frozen. -/
  | dmdFall (c : Fin 16)
  /-- `FBK_RISE` (R304): The filtered feedback rises, confirming an open window or queuing a mismatch. -/
  | fbkRise (c : Fin 16)
  /-- `FBK_FALL` (R304): The filtered feedback falls, confirming an open window or queuing a mismatch. -/
  | fbkFall (c : Fin 16)
  /-- `GLITCH` (R283): A demand or feedback sample that differs and then agrees is counted as a glitch. -/
  | glitch (c : Fin 16) (feedback : Bool)
  /-- `BYPASS_EDGE` (R315): With no tick, a demand edge accepted through the asynchronous bypass is queued with BYPASS set. -/
  | bypassEdge (c : Fin 16) (rise : Bool)
  /-- `CONF_LATE` (R302): A confirm window reaches its closing tick without FBK agreeing and closes with CONF_LATE. -/
  | confLate (c : Fin 16)
  /-- `HB_EXPIRED` (R306): A heartbeat window closes, HB_EXPIRED is queued and the keep timer goes idle. -/
  | hbExpired (c : Fin 16)
  /-- `HOLD_EXPIRED` (R309): A continuity hold closes, the latch clears, FEN falls and a confirm window opens. -/
  | holdExpired (c : Fin 16)
  /-- `GRANT_SET` (R295): A write of GRANT = 1 to CH_GUARD sets the latch if every condition holds, or is the decision of an awaiting channel. -/
  | grantSet (c : Fin 16)
  /-- `GRANT_CLEAR` (R296): A write of GRANT = 0 to CH_GUARD clears the latch, or is the decision of an awaiting channel. -/
  | grantClear (c : Fin 16)
  /-- `KEEP_HEARTBEAT` (R306): CH_KEEP command HEARTBEAT starts or restarts the heartbeat window, ending a running hold. -/
  | keepHeartbeat (c : Fin 16)
  /-- `KEEP_HOLD` (R308): CH_KEEP command HOLD starts a continuity hold on a class A channel when its conditions hold. -/
  | keepHold (c : Fin 16)
  /-- `KEEP_STOP` (R310): CH_KEEP command STOP takes heartbeat mode to idle, and is refused while a hold runs. -/
  | keepStop (c : Fin 16)
  /-- `SERVICE_ENTER` (R299): A write of ENTER = 1 to CH_SERVICE sets the service flag and loads CONTRACTED. -/
  | serviceEnter (c : Fin 16) (contracted : Bool)
  /-- `XFREEZE` (R314): A write of XFREEZE = 1 to CH_SERVICE sets freeze source EXCHANGE and makes the channel await its decision. -/
  | xfreeze (c : Fin 16) (contracted : Bool)
  /-- `WINDOW_LENGTH_WRITE` (R300): A write to CH_TCONF_LEN, CH_HB_LEN or CH_HOLD_LEN sets the next window's length, and a write of 0 is refused. -/
  | windowLengthWrite (c : Fin 16) (w : WinLen) (v : Word)
  /-- `EVENT_POP` (R291): A write of 1 to CH_EVENT_POP consumes the head event entry once the acknowledgement has crossed. -/
  | eventPop (c : Fin 16)
  /-- `FUNCTION_SWITCH_BEGIN` (R86): At the first tick boundary after a request, a FEN or LNK pad's driver turns off and the pad parks for two ticks. -/
  | functionSwitchBegin (c : Fin 16) (p : PadKind)
  /-- `FUNCTION_CONNECT` (R86): At the start of tick k + 2 the keeper is disabled and the incoming function connected. -/
  | functionConnect (c : Fin 16) (p : PadKind)
  /-- `FEN_READBACK_FAIL` (R845): Eight consecutive ticks of FEN readback disagreement retire a class L channel or fail AO_CHn on H or A. -/
  | fenReadbackFail (c : Fin 16)
  /-- `BURST_DECODED` (R336): A received burst is decoded, classified by reply window and passed to the link engine or wake filter, or discarded as a line error. -/
  | burstDecoded (c : Fin 16) (b : Burst) (sigOk : Bool)
  /-- `JABBER` (R342): A burst whose carrier lasts more than 4096 bit times is cut off, discarded and counted as a jabber. -/
  | jabber (c : Fin 16)
  /-- `REPLY_TIMEOUT` (R382): No reply accepted by E + 8192 bit times: the request is retransmitted, or the transaction becomes unanswered. -/
  | replyTimeout (c : Fin 16)
  /-- `PROBE_RSP` (R396): A PROBE_RSP is accepted and its credential checked and reported for supervision without a session. -/
  | probeRsp (c : Fin 16) (b : Burst) (sigOk : Bool)
  /-- `CRP` (R371): A CRP is accepted and the partner credential checked; the handshake continues with KRQ or the partner is graded. -/
  | crp (c : Fin 16) (b : Burst) (sigOk : Bool)
  /-- `KRP` (R375): A KRP is accepted, Ee and the partner signature checked, and the session keys derived. -/
  | krp (c : Fin 16) (b : Burst) (sigOk : Bool)
  /-- `FRP` (R377): An FRP is accepted and the session becomes live at the part. -/
  | frp (c : Fin 16) (b : Burst)
  /-- `BUSY` (R384): A BUSY reply during a handshake completes that attempt of the request and schedules a byte-identical re-send. -/
  | busy (c : Fin 16) (b : Burst)
  /-- `HS_ERR` (R377): An HS_ERR fails the handshake attempt and counts as a fault. -/
  | hsErr (c : Fin 16) (b : Burst)
  /-- `RSP` (R386): An RSP is accepted as the reply to the outstanding REQ, and the Wheel issues HEARTBEAT. -/
  | rsp (c : Fin 16) (b : Burst)
  /-- `ATN` (R387): An ATN is accepted and passed to the applet, and the Wheel issues HEARTBEAT. -/
  | atn (c : Fin 16) (b : Burst)
  /-- `CLA` (R388): A CLA acknowledging the part's CLOSE is received and counts towards nothing. -/
  | cla (c : Fin 16) (b : Burst)
  /-- `HANDSHAKE_ATTEMPT` (R395): At a periodic wake after the backoff, the part fingerprints and starts a handshake with CRQ. -/
  | handshakeAttempt (c : Fin 16)
  /-- `HANDSHAKE_TIMEOUT` (R377): A handshake attempt not complete 262 144 ticks after its CRQ fails and counts as a fault. -/
  | handshakeTimeout (c : Fin 16)
  /-- `BUSY_RESEND` (R384): After the stated BUSY wait the part re-sends the request byte-identically. -/
  | busyResend (c : Fin 16)
  /-- `REKEY_DUE` (R381): The re-key interval passes or a CTR reaches 2^32, and a new handshake runs beside the old session. -/
  | rekeyDue (c : Fin 16)
  /-- `REKEY_TIMEOUT` (R381): No new session is live 60 s after the re-key became due, and the old session ends. -/
  | rekeyTimeout (c : Fin 16)
  /-- `FINGERPRINT_DUE` (R351): A fingerprint occasion falls due and the pair is switched to function E once no transaction is outstanding. -/
  | fingerprintDue (c : Fin 16)
  /-- `FINGERPRINT_DONE` (R349): A capture completes and the Wheel compares the profile with the reference and reports it. -/
  | fingerprintDone (c : Fin 16) (cap : Capture)
  /-- `FINGERPRINT_RETRY` (R346): A disturbed measurement is retried after 32 768 ticks, up to eight attempts, then unobtained. -/
  | fingerprintRetry (c : Fin 16)
  /-- `LINK_UP` (R408): An uplink port links and begins announcing its identity. -/
  | linkUp (p : Port)
  /-- `LINK_DOWN` (R413): An uplink port loses its link and forgets its concentrator address. -/
  | linkDown (p : Port)
  /-- `COMMON_MODE_ALARM` (R409): A PHY's pair common mode leaves [0.3 V, 3.0 V] for 100 ns and raises a reference event. -/
  | commonModeAlarm (p : Port)
  /-- `ACK` (R424): An accepted ACK marks every issued SEQ in its ranges acknowledged. -/
  | ack (p : Port) (msg : Bytes) (sigOk : Bool)
  /-- `BEACON` (R428): A BEACON is judged valid, duplicate or refused, learns the concentrator address and feeds the time reference. -/
  | beacon (p : Port) (msg : Bytes) (sigOk : Bool) (mac ip : Nat)
  /-- `CHUNK` (R431): A CHUNK is stored, discarded or refused BUSY and answered with CHUNK_ACK. -/
  | chunk (p : Port) (msg : Bytes)
  /-- `CONCENTRATOR_ADDRESS_TIMEOUT` (R413): 600 s with no valid BEACON on a port forgets its concentrator address. -/
  | concentratorAddressTimeout (p : Port)
  /-- `QUARANTINE_END` (R444): A port's quarantine ends after 1 966 080 ticks. -/
  | quarantineEnd (p : Port)
  /-- `RECORD_SEND` (R435): Within each second's pacing a port sends unsent retained records first and then due resends. -/
  | recordSend (p : Port)
  /-- `ANNOUNCEMENT` (R421): Every 10 s on a linked port without an address, the part sends an IDENTITY record to ff02::1. -/
  | announcement (p : Port)
  /-- `SEAL_OPEN_CHANGE` (R471): An accepted SEAL_OPEN level opens the seal, incrementing SEALCNT, or closes it, logging SEAL_CLOSED. -/
  | sealOpenChange (isOpen : Bool)
  /-- `WINDOW_CLOSE` (R456): At each metrology second the die computes rms, power and energy for the window and advances the registers. -/
  | windowClose (sums : List Sums)
  /-- `INPUT_HEALTH_CHANGE` (R454): A modulator input enters or leaves STUCK or OVERRANGE and the die logs INPUT_HEALTH. -/
  | inputHealthChange (voltage : Bool) (c : Fin 16) (h : Health)
  /-- `SURGE_ASSERT` (R459): A current step on a fitted channel asserts SURGE. -/
  | surgeAssert (c : Fin 16)
  /-- `SPARE_SLOT` (R461): Each metrology second the spare chain starts shadowing the next channel and compares outputs. -/
  | spareSlot (mismatch : Option Nat)
  /-- `MPULSE_PULSE` (R478): The net energy of the selected channel rises by 100 mWh and MPULSE emits a pulse. -/
  | mpulsePulse (due : Nat)
  /-- `HELLO_M` (R482): The die receives HELLO_M, counts a session, answers HELLO_O and sends CONFIRM. -/
  | helloM (f : SjRx)
  /-- `HELLO_O` (R482): The main die receives HELLO_O, derives both keys and sends CONFIRM. -/
  | helloO (f : SjRx)
  /-- `CONFIRM` (R482): A CONFIRM is accepted and the Slip Joint session becomes live at the receiving end. -/
  | confirm (side : SjSide) (f : SjRx)
  /-- `PRESS` (R477): A PRESS frame advances the MPULSE selection and starts its announcement. -/
  | press (f : SjRx)
  /-- `TIME` (R468): A TIME frame with TIME_Q 0x01 slews or steps MTIME. -/
  | time (f : SjRx)
  /-- `BLOCK` (R483): The main die receives a legal block and carries it verbatim in a LEGAL record. -/
  | block (f : SjRx)
  /-- `HACK` (R483): A HACK advances the die's handover pointers past the covered blocks. -/
  | hack (f : SjRx)
  /-- `EXTRACT_REQ` (R483): The die sends extract blocks of the requested legal-log entries. -/
  | extractReq (f : SjRx)
  /-- `LOAD` (R474): A LOAD chunk is written by the die and, on the last chunk, the LRPS or firmware is checked and accepted or refused. -/
  | load (f : SjRx)
  /-- `LOAD_RESULT` (R786): The main die receives the die's LOAD_RESULT and returns it to the METRO_LOAD caller. -/
  | loadResult (f : SjRx)
  /-- `MEASURE` (R482): The main die receives the once-per-second MEASURE frame of live values. -/
  | measure (f : SjRx)
  /-- `SLIP_JOINT_RESEND` (R481): A frame not acknowledged within 2 µs is resent with every later frame, and after 32 sends the link is down. -/
  | slipJointResend (side : SjSide)
  /-- `METFAULT_CHANGE` (R485): An accepted change of METFAULT is reported by the main die. -/
  | metfaultChange (asserted : Bool)
  /-- `SEALSTATE_CHANGE` (R485): An accepted change of SEALSTATE is reported by the main die. -/
  | sealstateChange (isSealed : Bool)
  /-- `CORE_LOAD` (R515): A core load is checked and performed under total store order, forwarding from its own store buffer. -/
  | coreLoad (k : Fin 2) (addr : Word) (size : AccSize) (signed : Bool) (rd : Fin 32) (ecc : Ecc)
  /-- `CORE_STORE` (R516): A checked core store enters the four-entry store buffer, stalling while it is full. -/
  | coreStore (k : Fin 2) (addr : Word) (size : AccSize) (v : Word) (ecc : Ecc)
  /-- `STORE_DRAIN` (R516): The oldest store-buffer entry becomes visible to every core and engine at one instant. -/
  | storeDrain (k : Fin 2) (ecc : Ecc)
  /-- `FENCE` (R517): A FENCE with W before and R after retires only when the store buffer is empty. -/
  | fence (k : Fin 2) (w r : Bool)
  /-- `FENCE_I` (R510): FENCE.I invalidates the core's instruction cache and drains its store buffer. -/
  | fenceI (k : Fin 2)
  /-- `ECALL` (R528): An ECALL from U mode is handled by the Wheel as a kernel call. -/
  | ecall (k : Fin 2)
  /-- `EXCEPTION` (R525): An exception taken in U mode other than ECALL is handled by the Wheel as an applet fault. -/
  | exception (k : Fin 2) (cause : Fin 8) (mtval : Word) (kind : Fin 9)
  /-- `INTERRUPT` (R527): An enabled interrupt source sets mip.MEIP and the Wheel takes the interrupt. -/
  | interrupt (k : Fin 2)
  /-- `CACHE_PARITY_ERROR` (R511): A parity error on an instruction-cache hit invalidates and refetches the line. -/
  | cacheParityError (k : Fin 2) (addr : Word)
  /-- `P_HANDOVER` (R501): A write of GO to P_HANDOVER sets P_LEVEL to 1 and locks MEAS0–MEAS3. -/
  | pHandover (k : Fin 2)
  /-- `IPI_RAISE` (R503): A write of RAISE to P_IPI sets the other core's mip.MSIP, releasing core 1 from boot WFI. -/
  | ipiRaise (k : Fin 2)
  /-- `IPI_CLEAR` (R503): A write of CLEAR to P_IPI clears this core's mip.MSIP. -/
  | ipiClear (k : Fin 2)
  /-- `PROT_COMMIT` (R555): A write of GO to PROT_COMMIT validates the shadows and stops stores entering the store buffers. -/
  | protCommit (k : Fin 2)
  /-- `PROT_UPDATE` (R558): A write to PROT_UPDATE puts units in UPDATE, holding P2 and engine accesses, or releases them. -/
  | protUpdate (k : Fin 2) (v : Word)
  /-- `PROT_PROBE` (R562): A write of GO to PROT_PROBE_CTL checks a range against the active set without making an access. -/
  | protProbe (k : Fin 2) (v : Word)
  /-- `REGION_WRITE` (R554): A write to an IPT or gate region register changes its shadow, or is ignored under LOCK. -/
  | regionWrite (k : Fin 2) (r : RegionReg) (v : Word)
  /-- `DOORBELL` (R583): A write to STEM_RING_PROD accepts a new producer index and SEEN value, or refuses them. -/
  | doorbell (e : Eng) (k : Nat) (v : Word)
  /-- `RING_ENABLE` (R580): A write of ENABLE = 1 takes an OFF or HALTED ring to RUNNING if its configuration is legal. -/
  | ringEnable (e : Eng) (k : Nat) (v : Word)
  /-- `RING_DISABLE` (R581): A write of ENABLE = 0 stops further fetches; the ring is STOPPING and then OFF. -/
  | ringDisable (e : Eng) (k : Nat) (v : Word)
  /-- `RING_CONFIG_WRITE` (R579): A write to STEM_RING_BASE, SIZE or POLICY takes effect only while OFF or HALTED; BASE resets the indices. -/
  | ringConfigWrite (e : Eng) (k : Nat) (g : RingReg) (v : Word)
  /-- `ENGINE_RESET` (R601): A write of RESET to STEM_ENG_CTL aborts every pending descriptor with ABORT_RESET and clears the engine. -/
  | engineReset (e : Eng)
  /-- `ENC` (R614): FAE or SAE encrypts each input block with the referenced AES key. -/
  | enc (e : CipherEng) (k : Nat)
  /-- `DEC` (R614): FAE or SAE decrypts each input block, into the saggar in Saggar mode. -/
  | dec (e : CipherEng) (k : Nat)
  /-- `ENC_XIN` (R614): FAE or SAE encrypts each input block XORed with its XBUF block. -/
  | encXin (e : CipherEng) (k : Nat)
  /-- `ENC_XOUT` (R614): FAE or SAE XORs the input with encrypted counter blocks from XBUF. -/
  | encXout (e : CipherEng) (k : Nat)
  /-- `DEC_XOUT` (R614): FAE or SAE decrypts each block and XORs it with its XBUF block. -/
  | decXout (e : CipherEng) (k : Nat)
  /-- `VERDICT` (R622): FAE or SAE compares two tags in constant time, zero-filling an area or releasing the saggar by mode. -/
  | verdict (e : CipherEng) (k : Nat)
  /-- `SAGGAR_EXPIRY` (R625): A Saggar-mode job that has waited 1 048 576 cycles wipes and frees the saggar and takes it. -/
  | saggarExpiry (k : Nat)
  /-- `HASH` (R637): DIG absorbs whole blocks into a context, completing a digest on LAST. -/
  | hash (k : Nat)
  /-- `HMAC` (R642): DIG absorbs blocks into an HMAC context, loading the key on FIRST and finishing the outer hash on LAST. -/
  | hmac (k : Nat)
  /-- `RESULT` (R645): DIG writes the digest held in a FINAL context and frees it, or writes zeros and sets EARLY. -/
  | result (k : Nat)
  /-- `COMPARE` (R646): DIG compares a context's digest with an expected value in constant time and frees the context. -/
  | compare (k : Nat)
  /-- `FREE` (R644): DIG wipes and frees a context. -/
  | free (k : Nat)
  /-- `EXTEND` (R647): DIG extends MEASk with a tagged digest taken from memory. -/
  | extend (k : Nat)
  /-- `EXTEND_CTX` (R647): DIG extends MEASk with the digest held in a context and frees it. -/
  | extendCtx (k : Nat)
  /-- `MEAS_OWNER_WRITE` (R654): A write to DIG_MEAS_OWNERn assigns MEAS16–MEAS23 to domains, ignored once VALID. -/
  | measOwnerWrite (n : Fin 2) (v : Word)
  /-- `MUL` (R662): The WMU multiplies A by B into the accumulator. -/
  | mul (k : Nat)
  /-- `MAC` (R662): The WMU adds A·B into the accumulator C, reporting CARRY. -/
  | mac (k : Nat)
  /-- `ROWMAC` (R662): The WMU adds w·A shifted by K words into the accumulator C. -/
  | rowmac (k : Nat)
  /-- `WMU_YIELD` (R675): At its next yield point a job of rings 1–3 yields its place to a checked ring-0 job. -/
  | wmuYield (k : Nat)
  /-- `MOD_SET` (R679): A write of SET validates a modulus register if it is odd and has its top bit set. -/
  | modSet (k : Fin 8) (v : Word)
  /-- `MOD_CLEAR` (R679): A write of CLEAR makes a modulus register not VALID. -/
  | modClear (k : Fin 8) (v : Word)
  /-- `MOD_VALUE_WRITE` (R679): A write to a modulus value or SIZE is taken while not VALID and ignored, setting MOD_WRITE_IGNORED, while VALID. -/
  | modValueWrite (k : Fin 8) (j : Option (Fin 128)) (v : Word)
  /-- `GENERATE` (R693): The KSM fills a target slot with DRBG material of the stated class. -/
  | generate (k : Nat)
  /-- `IMPORT_PUBLIC` (R693): The KSM writes a checked P-256 public key into a target slot. -/
  | importPublic (k : Nat)
  /-- `UNWRAP` (R697): The KSM unwraps a commissioned key blob under slot 0 into its target slot. -/
  | unwrap (k : Nat)
  /-- `AGREE` (R693): The KSM computes ECDH with a slot and a peer key into a SECRET slot. -/
  | agree (k : Nat)
  /-- `DERIVE` (R693): The KSM runs HKDF-SHA-256 from a slot into a target slot or memory. -/
  | derive (k : Nat)
  /-- `SIGN` (R693): The KSM signs a digest with ECDSA under a private slot. -/
  | sign (k : Nat)
  /-- `PUBLIC` (R693): The KSM writes a slot's public key to memory. -/
  | publicKey (k : Nat)
  /-- `DELETE` (R693): The KSM wipes a slot to EMPTY, writing a deletion record if persistent. -/
  | delete (k : Nat)
  /-- `RANDOM` (R700): The KSM writes DRBG output, reseeding when due. -/
  | random (k : Nat)
  /-- `WAKE_LOAD` (R693): The KSM loads a slot into a channel's wake-filter entry. -/
  | wakeLoad (k : Nat)
  /-- `CNT_READ` (R693): The KSM returns a counter's value. -/
  | cntRead (k : Nat)
  /-- `CNT_INC` (R708): The KSM adds 1 to a counter with a journal entry, programming it for SYNC counters. -/
  | cntInc (k : Nat)
  /-- `CNT_ADVANCE` (R708): The KSM adds DELTA to a counter and programs the journal. -/
  | cntAdvance (k : Nat)
  /-- `CNT_SYNC` (R708): The KSM programs the journal tail. -/
  | cntSync (k : Nat)
  /-- `CNT_MODE` (R708): The KSM sets a counter's mode and programs the journal. -/
  | cntMode (k : Nat)
  /-- `TRNG_HEALTH_FAIL` (R699): A TRNG health test fails; a third failure in 2^20 bits makes the TRNG FAILED. -/
  | trngHealthFail (startup : Bool) (bit : Nat)
  /-- `PROGRAM` (R741): The FLC programs pages from the write pointer after blank checks, skipping identical pages. -/
  | program (k : Nat) (ev : ProgEv) (weak : List Nat) (pulses : Nat)
  /-- `ERASE` (R744): The FLC erases a block, or replaces it with a spare when verify fails. -/
  | erase (k : Nat) (ev : EraseEv)
  /-- `ERASE_RESUME` (R746): A suspended erase resumes after 64 idle cycles or 1 ms. -/
  | eraseResume (bank : Fin 2)
  /-- `BLANK` (R745): The FLC checks pages at the erase-verify margin. -/
  | blank (k : Nat) (weak : List Nat)
  /-- `MARGIN` (R745): The FLC reads pages at a reference margin and reports corrected bits. -/
  | margin (k : Nat) (reads : List (Nat × Nat))
  /-- `INFO` (R745): The FLC reports a block's write pointer, erase count and poison state. -/
  | info (k : Nat)
  /-- `FLC_WEIGHT_WRITE` (R734): A write to FLC_WEIGHT sets the ring weights, refusing a weight of 0. -/
  | flcWeightWrite (v : Word)
  /-- `SCRUB_SESSION` (R752): Every 6 h the scrubber patrols the next 10 units and relocates queued blocks. -/
  | scrubSession (reads : List (Nat × Nat)) (done : Bool)
  /-- `WAIT` (R785): Kernel call WAIT blocks the applet until an event in its mask or a deadline. -/
  | wait (k : Fin 2)
  /-- `WAIT_RETURN` (R785): An event in a waiting applet's mask, or its deadline, returns its WAIT. -/
  | waitReturn (d : Fin 16) (k : Fin 2)
  /-- `CALL_TIME` (R783): Kernel call TIME writes the present time and tick to a buffer. -/
  | callTime (k : Fin 2)
  /-- `QUIESCE` (R791): Kernel call QUIESCE declares the quiescent point and starts steps X3 to X6 of a requested exchange. -/
  | quiesce (k : Fin 2)
  /-- `CH_STATUS` (R783): Kernel call CH_STATUS returns a governed channel's CH_STAT. -/
  | chStatus (k : Fin 2)
  /-- `CH_EVENT` (R783): Kernel call CH_EVENT takes one entry from a governed channel's FIFO. -/
  | chEvent (k : Fin 2)
  /-- `CALL_GRANT` (R784): Kernel call GRANT writes GRANT = 1 to a governed channel. -/
  | callGrant (k : Fin 2)
  /-- `CALL_WITHDRAW` (R784): Kernel call WITHDRAW writes GRANT = 0, refused on class A under R42. -/
  | callWithdraw (k : Fin 2)
  /-- `LINK_REQ` (R783): Kernel call LINK_REQ sends a REQ and waits for the RSP or an unanswered transaction. -/
  | linkReq (k : Fin 2)
  /-- `LINK_ATN` (R783): Kernel call LINK_ATN returns a held ATN payload. -/
  | linkAtn (k : Fin 2)
  /-- `LINK_STATE` (R783): Kernel call LINK_STATE returns the partner state and session flag. -/
  | linkState (k : Fin 2)
  /-- `REPORT` (R783): Kernel call REPORT builds an APPLET record. -/
  | report (k : Fin 2)
  /-- `KEY_GEN` (R783): Kernel call KEY_GEN creates a slot owned by the caller's domain. -/
  | keyGen (k : Fin 2)
  /-- `KEY_DERIVE` (R783): Kernel call KEY_DERIVE derives a new key from an owned slot. -/
  | keyDerive (k : Fin 2)
  /-- `KEY_DELETE` (R783): Kernel call KEY_DELETE deletes an owned slot. -/
  | keyDelete (k : Fin 2)
  /-- `KEY_SIGN` (R783): Kernel call KEY_SIGN signs a digest with an owned slot. -/
  | keySign (k : Fin 2)
  /-- `CALL_CNT_READ` (R783): Kernel call CNT_READ reads an assigned counter. -/
  | callCntRead (k : Fin 2)
  /-- `CALL_CNT_INC` (R783): Kernel call CNT_INC increments an assigned counter. -/
  | callCntInc (k : Fin 2)
  /-- `CALL_MEASURE` (R870): Kernel call MEASURE returns the last MEASURE payload. -/
  | callMeasure (k : Fin 2)
  /-- `METRO_LOAD` (R786): Kernel call METRO_LOAD carries one LOAD chunk to the Ocnoix die. -/
  | metroLoad (k : Fin 2)
  /-- `FLASH_PROG` (R787): Kernel call FLASH_PROG programs the applet's data blocks on FLC ring 1. -/
  | flashProg (k : Fin 2)
  /-- `FLASH_ERASE` (R787): Kernel call FLASH_ERASE erases an applet data block on FLC ring 1. -/
  | flashErase (k : Fin 2)
  /-- `APPLET_STUCK` (R782): An applet runs 1639 ticks without a waiting call and is handled as an applet fault. -/
  | appletStuck (k : Fin 2)
  /-- `CPU_BUDGET_USED` (R781): An applet reaches CPU_US in a window and is THROTTLED until it ends. -/
  | cpuBudgetUsed (k : Fin 2)
  /-- `TIME_SLICE` (R781): A 1 ms slice ends and the core passes to the next applet of equal priority. -/
  | timeSlice (k : Fin 2)
  /-- `QUIESCE_TIMEOUT` (R792): No QUIESCE within QUIESCE_MAX abandons the exchange. -/
  | quiesceTimeout (d : Fin 16)
  /-- `DECIDE_TIMEOUT` (R793): No decision within DECIDE_MAX makes the Wheel decide the channel itself. -/
  | decideTimeout (d : Fin 16)
  /-- `VERIFICATION_DONE` (R816): Bundle verification ends with a refusal or with staging, and the Kiln wakes the main island. -/
  | verificationDone (lmsOk eccOk credSigOk badPage : Bool)
  /-- `INSTALL_DONE` (R819): The Kiln finishes copying and checking an image, writes the install record and sets STATE 3. -/
  | installDone (ok1 ok2 : Bool)
  /-- `PARTITION_TEST_DONE` (R842): A partition test ends, its signature is compared and channel partitions retire or return channels. -/
  | partitionTestDone (k : Nat) (sig : Bytes) (faulty : Bool) (bad : List Nat)
  /-- `OCC_PERIOD` (R851): Each OCC period the Kiln sends OCC, and RING and CNT messages when enabled. -/
  | occPeriod (window : Nat) (busy : List Nat)
  /-- `OCC_SNAP` (R854): A write of SNAP to OCC_CTL copies and clears the live occupancy counters. -/
  | occSnap (window : Nat) (busy : List Nat)
  /-- `REGISTER_WRITE` (R18): A write to a register field with no row of its own behaves as its access code states. -/
  | registerWrite (k : Fin 2) (r : RegTarget) (v : Word)
  /-- `LINE_IDLE` (R338): The field-link line has been idle for 8 bit times and a deferred request burst is sent. -/
  | lineIdle (c : Fin 16)
  /-- `INBOUND_FRAME` (R412): An uplink frame that fails the inbound checks before it is taken as ACK, BEACON or CHUNK is discarded and counted as an inbound fault. -/
  | inboundFrame (p : Port) (fcsOk : Bool) (frame : Bytes)
  /-- `OCNOIX_SELFCHECK_DONE` (R490): The Ocnoix self-check ends: a pass clears Ocnoix Crazed, and a failure starts a new quiet interval. -/
  | ocnoixSelfcheckDone (pass : Bool)
  /-- `PASSTHROUGH_PAD_RETURN` (R845): A class L channel retired for its pads reads back without failure for its first 328 ticks after power-up and returns to service. -/
  | passthroughPadReturn (c : Fin 16)
  /-- `IDLE` (R481): A Slip Joint IDLE frame is received and its ACK and CREDIT update the receiving end's resend and credit state. -/
  | idle (side : SjSide) (f : SjRx)
  /-- `VAO_INVALID` (R140): VAO becomes invalid: the whole main die is held in reset, AO state is lost and every FEN goes high-impedance. -/
  | vaoInvalid
  /-- `VIO_VALID` (R170): VIO becomes valid again while VAO stayed valid, and the Kiln and main island restart with cause rail return. -/
  | vioValid
  /-- `VIO_INVALID` (R140): VIO becomes invalid: the Kiln and main island are held in reset and the PHYs and link transceivers go down. -/
  | vioInvalid
  /-- `VCORE_VALID` (R170): VCORE becomes valid again while VAO stayed valid, and the Kiln and main island restart with cause rail return. -/
  | vcoreValid
  /-- `VCORE_INVALID` (R141): VCORE falls below 0.70 V: the Kiln and main island lose all state, and the AO island latches the loss as ordered or unordered. -/
  | vcoreInvalid
  /-- `TEST_EN_HIGH` (R116): TEST_EN accepted high after power-up is a Watch event and has no other effect. -/
  | testEnHigh
  /-- `SVC_PRESS` (R117): SVC accepted high ends a press, classified short (advancing MPULSE) or logged by its held duration. -/
  | svcPress
  /-- `SVC_LONG_PRESS` (R117): The held SVC time reaches 163 840 ticks and a self-test run is triggered. -/
  | svcLongPress
  /-- `SVC_STUCK` (R117): The held SVC time reaches 60 s, a Watch event, and SVC is ignored until accepted high. -/
  | svcStuck
  /-- `DOOR_OPEN` (R118): DOOR accepted open is a Watch event. -/
  | doorOpen
  /-- `DOOR_CLOSE` (R118): DOOR accepted closed is logged. -/
  | doorClose
  /-- `PFAIL_FALL` (R137): PFAIL accepted low wakes the islands, freezes guarded outputs and starts the power-fail flush. -/
  | pfailFall
  /-- `PFAIL_RISE` (R139): PFAIL accepted high again lets a flush in progress complete and starts the 3277-tick wait. -/
  | pfailRise
  /-- `POWER_FAIL_RESTART` (R139): After PFAIL has been high for 3277 ticks the Kiln and main island restart, or a start halted before phase C continues. -/
  | powerFailRestart
  /-- `PFAIL_GLITCH` (R165): A PFAIL low pulse shorter than its filter is counted in the power-fail glitch counter. -/
  | pfailGlitch
  /-- `NRST_LOW` (R196): nRST accepted low holds the Kiln and main island in reset without a flush. -/
  | nrstLow
  /-- `NRST_HIGH` (R196): nRST accepted high starts the part from phase B with cause external reset. -/
  | nrstHigh
  /-- `MAIN_WATCHDOG_EXPIRY` (R197): The main watchdog expires, aborts every descriptor and restarts the main island from phase C. -/
  | mainWatchdogExpiry
  /-- `KILN_WATCHDOG_EXPIRY` (R198): The Kiln watchdog expires, aborts Kiln-ring descriptors and restarts the Kiln alone from its ROM. -/
  | kilnWatchdogExpiry
  /-- `XO32_START_CHECK` (R149): XO32 passes its start check and drives the tick from the next tick boundary. -/
  | xo32StartCheck
  /-- `XO25_START_CHECK` (R149): XO25 passes its start check and becomes the FPLL reference and the PHY transmit clock. -/
  | xo25StartCheck
  /-- `XO32_LOST` (R148): XO32 is declared lost and the tick falls back to RC32. -/
  | xo32Lost
  /-- `XO25_LOST` (R148): XO25 is declared lost, the FPLL falls back to RC25 and both uplink ports go down. -/
  | xo25Lost
  /-- `BEACON_REFERENCE_LOST` (R148): No valid beacon for 600 s puts the time reference in XO32 holdover. -/
  | beaconReferenceLost
  /-- `TICK_SOURCES_LOST` (R155): RC32 and XO32 are both lost: class L FEN follows the asynchronous bypass and guarded outputs freeze under NOTICK. -/
  | tickSourcesLost
  /-- `FPLL_RETRY` (R167): Every 32 768 ticks the Kiln retries the FPLL lock after a failure. -/
  | fpllRetry
  /-- `PERIODIC_KERNEL_TICK` (R160): Once per second the main island wakes, drains event FIFOs, builds records and checks sessions. -/
  | periodicKernelTick
  /-- `KILN_WAKE_TIMER` (R160): The Kiln wake timer expires for scrub, self-test schedule or time keeping. -/
  | kilnWakeTimer
  /-- `RETENTION_ENTRY` (R144): Once all four conditions hold, the main island enters Retention within 12 µs. -/
  | retentionEntry
  /-- `KILN_SWITCH_OFF` (R161): The Kiln switches itself off when its ring is empty, no response is open and no log entry is unwritten. -/
  | kilnSwitchOff
  /-- `SUSPENSION_END` (R260): The suspension of discrimination ends after 117 964 800 ticks of powered time. -/
  | suspensionEnd
  /-- `PROVISIONAL_HOLD_EXPIRY` (R258): At the start of tick a + 66 with no reference, the anomaly is graded Crazed and the hold ends. -/
  | provisionalHoldExpiry
  /-- `CRAZED_QUIET_EXPIRY` (R261): After 32 768 quiet ticks in Crazed, the Kiln self-check starts. -/
  | crazedQuietExpiry
  /-- `TICK_COUNTER_READ` (R321): Reading CH_TICK_LO captures tick-counter bits [47:32] into CH_TICK_HI. -/
  | tickCounterRead
  /-- `INTAKE_ABANDON` (R432): An intake that stores no chunk for 600 s is abandoned with BUNDLE_RESULT 7. -/
  | intakeAbandon
  /-- `SHERD_IDENTITY` (R211): In Sherd, every second, the part sends an unsigned identity record on each linked port. -/
  | sherdIdentity
  /-- `STATUS` (R418): Daily at 00:00:00 the part builds a STATUS record and clears the reported counters. -/
  | status
  /-- `INTERVAL_CLOSE` (R466): At each 900 s MTIME multiple the die writes an interval entry, builds its block and commits the journal. -/
  | intervalClose
  /-- `DAILY_CLOSE` (R466): At MTIME 00:00:00 the die writes the daily entry and hands over the daily snapshot. -/
  | dailyClose
  /-- `SURGE_RELEASE` (R459): SURGE is released after 1 ms without a qualifying sample. -/
  | surgeRelease
  /-- `MPULSE_TIMEOUT` (R477): After 86 400 s in a selection other than OFF the MPULSE selection returns to OFF. -/
  | mpulseTimeout
  /-- `XOM_LOST` (R493): XOM is lost, MTCLK falls back to the RC oscillator and every accumulator stops. -/
  | xomLost
  /-- `XOM_RETAKEN` (R493): XOM measures within ±100 ppm for 2 s and is taken back, accumulation restarting at the next window. -/
  | xomRetaken
  /-- `SLIP_JOINT_DOWN` (R481): A link down for 1 ms drops the session at both ends and SJM descriptors complete ABORT_PEER. -/
  | slipJointDown
  /-- `COMMIT_INSTANT` (R555): Once both store buffers have drained, every shadow region becomes active, GEN increments and UPDATE ends. -/
  | commitInstant
  /-- `HELD_ACCESS_TIMEOUT` (R559): An access held 2048 FABCLK cycles under UPDATE faults with KIND 8 TIMEOUT. -/
  | heldAccessTimeout
  /-- `MEAS_SNAP` (R651): A write of SNAP to DIG_MEAS_CTL copies MEAS0–MEAS23 into the snapshot registers at one edge. -/
  | measSnap
  /-- `MEAS_LOCK` (R649): A write of LOCK to DIG_MEAS_CTL locks MEAS4–MEAS7 until the next reset. -/
  | measLock
  /-- `WMU_RESUME` (R676): A yielded job resumes when ring 0 has nothing to fetch or 32 ring-0 jobs have completed. -/
  | wmuResume
  /-- `SCRUB_STARVATION` (R753): A session's minimum work not done after 60 s makes ring 3 take one of every four page operations. -/
  | scrubStarvation
  /-- `CPU_WINDOW` (R781): At each 32 768-tick window the CPU budgets renew and THROTTLED applets become READY. -/
  | cpuWindow
  /-- `LOG_WRITE` (R803): Kiln opcode LOG_WRITE writes a Wheel entry to the Kiln Log. -/
  | logWrite
  /-- `LOG_READ` (R802): Kiln opcode LOG_READ copies Kiln Log entries to memory. -/
  | logRead
  /-- `TIME_GET` (R802): Kiln opcode TIME_GET returns the present time. -/
  | timeGet
  /-- `BEACON_HANDOVER` (R811): Kiln opcode BEACON hands a valid beacon to the time reference, which sets, steps or slews the time. -/
  | beaconHandover
  /-- `BUNDLE_VERIFY` (R816): Kiln opcode BUNDLE_VERIFY starts verification of a complete bundle. -/
  | bundleVerify
  /-- `BUNDLE_STATUS` (R802): Kiln opcode BUNDLE_STATUS returns the bundle state and result. -/
  | bundleStatus
  /-- `BUNDLE_APPLIED` (R819): Kiln opcode BUNDLE_APPLIED marks a staged bundle applied. -/
  | bundleApplied
  /-- `RECORD_READ` (R809): Kiln opcode RECORD_READ copies a Kiln record. -/
  | recordRead
  /-- `RESTART` (R820): Kiln opcode RESTART expires the main watchdog to start a new Wheel. -/
  | restart
  /-- `SELFTEST_REQUEST` (R839): Kiln opcode SELFTEST REQUEST starts or keeps a run for a partition mask. -/
  | selftestRequest
  /-- `SELFTEST_PREPARED` (R838): Kiln opcode SELFTEST PREPARED tells the Kiln that the Wheel has prepared a partition. -/
  | selftestPrepared
  /-- `SELFTEST_RESULT` (R839): Kiln opcode SELFTEST RESULT writes the latest run's result map. -/
  | selftestResult
  /-- `SCHEDULED_RUN` (R834): SCHED_INTERVAL of powered time passes and a scheduled self-test run begins. -/
  | scheduledRun
  /-- `RUN_WINDOW_CLOSE` (R836): A run's window closes and untested partitions are DEFERRED. -/
  | runWindowClose
  /-- `HEARTBEAT` (R851): The Kiln sends a HEARTBEAT on the Spyhole every 10 s, or every second while held or starting. -/
  | heartbeat
  /-- `PC_SAMPLE` (R851): Each PC period the Kiln samples each core's P2 PC and sends a PC message. -/
  | pcSample
  /-- `SVC_ACCEPTED_LOW` (R117): SVC is accepted low: the press starts its held-duration count, the Kiln is woken and CODE_BIN.SVC is set. -/
  | svcAcceptedLow
  /-- `NRST_GLITCH` (R196): An nRST low pulse shorter than its two-tick filter has no effect and is counted. -/
  | nrstGlitch
  /-- `CHUNK_ACK` (R434): The 655-tick pacing interval ends and a CHUNK_ACK covering every chunk received since the last one is sent. -/
  | chunkAck
  /-- `OCNOIX_CRAZED_QUIET_EXPIRY` (R490): After 1 s without cause in Ocnoix Crazed, the Ocnoix die's own controller starts its self-check. -/
  | ocnoixCrazedQuietExpiry
  deriving DecidableEq, Repr

end Sys2Proof
end

