-- ==== Sys2Proof/Decode.lean ====
section
/-! DEFINITION. The commands a word spells. spec/opcode_table.json gives no row any bits: commands come from pins, wires, registers and
messages, none of which the table encodes, so no word spells one. -/

namespace Sys2Proof

/-- The command spelled by the bits `w` of an `nbits`-bit word: none, since the table gives bits to no row. -/
def decodeTableWord (_nbits _w : Nat) : Option Instr := none

end Sys2Proof
end

