-- ==== Sys2Proof/Machine/Sha2.lean ====
section
/-! DEFINITION. SHA-256, SHA-384, SHA-512, HMAC and HKDF over byte strings, and the CRC-32 of
spec/10_link_sessions.md R364. The spec names FIPS 180-4, RFC 2104 and RFC 5869 (spec/00_scope.md R24) and does
not repeat them: PRESUMED from those standards (assumption log 11). -/

namespace Sys2Proof.Machine

open Sys2Proof

/-- The 80 round constants of SHA-384 and SHA-512 (FIPS 180-4); SHA-256 uses the high words of the first 64. -/
def sha2K : List Nat :=
  [0x428A2F98D728AE22, 0x7137449123EF65CD, 0xB5C0FBCFEC4D3B2F, 0xE9B5DBA58189DBBC, 0x3956C25BF348B538, 0x59F111F1B605D019, 0x923F82A4AF194F9B, 0xAB1C5ED5DA6D8118, 0xD807AA98A3030242, 0x12835B0145706FBE, 0x243185BE4EE4B28C, 0x550C7DC3D5FFB4E2, 0x72BE5D74F27B896F, 0x80DEB1FE3B1696B1, 0x9BDC06A725C71235, 0xC19BF174CF692694] ++
  [0xE49B69C19EF14AD2, 0xEFBE4786384F25E3, 0xFC19DC68B8CD5B5, 0x240CA1CC77AC9C65, 0x2DE92C6F592B0275, 0x4A7484AA6EA6E483, 0x5CB0A9DCBD41FBD4, 0x76F988DA831153B5, 0x983E5152EE66DFAB, 0xA831C66D2DB43210, 0xB00327C898FB213F, 0xBF597FC7BEEF0EE4, 0xC6E00BF33DA88FC2, 0xD5A79147930AA725, 0x6CA6351E003826F, 0x142929670A0E6E70] ++
  [0x27B70A8546D22FFC, 0x2E1B21385C26C926, 0x4D2C6DFC5AC42AED, 0x53380D139D95B3DF, 0x650A73548BAF63DE, 0x766A0ABB3C77B2A8, 0x81C2C92E47EDAEE6, 0x92722C851482353B, 0xA2BFE8A14CF10364, 0xA81A664BBC423001, 0xC24B8B70D0F89791, 0xC76C51A30654BE30, 0xD192E819D6EF5218, 0xD69906245565A910, 0xF40E35855771202A, 0x106AA07032BBD1B8] ++
  [0x19A4C116B8D2D0C8, 0x1E376C085141AB53, 0x2748774CDF8EEB99, 0x34B0BCB5E19B48A8, 0x391C0CB3C5C95A63, 0x4ED8AA4AE3418ACB, 0x5B9CCA4F7763E373, 0x682E6FF3D6B2B8A3, 0x748F82EE5DEFB2FC, 0x78A5636F43172F60, 0x84C87814A1F0AB72, 0x8CC702081A6439EC, 0x90BEFFFA23631E28, 0xA4506CEBDE82BDE9, 0xBEF9A3F7B2C67915, 0xC67178F2E372532B] ++
  [0xCA273ECEEA26619C, 0xD186B8C721C0C207, 0xEADA7DD6CDE0EB1E, 0xF57D4F7FEE6ED178, 0x6F067AA72176FBA, 0xA637DC5A2C898A6, 0x113F9804BEF90DAE, 0x1B710B35131C471B, 0x28DB77F523047D84, 0x32CAAB7B40C72493, 0x3C9EBE0A15C9BEBC, 0x431D67C49C100D4C, 0x4CC5D4BECB3E42B6, 0x597F299CFC657E2A, 0x5FCB6FAB3AD6FAEC, 0x6C44198C4A475817]

/-- Initial hash value of SHA-256. -/
def sha256H : List Nat :=
  [0x6A09E667, 0xBB67AE85, 0x3C6EF372, 0xA54FF53A, 0x510E527F, 0x9B05688C, 0x1F83D9AB, 0x5BE0CD19]

/-- Initial hash value of SHA-512. -/
def sha512H : List Nat :=
  [0x6A09E667F3BCC908, 0xBB67AE8584CAA73B, 0x3C6EF372FE94F82B, 0xA54FF53A5F1D36F1, 0x510E527FADE682D1, 0x9B05688C2B3E6C1F, 0x1F83D9ABFB41BD6B, 0x5BE0CD19137E2179]

/-- Initial hash value of SHA-384. -/
def sha384H : List Nat :=
  [0xCBBB9D5DC1059ED8, 0x629A292A367CD507, 0x9159015A3070DD17, 0x152FECD8F70E5939, 0x67332667FFC00B31, 0x8EB44A8768581511, 0xDB0C2E0D64F98FA7, 0x47B5481DBEFA4FA4]

/-- The SHA-2 functions the part supports (17_digest.md R637). -/
inductive Sha2 | sha256 | sha384 | sha512
deriving DecidableEq, Repr

/-- Word size in bits. -/
def Sha2.bits : Sha2 → Nat
  | .sha256 => 32
  | _ => 64

/-- Block size in bytes. -/
def Sha2.block : Sha2 → Nat
  | .sha256 => 64
  | _ => 128

/-- Digest size in bytes. -/
def Sha2.size : Sha2 → Nat
  | .sha256 => 32
  | .sha384 => 48
  | .sha512 => 64

/-- Initial hash value. -/
def Sha2.init : Sha2 → List Nat
  | .sha256 => sha256H
  | .sha384 => sha384H
  | .sha512 => sha512H

/-- Round constants. -/
def Sha2.consts : Sha2 → List Nat
  | .sha256 => (sha2K.take 64).map (· / 2 ^ 32)
  | _ => sha2K

/-- Rotation to the right of a `w`-bit word. -/
def ror (w n x : Nat) : Nat := (x >>> n) ||| ((x <<< (w - n)) % 2 ^ w)

/-- The four sigma functions, as (rotate, rotate, rotate) or (rotate, rotate, shift). -/
def Sha2.bigS0 : Sha2 → Nat → Nat
  | .sha256, x => ror 32 2 x ^^^ ror 32 13 x ^^^ ror 32 22 x
  | _, x => ror 64 28 x ^^^ ror 64 34 x ^^^ ror 64 39 x

def Sha2.bigS1 : Sha2 → Nat → Nat
  | .sha256, x => ror 32 6 x ^^^ ror 32 11 x ^^^ ror 32 25 x
  | _, x => ror 64 14 x ^^^ ror 64 18 x ^^^ ror 64 41 x

def Sha2.smallS0 : Sha2 → Nat → Nat
  | .sha256, x => ror 32 7 x ^^^ ror 32 18 x ^^^ (x >>> 3)
  | _, x => ror 64 1 x ^^^ ror 64 8 x ^^^ (x >>> 7)

def Sha2.smallS1 : Sha2 → Nat → Nat
  | .sha256, x => ror 32 17 x ^^^ ror 32 19 x ^^^ (x >>> 10)
  | _, x => ror 64 19 x ^^^ ror 64 61 x ^^^ (x >>> 6)

/-- The 16 words of one block, most significant byte first. -/
def blockWords (bytes : Nat) : (n : Nat) → Bytes → List Nat
  | 0, _ => []
  | n + 1, l => ofBe (l.take bytes) :: blockWords bytes n (l.drop bytes)

/-- One round: from the working variables (a … h) and the window of the last 16 schedule words. -/
def shaRound (a : Sha2) (k : Nat) (st : List Nat × List Nat) : List Nat × List Nat :=
  let m := 2 ^ a.bits
  match st with
  | ([va, vb, vc, vd, ve, vf, vg, vh], w) =>
    let w0 := w.getD 0 0
    let ch := (ve &&& vf) ^^^ ((ve ^^^ (m - 1)) &&& vg)
    let maj := (va &&& vb) ^^^ (va &&& vc) ^^^ (vb &&& vc)
    let t1 := (vh + a.bigS1 ve + ch + k + w0) % m
    let t2 := (a.bigS0 va + maj) % m
    let wn := (a.smallS1 (w.getD 14 0) + w.getD 9 0 + a.smallS0 (w.getD 1 0) + w0) % m
    ([(t1 + t2) % m, va, vb, vc, (vd + t1) % m, ve, vf, vg], w.drop 1 ++ [wn])
  | other => other

/-- One compression: the chaining value after one block. -/
def shaBlock (a : Sha2) (h : List Nat) (blk : Bytes) : List Nat :=
  let fin := (a.consts.foldl (fun st k => shaRound a k st) (h, blockWords (a.bits / 8) 16 blk)).1
  List.zipWith (fun x y => (x + y) % 2 ^ a.bits) h fin

/-- Absorbs `n` blocks. -/
def shaBlocks (a : Sha2) : (n : Nat) → List Nat → Bytes → List Nat
  | 0, h, _ => h
  | n + 1, h, l => shaBlocks a n (shaBlock a h (l.take a.block)) (l.drop a.block)

/-- Padding of a message: 0x80, zeros, and the bit length in 8 or 16 bytes. -/
def shaPad (a : Sha2) (l : Bytes) : Bytes :=
  let lenBytes := a.block / 8
  let z := (a.block - (l.length + 1 + lenBytes) % a.block) % a.block
  l ++ (0x80 : Byte) :: zeros z ++ beBytes lenBytes (8 * l.length)

/-- The digest of a byte string. -/
def sha2 (a : Sha2) (l : Bytes) : Bytes :=
  let p := shaPad a l
  ((shaBlocks a (p.length / a.block) a.init p).flatMap (beBytes (a.bits / 8))).take a.size

/-- Byte-wise exclusive-or. -/
def xorBytes (a b : Bytes) : Bytes := List.zipWith (· ^^^ ·) a b

/-- HMAC (RFC 2104); a key longer than a block is hashed first. -/
def hmac (a : Sha2) (key msg : Bytes) : Bytes :=
  let k0 := padTo a.block (if key.length ≤ a.block then key else sha2 a key)
  let ik := k0.map (· ^^^ 0x36)
  let ok := k0.map (· ^^^ 0x5C)
  sha2 a (ok ++ sha2 a (ik ++ msg))

/-- HKDF expansion blocks T(i), T(i+1), … (RFC 5869). -/
def hkdfBlocks (prk info : Bytes) : (n : Nat) → (i : Nat) → Bytes → Bytes
  | 0, _, _ => []
  | n + 1, i, prev =>
    let t := hmac .sha256 prk (prev ++ info ++ [BitVec.ofNat 8 i])
    t ++ hkdfBlocks prk info n (i + 1) t

/-- HKDF-SHA-256 with `len` output bytes. -/
def hkdf (salt ikm info : Bytes) (len : Nat) : Bytes :=
  let prk := hmac .sha256 salt ikm
  (hkdfBlocks prk info (ceilDiv len 32) 1 []).take len

/-- One bit step of the CRC of R364: polynomial 0x1EDC6F41, most significant bit first. -/
def crcStep (c : Nat) : Nat :=
  if c ≥ 0x80000000 then ((c * 2) % 2 ^ 32) ^^^ 0x1EDC6F41 else c * 2

/-- One byte of the CRC. -/
def crcByte (c : Nat) (b : Byte) : Nat :=
  crcStep (crcStep (crcStep (crcStep (crcStep (crcStep (crcStep (crcStep (c ^^^ (b.toNat * 2 ^ 24)))))))))

/-- The CRC-32 of R364. -/
def crc32 (l : Bytes) : Nat := (l.foldl crcByte 0xFFFFFFFF) ^^^ 0xFFFFFFFF

end Sys2Proof.Machine
end

