-- ==== Sys2Proof/Machine/Aes.lean ====
section
/-! DEFINITION. AES-128 and AES-256, CTR mode and AES-CMAC, and the check of a P-256 public key. The spec names
FIPS 197, RFC 4493 and FIPS 186-5 (spec/00_scope.md R24) and does not repeat them: PRESUMED from those standards
(assumption log 11). -/

namespace Sys2Proof.Machine

open Sys2Proof

/-- The S-box of FIPS 197. -/
def aesSbox : List Nat :=
  [0x63, 0x7C, 0x77, 0x7B, 0xF2, 0x6B, 0x6F, 0xC5, 0x30, 0x1, 0x67, 0x2B, 0xFE, 0xD7, 0xAB, 0x76] ++
  [0xCA, 0x82, 0xC9, 0x7D, 0xFA, 0x59, 0x47, 0xF0, 0xAD, 0xD4, 0xA2, 0xAF, 0x9C, 0xA4, 0x72, 0xC0] ++
  [0xB7, 0xFD, 0x93, 0x26, 0x36, 0x3F, 0xF7, 0xCC, 0x34, 0xA5, 0xE5, 0xF1, 0x71, 0xD8, 0x31, 0x15] ++
  [0x4, 0xC7, 0x23, 0xC3, 0x18, 0x96, 0x5, 0x9A, 0x7, 0x12, 0x80, 0xE2, 0xEB, 0x27, 0xB2, 0x75] ++
  [0x9, 0x83, 0x2C, 0x1A, 0x1B, 0x6E, 0x5A, 0xA0, 0x52, 0x3B, 0xD6, 0xB3, 0x29, 0xE3, 0x2F, 0x84] ++
  [0x53, 0xD1, 0x0, 0xED, 0x20, 0xFC, 0xB1, 0x5B, 0x6A, 0xCB, 0xBE, 0x39, 0x4A, 0x4C, 0x58, 0xCF] ++
  [0xD0, 0xEF, 0xAA, 0xFB, 0x43, 0x4D, 0x33, 0x85, 0x45, 0xF9, 0x2, 0x7F, 0x50, 0x3C, 0x9F, 0xA8] ++
  [0x51, 0xA3, 0x40, 0x8F, 0x92, 0x9D, 0x38, 0xF5, 0xBC, 0xB6, 0xDA, 0x21, 0x10, 0xFF, 0xF3, 0xD2] ++
  [0xCD, 0xC, 0x13, 0xEC, 0x5F, 0x97, 0x44, 0x17, 0xC4, 0xA7, 0x7E, 0x3D, 0x64, 0x5D, 0x19, 0x73] ++
  [0x60, 0x81, 0x4F, 0xDC, 0x22, 0x2A, 0x90, 0x88, 0x46, 0xEE, 0xB8, 0x14, 0xDE, 0x5E, 0xB, 0xDB] ++
  [0xE0, 0x32, 0x3A, 0xA, 0x49, 0x6, 0x24, 0x5C, 0xC2, 0xD3, 0xAC, 0x62, 0x91, 0x95, 0xE4, 0x79] ++
  [0xE7, 0xC8, 0x37, 0x6D, 0x8D, 0xD5, 0x4E, 0xA9, 0x6C, 0x56, 0xF4, 0xEA, 0x65, 0x7A, 0xAE, 0x8] ++
  [0xBA, 0x78, 0x25, 0x2E, 0x1C, 0xA6, 0xB4, 0xC6, 0xE8, 0xDD, 0x74, 0x1F, 0x4B, 0xBD, 0x8B, 0x8A] ++
  [0x70, 0x3E, 0xB5, 0x66, 0x48, 0x3, 0xF6, 0xE, 0x61, 0x35, 0x57, 0xB9, 0x86, 0xC1, 0x1D, 0x9E] ++
  [0xE1, 0xF8, 0x98, 0x11, 0x69, 0xD9, 0x8E, 0x94, 0x9B, 0x1E, 0x87, 0xE9, 0xCE, 0x55, 0x28, 0xDF] ++
  [0x8C, 0xA1, 0x89, 0xD, 0xBF, 0xE6, 0x42, 0x68, 0x41, 0x99, 0x2D, 0xF, 0xB0, 0x54, 0xBB, 0x16]

/-- The inverse S-box of FIPS 197. -/
def aesInvSbox : List Nat :=
  [0x52, 0x9, 0x6A, 0xD5, 0x30, 0x36, 0xA5, 0x38, 0xBF, 0x40, 0xA3, 0x9E, 0x81, 0xF3, 0xD7, 0xFB] ++
  [0x7C, 0xE3, 0x39, 0x82, 0x9B, 0x2F, 0xFF, 0x87, 0x34, 0x8E, 0x43, 0x44, 0xC4, 0xDE, 0xE9, 0xCB] ++
  [0x54, 0x7B, 0x94, 0x32, 0xA6, 0xC2, 0x23, 0x3D, 0xEE, 0x4C, 0x95, 0xB, 0x42, 0xFA, 0xC3, 0x4E] ++
  [0x8, 0x2E, 0xA1, 0x66, 0x28, 0xD9, 0x24, 0xB2, 0x76, 0x5B, 0xA2, 0x49, 0x6D, 0x8B, 0xD1, 0x25] ++
  [0x72, 0xF8, 0xF6, 0x64, 0x86, 0x68, 0x98, 0x16, 0xD4, 0xA4, 0x5C, 0xCC, 0x5D, 0x65, 0xB6, 0x92] ++
  [0x6C, 0x70, 0x48, 0x50, 0xFD, 0xED, 0xB9, 0xDA, 0x5E, 0x15, 0x46, 0x57, 0xA7, 0x8D, 0x9D, 0x84] ++
  [0x90, 0xD8, 0xAB, 0x0, 0x8C, 0xBC, 0xD3, 0xA, 0xF7, 0xE4, 0x58, 0x5, 0xB8, 0xB3, 0x45, 0x6] ++
  [0xD0, 0x2C, 0x1E, 0x8F, 0xCA, 0x3F, 0xF, 0x2, 0xC1, 0xAF, 0xBD, 0x3, 0x1, 0x13, 0x8A, 0x6B] ++
  [0x3A, 0x91, 0x11, 0x41, 0x4F, 0x67, 0xDC, 0xEA, 0x97, 0xF2, 0xCF, 0xCE, 0xF0, 0xB4, 0xE6, 0x73] ++
  [0x96, 0xAC, 0x74, 0x22, 0xE7, 0xAD, 0x35, 0x85, 0xE2, 0xF9, 0x37, 0xE8, 0x1C, 0x75, 0xDF, 0x6E] ++
  [0x47, 0xF1, 0x1A, 0x71, 0x1D, 0x29, 0xC5, 0x89, 0x6F, 0xB7, 0x62, 0xE, 0xAA, 0x18, 0xBE, 0x1B] ++
  [0xFC, 0x56, 0x3E, 0x4B, 0xC6, 0xD2, 0x79, 0x20, 0x9A, 0xDB, 0xC0, 0xFE, 0x78, 0xCD, 0x5A, 0xF4] ++
  [0x1F, 0xDD, 0xA8, 0x33, 0x88, 0x7, 0xC7, 0x31, 0xB1, 0x12, 0x10, 0x59, 0x27, 0x80, 0xEC, 0x5F] ++
  [0x60, 0x51, 0x7F, 0xA9, 0x19, 0xB5, 0x4A, 0xD, 0x2D, 0xE5, 0x7A, 0x9F, 0x93, 0xC9, 0x9C, 0xEF] ++
  [0xA0, 0xE0, 0x3B, 0x4D, 0xAE, 0x2A, 0xF5, 0xB0, 0xC8, 0xEB, 0xBB, 0x3C, 0x83, 0x53, 0x99, 0x61] ++
  [0x17, 0x2B, 0x4, 0x7E, 0xBA, 0x77, 0xD6, 0x26, 0xE1, 0x69, 0x14, 0x63, 0x55, 0x21, 0xC, 0x7D]

/-- Multiplication by x in the AES field. -/
def xtime (a : Nat) : Nat := if a ≥ 128 then ((2 * a) % 256) ^^^ 0x1B else 2 * a

/-- Multiplication in the AES field by a small constant (at most 15). -/
def gmul (c a : Nat) : Nat :=
  let a2 := xtime a
  let a4 := xtime a2
  let a8 := xtime a4
  (if c.testBit 0 then a else 0) ^^^ (if c.testBit 1 then a2 else 0) ^^^
    (if c.testBit 2 then a4 else 0) ^^^ (if c.testBit 3 then a8 else 0)

def subByte (x : Nat) : Nat := aesSbox.getD x 0
def invSubByte (x : Nat) : Nat := aesInvSbox.getD x 0

/-- A state is 16 bytes, column after column, as numbers. -/
def shiftRows (s : List Nat) : List Nat :=
  [0, 5, 10, 15, 4, 9, 14, 3, 8, 13, 2, 7, 12, 1, 6, 11].map (fun i => s.getD i 0)

def invShiftRows (s : List Nat) : List Nat :=
  [0, 13, 10, 7, 4, 1, 14, 11, 8, 5, 2, 15, 12, 9, 6, 3].map (fun i => s.getD i 0)

/-- One column times the circulant matrix whose first row is `c`. -/
def mixCol (c0 c1 c2 c3 : Nat) (a b c d : Nat) : List Nat :=
  [gmul c0 a ^^^ gmul c1 b ^^^ gmul c2 c ^^^ gmul c3 d,
   gmul c3 a ^^^ gmul c0 b ^^^ gmul c1 c ^^^ gmul c2 d,
   gmul c2 a ^^^ gmul c3 b ^^^ gmul c0 c ^^^ gmul c1 d,
   gmul c1 a ^^^ gmul c2 b ^^^ gmul c3 c ^^^ gmul c0 d]

def mixWith (c0 c1 c2 c3 : Nat) : List Nat → List Nat
  | a :: b :: c :: d :: l => mixCol c0 c1 c2 c3 a b c d ++ mixWith c0 c1 c2 c3 l
  | _ => []

def mixColumns (s : List Nat) : List Nat := mixWith 2 3 1 1 s
def invMixColumns (s : List Nat) : List Nat := mixWith 14 11 13 9 s

def xorNats (a b : List Nat) : List Nat := List.zipWith (· ^^^ ·) a b

/-- Expands `n` more key words after the words listed newest first, `nk` words a key, `i` the next word's index. -/
def keyWords (nk : Nat) : (n : Nat) → (i : Nat) → (rcon : Nat) → List (List Nat) → List (List Nat)
  | 0, _, _, ws => ws
  | n + 1, i, rcon, ws =>
    let prev := ws.headD []
    let back := ws.getD (nk - 1) []
    let sub := prev.map subByte
    if i % nk = 0 then
      let t := match sub with
        | a :: l => match l ++ [a] with
          | b :: l' => (b ^^^ rcon) :: l'
          | [] => []
        | [] => []
      keyWords nk n (i + 1) (xtime rcon) (xorNats back t :: ws)
    else if nk > 6 ∧ i % nk = 4 then
      keyWords nk n (i + 1) rcon (xorNats back sub :: ws)
    else
      keyWords nk n (i + 1) rcon (xorNats back prev :: ws)

/-- Groups a list of four-byte words into 16-byte round keys. -/
def roundKeys : List (List Nat) → List (List Nat)
  | a :: b :: c :: d :: l => (a ++ b ++ c ++ d) :: roundKeys l
  | _ => []

/-- Splits key bytes into four-byte words. -/
def keySplit : List Nat → List (List Nat)
  | a :: b :: c :: d :: l => [a, b, c, d] :: keySplit l
  | _ => []

/-- The round keys of a 16- or 32-byte key. -/
def aesSchedule (key : Bytes) : List (List Nat) :=
  let k := keySplit (key.map BitVec.toNat)
  let nk := k.length
  roundKeys (keyWords nk (4 * (nk + 7) - nk) nk 1 k.reverse).reverse

/-- The forward cipher over a schedule. -/
def aesFwd (sched : List (List Nat)) (blk : List Nat) : List Nat :=
  match sched with
  | [] => blk
  | k0 :: ks =>
    let mid := ks.dropLast.foldl (fun s k => xorNats (mixColumns (shiftRows (s.map subByte))) k) (xorNats blk k0)
    xorNats (shiftRows (mid.map subByte)) (ks.getLastD [])

/-- The inverse cipher over a schedule. -/
def aesInv (sched : List (List Nat)) (blk : List Nat) : List Nat :=
  match sched.reverse with
  | [] => blk
  | k0 :: ks =>
    let mid := ks.dropLast.foldl
      (fun s k => invMixColumns (xorNats ((invShiftRows s).map invSubByte) k)) (xorNats blk k0)
    xorNats ((invShiftRows mid).map invSubByte) (ks.getLastD [])

/-- AES encryption of one 16-byte block under a 16- or 32-byte key. -/
def aesEnc (key blk : Bytes) : Bytes := (aesFwd (aesSchedule key) (blk.map BitVec.toNat)).map (BitVec.ofNat 8)

/-- AES decryption of one 16-byte block. -/
def aesDec (key blk : Bytes) : Bytes := (aesInv (aesSchedule key) (blk.map BitVec.toNat)).map (BitVec.ofNat 8)

/-- `n` keystream blocks of the counter blocks `ctr i`, `ctr (i+1)`, …. -/
def ctrStream (key : Bytes) (ctr : Nat → Bytes) : (n : Nat) → (i : Nat) → Bytes
  | 0, _ => []
  | n + 1, i => aesEnc key (ctr i) ++ ctrStream key ctr n (i + 1)

/-- CTR mode over a message of any length. -/
def aesCtr (key : Bytes) (ctr : Nat → Bytes) (msg : Bytes) : Bytes :=
  xorBytes msg (ctrStream key ctr (ceilDiv msg.length 16) 0)

/-- Doubling in GF(2^128) for the CMAC subkeys (RFC 4493). -/
def cmacDouble (b : Bytes) : Bytes :=
  let v := ofBe b
  beBytes 16 (if v ≥ 2 ^ 127 then ((2 * v) % 2 ^ 128) ^^^ 0x87 else 2 * v)

/-- Chains `n` whole blocks. -/
def cmacChain (key : Bytes) : (n : Nat) → Bytes → Bytes → Bytes
  | 0, x, _ => x
  | n + 1, x, l => cmacChain key n (aesEnc key (xorBytes x (l.take 16))) (l.drop 16)

/-- AES-CMAC (RFC 4493). -/
def cmac (key msg : Bytes) : Bytes :=
  let k1 := cmacDouble (aesEnc key (zeros 16))
  let n := max 1 (ceilDiv msg.length 16)
  let last := msg.drop (16 * (n - 1))
  let m := if last.length = 16 then xorBytes last k1
    else xorBytes (padTo 16 (last ++ [0x80])) (cmacDouble k1)
  aesEnc key (xorBytes (cmacChain key (n - 1) (zeros 16) msg) m)

/-- The P-256 prime. -/
def p256P : Nat := 2 ^ 256 - 2 ^ 224 + 2 ^ 192 + 2 ^ 96 - 1

/-- The coefficient b of P-256. -/
def p256B : Nat := 0x5AC635D8AA3A93E7B3EBBD55769886BC651D06B0CC53B0F63BCE3C3E27D2604B

/-- A public key x ∥ y is valid: coordinates below the prime and on the curve; the encoding cannot hold the point
at infinity (10_link_sessions.md R369). -/
def p256Valid (k : Bytes) : Bool :=
  let x := ofBe (k.take 32)
  let y := ofBe (k.drop 32)
  k.length = 64 && x < p256P && y < p256P &&
    (y * y) % p256P = (x * x * x + (p256P - 3) * x + p256B) % p256P

end Sys2Proof.Machine
end

