-- ==== Sys2Proof/Config.lean ====
section
/-! DEFINITION. Free values: what the spec leaves open, and the results of standard public-key algorithms whose
inputs the part never shows. Each is an opaque constant: nothing in Lean can evaluate it (assumption logs 12, 13). -/

namespace Sys2Proof.Config

/-- Byte `j` of free value number `k`: DRBG output and every value the spec does not state (log 12). -/
opaque freeByte : (k j : Nat) → Byte

/-- A natural number left open by the spec, number `k` (log 12). -/
opaque freeNat : (k : Nat) → Nat

/-- Byte `j` of the x-coordinate of the P-256 product of a private scalar and a peer point (log 13). -/
opaque ecdhByte : (priv peer : Bytes) → (j : Nat) → Byte

/-- Byte `j` of the public key x ∥ y of a private scalar on P-256 or P-384 (log 13). -/
opaque publicByte : (p384 : Bool) → (priv : Bytes) → (j : Nat) → Byte

/-- Byte `j` of the ECDSA signature of a digest under a private key with nonce number `k` (log 13). -/
opaque ecdsaByte : (p384 : Bool) → (priv digest : Bytes) → (k j : Nat) → Byte

/-- Byte of the boot ROM at an address: the spec gives the ROM no contents (log 14). -/
opaque romByte : (addr : Nat) → Byte

/-- Version of the boot ROM, 4 bytes: the spec states none (log 14). -/
opaque romVersion : Nat

/-- Code of start phase A to H (0 to 7) in a START message of the Spyhole: the spec gives the encoding no values (log 16). -/
opaque phaseCode : (phase : Nat) → Byte

/-- Code of a lifecycle transition between two firings (0 Greenware to 4 Sherd) in a LIFECYCLE message of the Spyhole: the spec gives
the encoding no values (log 16). -/
opaque transitionCode : (old new : Nat) → Byte

/-- Code and index of the SELFTEST message that a run's beginning shows: the spec's worked case shows the message, and its encoding gives
codes to partition results only (log 16). -/
opaque runBeginCode : Byte

/-- Index of that message (log 16). -/
opaque runBeginIndex : Byte

/-- Code of a health state (0 OK, 1 STUCK, 2 OVERRANGE) in an INPUT_HEALTH event, and the index of an input: the spec gives neither
encoding (log 20). -/
opaque healthCode : (health : Nat) → Byte

/-- Index of an input in an INPUT_HEALTH event (log 20). -/
opaque inputIndex : (voltage : Bool) → (channel : Nat) → Byte

/-- Kiln Log code of the Watch event of a compaction with the ratchet at 4096: the spec's table of codes has none (log 65). -/
opaque ratchetWatchCode : Nat

/-- `n` bytes of free value number `k`. -/
def freeBytes (k n : Nat) : Bytes := (List.range n).map (freeByte k)

/-- `n` bytes of free value number `k`, from byte `off` on. -/
def freeBytesAt (k off n : Nat) : Bytes := (List.range n).map (fun i => freeByte k (off + i))

/-- Z of ECDH on P-256, 32 bytes (19_keys_counters.md R693). -/
def ecdh (priv peer : Bytes) : Bytes := (List.range 32).map (ecdhByte priv peer)

/-- Public key of a private scalar: 64 bytes on P-256, 96 bytes on P-384. -/
def publicKey (p384 : Bool) (priv : Bytes) : Bytes :=
  (List.range (if p384 then 96 else 64)).map (publicByte p384 priv)

/-- ECDSA signature r ∥ s: 64 bytes on P-256, 96 bytes on P-384. -/
def ecdsa (p384 : Bool) (priv digest : Bytes) (k : Nat) : Bytes :=
  (List.range (if p384 then 96 else 64)).map (ecdsaByte p384 priv digest k)

@[simp] theorem freeBytes_length (k n : Nat) : (freeBytes k n).length = n := by simp [freeBytes]

end Sys2Proof.Config
end

