-- ==== Sys2Proof/Machine/State.lean ====
section
/-! DEFINITION. The block's state: everything the spec gives the part, as plain data. Each field's docstring reads
"meaning | width | file and rule | reset"; INVENTORY.md lists the same lines. -/

namespace Sys2Proof.Machine

open Sys2Proof

/-! ## Always-on island: rails, tick, binary straps, strap reading (chapters 02–05) -/

/-- Which rails are valid. -/
structure Rails where
  /-- VAO valid | 1 | 04_power_clocks.md R132 | false: State.reset is the part before power; DESIGN CHOICE false (log 1) -/
  vao : Bool := false
  /-- VIO valid | 1 | 04_power_clocks.md R132 | DESIGN CHOICE false (log 1) -/
  vio : Bool := false
  /-- VCORE valid | 1 | 04_power_clocks.md R132 | DESIGN CHOICE false (log 1) -/
  vcore : Bool := false
  /-- VMET valid | 1 | 04_power_clocks.md R132 | DESIGN CHOICE false (log 1) -/
  vmet : Bool := false
deriving DecidableEq, Repr

/-- What a pad is doing now (R84–R88). `switching k nxt`: parked in ticks [k, k + 2), then `nxt`
(nothing when a park request overrode the switch, R90). -/
inductive PadSt (φ : Type)
  | hiZ | parked | conn (f : φ) | switching (k : Nat) (nxt : Option φ)
deriving DecidableEq, Repr

/-- One switchable pad (FEN or LNK) of a channel. -/
structure Pad (φ : Type) where
  /-- present state of the pad | enum | 02_package.md R84, R86 | high-impedance (R84) -/
  cur : PadSt φ := .hiZ
  /-- pending switch request (`none` inside: park) with the tick it was made in | option | 02_package.md R86, R89 | none (R84) -/
  req : Option (Option φ × Nat) := none
  /-- parked for retirement, fused retirement or class U: switch requests are not performed | 1 | 02_package.md R90, R94 | false (R84) -/
  locked : Bool := false
  /-- keeper enabled, holding the parked pin low (FEN) or at mid-rail (LNK) | 1 | 02_package.md R73, R77 | off (R84) -/
  keeper : Bool := false
deriving DecidableEq, Repr

/-- One CODE pin: what the two passes of the power-up reading and the re-reads found. Samples are ohms;
`none` is out of window. -/
structure CodePin where
  /-- first sample, ohms | option | 03_straps.md R102, R106 | none (R124: no reading yet) -/
  resA : Option Nat := none
  /-- second sample, ohms | option | 03_straps.md R102, R106 | none (R124) -/
  resB : Option Nat := none
  /-- settled level | 4 | 03_straps.md R103 | 0 (R123: strap) -/
  level : Nat := 0
  /-- marginal at power-up | 1 | 03_straps.md R103 | false (R123: strap) -/
  marginal : Bool := false
  /-- found changed by a re-read | 1 | 03_straps.md R121, R123 | false (R123) -/
  changed : Bool := false
deriving DecidableEq, Repr

/-- Progress of the power-up strap reading (R102). -/
inductive ReadingPhase | none | first | settled
deriving DecidableEq, Repr

/-- Strap reading and its settled results. -/
structure Straps where
  /-- the twelve CODE pins | 12 records | 03_straps.md R98 | as CodePin -/
  code : Vector CodePin 12 := Vector.replicate 12 {}
  /-- progress of the power-up reading | enum | 03_straps.md R102 | none (R124) -/
  phase : ReadingPhase := .none
  /-- strap class of each channel, after marginal fallback and fused retirement | 16 × 2 | 03_straps.md R107, R108, R123 | U: strap (R123) -/
  cls : Vector EClass 16 := Vector.replicate 16 .u
  /-- class code of the channel's pin is marginal | 16 | 03_straps.md R108 | strap (R123); false before the reading -/
  clsMarginal : Vector Bool 16 := Vector.replicate 16 false
  /-- cabinet number | 12 | 03_straps.md R109, R123 | strap (R123); 0xFFF unnumbered before the reading, DESIGN CHOICE (log 2) -/
  cabinet : Nat := 0xFFF
  /-- uplink amplitude field | 2 | 03_straps.md R111, R123 | strap (R123); 0 before the reading, DESIGN CHOICE (log 2) -/
  amp : Nat := 0
  /-- link-rate field | 2 | 03_straps.md R111, R123 | strap (R123); 1 (250 kbit/s) before the reading, DESIGN CHOICE (log 2) -/
  rate : Nat := 1
  /-- tick in which the power-up first pass began | 48 | 03_straps.md R121 | 0 (R286) -/
  firstPassTick : Nat := 0
  /-- TEST_EN as accepted at power-up | 1 | 03_straps.md R116, R123 | strap (R123); false before the reading, DESIGN CHOICE (log 2) -/
  testEnStart : Bool := false
  /-- strap classes have been acted on for channels | 1 | 03_straps.md R105 | false (R124) -/
  settledActed : Bool := false
  /-- the Kiln has logged and kept this power-up's reading | 1 | 03_straps.md R106 | false (R124) -/
  recorded : Bool := false
deriving DecidableEq, Repr

/-- The accepted levels of the binary straps and nRST, with the SVC press. -/
structure Bins where
  /-- accepted TEST_EN level | 1 | 03_straps.md R115, R123 | strap (R123); false: pull-down (R73), DEDUCED (log 3) -/
  testEn : Bool := false
  /-- accepted SVC: pressed (low) | 1 | 03_straps.md R115, R123 | strap (R123); false: pull-up (R73), DEDUCED (log 3) -/
  svcLow : Bool := false
  /-- accepted DOOR: open (high) | 1 | 03_straps.md R115, R123 | strap (R123); false: closed, DESIGN CHOICE (log 3) -/
  doorOpen : Bool := false
  /-- accepted PFAIL: warning (low) | 1 | 03_straps.md R115, R123 | strap (R123); false: no warning, DESIGN CHOICE (log 3) -/
  pfailLow : Bool := false
  /-- accepted nRST low | 1 | 05_startup.md R196 | false: pull-up (R73), DEDUCED (log 3) -/
  nrstLow : Bool := false
  /-- tick in which SVC was accepted low | option 48 | 03_straps.md R117 | none (R117) -/
  svcSince : Option Nat := none
  /-- SVC ignored until accepted high (low at power-up, or stuck) | 1 | 03_straps.md R117 | false (R117) -/
  svcIgnored : Bool := false
  /-- a long press has triggered its run | 1 | 03_straps.md R117 | false (R117) -/
  svcLongDone : Bool := false
  /-- tick in which PFAIL was last accepted high after a fall, while the power-fail wait runs | option 48 | 04_power_clocks.md R139 | none (R139) -/
  pfailHighSince : Option Nat := none
  /-- tick in which PFAIL was last accepted high | 48 | 06_lifecycle.md R214 | 0 (R286) -/
  pfailFrom : Nat := 0
  /-- power-fail glitch counter | 16, saturating | 04_power_clocks.md R165 | 0; width DESIGN CHOICE (log 4) -/
  pfailGlitch : Nat := 0
  /-- nRST short-pulse counter | 16, saturating | 05_startup.md R196 | 0; width DESIGN CHOICE (log 4) -/
  nrstGlitch : Nat := 0
deriving DecidableEq, Repr

/-- A crystal oscillator against its loss and qualification rules (R148, R149, R152). -/
structure Xtal where
  /-- adopted and in use as a reference candidate, not lost | 1 | 04_power_clocks.md R149 | false (R149) -/
  up : Bool := false
  /-- has been adopted since its island's power-up | 1 | 04_power_clocks.md R149 | false (R149) -/
  adopted : Bool := false
  /-- has qualified | 1 | 04_power_clocks.md R148 | false (R149) -/
  qualified : Bool := false
  /-- declared lost after adoption | 1 | 04_power_clocks.md R148 | false (R149) -/
  lost : Bool := false
deriving DecidableEq, Repr

/-- A loss, return or qualification held during a switch (R151). -/
inductive HeldRef | lost (r : RefId) | qualified (r : RefId) | tickBack (s : TickSrc)
deriving DecidableEq, Repr

/-- Clock sources and references. -/
structure Clk where
  /-- source that drives the tick; none when both are lost | enum | 04_power_clocks.md R146, R149, R155 | RC32 (R149) -/
  tickSrc : Option TickSrc := some .rc32
  /-- RC32 runs | 1 | 04_power_clocks.md R146, R155 | true (R149) -/
  rc32 : Bool := true
  /-- XO32 state | record | 04_power_clocks.md R148, R149 | as Xtal -/
  xo32 : Xtal := {}
  /-- XO25 state | record | 04_power_clocks.md R148, R149 | as Xtal -/
  xo25 : Xtal := {}
  /-- the FPLL takes its reference from XO25 (else RC25) | 1 | 04_power_clocks.md R149 | false: RC25 (R149) -/
  fpllXo25 : Bool := false
  /-- a switch of the tick source is in progress, to this source | option | 04_power_clocks.md R150, R151 | none (R149) -/
  tickSwitch : Option TickSrc := none
  /-- a switch of the FPLL reference is in progress, to XO25 (true) or RC25 | option | 04_power_clocks.md R150, R151 | none (R149) -/
  fpllSwitch : Option Bool := none
  /-- events held during a switch, oldest first | list | 04_power_clocks.md R151 | empty (R149) -/
  held : List HeldRef := []
  /-- the beacon reference is qualified | 1 | 04_power_clocks.md R148 | false (R810: UNSET at VAO valid) -/
  beaconQual : Bool := false
  /-- consecutive valid beacons with none refused between them, up to 3 | 2 | 04_power_clocks.md R148 | 0 (R148) -/
  beaconRun : Nat := 0
  /-- tick of the last valid beacon accepted | option 48 | 04_power_clocks.md R148 | none (R148) -/
  lastBeacon : Option Nat := none
  /-- FPLL locked | 1 | 04_power_clocks.md R147, R167 | false (R143: main island Off) -/
  fpllLocked : Bool := false
  /-- tick of the last failed FPLL lock, while the Kiln retries every second | option 48 | 04_power_clocks.md R167 | none (R167) -/
  fpllFailedAt : Option Nat := none
  /-- the next lock attempt fails, and so does its retry where true | option | the model's own record of FPLL_LOCK_FAIL, 04_power_clocks.md R167 | none -/
  lockFails : Option Bool := none
deriving DecidableEq, Repr

/-- Main island states (R143); Hold with its reason (R200). -/
inductive MainSt | off | running | retention | flushing | reset | hold (r : HoldReason)
deriving DecidableEq, Repr

/-- Kiln states: off (R161), held in ROM (R178, R199), running, or in reset (R196). -/
inductive KilnSt | off | rom | running | reset
deriving DecidableEq, Repr

/-- Start causes, in code order 1 to 6 (R170). -/
inductive StartCause | cold | railReturn | powerFail | external | kilnWdog | mainWdog
deriving DecidableEq, Repr

/-- How far a start has come: the next phase to run (R172), or done. -/
inductive Phase | idle | b | c | selftest | d | e | f | g | h | done
deriving DecidableEq, Repr

/-- The VCORE-loss latch of the AO island (R141). -/
inductive VcoreLoss | none | ordered | unordered (tick : Nat)
deriving DecidableEq, Repr

/-- Islands, power-fail handling and the present start. -/
structure Pwr where
  /-- main island state | enum | 04_power_clocks.md R143 | Off (R143) -/
  main : MainSt := .off
  /-- Kiln state | enum | 04_power_clocks.md R134, R161 | off: rails absent (R134) -/
  kiln : KilnSt := .off
  /-- the Wheel holds a sleep request | 1 | 04_power_clocks.md R144 | false (R143) -/
  sleepReq : Bool := false
  /-- the Kiln wake timer is armed | 1 | 04_power_clocks.md R161 | DESIGN CHOICE false (log 5) -/
  kilnTimerArmed : Bool := false
  /-- the sequence of R137 has completed (an ordered switch-off precedes any VCORE loss) | 1 | 04_power_clocks.md R141 | false (R141) -/
  flushDone : Bool := false
  /-- flush of R137 in progress | 1 | 04_power_clocks.md R137, R139 | false (R137) -/
  flushing : Bool := false
  /-- VCORE-loss latch, outliving the loss | enum | 04_power_clocks.md R141 | none (R141) -/
  vcoreLoss : VcoreLoss := .none
  /-- cause of the present start | 8 | 05_startup.md R170 | cold (R170) -/
  cause : StartCause := .cold
  /-- next phase of the start under way | enum | 05_startup.md R172 | idle: no start has begun (R172) -/
  phase : Phase := .idle
  /-- phase B has completed in this start | 1 | 05_startup.md R202 | false (R172) -/
  phaseBDone : Bool := false
  /-- the start was abandoned by Crazed and runs again from phase C at clearing | 1 | 05_startup.md R203 | false (R203) -/
  crazedWait : Bool := false
  /-- this start left a Hold | 1 | 05_startup.md R171 | false (R171) -/
  leftHold : Bool := false
  /-- this start left a FUSE_MARGINAL hold | 1 | 05_startup.md R171 | false (R171) -/
  leftFuseHold : Bool := false
  /-- an ordered VCORE loss preceded this start | 1 | 05_startup.md R171 | false (R171) -/
  vcoreOrdered : Bool := false
  /-- an unordered VCORE loss preceded this start | 1 | 05_startup.md R171 | false (R171) -/
  vcoreUnordered : Bool := false
  /-- a start has begun since VAO became valid | 1 | 05_startup.md R170 | false -/
  coldBegun : Bool := false
  /-- reason of the Hold last entered, named in HEARTBEAT and the next START record | option | 05_startup.md R200, R201 | none (R200) -/
  holdReason : Option HoldReason := none
  /-- address of the fuse word of a FUSE_MARGINAL hold | 16 | 05_startup.md R178 | 0 (R178) -/
  holdWord : Nat := 0
  /-- main-watchdog expiries of the last 600 s, ticks, newest first | list | 05_startup.md R199 | empty (R199) -/
  mainWdogAt : List Nat := []
  /-- Kiln-watchdog expiries of the last 600 s, ticks, newest first | list | 05_startup.md R199 | empty (R199) -/
  kilnWdogAt : List Nat := []
  /-- tick in which the main watchdog was last restarted, while it runs | option 48 | 05_startup.md R197 | none (R197) -/
  mainWdogFrom : Option Nat := none
  /-- option copy chosen by this start | option 1 | 05_startup.md R181 | none (R181) -/
  optCopy : Option Nat := none
  /-- Wheel bank chosen by this start: 0 A, 1 B | option 1 | 05_startup.md R188 | none (R188) -/
  bank : Option Nat := none
  /-- the preferred bank failed in this start | 1 | 11_uplink.md R418 (START) | false (R188) -/
  bankFallback : Bool := false
  /-- start-up declared complete: EXTEND to MEAS0–MEAS7 refused | 1 | 05_startup.md R186 | false (R186) -/
  startupComplete : Bool := false
  /-- a raise of OPTION_FLOOR is pending | 1 | 05_startup.md R184 | false (R184) -/
  floorRaise : Bool := false
  /-- marginal fuse copies found at this start | 8 | 11_uplink.md R418 (START) | 0 (R177) -/
  marginalCopies : Nat := 0
deriving DecidableEq, Repr

/-! ## Channels (chapter 08) -/

/-- Keep timer of a channel: idle, heartbeat window or continuity hold, with its closing tick. -/
inductive KeepSt | idle | heartbeat (close : Nat) | hold (close : Nat)
deriving DecidableEq, Repr

/-- CH_KEEP commands (R321). -/
inductive KeepCmd | heartbeat | hold | stop
deriving DecidableEq, Repr

/-- One 64-bit event entry by its fields (R287). -/
structure Event where
  code : Nat
  bypass : Bool := false
  frozen : Bool := false
  tick : Nat
deriving DecidableEq, Repr

/-- Active freeze sources (R311). -/
structure Freeze where
  notick : Bool := false
  provisional : Bool := false
  crazed : Bool := false
  main : Bool := false
  pfail : Bool := false
  exchange : Bool := false
deriving DecidableEq, Repr

/-- CH_STICKY flags (R321). -/
structure ChSticky where
  overflow : Bool := false
  grantRefused : Bool := false
  keepRefused : Bool := false
  loadRefused : Bool := false
  serviceRefused : Bool := false
  writeIgnored : Bool := false
deriving DecidableEq, Repr

/-- One channel's machinery in the AO island. -/
structure Chan where
  /-- filtered demand | 1 | 08_channels.md R282, R321 DMD | 0 (R321) -/
  dmd : Bool := false
  /-- filtered feedback | 1 | 08_channels.md R282, R321 FBK | 0 (R321) -/
  fbk : Bool := false
  /-- the class is known, so events are stamped | 1 | 08_channels.md R907 | false (R907) -/
  known : Bool := false
  /-- effective class | 2 | 08_channels.md R321 ECLASS; 01_cabinet.md R50 | U: strap (R321) -/
  eclass : EClass := .u
  /-- driven FEN level | 1 | 08_channels.md R321 FEN | 0 (R321) -/
  fen : Bool := false
  /-- FEN pad | record | 02_package.md R84 | high-impedance (R84) -/
  fenPad : Pad FenFn := {}
  /-- LNK pad pair | record | 02_package.md R84 | high-impedance (R84) -/
  lnkPad : Pad LnkFn := {}
  /-- guarded-output latch | 1 | 08_channels.md R321 LATCH | 0 (R321) -/
  latch : Bool := false
  /-- service flag | 1 | 05_startup.md R192; 08_channels.md R321 SERVICE | 0 (R321) -/
  service : Bool := false
  /-- CONTRACTED as loaded by CH_SERVICE | 1 | 08_channels.md R299, R321 | 0 (R321) -/
  contracted : Bool := false
  /-- retired in the field | 1 | 08_channels.md R321 RETIRED | 0 (R321) -/
  retired : Bool := false
  /-- fused retired | 1 | 08_channels.md R321 FUSED | fuse (R321); false of a blank OTP (log 1) -/
  fused : Bool := false
  /-- supervision lost | 1 | 08_channels.md R318, R321 | 0 (R321) -/
  supLost : Bool := false
  /-- active freeze sources | 6 | 08_channels.md R311, R321 FREEZE | 0 (R321) -/
  frz : Freeze := {}
  /-- a source that needs a decision has been set since the freeze began | 1 | 08_channels.md R314 | false (R321 AWAIT 0) -/
  needDec : Bool := false
  /-- closing tick of the open confirm window | option | 08_channels.md R302, R321 CONF_OPEN | none (R321) -/
  conf : Option Nat := none
  /-- keep timer | enum + 48 | 08_channels.md R306, R308, R321 KEEP_MODE | idle (R321) -/
  keep : KeepSt := .idle
  /-- CH_TCONF_LEN | 24 | 08_channels.md R300, R321 | 0x148 (R321) -/
  tconfLen : Nat := 0x148
  /-- CH_HB_LEN | 24 | 08_channels.md R300, R321 | 0xFFFFFF (R321) -/
  hbLen : Nat := 0xFFFFFF
  /-- CH_HOLD_LEN | 24 | 08_channels.md R300, R321 | 0xFFFFFF (R321) -/
  holdLen : Nat := 0xFFFFFF
  /-- event FIFO, head first, at most 16 entries | 16 × 64 | 08_channels.md R290 | empty (R321) -/
  fifo : List Event := []
  /-- CH_COUNT0.FBK_GLITCH | 16, saturating | 08_channels.md R321 | 0 (R321) -/
  fbkGlitch : Nat := 0
  /-- CH_COUNT0.DMD_GLITCH | 16, saturating | 08_channels.md R321 | 0 (R321) -/
  dmdGlitch : Nat := 0
  /-- CH_COUNT1.CONF_LATE | 16, saturating | 08_channels.md R321 | 0 (R321) -/
  confLate : Nat := 0
  /-- CH_COUNT1.LOST | 16, saturating | 08_channels.md R321 | 0 (R321) -/
  lost : Nat := 0
  /-- CH_COUNT2.IGNORED | 16, saturating | 08_channels.md R321 | 0 (R321) -/
  ignored : Nat := 0
  /-- CH_COUNT2.MISMATCH | 16, saturating | 08_channels.md R321 | 0 (R321) -/
  mismatch : Nat := 0
  /-- CH_STICKY | 6 | 08_channels.md R321 | 0 (R321) -/
  sticky : ChSticky := {}
  /-- last guard write kept under PROVISIONAL alone | option 1 | 08_channels.md R312 | none (R312) -/
  keptGuard : Option Bool := none
  /-- last keep command kept under PROVISIONAL alone | option | 08_channels.md R312 | none (R312) -/
  keptKeep : Option KeepCmd := none
  /-- withhold in Sherd is being carried out: the latch refuses every set | 1 | 01_cabinet.md R905 | false (R905) -/
  sherdHold : Bool := false
  /-- retired for its pads only: probation at the next power-up (class L) | 1 | 23_test_observe.md R845 | false (R845) -/
  padRetired : Bool := false
  /-- consecutive ticks of FEN readback disagreement | 4 | 23_test_observe.md R845 | 0 (R845) -/
  rbBad : Nat := 0
  /-- control-path set-up of R48 has completed for the channel in this start | 1 | 01_cabinet.md R48 | false (R48) -/
  setup : Bool := false
deriving DecidableEq, Repr

/-! ## Channel contracts (chapters 01, 10, 22) -/

/-- One channel contract as a commissioning bundle encodes it (22_kiln.md R815, R391, R348). -/
structure Contract where
  channel : Nat := 0
  /-- 2 H, 3 A -/
  cls : EClass := .h
  /-- true: withhold on a cable-changed event; false: report only -/
  withhold : Bool := false
  /-- true: 250 kbit/s -/
  slowRate : Bool := false
  nRetry : Nat := 0
  pollP : Nat := 1
  tSilent : Nat := 1
  tAbsent : Nat := 1
  tSlow : Nat := 1
  tFaulty : Nat := 1
  tReplay : Nat := 1
  tconfLen : Nat := 1
  hbLen : Nat := 65536
  holdLen : Nat := 1
  coolOff : Nat := 32768
  rekey : Nat := 1966080
  fpInterval : Nat := 29491200
  fpLimit : Nat := 1
  refMode : Nat := 1
  refPoints : List Int := []
  allow : List Bytes := []
deriving DecidableEq, Repr

/-! ## Field link (chapters 09, 10) -/

/-- A session's identity, keys and counters (10_link_sessions.md R375, R379). -/
structure Sess where
  sid : Nat
  encPe : Bytes
  macPe : Bytes
  encEp : Bytes
  macEp : Bytes
  wake : Bytes
  /-- CTR of the next protected frame the part sends -/
  ctrTx : Nat := 0
  /-- last CTR accepted from the partner -/
  ctrRx : Option Nat := none
  /-- last frame accepted from the partner, byte for byte -/
  lastRx : Bytes := []
  replays : Nat := 0
  openedAt : Nat := 0
deriving DecidableEq, Repr

/-- Stage of a handshake attempt: which reply is awaited (10_link_sessions.md, Handshake). -/
inductive HsStage | crp | krp | frp
deriving DecidableEq, Repr

/-- A handshake attempt in progress. -/
structure Hs where
  stage : HsStage
  np : Bytes
  crq : Bytes
  crp : Bytes := []
  ep : Bytes := []
  ee : Bytes := []
  /-- handle of the ephemeral private key (wiped with the attempt) -/
  eph : Nat := 0
  cred : Bytes := []
  credFlags : Nat := 0
  startedAt : Nat
  /-- tick from which the request may be re-sent after BUSY -/
  busyUntil : Option Nat := none
  /-- the session being opened, once its keys are derived -/
  sess : Option Sess := none
  /-- runs beside a live session (R381) -/
  rekey : Bool := false
  /-- a decodable burst came from the partner during this attempt -/
  sawBurst : Bool := false
deriving DecidableEq, Repr

/-- The outstanding request of a transaction (R382). -/
structure Txn where
  type : Nat
  frame : Bytes
  retries : Nat
  /-- the request has been put on the line; false while R338 defers it -/
  sent : Bool := true
  /-- a LINK_REQ of the governing applet waits for its reply -/
  applet : Bool := false
  /-- a decodable burst came from the partner since the request was first sent -/
  saw : Bool := false
deriving DecidableEq, Repr

/-- The wake filter's state for one channel (R389, R390). -/
structure WakeFilter where
  sid : Nat
  key : Bytes
  lastCtr : Option Nat
  /-- key-store slot it was loaded from by WAKE_LOAD -/
  slot : Option Nat := none
deriving DecidableEq, Repr

/-- Fingerprint activity of a channel (R346, R351, R354). -/
structure Fp where
  /-- occasion that is due or running -/
  occ : Option FpOccasion := none
  /-- the pair is in, or on its way to, function E for this measurement -/
  running : Bool := false
  attempts : Nat := 0
  /-- tick of the last disturbed attempt, while a retry is due -/
  retryFrom : Option Nat := none
  /-- tick of the channel's last completed measurement -/
  lastDone : Option Nat := none
  /-- the cable is changed: a cable-changed event, and no two consecutive matching retries since (R354) -/
  changed : Bool := false
  /-- withholding after a cable-changed event (R353) -/
  withholding : Bool := false
  /-- consecutive matching cable-changed retries -/
  matched : Nat := 0
deriving DecidableEq, Repr

/-- The 18 statistic counters, in the order of R397. -/
inductive LStat
  | lineErr | jabber | inverted | crc | malformed | unexpected | oversized | stale | tag
  | mac | duplicate | replay | late | unanswered | busy | filtered | hsFail | opened
deriving DecidableEq, Repr

/-- Field-link state of one channel. -/
structure Link where
  /-- partner state | enum | 10_link_sessions.md R392 | Absent (R392) -/
  pstate : PState := .absent
  /-- tick of entry into Hostile | option 48 | 10_link_sessions.md R395 | none (R392) -/
  hostileAt : Option Nat := none
  /-- live session | option record | 10_link_sessions.md R377 | none (R193) -/
  sess : Option Sess := none
  /-- handshake attempt in progress | option record | 10_link_sessions.md R373 | none (R193) -/
  hs : Option Hs := none
  /-- outstanding transaction | option record | 10_link_sessions.md R382 | none (R193) -/
  txn : Option Txn := none
  /-- bursts waiting behind a fingerprint or another transaction: type, payload (of a CLOSE the whole frame), and whether an applet's
  LINK_REQ waits for the reply | list | 09_link_line.md R352 | empty (R193) -/
  waiting : List (Nat × Bytes × Bool) := []
  /-- fewer than 8 idle bit times have passed since the last burst | 1 | 09_link_line.md R338 | false (R337) -/
  lineBusy : Bool := false
  /-- fingerprint activity | record | 09_link_line.md R351 | none due -/
  fp : Fp := {}
  /-- ticks of late replies within the last 60 s, newest first | list | 10_link_sessions.md R391 T_slow | empty (R393) -/
  lateAt : List Nat := []
  /-- ticks of faults within the last 60 s, newest first | list | 10_link_sessions.md R391 T_faulty | empty (R393) -/
  faultAt : List Nat := []
  /-- consecutive unanswered transactions | 8 | 10_link_sessions.md R391 T_silent | 0 (R393) -/
  unanswered : Nat := 0
  /-- consecutive attempts with no decodable burst | 8 | 10_link_sessions.md R391 T_absent | 0 (R393) -/
  noBurst : Nat := 0
  /-- attempt number k since the last live session | 16 | 10_link_sessions.md R395 | 0 (R395) -/
  attemptK : Nat := 0
  /-- end of attempt k − 1 | option 48 | 10_link_sessions.md R395 | none (R395) -/
  lastAttempt : Option Nat := none
  /-- tick in which a re-key became due | option 48 | 10_link_sessions.md R381 | none (R381) -/
  rekeyDue : Option Nat := none
  /-- periodic wakes since the last transaction | 8 | 10_link_sessions.md R385 | 0 (R385) -/
  pollWakes : Nat := 0
  /-- periodic wakes since service entry (H, A) or Wheel start (L) | 16 | 10_link_sessions.md R396 | 0 (R396) -/
  probeWakes : Nat := 0
  /-- last partner credential seen and its flags | 192 bytes, 3 | 11_uplink.md R418 (PARTNER) | empty: none; 0 -/
  cred : Bytes := []
  credFlags : Nat := 0
  /-- SID of the session last closed by a CLOSE of the part, whose CLA may come | option 32 | 10_link_sessions.md R388 | none (R193) -/
  closedSid : Option Nat := none
  /-- link supervision of a class L channel has stopped: its link block failed self-test | 1 | 23_test_observe.md R846; 01_cabinet.md R55 | false -/
  supStopped : Bool := false
  /-- the 18 statistic counters | 18 × 16, saturating | 10_link_sessions.md R397 | 0 (R397) -/
  stats : Vector Nat 18 := Vector.replicate 18 0
  /-- wake-filter entry | option record | 10_link_sessions.md R389 | none (R390) -/
  wf : Option WakeFilter := none
  /-- bursts passed by the wake filter and kept, oldest first, at most 2 | list | 10_link_sessions.md R389 | empty (R389) -/
  kept : List Burst := []
  /-- ATN payloads held for the applet, oldest first | list | 21_applets.md R783 | empty -/
  atn : List Bytes := []
  /-- event FIFO entries taken and not yet in a CHANNEL_EVENT record, oldest first | list | 11_uplink.md R418 | empty -/
  taken : List Event := []
  /-- CH_COUNT1.LOST at the last CHANNEL_EVENT record | 16 | 11_uplink.md R418 | 0 -/
  lostRep : Nat := 0
  /-- payload of the last RSP, for the waiting LINK_REQ | option | 21_applets.md R783 | none -/
  rsp : Option Bytes := none
deriving DecidableEq, Repr

/-! ## Uplink and records (chapter 11) -/

/-- A retained or unretained Ifesan record (R415), with the ring's bookkeeping. -/
structure Rec where
  type : Nat
  body : Bytes
  seq : Nat := 0
  epoch : Nat := 0
  tick : Nat := 0
  time : Nat := 0xFFFFFFFF
  timeQ : Nat := 0
  firing : Nat := 0
  cabinet : Nat := 0xFFF
  /-- FLAGS bit 0 HELD -/
  held : Bool := false
  sigalg : Nat := 1
  sig : Bytes := []
  /-- acknowledged (R424) -/
  acked : Bool := false
  /-- first page of the record in the ring: block × 512 + page -/
  page : Nat := 0
  /-- last sending on port A and on port B, with how many sendings each has made -/
  sentA : Option Nat := none
  sendsA : Nat := 0
  sentB : Option Nat := none
  sendsB : Nat := 0
deriving DecidableEq, Repr

/-- One uplink port. -/
structure PortSt where
  /-- linked | 1 | 11_uplink.md R408 | false (R408) -/
  linked : Bool := false
  /-- concentrator address: MAC and IPv6 source | option | 11_uplink.md R413 | none (R413) -/
  addr : Option (Nat × Nat) := none
  /-- tick of the last valid or duplicate BEACON on the port | 48 | 11_uplink.md R413 | 0 (R413) -/
  addrAt : Nat := 0
  /-- ticks of inbound faults within the last 60 s, newest first | list | 11_uplink.md R444 | empty (R444) -/
  faults : List Nat := []
  /-- inbound faults counted | 16, saturating | 11_uplink.md R412 | 0; width DESIGN CHOICE (log 4) -/
  faultCount : Nat := 0
  /-- tick in which quarantine began | option 48 | 11_uplink.md R444 | none (R444) -/
  quarantine : Option Nat := none
  /-- common-mode alarms since the last STATUS | 16, saturating | 11_uplink.md R409 | 0 (R418) -/
  alarms : Nat := 0
  /-- second in progress (tick) and RECORD messages sent in it | 48, 7 | 11_uplink.md R435 | 0, 0 -/
  paceFrom : Nat := 0
  paceSent : Nat := 0
  /-- second in progress (tick), with signed ACKs and BEACONs verified in it | 48, 4, 1 | 11_uplink.md R436 | 0, 0, 0 -/
  verFrom : Nat := 0
  verAcks : Nat := 0
  verBeacons : Nat := 0
  /-- messages discarded over those limits | 16, saturating | 11_uplink.md R436 | 0; width DESIGN CHOICE (log 4) -/
  excess : Nat := 0
  /-- tick of the last announcement | option 48 | 11_uplink.md R421 | none (R421) -/
  annAt : Option Nat := none
deriving DecidableEq, Repr

/-- The bundle intake (R431). -/
structure Intake where
  id : Bytes
  total : Nat
  /-- bundle bytes stored so far, by chunk index, ascending -/
  chunks : List (Nat × Bytes) := []
  lastStored : Nat := 0
  /-- displaced copies: wheel, domain, bank (0 A, 1 B) -/
  displaced : List (Bool × Nat × Nat) := []
  conflicts : Nat := 0
  overruns : Nat := 0
deriving DecidableEq, Repr

/-- CHUNK_ACK STATUS of the complete place's bundle (R433). -/
inductive BStatus | complete | verifying | done | digestMismatch
deriving DecidableEq, Repr

/-- The complete place (R431). -/
structure Complete where
  id : Bytes
  total : Nat
  status : BStatus
  /-- the bundle's bytes as stored in the image area -/
  data : Bytes := []
  /-- displaced copies to be rewritten at the outcome: wheel, domain, bank (0 A, 1 B) -/
  displaced : List (Bool × Nat × Nat) := []
  /-- BUNDLE_RESULT has been reached -/
  outcome : Bool := false
deriving DecidableEq, Repr

/-- Messages held in Crazed (R445). -/
inductive HeldMsg
  | ack (p : Port) (msg : Bytes) (sigOk : Bool)
  | beacon (p : Port) (msg : Bytes) (sigOk : Bool) (src : Nat × Nat) (rx : Nat)
deriving DecidableEq, Repr

/-- Last accepted beacon values under one KEY_ID (R428, R429). -/
structure Floor where
  bseq : Nat := 0
  time : Nat := 0
deriving DecidableEq, Repr

/-- Uplink ports, retention ring, beacons and bundle intake. -/
structure Upl where
  /-- port UPA | record | 11_uplink.md R406 | as PortSt -/
  a : PortSt := {}
  /-- port UPB | record | 11_uplink.md R406 | as PortSt -/
  b : PortSt := {}
  /-- retention ring: records held, oldest first | list | 11_uplink.md R437 | empty (blank flash, log 1) -/
  ring : List Rec := []
  /-- write pointer: next page, block × 512 + page | 14 | 11_uplink.md R440 | 0 (blank flash, log 1) -/
  wptr : Nat := 0
  /-- records built in Crazed, to be signed at clearing, oldest first | list | 11_uplink.md R445 | empty -/
  held : List Rec := []
  /-- records dropped since the last STATUS | 32 | 11_uplink.md R418 | 0 (R418) -/
  dropped : Nat := 0
  /-- ranges acknowledged above the highest SEQ issued | 16, saturating | 11_uplink.md R424 | 0; width DESIGN CHOICE (log 4) -/
  ackAhead : Nat := 0
  /-- ack floor of the retention-pointer page | 64 | 11_uplink.md R440 | 1 (R417) -/
  ackFloor : Nat := 1
  /-- ack floor of the pointer page before it | 64 | 20_flash.md R760 | 1 (R417) -/
  prevFloor : Nat := 1
  /-- last BSEQ and TIME accepted under KEY_ID 0, 1, 2 | 3 × (64, 32) | 11_uplink.md R428 | 0 (blank flash, log 1) -/
  floors : Vector Floor 3 := Vector.replicate 3 {}
  /-- floors as kept in the Kiln's flash (Kiln record 5) | 3 × (64, 32) | 11_uplink.md R429 | 0 (blank flash, log 1) -/
  savedFloors : Vector Floor 3 := Vector.replicate 3 {}
  /-- tick of the last saving of the floors in this start | option 48 | 11_uplink.md R429 | none (R429) -/
  savedAt : Option Nat := none
  /-- beacons accepted since the main island started, byte for byte (duplicates are recognised by them) | list | 11_uplink.md R428 | empty -/
  seen : List Bytes := []
  /-- tick of the last ATTEST record | option 48 | 11_uplink.md R418 | none -/
  attestAt : Option Nat := none
  /-- intake | option record | 11_uplink.md R431 | none (R431) -/
  intake : Option Intake := none
  /-- complete place | option record | 11_uplink.md R431 | none (R431) -/
  complete : Option Complete := none
  /-- the last chunk received since the last CHUNK_ACK and not yet answered: BUNDLE_ID, TOTAL, STATUS | option | 11_uplink.md R434 | none -/
  ackPending : Option (Bytes × Nat × Nat) := none
  /-- bundles of which a chunk has been answered since the main island started: BUNDLE_IDs | list | 11_uplink.md R434 | empty -/
  answered : List Bytes := []
  /-- tick of the last CHUNK_ACK | option 48 | 11_uplink.md R434 | none -/
  chunkAckAt : Option Nat := none
  /-- indexes of the chunks in the 64-entry intake buffer, not yet written to flash | list | 11_uplink.md R431, R445 | empty -/
  buf : List Nat := []
  /-- records that wait until the Wheel can build and sign them: TYPE and BODY, oldest first | list | 11_uplink.md R417 | empty -/
  todo : List (Nat × Bytes) := []
  /-- messages held in Crazed, oldest first | list | 11_uplink.md R445 | empty -/
  msgs : List HeldMsg := []
  /-- daily STATUS: tick of the last one built | option 48 | 11_uplink.md R418 | none -/
  statusAt : Option Nat := none
deriving DecidableEq, Repr

/-! ## OTP fuses and lifecycle (chapters 05, 06, 19) -/

/-- The main-die OTP, the key fuse array and their resolution at the present start. -/
structure Fuses where
  /-- the 256 main-die fuse words, each by its four reads; only words that differ from zero are listed, by rising address | 256 × 2 × 32 | 19_keys_counters.md R717; 05_startup.md R174 | blank (log 1) -/
  words : List (Nat × FuseReads) := []
  /-- key fuse array: 8 words, four reads each | 8 × 2 × 32 | 19_keys_counters.md R701 | blank (log 1) -/
  kfa : List FuseReads := List.replicate 8 {}
  /-- words as resolved at the last start that re-read them; words that resolve to zero are not listed | 256 × 32 | 05_startup.md R175 | zero (blank OTP, log 1) -/
  res : List (Nat × Nat) := []
  /-- word of an interrupted burn of LC_STATE to be completed under R221, if any | 1 | 06_lifecycle.md R221 | false -/
  completion : Bool := false
  /-- factory order in the information block | option record | 23_test_observe.md R847 | none (blank part, log 1) -/
  order : Option FactoryOrder := none
deriving DecidableEq, Repr

/-- Content a staged commit record applies (06_lifecycle.md R219, R228). -/
structure CommitContent where
  generation : Nat := 0
  contracts : List Contract := []
  disposition : Nat := 0
  issuers : List Bytes := []
  partCred : Bytes := []
  concKeys : List (Nat × Bytes) := []
  keyBlobs : List Bytes := []
  nextRoot : Option Bytes := none
deriving DecidableEq, Repr

/-- A staged commit record (R219). -/
structure Staged where
  target : Firing
  bundleId : Bytes
  digest : Bytes := []
  content : CommitContent := {}
  applied : Bool := false
  /-- the SHERD cause of a decommission -/
  sherd : Option SherdCause := none
  /-- the burn of the new bit has been made (or none is needed) -/
  burned : Bool := false
deriving DecidableEq, Repr

/-- Lifecycle state. -/
structure Life where
  /-- firing resolved at the last start that re-read fuses | enum | 06_lifecycle.md R209 | Greenware: blank LC_STATE (R213; log 1) -/
  firing : Firing := .greenware
  /-- staged commit record in the Kiln's flash | option record | 06_lifecycle.md R219 | none (blank flash, log 1) -/
  staged : Option Staged := none
  /-- firing reached by the last applied transition | enum | 06_lifecycle.md R239 | Greenware (log 1) -/
  lastApplied : Firing := .greenware
  /-- contracts in force, by channel | 16 × option record | 01_cabinet.md R47 | none (log 1) -/
  contracts : Vector (Option Contract) 16 := Vector.replicate 16 none
  /-- disposition record: withhold-in-Sherd bitmap | 16 | 01_cabinet.md R46; 22_kiln.md R809 | 0 (blank flash, log 1) -/
  disposition : Nat := 0
  /-- credential-issuer public keys | list | 10_link_sessions.md R370 | none (log 1) -/
  issuers : List Bytes := []
  /-- the part's own credential | 192 bytes | 10_link_sessions.md R370 | none (log 1) -/
  partCred : Bytes := []
  /-- concentrator public keys by KEY_ID | list | 11_uplink.md R422 | none (log 1) -/
  concKeys : List (Nat × Bytes) := []
  /-- slots that hold commissioned keys | list | 06_lifecycle.md R228, R231 | none (log 1) -/
  commSlots : List Nat := []
  /-- burns of an operator-root rotation not yet made: next root's hash | option 48 bytes | 06_lifecycle.md R226 | none -/
  rootBurn : Option Bytes := none
  /-- a contract is ignored under R50, per channel | 16 | 01_cabinet.md R50 | false -/
  ignored : Vector Bool 16 := Vector.replicate 16 false
  /-- Sherd cause | option | 06_lifecycle.md R222 | none -/
  sherdCause : Option SherdCause := none
deriving DecidableEq, Repr

/-! ## Attack sensing (chapter 07) -/

/-- A latched trip (R244). -/
structure Trip where
  cause : Nat
  index : Nat
  tick : Nat
deriving DecidableEq, Repr

/-- An open provisional-hold anomaly (R257). -/
structure Anomaly where
  cause : Nat
  index : Nat
  tick : Nat
deriving DecidableEq, Repr

/-- Main-die tamper state. -/
structure Tamp where
  /-- AO tamper latches, oldest first | list of (8, 8, 48) | 07_tamper.md R244 | empty (R244: lost with VAO) -/
  latches : List Trip := []
  /-- grade in force above a persisting Watch: none, Crazed or Shattered | enum | 07_tamper.md R250 | none (R277) -/
  grade : Grade := .none
  /-- trip that entered the present Crazed | record | 11_uplink.md R418 (TAMPER) | zero -/
  entry : Trip := ⟨0, 0, 0⟩
  /-- tick at which the quiet interval of Crazed ends: 32 768 ticks after the tick that follows the last trip | 48 | 07_tamper.md R261 | 0 -/
  quietEnd : Nat := 0
  /-- Kiln self-check in progress | 1 | 07_tamper.md R262 | false -/
  selfCheck : Bool := false
  /-- a trip occurred during the self-check, which then fails | 1 | 07_tamper.md R261 | false -/
  selfCheckTrip : Bool := false
  /-- last samples of each temperature sensor, newest first, at most 50, in kelvin tenths above −273.15 °C | 4 × list | 07_tamper.md R241 | empty (R241) -/
  temps : Vector (List Int) 4 := Vector.replicate 4 []
  /-- consecutive samples beyond the limits high, low, very low of each sensor | 4 × 3 | 07_tamper.md R240 | 0 (R241) -/
  tempHi : Vector Nat 4 := Vector.replicate 4 0
  tempLo : Vector Nat 4 := Vector.replicate 4 0
  tempVlo : Vector Nat 4 := Vector.replicate 4 0
  /-- tick of the last temperature sample | option 48 | 07_tamper.md R241 | none (R241) -/
  tempAt : Option Nat := none
  /-- mesh pattern generator runs from a DRBG seed (else the fixed seed) | 1 | 07_tamper.md R243 | false: fixed seed (R243) -/
  meshSeeded : Bool := false
  /-- tick of the most recent reference event of each kind | 4 × option 48 | 07_tamper.md R255 | none -/
  refSurge : Option Nat := none
  refPfail : Option Nat := none
  refA : Option Nat := none
  refB : Option Nat := none
  /-- open anomalies of provisional holds, oldest first | list | 07_tamper.md R257, R273 | empty -/
  holds : List Anomaly := []
  /-- powered ticks of the excuses of the sliding window, newest first | list | 07_tamper.md R260 | empty -/
  excuses : List Nat := []
  /-- powered tick at which discrimination resumes | option 48 | 07_tamper.md R260 | none -/
  suspendedUntil : Option Nat := none
  /-- anomalies excused since the last STATUS | 16, saturating | 11_uplink.md R418 | 0 -/
  excused : Nat := 0
  /-- powered ticks of entries into Crazed in the last 24 h, newest first | list | 07_tamper.md R264 | empty -/
  crazedAt : List Nat := []
  /-- powered ticks of VCORE glitches in the last 10 s, newest first | list | 07_tamper.md R264 | empty -/
  glitchAt : List Nat := []
  /-- last zeroization step completed: 0 none, 1 to 6 | 3 | 07_tamper.md R266, R268 | 0 -/
  zeroStep : Nat := 0
  /-- Sherd cause held in the AO latch from step Z2 | option | 06_lifecycle.md R222 | none -/
  sherdLatch : Option SherdCause := none
  /-- KINDS 6: zeroization record in the Kiln's flash: step and cause | option | 22_kiln.md R809 | none (blank flash, log 1) -/
  zeroRecord : Option (Nat × SherdCause) := none
deriving DecidableEq, Repr

/-! ## The Kiln (chapter 22) -/

/-- One Kiln Log entry by its fields (R804). -/
structure LogEntry where
  code : Nat
  grade : Nat := 0
  source : Nat := 0
  lseq : Nat := 0
  powered : Nat := 0
  cause : Nat := 0
  time : Nat := 0xFFFFFFFF
  timeQ : Nat := 0
  detail : Bytes := []
  chain : Bytes := []
  /-- number of the Kiln Log page that holds it, counted from the first ever programmed -/
  page : Nat := 0
deriving DecidableEq, Repr

/-- An entry that waits for the Kiln to run. -/
structure PendLog where
  code : Nat
  grade : Nat := 0
  source : Nat := 0
  detail : Bytes := []
  /-- also reported as a LOG record (R420) -/
  report : Bool := false
deriving DecidableEq, Repr

/-- State of one bank of an image copy (R809). -/
inductive CopyState | absent | present | damaged
deriving DecidableEq, Repr

/-- One install-record entry (R809): the image installed for a domain, or the Wheel. -/
structure Install where
  wheel : Bool := false
  domain : Nat := 0
  raiseFloor : Bool := false
  trial : Bool := false
  trialCount : Nat := 0
  release : Nat := 0
  version : Nat := 0
  length : Nat := 0
  digest : Bytes := []
  bankA : CopyState := .absent
  bankB : CopyState := .absent
  /-- the copies' bytes in bank A and bank B -/
  imgA : Bytes := []
  imgB : Bytes := []
  /-- first block of each copy -/
  firstA : Nat := 0
  firstB : Nat := 0
  /-- a replaced image whose blocks are kept until its exchange ends or the next start (R822); not an entry of the record -/
  stale : Bool := false
deriving DecidableEq, Repr

/-- STATE of the Kiln's bundle machine (R802). -/
inductive BundleSt | none | verifying | installing | staged | refused | applied
deriving DecidableEq, Repr

/-- Time-reference states (R810). -/
inductive TimeSt | unset | carried | disciplined
deriving DecidableEq, Repr

/-- Kiln state. -/
structure Kiln where
  /-- programmed Kiln Log entries, newest first | list | 22_kiln.md R804, R807 | empty (blank flash, log 1) -/
  log : List LogEntry := []
  /-- tail: written entries not yet programmed, newest first, at most 8 | list | 22_kiln.md R806 | empty -/
  tail : List LogEntry := []
  /-- pages programmed so far; the page number modulo 6144 is its place in blocks 240–251 | count | 22_kiln.md R807 | 0 (blank flash, log 1) -/
  logPages : Nat := 0
  /-- CHAIN of the newest entry issued | 128 | 22_kiln.md R804 | 16 zero bytes (R804) -/
  chain : Bytes := zeros 16
  /-- VAO was lost with no accepted PFAIL fall since: the tail is lost | 1 | 22_kiln.md R807 | false (blank part, log 1) -/
  tailLost : Bool := false
  /-- entries that wait until the Kiln runs, oldest first | list | 22_kiln.md R806 | empty -/
  todo : List PendLog := []
  /-- LSEQ of the next entry | 64 | 22_kiln.md R804 | 1 (R804) -/
  nextLseq : Nat := 1
  /-- base of the powered-time count | 48 | 22_kiln.md R805 | 0 (blank flash, log 1) -/
  poweredBase : Nat := 0
  /-- install records | list | 22_kiln.md R809 | empty (blank flash, log 1) -/
  installs : List Install := []
  /-- retirement records: retired bitmap | 16 | 22_kiln.md R809 | 0 (blank flash, log 1) -/
  retired : Nat := 0
  /-- retirement records: POWERED of the passing self-test, per channel | 16 × 48 | 22_kiln.md R809 | 0 (blank flash, log 1) -/
  passedAt : Vector Nat 16 := Vector.replicate 16 0
  /-- strap history: levels of the previous power-up, 0xFF none (KIND 4) | 12 × 8 | 22_kiln.md R809; 03_straps.md R106 | 0xFF (R106; blank flash) -/
  strapHist : Vector Nat 12 := Vector.replicate 12 0xFF
  /-- strap block of the last power-up (KIND 4) | 96 bytes | 22_kiln.md R809 | empty (blank flash, log 1) -/
  strapBlock : Bytes := []
  /-- last time held (KIND 5): seconds and POWERED | (32, 48) | 22_kiln.md R809 | 0 (blank flash, log 1) -/
  lastTime : Nat := 0
  lastTimePowered : Nat := 0
  /-- bundle machine STATE | enum | 22_kiln.md R802 | NONE -/
  bundle : BundleSt := .none
  /-- BUNDLE_RESULT code and detail of BUNDLE_STATUS | 8, 16 | 22_kiln.md R802 | 0 -/
  result : Nat := 0
  resultDetail : Nat := 0
  /-- bundle under verification: FADDR, TOTAL, BUNDLE_ID | option | 22_kiln.md R802 | none -/
  verifying : Option (Nat × Nat × Bytes) := none
  /-- time reference state | enum | 22_kiln.md R810 | UNSET (R810) -/
  timeSt : TimeSt := .unset
  /-- anchor: UTC in 1/65 536 s, at this tick | 48, 48 | 22_kiln.md R810 | 0 -/
  anchor : Nat := 0
  anchorTick : Nat := 0
  /-- rate correction f, in parts per 10⁹ | signed | 22_kiln.md R810 | 0 -/
  rate : Int := 0
  /-- slew in progress: rest of d in 1/65 536 s, and the tick it began | option | 22_kiln.md R811 | none -/
  slew : Option (Int × Nat) := none
  /-- time was set from beacons of KEY_ID 0 (TIME_Q 0x03) | 1 | 22_kiln.md R810 | false -/
  unsignedTime : Bool := false
  /-- set by signed beacons since VAO became valid | 1 | 22_kiln.md R810 | false (R810) -/
  timeSet : Bool := false
  /-- tick of the previous valid beacon handed over | option 48 | 22_kiln.md R811 | none -/
  prevBeacon : Option Nat := none
  /-- Kiln-ring requests kept to be repeated after a Kiln or main restart | list of opcodes | 24_coincidences.md R869 | empty -/
  kept : List Nat := []
  /-- outcome of the bundle awaiting report | 1 | 24_coincidences.md R869 | false -/
  reportDue : Bool := false
deriving DecidableEq, Repr

/-! ## Key store, counters, randomness (chapter 19) -/

/-- STATE of a key slot (R689). -/
inductive SlotSt | empty | live | lost
deriving DecidableEq, Repr

/-- One key slot (R689). -/
structure Slot where
  st : SlotSt := .empty
  cls : Nat := 0
  usage : Nat := 0
  owner : Nat := 0
  persist : Bool := false
  gen : Nat := 0
  mat : Bytes := []
deriving DecidableEq, Repr

/-- A wrapped slot record of the key area (R702): the newest record of each slot is what a restore uses. -/
structure KeyRec where
  slot : Nat
  gen : Nat
  /-- 0 in a deletion record -/
  cls : Nat
  owner : Nat
  usage : Nat
  wseq : Nat
  mat : Bytes
  /-- the record's page reads without error and its tag verifies -/
  good : Bool := true
deriving DecidableEq, Repr

/-- TRNG STATE (R719). -/
inductive TrngSt | startup | ok | failed
deriving DecidableEq, Repr

/-- A journal entry (R710). -/
inductive JEntry
  | inc (k : Nat) (v : Nat) | advance (k : Nat) (v : Nat) | openS | closeS | mode (k : Nat) (sync : Bool)
deriving DecidableEq, Repr

/-- A compaction: ratchet r, values and SYNC bitmap (R710, R712). Values are listed for counters above zero. -/
structure Compaction where
  r : Nat
  values : List (Nat × Nat)
  sync : List Nat
deriving DecidableEq, Repr

/-- Key store, DRBG, TRNG and counters. -/
structure Ksm where
  /-- slots in use or used before, by slot number; a slot not listed is EMPTY with GEN 0 | 256 records | 19_keys_counters.md R689 | EMPTY (R719) -/
  slots : List (Nat × Slot) := []
  /-- sealed by Crazed | 1 | 19_keys_counters.md R719; 07_tamper.md R252 | false (R719) -/
  sealed : Bool := false
  /-- key fuse array read clean at this start | 1 | 19_keys_counters.md R719 KFA_CLEAN | false (R719) -/
  kfaClean : Bool := false
  /-- DRBG instantiated | 1 | 19_keys_counters.md R700, R719 READY | false (R719) -/
  drbgReady : Bool := false
  /-- generate requests since the last reseed | 17 | 19_keys_counters.md R700, R719 | 0 (R719) -/
  drbgReq : Nat := 0
  /-- a reseed is due | 1 | 19_keys_counters.md R700 | false -/
  reseedDue : Bool := false
  /-- TRNG state | 2 | 19_keys_counters.md R719 | start-up (R719) -/
  trng : TrngSt := .startup
  /-- TRNG health failures, saturating | 16 | 19_keys_counters.md R719 | 0 (R719) -/
  trngFails : Nat := 0
  /-- raw-bit positions of the failures of the last 2^20 bits, newest first | list | 19_keys_counters.md R699 | empty -/
  trngFailAt : List Nat := []
  /-- key area in flash: newest record of each slot | list | 19_keys_counters.md R702 | empty (blank flash, log 1) -/
  area : List KeyRec := []
  /-- next WSEQ | 32 | 19_keys_counters.md R702 | 1 (blank flash, log 1) -/
  wseq : Nat := 1
  /-- counter values; a counter not listed is zero | 1024 × 64 | 19_keys_counters.md R706 | 0 (R719) -/
  cnt : List (Nat × Nat) := []
  /-- counters in SYNC mode | 1024 × 1 | 19_keys_counters.md R706, R719 | BUFFERED (R719) -/
  sync : List Nat := []
  /-- journal tail: entries not yet programmed, oldest first, at most 30 | list | 19_keys_counters.md R711 | empty (R719) -/
  tail : List JEntry := []
  /-- newest valid compaction in flash | option record | 19_keys_counters.md R712 | none (blank flash, log 1) -/
  comp : Option Compaction := none
  /-- programmed entries after that compaction, oldest first | list | 19_keys_counters.md R710 | empty (log 1) -/
  entries : List JEntry := []
  /-- entry pages programmed since that compaction | 9 | 19_keys_counters.md R712 | 0 -/
  entryPages : Nat := 0
  /-- an entry page after the compaction is uncorrectable, fails its CRC or is out of order | 1 | 19_keys_counters.md R714 | false -/
  badPage : Bool := false
  /-- entries written since the last advance of the ratchet | 17 | 19_keys_counters.md R712 | 0 -/
  sinceRatchet : Nat := 0
  /-- a compaction waits for its ratchet burn | 1 | 19_keys_counters.md R713 | false -/
  compWait : Bool := false
  /-- CNT_HI as captured by a read of CNT_LO | 32 | 19_keys_counters.md R719 | 0 (R719) -/
  cntHi : Nat := 0
  /-- a skip was made at this start | 1 | 19_keys_counters.md R719 SKIPPED | 0 (R719) -/
  skipped : Bool := false
  /-- cold start pending (AO flag) | 1 | 19_keys_counters.md R709 | false (set when VAO becomes valid) -/
  coldPending : Bool := false
deriving DecidableEq, Repr

/-! ## Cores and memory (chapter 13) -/

/-- One store-buffer entry: a word address, its byte-enable mask and data (R516). -/
structure StoreEnt where
  addr : Nat
  mask : Nat
  data : Nat
deriving DecidableEq, Repr

/-- One application core. -/
structure Core where
  /-- privilege level of the running code | 2 | 13_cores.md R500 | P0 (R504) -/
  level : PLevel := .p0
  /-- P_LEVEL register: level of machine mode, P0 then P1 after the handover | 1 | 13_cores.md R501 | 0 (R501) -/
  pLevel : Bool := false
  /-- P_DOMAIN: domain of U-mode code | 4 | 13_cores.md R503 | 0 (R503) -/
  domain : Nat := 0
  /-- P_IENABLE: enabled interrupt sources | 18 | 13_cores.md R503 | 0 (R503) -/
  ienable : Nat := 0
  /-- P_FAULT: kind of the last refused access | 32 | 13_cores.md R503 | 0 (R503) -/
  pFault : Nat := 0
  /-- integer registers x0 to x31; x0 reads zero | 32 × 32 | 13_cores.md R498 | 0; DESIGN CHOICE (log 6) -/
  regs : Vector Word 32 := Vector.replicate 32 0
  /-- program counter | 32 | 13_cores.md R498 | boot ROM reset vector; DESIGN CHOICE 0 (log 6) -/
  pc : Nat := 0
  /-- mstatus.MIE, MPIE, MPP (U-mode = false) | 1, 1, 1 | 13_cores.md R525 | 0 (RISC-V privileged ISA reset) -/
  mie : Bool := false
  mpie : Bool := false
  mppM : Bool := false
  /-- mstatus.MPRV, TW | 1, 1 | 13_cores.md R500, R502, R525 | 0 (log 6) -/
  mprv : Bool := false
  tw : Bool := false
  /-- mcountinhibit.CY, IR; mcycle and minstret | 1, 1, 64, 64 | 13_cores.md R500 | 0 (log 6) -/
  inhibitCy : Bool := false
  inhibitIr : Bool := false
  mcycle : Nat := 0
  minstret : Nat := 0
  /-- mie register: MSIE, MEIE | 1, 1 | 13_cores.md R527 | 0 (log 6) -/
  msie : Bool := false
  meie : Bool := false
  /-- mtvec, mepc, mcause, mtval, mscratch | 5 × 32 | 13_cores.md R525 | 0 (log 6) -/
  mtvec : Nat := 0
  mepc : Nat := 0
  mcause : Nat := 0
  mtval : Nat := 0
  mscratch : Nat := 0
  /-- mip.MSIP (inter-processor interrupt) and mip.MEIP | 1, 1 | 13_cores.md R503, R527 | 0 (R503) -/
  msip : Bool := false
  meip : Bool := false
  /-- waiting in WFI | 1 | 13_cores.md R504 | core 1 true after the boot ROM starts (R504); false -/
  wfi : Bool := false
  /-- store buffer, oldest first, at most 4 entries | list | 13_cores.md R516 | empty -/
  sbuf : List StoreEnt := []
  /-- a FENCE waits for the store buffer to empty | 1 | 13_cores.md R517 | false -/
  fence : Bool := false
  /-- a store that stalls until it can enter the buffer: address, size, data | option | 13_cores.md R516; 14_protection.md R555 | none -/
  stalled : Option (Nat × Nat × Nat) := none
  /-- valid instruction-cache lines by address | list | 13_cores.md R510 | empty -/
  icache : List Nat := []
  /-- instruction-cache parity errors | 16, saturating | 13_cores.md R511 | 0 -/
  parity : Nat := 0
deriving DecidableEq, Repr

/-- Sparse memory: listed cells by strictly rising address, none equal to zero; an unlisted address reads 0. -/
abbrev Mem := List Host.Cell

/-! ## Access protection (chapter 14) -/

/-- One protection region with its PERM word: of the IPT [start, stop) in byte addresses, of a gate BASE in `start` and SIZE in `stop`
(R541–R543). -/
structure Region where
  start : Nat := 0
  stop : Nat := 0
  perm : Nat := 0
deriving DecidableEq, Repr

/-- A core access held under UPDATE: a load into `rd`, or a store of `data` (R558). -/
inductive HeldAcc
  | load (core : Fin 2) (addr : Nat) (size : Nat) (signed : Bool) (rd : Fin 32)
  | store (core : Fin 2) (addr : Nat) (size : Nat) (data : Nat)
  | dma (eng : Eng) (ring : Nat)
deriving DecidableEq, Repr

/-- Protection tables and their control registers. -/
structure Prot where
  /-- active IPT regions: START, END, PERM | 64 × (27, 27, 32) | 14_protection.md R541, R554 | 0, disabled (R565) -/
  ipt : Vector Region 64 := Vector.replicate 64 {}
  /-- shadow IPT regions | 64 × (27, 27, 32) | 14_protection.md R554, R565 | 0 (R565) -/
  iptS : Vector Region 64 := Vector.replicate 64 {}
  /-- active gate regions, 26 gates of 8: BASE in `start`, SIZE in `stop` | 208 × (24, 5, 32) | 14_protection.md R542, R554 | 0, disabled (R566) -/
  gate : Vector Region 208 := Vector.replicate 208 {}
  /-- shadow gate regions | 208 × (24, 5, 32) | 14_protection.md R554, R566 | 0 (R566) -/
  gateS : Vector Region 208 := Vector.replicate 208 {}
  /-- PROT_UPDATE: bit 26 the IPT, bit g gate g | 27 | 14_protection.md R558, R565 | 0 (R565) -/
  update : Nat := 0
  /-- PROT_STAT.GEN | 16, saturating | 14_protection.md R555, R565 | 0 (R565) -/
  gen : Nat := 0
  /-- PROT_CSTAT: reason, table, gate and region of the last refused commit | 16 | 14_protection.md R556, R565 | 0 (R565) -/
  cstat : Nat := 0
  /-- PROT_STICKY.WRITE_LOCKED and COMMIT_REFUSED | 1, 1 | 14_protection.md R554, R556, R565 | 0 (R565) -/
  writeLocked : Bool := false
  commitRefused : Bool := false
  /-- cores whose commit write waits for its commit instant, in the order of their writes | list | 14_protection.md R555, R557 | empty -/
  commits : List (Fin 2) := []
  /-- PROT_DFAULT_ADDR, INFO bits [31:10] in place, VALID, LOST | 32, 32, 1, 16 | 14_protection.md R564, R565 | 0 (R565) -/
  dfAddr : Nat := 0
  dfInfo : Nat := 0
  dfValid : Bool := false
  dfLost : Nat := 0
  /-- PROT_PROBE_BASE, LEN, RES and FADDR | 4 × 32 | 14_protection.md R562, R565 | 0 (R565) -/
  probeBase : Nat := 0
  probeLen : Nat := 0
  probeRes : Nat := 0
  probeAddr : Nat := 0
  /-- accesses held under UPDATE, oldest first | list | 14_protection.md R558 | empty -/
  held : List HeldAcc := []
deriving DecidableEq, Repr

/-! ## Descriptor rings (chapter 15) -/

/-- A descriptor as copied at fetch: its first 48 bytes by field (R587). -/
structure Desc where
  opcode : Nat
  flags : Nat
  zero02 : Nat
  length : Nat
  inA : Nat
  inCount : Nat
  zero0D : Nat
  outA : Nat
  outCount : Nat
  zero15 : Nat
  param : Bytes
  /-- input and output buffers as read once at fetch: address and length, in order -/
  inFr : List (Nat × Nat) := []
  outFr : List (Nat × Nat) := []
  /-- fetched, while the read of its fragment table is held under UPDATE: checks 4 to 10 are to come (R558, R595) -/
  raw : Bool := false
  /-- check 11 is passed and the job is under way, held at an access or yielded: its copy of the key or the modulus
  (14_protection.md R558; 16_cipher.md R621; 18_bignum.md R668, R675) -/
  copy : Option Bytes := none
deriving DecidableEq, Repr

/-- One descriptor ring (R577). -/
structure Ring where
  /-- STEM_RING_BASE.ADDR × 64 | 26 | 15_rings.md R577 | 0 (R577) -/
  base : Nat := 0
  /-- STEM_RING_SIZE.LOG2 | 4 | 15_rings.md R577 | 0 (R577) -/
  log2 : Nat := 0
  /-- STEM_RING_POLICY.ENABLE, HALT (HALT_PART), NOTIFY | 1, 1, 1 | 15_rings.md R577 | 0; HALT 1 on KSM and Kiln rings (R577) -/
  enable : Bool := false
  haltPart : Bool := false
  notify : Bool := false
  /-- OWNER_LEVEL, OWNER_DOMAIN | 2, 4 | 15_rings.md R577 | 0 (R577) -/
  ownerLevel : Nat := 0
  ownerDomain : Nat := 0
  /-- PROD.INDEX, PROD.SEEN, CONS.INDEX, CONS.FETCH | 4 × 16 | 15_rings.md R577, R578 | 0 (R577) -/
  prod : Nat := 0
  seen : Nat := 0
  cons : Nat := 0
  fetch : Nat := 0
  /-- STATE | 3 | 15_rings.md R577 | OFF (R577) -/
  st : RingSt := .off
  /-- REASON, HALT_INDEX | 5, 16 | 15_rings.md R577 | 0 (R577) -/
  reason : Nat := 0
  haltIndex : Nat := 0
  /-- WB_LOST, CONFIG_REFUSED, SEEN_REFUSED, DOORBELL_REFUSED | 4 × 1 | 15_rings.md R577 | 0 (R577) -/
  wbLost : Bool := false
  configRefused : Bool := false
  seenRefused : Bool := false
  doorbellRefused : Bool := false
  /-- the descriptor at CONS.INDEX as copied at fetch, form-checked and awaiting its work | option record | 15_rings.md R586 | none -/
  cur : Option Desc := none
  /-- doorbell values held during an engine reset, a Kiln restart or a self-test | list of (INDEX, SEEN) | 15_rings.md R585 | empty -/
  held : List (Nat × Nat) := []
deriving DecidableEq, Repr

/-- One engine's rings and common state. -/
structure EngSt where
  /-- its rings | records | 15_rings.md R574 | as Ring -/
  rings : List Ring := []
  /-- RESETTING | 1 | 15_rings.md R577, R601 | 0 (R577) -/
  resetting : Bool := false
deriving DecidableEq, Repr

/-- An erase in progress on a flash bank (20_flash.md R746). -/
structure EraseJob where
  /-- FLC ring of its descriptor -/
  ring : Nat
  block : Nat
  mode : Nat
  suspends : Nat := 0
  suspended : Bool := false
deriving DecidableEq, Repr

/-- A PROGRAM whose pulses are under way (20_flash.md R741, R742): the page at the head of `rest` is being pulsed. -/
structure ProgJob where
  ring : Nat
  length : Nat
  /-- pages completed, same pages included; pages programmed; pages found same; largest pulse count -/
  done : Nat := 0
  programmed : Nat := 0
  same : Nat := 0
  pulses : Nat := 0
  /-- pages still to program, with their source bytes -/
  rest : List (Nat × Bytes) := []
deriving DecidableEq, Repr

/-- Fast AES engine and the byte-serial AES of the AO island (chapter 16). -/
structure Aes where
  /-- FAE expanded-key contexts: slot and generation per ring | 8 × option | 16_cipher.md R620 | none (R630) -/
  ctx : Vector (Option (Nat × Nat)) 8 := Vector.replicate 8 none
  /-- SAE context | option | 16_cipher.md R620 | none (R630) -/
  saeCtx : Option (Nat × Nat) := none
  /-- saggar held, by ring, with its contents | 1, 3, 64 KiB | 16_cipher.md R624, R630 | free (R630) -/
  saggar : Option (Nat × Bytes) := none
  /-- rings whose Saggar-mode job waits for the saggar, oldest first | list | 16_cipher.md R625 | empty (R630) -/
  waiting : List Nat := []
  /-- FAE_COUNT: verdict failures, saggars expired | 16, 16 saturating | 16_cipher.md R630 | 0 (R630) -/
  verdictFail : Nat := 0
  expired : Nat := 0
deriving DecidableEq, Repr

/-- STATE of a digest context (17_digest.md R643). -/
inductive CtxSt | free | open_ | final
deriving DecidableEq, Repr

/-- One digest context (R643). -/
structure DigCtx where
  st : CtxSt := .free
  alg : Nat := 0
  hmac : Bool := false
  /-- key slot material of an HMAC context (wiped when the context is freed) -/
  key : Bytes := []
  /-- whole blocks absorbed so far -/
  data : Bytes := []
  /-- digest of a FINAL context -/
  digest : Bytes := []
  ownerLevel : Nat := 0
  ownerDomain : Nat := 0
deriving DecidableEq, Repr

/-- Digest engine and measurement registers (chapter 17). -/
structure Dig where
  /-- contexts | 16 records | 17_digest.md R643 | FREE (R654) -/
  ctx : Vector DigCtx 16 := Vector.replicate 16 {}
  /-- MEAS0–MEAS23 | 24 × 48 bytes | 17_digest.md R647; 05_startup.md R185 | zero (R185) -/
  meas : Vector Bytes 24 := Vector.replicate 24 (zeros 48)
  /-- extend counts of MEAS0–MEAS23 | 24 × 32 | 17_digest.md R654 | 0 (R654) -/
  count : Vector Nat 24 := Vector.replicate 24 0
  /-- snapshot registers | 24 × 48 bytes | 17_digest.md R651 | zero (R654) -/
  snap : Vector Bytes 24 := Vector.replicate 24 (zeros 48)
  /-- VALID and DOMAIN of MEAS16–MEAS23 | 8 × (1, 4) | 17_digest.md R654 | 0 (R654) -/
  owner : Vector (Bool × Nat) 8 := Vector.replicate 8 (false, 0)
  /-- LOCK of MEAS4–MEAS7 | 1 | 17_digest.md R649 | 0 (R654) -/
  lock : Bool := false
  /-- BOOTLOCK of MEAS0–MEAS3 | 1 | 13_cores.md R501; 17_digest.md R649 | 0 (R654) -/
  bootLock : Bool := false
  /-- EARLY sticky | 1 | 17_digest.md R645 | 0 (R654) -/
  early : Bool := false
  /-- COMPARE failures | 16, saturating | 17_digest.md R646 | 0 (R654) -/
  compareFail : Nat := 0
deriving DecidableEq, Repr

/-- A modulus register of the WMU (18_bignum.md R679). -/
structure Modulus where
  value : Nat := 0
  size : Nat := 0
  valid : Bool := false
  reason : Nat := 0
deriving DecidableEq, Repr

/-- Wide multiplier (chapter 18). -/
structure Wmu where
  /-- MOD0–MOD7 | 8 × (4096, 2, 1, 2) | 18_bignum.md R679 | zero, not VALID (R680) -/
  mods : Vector Modulus 8 := Vector.replicate 8 {}
  /-- MOD_WRITE_IGNORED, MOD_REFUSED sticky | 1, 1 | 18_bignum.md R681 | 0 (R681) -/
  writeIgnored : Bool := false
  refused : Bool := false
  /-- VALUE_REFUSED, YIELDS counters | 16, 16 saturating | 18_bignum.md R681 | 0 (R681) -/
  valueRefused : Nat := 0
  yields : Nat := 0
  /-- ring whose job has yielded, with the ring-0 jobs completed since | option | 18_bignum.md R675, R676 | none -/
  yielded : Option (Nat × Nat) := none
deriving DecidableEq, Repr

/-! ## Flash (chapter 20) -/

/-- One flash block of the 256 (R725). -/
structure Block where
  /-- write pointer: one more than the highest page whose flag is set | 10 | 20_flash.md R728 -/
  wp : Nat := 0
  eraseCount : Nat := 0
  /-- first-program time, seconds -/
  firstProg : Nat := 0
  worn : Bool := false
deriving DecidableEq, Repr

/-- Flash controller and arrays. -/
structure Flc where
  /-- blocks that differ from erased and unworn, by rising number | 256 records | 20_flash.md R725 | erased (log 1) -/
  blocks : List (Nat × Block) := []
  /-- programmed pages' contents: key block × 512 + page | list | 20_flash.md R727 | none (erased, log 1) -/
  pages : List (Nat × Bytes) := []
  /-- poison map: pages found uncorrectable | list | 20_flash.md R758 | empty (log 1) -/
  poison : List Nat := []
  /-- torn pages, each with the number of the free value it reads as | list | 20_flash.md R728 | none (erased, log 1) -/
  torn : List (Nat × Nat) := []
  /-- erase counts of the spare blocks of bank A and B | 2 × list | 20_flash.md R726, R764 | 4 unworn spares each (log 1) -/
  sparesA : List Nat := [0, 0, 0, 0]
  sparesB : List Nat := [0, 0, 0, 0]
  /-- FLC_WEIGHT of rings 0 to 2 | 3 × 8 | 20_flash.md R734, R764 | 1 (R764) -/
  weights : Vector Nat 3 := Vector.replicate 3 1
  /-- a write of FLC_WEIGHT was refused (sticky) | 1 | 20_flash.md R764 | 0 (R764) -/
  weightRefused : Bool := false
  /-- erase in progress per bank A, B | 2 × option record | 20_flash.md R746 | none -/
  eraseA : Option EraseJob := none
  eraseB : Option EraseJob := none
  /-- programs under way | list, one per bank at most | 20_flash.md R729, R742 | none -/
  progs : List ProgJob := []
  /-- scrub session open since this tick | option 48 | 20_flash.md R752 | closed -/
  scrub : Option Nat := none
  /-- next patrol unit, kept in the map | 9 | 20_flash.md R752, R764 | 0 (blank map, log 1) -/
  patrol : Nat := 0
  /-- ring 3 takes one of every four page operations | 1 | 20_flash.md R753 | false -/
  scrubStarved : Bool := false
  /-- POWERED at which the last session fell due; sessions missed and not yet run | 48, 16 | 20_flash.md R752, R757 | 0 -/
  scrubLast : Nat := 0
  missed : Nat := 0
  /-- blocks queued for refresh or relocation, oldest first | list | 20_flash.md R754, R755 | empty -/
  refresh : List Nat := []
  /-- FLC_COUNT.CORRECTED and STARVED | 16, 16 saturating | 20_flash.md R764 | 0 (R764) -/
  corrected : Nat := 0
  starved : Nat := 0
  /-- FLC_STICKY.POISON_FULL, ERASE_STARVED | 1, 1 | 20_flash.md R764 | 0 (R764) -/
  poisonFull : Bool := false
  eraseStarved : Bool := false
  /-- FLC_POISON_IDX | 10 | 20_flash.md R764 | 0 (R764) -/
  poisonIdx : Nat := 0
deriving DecidableEq, Repr

/-! ## Applets (chapter 21) -/

/-- What an applet's manifest declares (R774). -/
structure Manifest where
  domain : Nat := 0
  cores : Nat := 1
  priority : Nat := 0
  signer : Nat := 1
  /-- version, EXEC_ONLY, and the offsets and lengths of the image's sections -/
  version : Nat := 0
  execOnly : Bool := false
  imageLen : Nat := 0
  manOff : Nat := 0
  manLen : Nat := 0
  codeOff : Nat := 0
  codeLen : Nat := 0
  constOff : Nat := 0
  constLen : Nat := 0
  dataOff : Nat := 0
  dataLen : Nat := 0
  entry : Nat := 0
  channels : List Nat := []
  sram : Nat := 0
  ldm : Nat := 0
  cpuUs : Nat := 0
  quiesceMax : Nat := 0
  decideMax : Nat := 0
  slots : Nat := 0
  /-- counters in units of 8 -/
  counters : Nat := 0
  meas : Nat := 0
  dataBlocks : Nat := 0
  flcRing : Bool := false
  calls : Nat := 0
  /-- rings named: engine, ring, LOG2, leave (else drain) -/
  rings : List (Eng × Nat × Nat × Bool) := []
deriving DecidableEq, Repr

/-- Steps of an exchange: X2 has requested a quiescent point; X3 is done and X4 waits for rings to drain (R790, R604). -/
inductive XStep | none | requested | draining
deriving DecidableEq, Repr

/-- An applet on one core (R780, R781). -/
structure AppCore where
  /-- run state -/
  st : AppSt := .absent
  /-- CPU time used in this window, in µs -/
  used : Nat := 0
  /-- tick of the last waiting call, or of the start -/
  runSince : Nat := 0
  /-- waiting call: its number and arguments a0 to a5 -/
  call : Option (Nat × List Nat) := none
  /-- registers and program counter while the applet does not run on the core -/
  regs : Vector Word 32 := Vector.replicate 32 0
  pc : Nat := 0
deriving DecidableEq, Repr

/-- An applet domain at run time. -/
structure App where
  /-- loaded image's manifest | option record | 21_applets.md R774 | none -/
  man : Option Manifest := none
  /-- the applet on core 0 and core 1 | 2 records | 21_applets.md R780 | absent -/
  cpu : Vector AppCore 2 := Vector.replicate 2 {}
  /-- quarantined, with the reason | option 8 | 21_applets.md R788 | none -/
  quar : Option Nat := none
  /-- powered ticks of the faults of the last 24 h, newest first | list | 21_applets.md R789 | empty -/
  faults : List Nat := []
  /-- CPU budget overruns counted | 16, saturating | 21_applets.md R781 | 0; width DESIGN CHOICE (log 4) -/
  overruns : Nat := 0
  /-- wait events 3, 4 and 6 that have occurred and are still present | mask | 21_applets.md R785 | 0 -/
  events : Nat := 0
  /-- channels the running image has decided since it started | list | 21_applets.md R793, R794 | empty -/
  decided : List Nat := []
  /-- tick of step X6 while the decisions of an incoming image are awaited | option 48 | 21_applets.md R793 | none -/
  startedAt : Option Nat := none
  /-- the running image was started by an exchange with an incoming image | 1 | 21_applets.md R794 | false -/
  fresh : Bool := false
  /-- exchange step and the tick of step X2 | enum, 48 | 21_applets.md R790 | none -/
  xstep : XStep := .none
  xTick : Nat := 0
  /-- incoming image of an exchange | option | 21_applets.md R790 | none -/
  incoming : Option Manifest := none
  /-- first counter assigned | 10 | 21_applets.md R778 | 0 -/
  cntFrom : Nat := 0
  /-- first register of MEAS16–MEAS23 assigned | 5 | 21_applets.md R778 | 0 -/
  measFrom : Nat := 0
  /-- first applet-data block assigned | 8 | 21_applets.md R778 | 0 -/
  blockFrom : Nat := 0
  /-- first address of its SRAM | 32 | 21_applets.md R778 | 0 -/
  sramAt : Nat := 0
  /-- first offset of its share of each local data memory in CORES | 18 | 21_applets.md R778 | 0 -/
  ldmAt : Nat := 0
  /-- bank of the image copy loaded and the address of its first byte | 1, 32 | 21_applets.md R776, R778 | 0 -/
  bank : Nat := 0
  imgAt : Nat := 0
  /-- digest of an image quarantined with reason 0x08, kept until a new version is installed | option 48 bytes | 21_applets.md R788 | none -/
  barred : Option Bytes := none
deriving DecidableEq, Repr

/-- Triggers of a self-test run, coded 1 to 6 (R834). -/
inductive StTrigger | testEn | svc | schedule | clearing | request | factory
deriving DecidableEq, Repr

/-- A run in progress (R834, R836). -/
structure StRun where
  trigger : StTrigger
  /-- partitions selected and not yet tested -/
  todo : List Nat
  /-- powered tick of the start -/
  started : Nat
  /-- closing tick of the window; none for a trigger-1 or trigger-6 run -/
  close : Option Nat
deriving DecidableEq, Repr

/-- Self-test sequencer. -/
structure SelfT where
  /-- number of the run in progress or last run | 16 | 23_test_observe.md R839 | 0; DESIGN CHOICE (log 15) -/
  number : Nat := 0
  /-- run in progress | option record | 23_test_observe.md R834 | none -/
  run : Option StRun := none
  /-- trigger of the latest run | option enum | 23_test_observe.md R839 | none -/
  trigger : Option StTrigger := none
  /-- start POWERED and duration in ms of the latest run | 48, 16 | 23_test_observe.md R839 | 0 -/
  startedAt : Nat := 0
  duration : Nat := 0
  /-- trigger kept while a run is in progress or cannot start, with its mask and window in ticks | option | 23_test_observe.md R834 | none -/
  kept : Option (StTrigger × List Nat × Nat) := none
  /-- partition prepared by the Wheel | option | 23_test_observe.md R838 | none -/
  prepared : Option Nat := none
  /-- partitions deferred by the last run | list | 23_test_observe.md R836 | empty -/
  deferred : List Nat := []
  /-- partitions deferred by the last run and by the run before it | list | 23_test_observe.md R841 | empty -/
  twice : List Nat := []
  /-- result of each of the 64 partitions in the latest run: 0 PASS, 1 FAIL, 2 DEFERRED, 3 NOT_RUN | 64 × 2 | 23_test_observe.md R840 | 3 (R840) -/
  results : Vector Nat 64 := Vector.replicate 64 3
  /-- the Wheel has still to log the latest run | 1 | 23_test_observe.md R841 | false -/
  logDue : Bool := false
  /-- POWERED at the start of the last full run | 48 | 23_test_observe.md R834 | 0 -/
  lastFull : Nat := 0
  /-- next block of the FLASH partition's sweep | 8 | 23_test_observe.md R833 | 0 (R833) -/
  flashBlock : Nat := 0
  /-- factory results and keys may be sent: the power-up is a factory-test one | 1 | 23_test_observe.md R847, R853 | false -/
  factory : Bool := false
  /-- the factory run has ended and its order is still to be carried out; whether every partition passed | option 1 | 23_test_observe.md R847 | none -/
  factoryDue : Option Bool := none
deriving DecidableEq, Repr

/-- Spyhole encoder and occupancy counters. -/
structure Spy where
  /-- messages sent are in the output trace; SEQ of the next | 8 | 23_test_observe.md R848 | 0 -/
  seq : Nat := 0
  /-- bytes queued | 13 | 23_test_observe.md R849 | 0 -/
  fill : Nat := 0
  /-- messages lost to a full queue, saturating | 16 | 23_test_observe.md R849 | 0 -/
  lost : Nat := 0
  /-- OCC_PERIOD, PC_PERIOD, RING_EN, CNT_EN | 16, 12, 1, 1 | 23_test_observe.md R854 | 0 -/
  occPeriod : Nat := 0
  pcPeriod : Nat := 0
  ringEn : Bool := false
  cntEn : Bool := false
  /-- tick of the last HEARTBEAT | option 48 | 23_test_observe.md R851 | none -/
  hbAt : Option Nat := none
  /-- tick in which the OCC period in progress began; group of the next CNT messages, 0 to 2 | option 48, 2 | 23_test_observe.md R851 | none, 0 -/
  occAt : Option Nat := none
  cntGroup : Nat := 0
  /-- OCC_WINDOW and the 19 OCC_BUSY snapshots | 32, 19 × 32 | 23_test_observe.md R854 | 0 -/
  occWindow : Nat := 0
  occBusy : Vector Nat 19 := Vector.replicate 19 0
  /-- live window and occupancy counters | 32, 19 × 32 | 23_test_observe.md R854 | 0 -/
  liveWindow : Nat := 0
  liveBusy : Vector Nat 19 := Vector.replicate 19 0
deriving DecidableEq, Repr

/-! ## The Ocnoix die and the Slip Joint (chapter 12) -/

/-- A legally relevant parameter set (R474). -/
structure Lrps where
  version : Nat
  /-- FITTED bitmap -/
  fitted : Nat
  /-- OFFSET and GAIN of the 32 inputs, MDI0–15 then MDV0–15 -/
  offset : List Int
  gain : List Nat
  surgeFloor : List Nat
  tag : Bytes
deriving DecidableEq, Repr

/-- A firmware bank of the Ocnoix die (R475). -/
structure FwBank where
  version : Nat := 0
  /-- image bytes [0, LENGTH) -/
  image : Bytes := []
  /-- the KV tag verifies, and the bank is not marked invalid -/
  ok : Bool := false
deriving DecidableEq, Repr

/-- Per-channel metering state of the Ocnoix die. -/
structure Meter where
  /-- EIMP, EEXP | 64, 64 | 12_metrology.md R456, R463 | 0 (blank journal, log 1) -/
  eimp : Nat := 0
  eexp : Nat := 0
  /-- AIMP, AEXP remainders | 128, 128 | 12_metrology.md R456 | 0 (blank journal, log 1) -/
  aimp : Nat := 0
  aexp : Nat := 0
  /-- EIMP, EEXP at the start of the interval | 64, 64 | 12_metrology.md R466 | 0 -/
  eimp0 : Nat := 0
  eexp0 : Nat := 0
  /-- seconds measured in the interval and in the day | 16, 32 | 12_metrology.md R466, R469 | 0 -/
  secs : Nat := 0
  daySecs : Nat := 0
  /-- maxima and sums of the per-window rms values in the interval | 32 each | 12_metrology.md R469 | 0 -/
  vmax : Nat := 0
  imax : Nat := 0
  vsum : Nat := 0
  isum : Nat := 0
  /-- last live values VRMS, IRMS, P | 32, 32, 32 signed | 12_metrology.md R482 MEASURE | 0 -/
  vrms : Nat := 0
  irms : Nat := 0
  p : Int := 0
  /-- flags seen in the interval: STUCK, OVERRANGE, SUSPECT, NOT_FULL, XOM_LOST | 5 | 12_metrology.md R466 | false -/
  stuckSeen : Bool := false
  overSeen : Bool := false
  suspect : Bool := false
  notFull : Bool := false
  xomSeen : Bool := false
  /-- the same flags over the day | 5 | 12_metrology.md R466 (Daily) | false -/
  dayFlags : Nat := 0
  /-- CHAIN_FAULT, SATURATED | 1, 1 | 12_metrology.md R460, R463 | false -/
  chainFault : Bool := false
  saturated : Bool := false
  /-- health of MDIn and MDVn | 2, 2 | 12_metrology.md R454 | OK (R454) -/
  hi : Health := .ok
  hv : Health := .ok
deriving DecidableEq, Repr

/-- One register-journal entry of the Ocnoix die (R464, R491). -/
structure MetJournal where
  regs : List (Nat × Nat × Nat × Nat) := []
  mtime : Nat := 0
  sealOpen : Bool := false
  sealcnt : Nat := 0
  bseq : Nat := 0
  ptrs : List Nat := []
  sessions : Nat := 0
  keysLost : Bool := false
  bank : Nat := 0
  digest : Bytes := []
  /-- index of the next entry per area -/
  idx : List Nat := []
deriving DecidableEq, Repr

/-- A sent Slip Joint frame kept until acknowledged (R481). -/
structure SjFrame where
  lseq : Nat
  type : Nat
  payload : Bytes
  /-- session counter of a session frame -/
  ctr : Option Nat := none
  sends : Nat := 1
deriving DecidableEq, Repr

/-- A Slip Joint session at one end (R482). -/
structure SjSess where
  kTx : Bytes
  kRx : Bytes
  ctrTx : Nat := 0
  /-- next session counter expected -/
  ctrRx : Nat := 0
  live : Bool := false
deriving DecidableEq, Repr

/-- One end of the Slip Joint. -/
structure SjEnd where
  /-- link trained and up | 1 | 12_metrology.md R481 | false (R481) -/
  up : Bool := false
  /-- LSEQ of the next new frame | 16 | 12_metrology.md R481 | 0 (R481) -/
  lseq : Nat := 0
  /-- LSEQ expected next from the other end | 16 | 12_metrology.md R481 | 0 (R481) -/
  expect : Nat := 0
  /-- CREDIT last received and the ACK that came with it: frames this end may have beyond it | 4, 16 | 12_metrology.md R481 | 8, 0 (R481) -/
  credit : Nat := 8
  acked : Nat := 0
  /-- frames sent and not acknowledged, oldest first | list | 12_metrology.md R481 | empty -/
  unacked : List SjFrame := []
  /-- frames waiting for credit, oldest first | list | 12_metrology.md R481 | empty -/
  waiting : List SjFrame := []
  /-- session | option record | 12_metrology.md R482 | none -/
  sess : Option SjSess := none
  /-- Nm of the HELLO_M sent or received last | 128 | 12_metrology.md R482 | empty -/
  nm : Bytes := []
deriving DecidableEq, Repr

/-- A load in progress on the Ocnoix die (R474, R475). -/
structure MetLoad where
  kind : Nat
  total : Nat
  next : Nat
  data : Bytes
  /-- data of the last chunk accepted (24_coincidences.md R872) -/
  last : Bytes := []
deriving DecidableEq, Repr

/-- The Ocnoix die. -/
structure Met where
  /-- measuring (start-up done, no hold) | 1 | 12_metrology.md R487 | false -/
  running : Bool := false
  /-- metrology hold with its reason | option 2 | 12_metrology.md R488 | none -/
  hold : Option Nat := none
  /-- metrology seconds of powered time | 48 | 12_metrology.md R456, R490 | 0 -/
  sec : Nat := 0
  /-- MTIME | 32 | 12_metrology.md R468 | 0 (blank journal, log 1) -/
  mtime : Nat := 0
  /-- milliseconds of the MTIME second | 10 | 12_metrology.md R468 | 0 -/
  mfrac : Nat := 0
  /-- start of the day of the next daily entry | 32 | 12_metrology.md R466 | 0 -/
  dayStart : Nat := 0
  /-- MTIME of the last VMET loss | 32 | 12_metrology.md R464 | 0 -/
  lossAt : Nat := 0
  /-- the window in progress is not measured: XOM was taken back in it | 1 | 12_metrology.md R493 | false -/
  skipWin : Bool := false
  /-- TIME_UNSET | 1 | 12_metrology.md R468 | true (R468) -/
  timeUnset : Bool := true
  /-- rest of a slew, in ms | signed | 12_metrology.md R468 | 0 -/
  slew : Int := 0
  /-- per-channel metering | 16 records | 12_metrology.md R456 | as Meter -/
  m : Vector Meter 16 := Vector.replicate 16 {}
  /-- start of the current interval | 32 | 12_metrology.md R466 | 0 -/
  ivStart : Nat := 0
  /-- STATE bits seen over the interval: CRAZED, SUSPECT, XOM_LOST | 3 | 12_metrology.md R466, R494 | false -/
  ivCrazed : Bool := false
  ivXom : Bool := false
  /-- the same bits over the day | 2 | 12_metrology.md R466 (Daily), R494 | false -/
  dayCrazed : Bool := false
  dayXom : Bool := false
  /-- SEALCNT | 16 | 12_metrology.md R471 | 0 (blank journal, log 1) -/
  sealcnt : Nat := 0
  /-- the seal is OPEN | 1 | 12_metrology.md R471 | false: SEALED (blank journal; DESIGN CHOICE, log 7) -/
  sealOpen : Bool := false
  /-- SEAL_EXHAUSTED | 1 | 12_metrology.md R471 | false -/
  sealExh : Bool := false
  /-- SWID | 32 | 12_metrology.md R473 | 0 until computed -/
  swid : Nat := 0
  /-- BSEQ of the last block built | 64 | 12_metrology.md R465 | 0 (blank journal, log 1) -/
  bseq : Nat := 0
  /-- parameter set in force, previous copy, and the set that comes into force at the next window | 3 × option record | 12_metrology.md R474 | none (R489) -/
  lrps : Option Lrps := none
  prevLrps : Option Lrps := none
  nextLrps : Option Lrps := none
  /-- firmware banks A and B and the active one (0 A, 1 B) | 2 records, 1 | 12_metrology.md R475 | blank (log 1) -/
  fwA : FwBank := {}
  fwB : FwBank := {}
  fwActive : Nat := 0
  /-- load in progress | option record | 12_metrology.md R474, R475 | none -/
  load : Option MetLoad := none
  /-- Ocnoix OTP words that differ from zero | 64 × 2 × 32 | 19_keys_counters.md R718 | blank (log 1) -/
  otp : List (Nat × FuseReads) := []
  /-- KV, KA, KP | 3 × 128 | 12_metrology.md, Ocnoix identity and keys | blank: zero (log 1) -/
  kv : Bytes := zeros 16
  ka : Bytes := zeros 16
  kp : Bytes := zeros 16
  /-- the key fuse array reads all ones: keys zeroized | 1 | 12_metrology.md R490, R491 | false -/
  keysLost : Bool := false
  /-- spare chain substituted for this channel | option 4 | 12_metrology.md R460, R462 | none -/
  spareFor : Option Nat := none
  /-- SPARE_FAULT: the rotation does not run | 1 | 12_metrology.md R460, R462 | false -/
  spareFault : Bool := false
  /-- channel of the next slot | 4 | 12_metrology.md R461 | 0 -/
  slot : Nat := 0
  /-- channel of the last mismatch awaiting judgement, with whether the next slot is its check | option | 12_metrology.md R462 | none -/
  mism : Option (Nat × Bool) := none
  /-- CHAIN_SUBSTITUTED | 1 | 12_metrology.md R466 | false -/
  substituted : Bool := false
  /-- legal log: interval, daily and event entries, newest first | 3 lists | 12_metrology.md R466 | empty (log 1) -/
  ivLog : List Bytes := []
  dayLog : List Bytes := []
  evLog : List Bytes := []
  /-- index of the next entry per area | 3 × 32 | 12_metrology.md R466 | 0 (log 1) -/
  ivIdx : Nat := 0
  dayIdx : Nat := 0
  evIdx : Nat := 0
  /-- handover pointer per area | 3 × 32 | 12_metrology.md R483 | 0 (log 1) -/
  ivPtr : Nat := 0
  dayPtr : Nat := 0
  evPtr : Nat := 0
  /-- blocks sent: BSEQ, area, first index, count, covered by a HACK | list | 12_metrology.md R483 | empty -/
  blocks : List (Nat × LArea × Nat × Nat × Bool) := []
  /-- newest committed journal entry | option record | 12_metrology.md R464 | none (log 1) -/
  journal : Option MetJournal := none
  /-- a commit on VMET loss did not complete | 1 | 12_metrology.md R464 | false -/
  commitLost : Bool := false
  /-- session count | 64 | 12_metrology.md R482 | 0 (log 1) -/
  sessions : Nat := 0
  /-- Ocnoix grade | enum | 12_metrology.md R490; 07_tamper.md R246 | none -/
  grade : Grade := .none
  /-- Ocnoix tamper latches, oldest first | list | 07_tamper.md R246 | empty -/
  latches : List Trip := []
  /-- metrology second from which the quiet interval runs; self-check in progress; tripped | 32, 1, 1 | 12_metrology.md R490 | 0, false, false -/
  quietFrom : Nat := 0
  selfCheck : Bool := false
  selfCheckTrip : Bool := false
  /-- metrology seconds of Crazed entries (24 h) and of glitches (10 s), newest first | lists | 12_metrology.md R490 | empty -/
  crazedAt : List Nat := []
  glitchAt : List Nat := []
  /-- SURGE wire; metrology second of the last SURGE event | 1, option | 12_metrology.md R459, R485 | false, none -/
  surge : Bool := false
  /-- MPULSE selection and the second it was made in | enum, 32 | 12_metrology.md R477 | OFF (R477) -/
  mpSel : MpSel := .off
  mpAt : Nat := 0
  /-- pulse accumulator in u; pulses emitted; backlog | signed, 32, 10 | 12_metrology.md R478 | 0 -/
  mpAcc : Int := 0
  mpCount : Nat := 0
  mpBacklog : Nat := 0
  /-- read-out mode | 1 | 12_metrology.md R480 | false -/
  readout : Bool := false
  /-- metrology second in which the last session ended, or in which the die started | 48 | 12_metrology.md R480 | 0 -/
  sessEnd : Nat := 0
  /-- XOM in use (not lost) | 1 | 12_metrology.md R493 | false -/
  xom : Bool := false
  /-- its end of the Slip Joint | record | 12_metrology.md R481 | as SjEnd -/
  sj : SjEnd := {}
deriving DecidableEq, Repr

/-- The main die's end of the Slip Joint and what it keeps from it. -/
structure Sjm where
  /-- its end of the link | record | 12_metrology.md R481 | as SjEnd -/
  sj : SjEnd := {}
  /-- MID, SWID, SEALCNT and STATE of the last HELLO_O | 128, 32, 16, 16 | 12_metrology.md R482 | empty, 0 -/
  mid : Bytes := []
  swid : Nat := 0
  sealcnt : Nat := 0
  state : Nat := 0
  /-- payload of the last MEASURE | bytes | 24_coincidences.md R870 | empty -/
  measure : Bytes := []
  /-- METFAULT as accepted (true: asserted) and SEALSTATE (true: SEALED) | 1, 1 | 12_metrology.md R485 | METFAULT asserted, not SEALED: wires low (R485) -/
  metfault : Bool := true
  sealstate : Bool := false
  /-- presses that could not be delivered, saturating | 16 | 12_metrology.md R495 | 0 -/
  pressLost : Nat := 0
  /-- BSEQ of the blocks received whose LEGAL record is not yet in the retention ring | list | 12_metrology.md R483 | empty -/
  hacks : List Nat := []
  /-- domain that owns the METRO_LOAD in progress | option 4 | 21_applets.md R786 | none -/
  loadOwner : Option Nat := none
  /-- LOAD_RESULT for the METRO_LOAD caller | option bytes | 21_applets.md R786 | none -/
  loadResult : Option Bytes := none
deriving DecidableEq, Repr

/-! ## Output trace and the whole machine -/

/-- What the part puts on its links and ports, newest first in `State.out` (the model's own trace). -/
inductive Emit
  | burst (ch : Nat) (body : Bytes)
  | uplink (p : Port) (msg : Bytes)
  | record (p : Port) (r : Rec)
  | spy (kind : Nat) (body : Bytes)
  | slip (side : SjSide) (type : Nat) (payload : Bytes)
  | mpulse
  | announce (sel : MpSel)
  | readout (area : LArea) (frames : List Bytes)
deriving DecidableEq, Repr

/-- The block's whole state. -/
structure State where
  /-- commands waiting, first in first out | list | the model's own | empty -/
  pending : List Instr := []
  /-- number of the next free value | counter | the model's own field | DESIGN CHOICE 0 (log 8) -/
  freeCount : Nat := 0
  /-- messages sent, newest first | list | the model's own trace | empty (log 9) -/
  out : List Emit := []
  /-- valid rails | record | 04_power_clocks.md R132 | as Rails -/
  rails : Rails := {}
  /-- AO tick counter | 48 | 08_channels.md R286 | 0 (R286) -/
  tick : Nat := 0
  /-- CH_TICK_HI as captured | 16 | 08_channels.md R321 | 0 (R321) -/
  tickHi : Nat := 0
  /-- strap reading | record | 03_straps.md | as Straps -/
  straps : Straps := {}
  /-- binary straps | record | 03_straps.md R115 | as Bins -/
  bins : Bins := {}
  /-- clocks | record | 04_power_clocks.md R146 | as Clk -/
  clk : Clk := {}
  /-- islands and starts | record | 04_power_clocks.md R143 | as Pwr -/
  pwr : Pwr := {}
  /-- channels | 16 records | 08_channels.md | as Chan -/
  ch : Vector Chan 16 := Vector.replicate 16 {}
  /-- field links | 16 records | 10_link_sessions.md | as Link -/
  link : Vector Link 16 := Vector.replicate 16 {}
  /-- uplink | record | 11_uplink.md | as Upl -/
  upl : Upl := {}
  /-- fuses | record | 19_keys_counters.md R717 | as Fuses -/
  fuses : Fuses := {}
  /-- option-area copies 0 and 1 as they stand in the information block | 2 × bytes | 05_startup.md R180 | blank (log 1) -/
  opt : Vector Bytes 2 := Vector.replicate 2 []
  /-- lifecycle | record | 06_lifecycle.md | as Life -/
  life : Life := {}
  /-- attack sensing | record | 07_tamper.md | as Tamp -/
  tamp : Tamp := {}
  /-- Kiln | record | 22_kiln.md | as Kiln -/
  kiln : Kiln := {}
  /-- key store and counters | record | 19_keys_counters.md | as Ksm -/
  ksm : Ksm := {}
  /-- application cores | 2 records | 13_cores.md | as Core -/
  core : Vector Core 2 := Vector.replicate 2 {}
  /-- shared SRAM by address | 12 MiB of bytes | 13_cores.md R505 | nothing listed: zero (phase D wipes SRAM, R172) -/
  mem : Mem := []
  /-- local data memory of core 0 and core 1 | 2 × 256 KiB of bytes | 13_cores.md R506, R512 | nothing listed: zero (phase D wipes them, R512) -/
  ldm : Vector Mem 2 := Vector.replicate 2 []
  /-- shared-SRAM words that hold an uncorrectable error | list | 13_cores.md R513, R534 | empty -/
  memBad : List Nat := []
  /-- words of each local data memory that hold an uncorrectable error | 2 × list | 13_cores.md R512, R534 | empty -/
  ldmBad : Vector (List Nat) 2 := Vector.replicate 2 []
  /-- corrected SRAM errors; an uncorrectable error is recorded (source 16) | 16, 1 | 13_cores.md R513, R527, R534 | 0; width DESIGN CHOICE (log 4) -/
  memCorrected : Nat := 0
  memError : Bool := false
  /-- passes of the SRAM patrol scrubber longer than 24 h; no command makes one (log 67) | 16 | 24_coincidences.md R873 | 0; width DESIGN CHOICE (log 4) -/
  longScrubs : Nat := 0
  /-- interrupt sources that mark an event and stay pending until the Wheel serves them: bit 0 kernel tick, 14 grade change, 17 Ocnoix wires | 18 | 13_cores.md R527 | 0 (R503) -/
  irq : Nat := 0
  /-- access protection | record | 14_protection.md | as Prot -/
  prot : Prot := {}
  /-- engines' rings, in the order FAE, SAE, DIG, WMU, FLC, KSM, LNK, UPL, SJM, Kiln | 10 records | 15_rings.md R574 | OFF (R577) -/
  eng : Vector EngSt 10 := Vector.replicate 10 {}
  /-- AES engines | record | 16_cipher.md | as Aes -/
  aes : Aes := {}
  /-- digest engine | record | 17_digest.md | as Dig -/
  dig : Dig := {}
  /-- wide multiplier | record | 18_bignum.md | as Wmu -/
  wmu : Wmu := {}
  /-- flash | record | 20_flash.md | as Flc -/
  flc : Flc := {}
  /-- applet domains | 16 records | 21_applets.md | as App -/
  app : Vector App 16 := Vector.replicate 16 {}
  /-- self-test sequencer | record | 23_test_observe.md | as SelfT -/
  selft : SelfT := {}
  /-- Spyhole | record | 23_test_observe.md | as Spy -/
  spy : Spy := {}
  /-- Ocnoix die | record | 12_metrology.md | as Met -/
  met : Met := {}
  /-- Slip Joint, main end | record | 12_metrology.md R481 | as Sjm -/
  sjm : Sjm := {}
deriving DecidableEq, Repr

/-! ## Outcomes -/

/-- Faults of a step. No command of the block ends in one: every command has an effect or, where its event cannot
occur, leaves the state as it is. -/
inductive Fault
  /-- Raised by no meaning of this model (safe: it is never answered). -/
  | none
deriving DecidableEq, Repr

/-- Refusals of a step. -/
inductive Refusal
  /-- Raised by an arm of `exec` whose command has no meaning yet (safe: the run stops). -/
  | notModelled (mnemonic : String)
deriving DecidableEq, Repr

/-- The rings of one engine after reset: HALT_PART reads 1 on the KSM and Kiln rings (R577). -/
def resetRings (n : Nat) (halt : Bool) : EngSt := { rings := List.replicate n { haltPart := halt } }

/-- The engines after reset, in the order FAE, SAE, DIG, WMU, FLC, KSM, LNK, UPL, SJM, Kiln (R574). -/
def resetEngines : Vector EngSt 10 :=
  #v[resetRings 8 false, resetRings 2 false, resetRings 8 false, resetRings 4 false, resetRings 4 false,
     resetRings 2 true, resetRings 32 false, resetRings 2 false, resetRings 2 false, resetRings 1 true]

/-- The machine right after reset: a blank part before power (log 1); every other field has the value its docstring names. -/
def State.reset : State := { eng := resetEngines }

end Sys2Proof.Machine
end

