-- ==== Sys2Proof/Machine/Ops.lean ====
section
/-! DEFINITION. The named operations over the state that every family of commands uses: reading and writing one
channel, link, ring, applet or core; free values; the output trace; powered time and the Kiln's time; fuses;
memory. -/

namespace Sys2Proof

/-! ## Fuse reads and codes of the shared names -/

/-- Bitwise OR of the four reads. -/
def FuseReads.or (f : FuseReads) : Nat := f.pl ||| f.ph ||| f.rl ||| f.rh

/-- The primary copy is clean: its two reads agree (R174). -/
def FuseReads.cleanP (f : FuseReads) : Bool := f.pl == f.ph

/-- The redundant copy is clean. -/
def FuseReads.cleanR (f : FuseReads) : Bool := f.rl == f.rh

/-- Resolution of a trim word: the clean copy, or none where both are marginal or clean and unequal (R175). -/
def FuseReads.trim (f : FuseReads) : Option Nat :=
  match f.cleanP, f.cleanR with
  | true, true => if f.pl = f.rl then some f.pl else none
  | true, false => some f.pl
  | false, true => some f.rl
  | false, false => none

/-- Resolution of a fuse word of a kind; a reserved word is read as a security word, and is otherwise ignored (R717). -/
def FuseReads.resolve (k : FuseKind) (f : FuseReads) : Option Nat :=
  match k with
  | .trim => f.trim
  | _ => some f.or

/-- Both copies are marginal, or treated so. -/
def FuseReads.held (k : FuseKind) (f : FuseReads) : Bool := (f.resolve k).isNone

/-- Marginal copies of a word, 0 to 2. -/
def FuseReads.marginals (f : FuseReads) : Nat := (if f.cleanP then 0 else 1) + (if f.cleanR then 0 else 1)

/-- FIRING as records carry it (R415). -/
def Firing.code : Firing → Nat
  | .greenware => 0 | .bisque => 1 | .glazed => 2 | .fired => 3 | .sherd => 4

/-- GRADE as entries and records carry it (R804). -/
def Grade.code : Grade → Nat
  | .none => 0 | .watch => 1 | .crazed => 2 | .shattered => 3

/-- Class codes (R107). -/
def EClass.code : EClass → Nat
  | .u => 0 | .l => 1 | .h => 2 | .a => 3

/-- Partner states in the coding of the PARTNER record (R418). -/
def PState.code : PState → Nat
  | .present => 0 | .absent => 1 | .silent => 2 | .slow => 3 | .faulty => 4 | .hostile => 5

/-- Sherd causes (R418 IDENTITY). -/
def SherdCause.code : SherdCause → Nat
  | .tamper => 1 | .operator => 2 | .vendor => 3 | .factory => 4

/-- Class H or A. -/
def EClass.guarded : EClass → Bool
  | .h => true | .a => true | _ => false

/-- Hold reasons as START carries them (R418). -/
def HoldReason.code : HoldReason → Nat
  | .ringHaltPart => 1 | .noImage => 2 | .optionInvalid => 3 | .watchdogLoop => 4 | .kilnLoop => 5 | .fuseMarginal => 6

end Sys2Proof

namespace Sys2Proof.Machine

open Sys2Proof

/-- What a meaning answers. -/
abbrev Out := Host.Outcome State Fault Refusal

/-! ## Indexed parts of the state -/

/-- Channel `c`. -/
def State.chan (s : State) (c : Fin 16) : Chan := s.ch[c]

/-- Writes channel `c`. -/
def State.setCh (s : State) (c : Fin 16) (x : Chan) : State := { s with ch := s.ch.set c x }

/-- Updates channel `c`. -/
def State.updCh (s : State) (c : Fin 16) (f : Chan → Chan) : State := s.setCh c (f (s.chan c))

/-- Field link of channel `c`. -/
def State.lnk (s : State) (c : Fin 16) : Link := s.link[c]

/-- Writes the field link of channel `c`. -/
def State.setLnk (s : State) (c : Fin 16) (x : Link) : State := { s with link := s.link.set c x }

/-- Updates the field link of channel `c`. -/
def State.updLnk (s : State) (c : Fin 16) (f : Link → Link) : State := s.setLnk c (f (s.lnk c))

/-- Applet domain `d`. -/
def State.appOf (s : State) (d : Fin 16) : App := s.app[d]

/-- Updates applet domain `d`. -/
def State.updApp (s : State) (d : Fin 16) (f : App → App) : State :=
  { s with app := s.app.set d (f (s.appOf d)) }

/-- Application core `k`. -/
def State.coreOf (s : State) (k : Fin 2) : Core := s.core[k]

/-- Updates application core `k`. -/
def State.updCore (s : State) (k : Fin 2) (f : Core → Core) : State :=
  { s with core := s.core.set k (f (s.coreOf k)) }

/-- Contract of channel `c` in force, if any. -/
def State.contract (s : State) (c : Fin 16) : Option Contract := s.life.contracts[c]

/-- Applies `f` for each of CH0–CH15 in turn. -/
def State.eachCh (s : State) (f : Fin 16 → State → State) : State :=
  (List.finRange 16).foldl (fun t c => f c t) s

/-- Number of the engine in `State.eng` (R574). -/
def engIx : Eng → Fin 10
  | .fae => 0 | .sae => 1 | .dig => 2 | .wmu => 3 | .flc => 4
  | .ksm => 5 | .lnk => 6 | .upl => 7 | .sjm => 8 | .kiln => 9

/-- State of engine `e`. -/
def State.engOf (s : State) (e : Eng) : EngSt := s.eng[engIx e]

/-- Updates engine `e`. -/
def State.updEng (s : State) (e : Eng) (f : EngSt → EngSt) : State :=
  { s with eng := s.eng.set (engIx e) (f (s.engOf e)) }

/-- Ring `r` of engine `e`; an absent ring reads as a ring that is OFF. -/
def State.ring (s : State) (e : Eng) (r : Nat) : Ring := (s.engOf e).rings.getD r {}

/-! ## Association lists with a default -/

/-- The value listed under a key, or the default. -/
def lookupD {α : Type} (d : α) (k : Nat) : List (Nat × α) → α
  | [] => d
  | (j, v) :: l => if j = k then v else lookupD d k l

/-- Lists `v` under `k`, keys rising, one entry a key; a value equal to the default is not listed. -/
def putD {α : Type} [DecidableEq α] (d : α) (k : Nat) (v : α) : List (Nat × α) → List (Nat × α)
  | [] => if v = d then [] else [(k, v)]
  | (j, w) :: l =>
    if j < k then (j, w) :: putD d k v l
    else if j = k then (if v = d then l else (k, v) :: l)
    else if v = d then (j, w) :: l else (k, v) :: (j, w) :: l

/-! ## Trace and free values -/

/-- Puts a message on the output trace (log 9). -/
def State.emit (s : State) (e : Emit) : State := { s with out := e :: s.out }

/-- Takes the number of a fresh free value (log 8). -/
def State.tick1 (s : State) : State := { s with freeCount := s.freeCount + 1 }

/-! ## Memory of the main die (chapter 13) -/

/-- The byte an address reads as: memory lists only cells that differ from zero. -/
def readByte (m : Mem) (a : Nat) : Byte := lookupD 0 a m

/-- Writes one byte, keeping the canonical form. -/
def writeByte (m : Mem) (a : Nat) (b : Byte) : Mem := putD 0 a b m

/-- Reads `n` bytes from address `a` upwards. -/
def readBytes (m : Mem) (a n : Nat) : Bytes := (List.range n).map (fun i => readByte m (a + i))

/-- Writes a byte string from address `a` upwards. -/
def writeBytes (m : Mem) (a : Nat) : Bytes → Mem
  | [] => m
  | b :: l => writeBytes (writeByte m a b) (a + 1) l

/-- The canonical form of memory: addresses strictly rising, no listed byte zero. -/
def Mem.wf : Mem → Bool
  | [] => true
  | [(_, b)] => b != 0
  | (a, b) :: (a', b') :: l => b != 0 && decide (a < a') && Mem.wf ((a', b') :: l)

/-! ## Which islands run (chapter 04) -/

/-- VIO and VCORE are both valid. -/
def State.railsOk (s : State) : Bool := s.rails.vao && s.rails.vio && s.rails.vcore

/-- The main island is Running. -/
def State.mainRuns (s : State) : Bool := s.pwr.main == .running

/-- The main island is Running or in Retention. -/
def State.mainUp (s : State) : Bool := s.pwr.main == .running || s.pwr.main == .retention

/-- The Kiln runs, from its ROM or in full. -/
def State.kilnRuns (s : State) : Bool := s.pwr.kiln == .running || s.pwr.kiln == .rom

/-- The Kiln runs or can be woken: its rails are valid, nRST is high and no power-fail switch-off holds it off. -/
def State.kilnReady (s : State) : Bool :=
  s.kilnRuns || (s.railsOk && !s.bins.nrstLow && !s.pwr.flushDone && s.pwr.kiln == .off)

/-- Crazed or Shattered is in force. -/
def State.crazed (s : State) : Bool := s.tamp.grade == .crazed || s.tamp.grade == .shattered

/-- The grade as messages and records show it: an open door keeps Watch in force (R250; DEDUCED, log 63). -/
def State.gradeNow (s : State) : Nat :=
  match s.tamp.grade with | .none => if s.bins.doorOpen then 1 else 0 | g => g.code

/-- A provisional hold is in force: an anomaly's window is open and no grade above Watch has ended the hold (R257, R272). -/
def State.provisional (s : State) : Bool := !s.tamp.holds.isEmpty && !s.crazed

/-- The Wheel runs: the start has completed its phases on a Running main island, in a firing that has a Wheel (R189). -/
def State.wheelRuns (s : State) : Bool :=
  s.pwr.main == .running && s.pwr.phase == .done && s.life.firing != .greenware && s.life.firing != .sherd

/-- The Wheel has started and is running or asleep in Retention. -/
def State.wheelUp (s : State) : Bool :=
  s.mainUp && s.pwr.phase == .done && s.life.firing != .greenware && s.life.firing != .sherd

/-- A wake event: an island that sleeps wakes (R160, R162). The main island leaves Retention for Running. -/
def State.wakeMain (s : State) : State :=
  if s.pwr.main == .retention then { s with pwr := { s.pwr with main := .running, mainWdogFrom := some s.tick } } else s

/-- A wake event of the Kiln: a Kiln that has switched itself off runs again (R161). -/
def State.wakeKiln (s : State) : State :=
  if s.kilnReady && s.pwr.kiln == .off then { s with pwr := { s.pwr with kiln := .running } } else s

/-! ## Fuses (chapter 05) -/

/-- Kind of a main-die fuse word (R717); LC_STATE, the lifecycle word, resolves as a security word (R175). -/
def fuseKind (w : Nat) : FuseKind :=
  if w = 0x00 ∨ w = 0x01 then .security
  else if w = 0x02 ∨ (0x04 ≤ w ∧ w ≤ 0x07) then .trim
  else if 0x08 ≤ w ∧ w ≤ 0x3C then .security
  else if 0x40 ≤ w ∧ w ≤ 0x5F then .trim
  else if 0x80 ≤ w ∧ w ≤ 0xFF then .security
  else .reserved

/-- The four reads of main-die fuse word `w`. -/
def State.fuseReads (s : State) (w : Nat) : FuseReads := lookupD {} w s.fuses.words

/-- Value of fuse word `w` as resolved at the last start that read the fuses. -/
def State.fuse (s : State) (w : Nat) : Nat := lookupD 0 w s.fuses.res

/-- The 128-bit device identity, 16 bytes (R717). -/
def State.deviceId (s : State) : Bytes :=
  beBytes 4 (s.fuse 4) ++ beBytes 4 (s.fuse 5) ++ beBytes 4 (s.fuse 6) ++ beBytes 4 (s.fuse 7)

/-- Position of the ratchet: index of the highest burned bit of words 0x80–0xFF plus 1, or 0 (R713). -/
def State.ratchet (s : State) : Nat :=
  s.fuses.res.foldl (fun r e => if 0x80 ≤ e.1 ∧ e.1 ≤ 0xFF ∧ e.2 ≠ 0 then max r ((e.1 - 0x80) * 32 + Nat.log2 e.2 + 1) else r) 0

/-- The conditions under which the Kiln programs a fuse copy (R214). -/
def State.burnOk (s : State) : Bool :=
  s.railsOk && s.kilnRuns && !s.bins.pfailLow && decide (s.bins.pfailFrom + 3277 ≤ s.tick) && !s.crazed
    && !s.pwr.flushing

/-- Burns bits of a fuse word in both copies, clean at both margins, and takes them into the resolved value. -/
def State.burn (s : State) (w mask : Nat) : State :=
  let f := s.fuseReads w
  { s with fuses := { s.fuses with
      words := putD {} w ⟨f.pl ||| mask, f.ph ||| mask, f.rl ||| mask, f.rh ||| mask⟩ s.fuses.words
      res := putD 0 w (s.fuse w ||| mask) s.fuses.res } }

/-! ## Codes shared by records, logs and messages -/

/-- The firing named by the highest programmed bit of a resolved LC_STATE value (R212, R213). -/
def firingOf (v : Nat) : Firing :=
  if 8 ≤ v then .sherd else if 4 ≤ v then .fired else if 2 ≤ v then .glazed else if 1 ≤ v then .bisque else .greenware

/-- The regular patterns of LC_STATE (R213). -/
def lcRegular (v : Nat) : Bool := v % 8 ∈ [0, 1, 3, 7] && decide (v < 16)

/-- Start causes in code order (R170). -/
def StartCause.code : StartCause → Nat
  | .cold => 1 | .railReturn => 2 | .powerFail => 3 | .external => 4 | .kilnWdog => 5 | .mainWdog => 6

/-- A bit list, index 0 first, as a number. -/
def bitsOf (p : Fin 16 → Bool) : Nat := (List.finRange 16).foldl (fun n c => n + bitOf (p c) c) 0

/-! ## Powered time and the Kiln's time (chapter 22) -/

/-- POWERED: the base plus the AO tick counter (R805). -/
def State.powered (s : State) : Nat := s.kiln.poweredBase + s.tick

/-- The part of a slew made after `n` ticks, in 1/65 536 s: |d| / 60 per second up to 30 ms, else 500 ppm (R811). -/
def slewDone (d : Int) (n : Nat) : Int :=
  let m := d.natAbs
  let made := if m ≤ 1966 then m * n / (60 * 32768) else n / 1000
  d.sign * (min m made : Nat)

/-- Kiln time at tick `k` in 1/65 536 s since 2000-01-01, by anchor, rate correction f (parts per 10⁹) and slew (R810, R811). -/
def Kiln.timeAt (x : Kiln) (k : Nat) : Int :=
  let dk : Int := (k : Int) - x.anchorTick
  let base := (x.anchor : Int) + dk * 2 * (1000000000 + x.rate) / 1000000000
  match x.slew with
  | none => base
  | some (d, k0) => base + slewDone d (k - k0)

/-- Seconds of the Kiln's time now; 0xFFFF_FFFF while UNSET (R804, R415). -/
def State.timeSecs (s : State) : Nat :=
  match s.kiln.timeSt with
  | .unset => 0xFFFFFFFF
  | _ => ((s.kiln.timeAt s.tick) / 65536).toNat % 2 ^ 32

/-- TIME_Q (R810, R415). -/
def State.timeQ (s : State) : Nat :=
  match s.kiln.timeSt with
  | .unset => 0
  | .carried => if s.kiln.unsignedTime then 3 else 2
  | .disciplined => if s.kiln.unsignedTime then 3 else 1

/-- An instant `k` ticks or more after a recorded tick. -/
def State.since (s : State) (t k : Nat) : Bool := decide (t + k ≤ s.tick)

/-- Moves the tick counter on to tick `k`, never back, holding at its largest value (R286). -/
def State.advanceTo (s : State) (k : Nat) : State := { s with tick := max s.tick (min k (2 ^ 48 - 1)) }

end Sys2Proof.Machine
end

