-- ==== Sys2Proof/Machine/Records.lean ====
section
/-! DEFINITION. What the part writes down: the counter journal (chapter 19), the Kiln Log (chapter 22) and Ifesan
records with their retention ring (chapter 11). -/

namespace Sys2Proof.Machine

open Sys2Proof

/-! ## Monotonic counters and their journal (R706–R716) -/

/-- Largest value of a counter (R707). -/
def cntMax : Nat := 2 ^ 64 - 1

/-- Value of counter `k`. -/
def Ksm.cntOf (x : Ksm) (k : Nat) : Nat := lookupD 0 k x.cnt

/-- Sets counter `k`. -/
def Ksm.setCnt (x : Ksm) (k v : Nat) : Ksm := { x with cnt := putD 0 k v x.cnt }

/-- Counter `k` is in SYNC mode. -/
def Ksm.isSync (x : Ksm) (k : Nat) : Bool := x.sync.contains k

/-- A compaction of the present values with ratchet value `r` into the next block (R712). -/
def Ksm.compact (x : Ksm) (r : Nat) : Ksm :=
  { x with comp := some ⟨r, x.cnt, x.sync⟩, entries := [], entryPages := 0, badPage := false }

/-- Programs the journal tail as one entry page; an empty tail programs nothing (R711). -/
def Ksm.program (x : Ksm) : Ksm :=
  if x.tail.isEmpty then x
  else { x with entries := x.entries ++ x.tail, tail := [], entryPages := x.entryPages + 1 }

/-- A compaction that is due is made, unless the flush or the entry into Hold is in progress (R712, R713): at 65 536
entries it first burns ratchet bit R, and waits while R214 forbids the burn; when the block's 494 entry pages are
full it is made with the ratchet value in force. With the ratchet at 4096 each is a Watch event; no code and no detail are stated for its
entry, which the Kiln takes up with the work that waits. -/
def State.compactDue (s : State) : State :=
  let r := s.ratchet
  if s.pwr.flushing then s
  else if 65536 ≤ s.ksm.sinceRatchet then
    if r = 4096 then
      { s with ksm := { s.ksm.compact 4096 with sinceRatchet := 0, compWait := false }, freeCount := s.freeCount + 1
               kiln := { s.kiln with todo := s.kiln.todo ++
                 [{ code := Config.ratchetWatchCode, grade := 1, detail := Config.freeBytes s.freeCount 20, report := true }] } }
    else if s.burnOk then
      let t := s.burn (0x80 + r / 32) (2 ^ (r % 32))
      { t with ksm := { t.ksm.compact (r + 1) with sinceRatchet := 0, compWait := false } }
    else { s with ksm := { s.ksm with compWait := true } }
  else if 494 ≤ s.ksm.entryPages then { s with ksm := s.ksm.compact r }
  else s

/-- Programs the tail, then makes a compaction that is due. -/
def State.journalProgram (s : State) : State := State.compactDue { s with ksm := s.ksm.program }

/-- Adds an entry to the tail; a full tail of 30 entries is programmed (R711). -/
def State.journalAdd (s : State) (e : JEntry) : State :=
  let t := { s with ksm := { s.ksm with tail := s.ksm.tail ++ [e], sinceRatchet := s.ksm.sinceRatchet + 1 } }
  if 30 ≤ t.ksm.tail.length then t.journalProgram else t

/-- CNT_INC: adds 1 with its entry; on a SYNC counter the tail is programmed at once (R708). -/
def State.cntInc (s : State) (k : Nat) : State :=
  let v := s.ksm.cntOf k + 1
  let t := { s with ksm := s.ksm.setCnt k v }.journalAdd (.inc k v)
  if s.ksm.isSync k then t.journalProgram else t

/-- The entries of an advance: delta at most 16 each (R708). -/
def State.advanceEntries : (n : Nat) → State → (k d : Nat) → State
  | 0, s, _, _ => s
  | n + 1, s, k, d =>
    let step := min d 16
    let v := s.ksm.cntOf k + step
    State.advanceEntries n ({ s with ksm := s.ksm.setCnt k v }.journalAdd (.advance k v)) k (d - step)

/-- CNT_ADVANCE: adds `d` as ⌈d / 16⌉ entries and programs the tail (R708). -/
def State.cntAdvance (s : State) (k d : Nat) : State := (State.advanceEntries (ceilDiv d 16) s k d).journalProgram

/-! ## The Kiln Log (R804–R808) -/

/-- Bytes [0, 48) of an entry (R804). -/
def LogEntry.head (e : LogEntry) : Bytes :=
  beBytes 2 e.code ++ beBytes 1 e.grade ++ beBytes 1 e.source ++ beBytes 8 e.lseq ++ beBytes 6 e.powered
    ++ beBytes 1 e.cause ++ [0] ++ beBytes 4 e.time ++ beBytes 1 e.timeQ ++ zeros 3 ++ padTo 20 e.detail

/-- The 64 bytes of an entry, CHAIN last. -/
def LogEntry.bytes (e : LogEntry) : Bytes := e.head ++ e.chain

/-- CHAIN of an entry: the first 16 bytes of SHA-256 over the previous CHAIN and bytes [0, 48) (R804). -/
def chainOf (prev : Bytes) (e : LogEntry) : Bytes := (sha2 .sha256 (prev ++ e.head)).take 16

/-- The entries of the tail, oldest first, with the page each is programmed into: eight to a page. -/
def pageEntries (p0 : Nat) : (i : Nat) → List LogEntry → List LogEntry
  | _, [] => []
  | i, e :: l => { e with page := p0 + i / 8 } :: pageEntries p0 (i + 1) l

/-- Programs the tail into Kiln Log pages (R806) and keeps the ring of twelve blocks, one always erased: eleven
blocks hold entries, and entering the erased block erases the oldest (R807). -/
def Kiln.programTail (x : Kiln) : Kiln :=
  if x.tail.isEmpty then x
  else
    let pages := x.logPages + ceilDiv x.tail.length 8
    let cur := (pages - 1) / 512
    { x with
      log := ((pageEntries x.logPages 0 x.tail.reverse).reverse ++ x.log).filter (fun e => decide (cur < e.page / 512 + 11))
      tail := []
      logPages := pages }

/-- Programs the tail unless a provisional hold makes the program wait (R806). -/
def State.programLog (s : State) : State := if s.provisional then s else { s with kiln := s.kiln.programTail }

/-- Builds the next entry (R804). -/
def State.nextEntry (s : State) (code grade source : Nat) (detail : Bytes) : LogEntry :=
  let e : LogEntry :=
    { code := code, grade := grade, source := source, lseq := s.kiln.nextLseq, powered := s.powered
      cause := s.pwr.cause.code, time := s.timeSecs, timeQ := s.timeQ, detail := detail }
  { e with chain := chainOf s.kiln.chain e }

/-- Writes an entry into the tail of a Kiln that runs: it is programmed at once when the tail is full, for GRADE 2 or
3, and for a VCORE glitch trip, `now` (R806). -/
def State.writeEntry (s : State) (code grade source : Nat) (detail : Bytes) (now : Bool) : State :=
  let e := s.nextEntry code grade source detail
  let t := { s with kiln := { s.kiln with tail := e :: s.kiln.tail, nextLseq := s.kiln.nextLseq + 1, chain := e.chain } }
  if decide (8 ≤ t.kiln.tail.length) || decide (2 ≤ grade) || now then t.programLog else t

/-! ## Ifesan records (R415–R420) -/

/-- The 48-byte record header (R415). -/
def recHead (dev : Bytes) (r : Rec) : Bytes :=
  beBytes 1 r.type ++ [1] ++ beBytes 2 r.body.length ++ dev ++ beBytes 8 r.seq ++ beBytes 4 r.epoch
    ++ beBytes 6 r.tick ++ beBytes 4 r.time ++ beBytes 1 r.timeQ ++ beBytes 1 r.firing ++ beBytes 2 r.cabinet
    ++ beBytes 1 (bitOf r.held 0) ++ beBytes 1 r.sigalg

/-- A whole record: header, BODY, SIG. -/
def recBytes (dev : Bytes) (r : Rec) : Bytes := recHead dev r ++ r.body ++ r.sig

/-- A RECORD message: the envelope of R414 before the record. -/
def recMessage (dev : Bytes) (r : Rec) : Bytes := [0x49, 0x46, 0x01, 0x01] ++ recBytes dev r

/-- Length of a record with its signature (R415). -/
def recLen (r : Rec) : Nat :=
  48 + r.body.length + (match r.sigalg with | 0 => 0 | 1 => 64 | _ => 96)

/-- Whole ring pages of a record (R437). -/
def recPages (r : Rec) : Nat := ceilDiv (recLen r + 8) 512

/-- A record as built now, without SEQ and signature. -/
def State.buildRec (s : State) (type : Nat) (body : Bytes) (held : Bool) : Rec :=
  { type := type, body := body, epoch := s.ksm.cntOf 0 % 2 ^ 32, tick := s.tick, time := s.timeSecs, timeQ := s.timeQ
    firing := s.life.firing.code, cabinet := s.straps.cabinet, held := held, sigalg := if type = 0x0B then 2 else 1 }

/-- Slot `k` of the key store. -/
def Ksm.slot (x : Ksm) (k : Nat) : Slot := lookupD {} k x.slots

/-- The slot that signs a record: the record key, or the attestation key for SIGALG 2 (R415). -/
def sigSlot (r : Rec) : Nat := if r.sigalg = 2 then 2 else 1

/-- The DRBG serves requests: instantiated, and no reseed due that a failed TRNG prevents (R700). -/
def Ksm.drbgOk (x : Ksm) : Bool := x.drbgReady && !(x.reseedDue && x.trng == .failed)

/-- One generate request: a due reseed is made first from a TRNG that has not failed, and every 65 536 requests make one due
(R700). -/
def Ksm.request (x : Ksm) : Ksm :=
  let y := if (x.reseedDue || decide (65536 ≤ x.drbgReq)) && x.trng != .failed then { x with drbgReq := 0, reseedDue := false } else x
  { y with drbgReq := y.drbgReq + 1, reseedDue := y.reseedDue || decide (65536 ≤ y.drbgReq + 1) }

/-- A generate request of the part: a fresh free value and the request counted. -/
def State.drbg (s : State) : State := { s.tick1 with ksm := s.ksm.request }

/-- Signs a record: ECDSA over bytes [0, 48 + BODY_LEN) with a DRBG nonce (R415, R416). -/
def State.sign (s : State) (r : Rec) : State × Rec :=
  let k := sigSlot r
  let p384 := r.sigalg == 2
  let d := sha2 (if p384 then .sha384 else .sha256) (recHead s.deviceId r ++ r.body)
  (s.drbg, { r with sig := Config.ecdsa p384 (s.ksm.slot k).mat d s.freeCount })

/-- The Wheel can build and sign a retained record now: it runs, no grade seals or hold holds the key store, the
record key is LIVE, the DRBG serves, and no compaction waits (R713) and SEQ is not exhausted. -/
def State.canSign (s : State) (r : Rec) : Bool :=
  s.mainUp && !s.crazed && !s.provisional && s.ksm.drbgOk && (s.ksm.slot (sigSlot r)).st == .live && !s.ksm.compWait

/-- Ring block of a page. -/
def ringBlock (page : Nat) : Nat := page / 512

/-- Erases ring block `b`: the records in it go; unacknowledged ones are dropped and counted, and a GAP of cause 3 from
the lowest to the highest SEQ dropped is due (R438, R439). -/
def Upl.eraseBlock (u : Upl) (b : Nat) : Upl :=
  let gone := u.ring.filter (fun r => ringBlock r.page == b && !r.acked)
  let kept := u.ring.filter (fun r => ringBlock r.page != b)
  match gone with
  | [] => { u with ring := kept }
  | r :: l =>
    let lo := l.foldl (fun a x => min a x.seq) r.seq
    let hi := l.foldl (fun a x => max a x.seq) r.seq
    { u with
      ring := kept
      dropped := min (2 ^ 32 - 1) (u.dropped + gone.length)
      todo := u.todo ++ [(0x0A, beBytes 8 lo ++ beBytes 8 hi ++ [3] ++ zeros 3 ++ beBytes 4 gone.length)] }

/-- The ack floor: the lowest SEQ that is not acknowledged (R440); `next` when every record held is. -/
def Upl.floorOf (u : Upl) (next : Nat) : Nat :=
  (u.ring.filter (fun r => !r.acked)).foldl (fun a r => min a r.seq) next

/-- Writes a record at the write pointer, whole within one block; entering a block makes the next one erased (R437–R439). -/
def Upl.append (u : Upl) (r : Rec) : Upl :=
  let n := recPages r
  let b := ringBlock u.wptr
  let spill := decide (512 < u.wptr % 512 + n)
  let at_ := if spill then ((b + 1) % 32) * 512 else u.wptr
  let u1 := if spill then u.eraseBlock ((b + 2) % 32) else u
  let e := at_ + n
  let u2 := if e % 512 = 0 then u1.eraseBlock ((ringBlock at_ + 2) % 32) else u1
  { u2 with ring := u2.ring ++ [{ r with page := at_ }], wptr := e % 16384 }

/-- Builds, numbers, signs and retains one record; at SEQ 2⁶⁴ − 1 none is built, and COUNTER_EXHAUSTED is logged
with counter index 1 (R417, R435). -/
def State.retain (s : State) (r : Rec) : State :=
  if cntMax ≤ s.ksm.cntOf 1 then s.wakeKiln.writeEntry 0x0803 0 0 (beBytes 2 1) false
  else
    let s1 := s.cntInc 1
    let (s2, r2) := s1.sign { r with seq := s1.ksm.cntOf 1 }
    { s2 with upl := s2.upl.append r2 }

/-- The part reports under record TYPE: nothing in Greenware and Sherd (R210); in Crazed the record is built HELD and
takes SEQ and signature at clearing (R445); while the Wheel cannot sign it waits. The main island is woken. -/
def State.report (s : State) (type : Nat) (body : Bytes) : State :=
  let s := s.wakeMain
  if s.life.firing = .greenware ∨ s.life.firing = .sherd then s
  else if s.tamp.grade = .crazed ∧ s.mainUp then
    { s with upl := { s.upl with held := s.upl.held ++ [s.buildRec type body true] } }
  else
    let r := s.buildRec type body false
    if s.canSign r then s.retain r else { s with upl := { s.upl with todo := s.upl.todo ++ [(type, body)] } }

/-- Builds the records that wait, oldest first, once the Wheel can sign them; HELD records come first (R445). -/
def State.drainReports (s : State) : State :=
  if s.crazed || s.provisional || !s.mainUp then s
  else
    let held := s.upl.held
    let todo := s.upl.todo
    let s1 := { s with upl := { s.upl with held := [], todo := [] } }
    let s2 := held.foldl (fun t r => if t.canSign r then t.retain r else { t with upl := { t.upl with held := t.upl.held ++ [r] } }) s1
    todo.foldl (fun t e => t.report e.1 e.2) s2

/-! ## Logging and reporting -/

/-- The part logs an entry, and reports it as a LOG record where `rep` (R420). While the Kiln can neither run nor be
woken the entry waits for it. -/
def State.logEv (s : State) (code grade source : Nat) (detail : Bytes) (rep : Bool) (now : Bool := false) : State :=
  if s.kilnReady then
    let s0 := s.wakeKiln
    let e := s0.nextEntry code grade source detail
    let s1 := s0.writeEntry code grade source detail now
    if rep then s1.report 0x09 e.bytes else s1
  else { s with kiln := { s.kiln with todo := s.kiln.todo ++ [{ code := code, grade := grade, source := source, detail := detail, report := rep }] } }

/-- The part logs an entry of the Kiln with no grade. -/
def State.klog (s : State) (code : Nat) (detail : Bytes) : State := s.logEv code 0 0 detail false

/-- The part logs and reports an entry of the Kiln with no grade. -/
def State.klogRep (s : State) (code : Nat) (detail : Bytes) : State := s.logEv code 0 0 detail true

/-- A Watch event with an entry of its own: logged with GRADE 1 and reported (R250, R909). -/
def State.watch (s : State) (code : Nat) (detail : Bytes) : State := s.logEv code 1 0 detail true

/-- The Wheel logs through LOG_WRITE: SOURCE 1 (R803). -/
def State.wlog (s : State) (code grade : Nat) (detail : Bytes) (rep : Bool) : State := s.logEv code grade 1 detail rep

/-- Entries that waited for the Kiln are written, oldest first. -/
def State.drainLog (s : State) : State :=
  if s.kilnReady then
    let l := s.kiln.todo
    l.foldl (fun t p => t.logEv p.code p.grade p.source p.detail p.report) { s with kiln := { s.kiln with todo := [] } }
  else s

/-- The CLOSE entry, the tail programmed: the journal's part of the flush (R711). -/
def State.journalClose (s : State) : State :=
  let t := s.journalAdd .closeS
  { t with ksm := t.ksm.program }

/-- Changes the time reference to a state, logging a change of TIME_Q as TIME_QUALITY (R811). -/
def State.setTimeSt (s : State) (f : Kiln → Kiln) : State :=
  let q := s.timeQ
  let t := { s with kiln := f s.kiln }
  if t.timeQ = q then t else t.klog 0x0602 (beBytes 1 q ++ beBytes 1 t.timeQ)

/-! ## The Spyhole (R849–R853) -/

/-- One Spyhole frame (R849). -/
def spyFrame (type seq : Nat) (payload : Bytes) : Bytes :=
  let inner := beBytes 1 type ++ beBytes 1 payload.length ++ beBytes 1 seq ++ payload
  [0xA5] ++ inner ++ beBytes 4 (crc32 inner)

/-- The firing lets the Spyhole send a message type (R853); `lifecycle` marks an EVENT of kind LIFECYCLE, `pcGlazed` the
option flag PC_IN_GLAZED. -/
def spyAllowed (f : Firing) (type : Nat) (lifecycle pcGlazed : Bool) : Bool :=
  match f with
  | .greenware => true
  | .bisque => true
  | .glazed => type != 6 || pcGlazed
  | .fired => type != 6
  | .sherd => type == 1 || (type == 2 && lifecycle)

/-- SPY_FLAGS.PC_IN_GLAZED of the chosen option copy; the test section's layout is R843's. -/
def State.pcInGlazed (s : State) : Bool :=
  match s.pwr.optCopy with
  | none => false
  | some k => ((if k = 0 then s.opt[0] else s.opt[1]).getD 0x46 0).getLsbD 0

/-- Enqueues a message; a Kiln held in its ROM sends only HEARTBEAT and EVENT (R858); above a fill of 3072 bytes only HEARTBEAT and EVENT; one that does not fit is dropped and counted
(R850). Enqueuing wakes the Kiln. -/
def State.spySend (s : State) (type : Nat) (payload : Bytes) (lifecycle : Bool := false) : State :=
  if !spyAllowed s.life.firing type lifecycle s.pcInGlazed then s
  else
    let n := payload.length + 10
    let drop := { s with spy := { s.spy with lost := sat16 s.spy.lost } }
    if s.pwr.kiln == .rom && !(type == 1 || type == 2) then s
    else if !s.kilnReady then drop
    else if (3072 < s.spy.fill && !(type == 1 || type == 2)) || 4096 < s.spy.fill + n then drop
    else
      let t := s.wakeKiln
      { t with spy := { t.spy with seq := (t.spy.seq + 1) % 256, fill := t.spy.fill + n } }.emit
        (.spy type (spyFrame type t.spy.seq payload))

/-- An EVENT message (R851). -/
def State.spyEvent (s : State) (kind code index grade tick : Nat) (detail : Bytes) : State :=
  s.spySend 2 (beBytes 1 kind ++ beBytes 1 code ++ beBytes 1 index ++ beBytes 1 grade ++ beBytes 6 tick ++ detail) (kind == 3)

/-! ## Rings (R577, R851) -/

/-- STATE as STEM_RING_STAT codes it (R577). -/
def ringStCode : RingSt → Nat
  | .off => 0 | .running => 1 | .stopping => 2 | .halted => 3 | .resetting => 4

/-- A RING message for ring `k` of engine `e` (R851). -/
def State.ringMsg (s : State) (e : Eng) (k : Nat) : State :=
  let r := s.ring e k
  s.spySend 4 (beBytes 1 (engIx e).val ++ beBytes 1 k ++ beBytes 1 (ringStCode r.st) ++ beBytes 1 r.reason ++ beBytes 2 r.prod ++ beBytes 2 r.cons
    ++ beBytes 2 r.fetch)

/-- Updates ring `k` of engine `e`; an absent ring is not changed. A change of STATE is shown on the Spyhole (R851). -/
def State.updRing (s : State) (e : Eng) (k : Nat) (f : Ring → Ring) : State :=
  let t := s.updEng e (fun x => { x with rings := x.rings.modify k f })
  if (t.ring e k).st = (s.ring e k).st then t else t.ringMsg e k

end Sys2Proof.Machine
end

