-- ==== Sys2Proof/Machine/ChanOps.lean ====
section
/-! DEFINITION. One channel's machinery in the AO island (chapter 08) and its pads (chapter 02): events, the driven
FEN level, windows, freezes, writes of the Wheel, function switches, retirement and return. -/

namespace Sys2Proof.Machine

open Sys2Proof

/-! ## Events (R287–R290) -/

def evDmdRise : Nat := 0x01
def evDmdFall : Nat := 0x02
def evFbkRise : Nat := 0x03
def evFbkFall : Nat := 0x04
def evFenRise : Nat := 0x05
def evFenFall : Nat := 0x06
def evConfOk : Nat := 0x07
def evConfLate : Nat := 0x08
def evMismatch : Nat := 0x09
def evHbExpired : Nat := 0x0A
def evHoldExpired : Nat := 0x0B
def evFreezeOn : Nat := 0x0C
def evFreezeOff : Nat := 0x0D
def evRetired : Nat := 0x0E
def evReturned : Nat := 0x0F
def evServiceEntry : Nat := 0x10

/-- Some freeze source is active. -/
def Freeze.any (f : Freeze) : Bool := f.notick || f.provisional || f.crazed || f.main || f.pfail || f.exchange

/-- Some source other than EXCHANGE is active. -/
def Freeze.others (f : Freeze) : Bool := f.notick || f.provisional || f.crazed || f.main || f.pfail

/-- PROVISIONAL is the only active source. -/
def Freeze.provisionalAlone (f : Freeze) : Bool :=
  f.provisional && !(f.notick || f.crazed || f.main || f.pfail || f.exchange)

/-- One source. -/
def Freeze.get (f : Freeze) : FreezeSrc → Bool
  | .notick => f.notick | .provisional => f.provisional | .crazed => f.crazed
  | .main => f.main | .pfail => f.pfail | .exchange => f.exchange

/-- Sets or releases one source. -/
def Freeze.put (f : Freeze) (v : Bool) : FreezeSrc → Freeze
  | .notick => { f with notick := v } | .provisional => { f with provisional := v } | .crazed => { f with crazed := v }
  | .main => { f with main := v } | .pfail => { f with pfail := v } | .exchange => { f with exchange := v }

/-- The sources that need a decision (R311). -/
def needsDecision : FreezeSrc → Bool
  | .crazed => true | .main => true | .pfail => true | .exchange => true | .notick => false | .provisional => false

/-- The sources that drop every session, so that the keep timer is cancelled (R313). -/
def dropsSessions : FreezeSrc → Bool
  | .crazed => true | .main => true | .pfail => true | _ => false

/-- The channel is frozen: a source is active, or it awaits its decision (R311, R314). -/
def Chan.frozen (c : Chan) : Bool := c.frz.any || c.needDec

/-- The channel awaits a decision (R314). -/
def Chan.awaiting (c : Chan) : Bool := c.needDec && !c.frz.others

/-- The channel stamps and queues events: its class is known, it is not fused retired, and its supervision is not lost
(R907, R318, R319). -/
def Chan.stamps (c : Chan) : Bool := c.known && !c.fused && !c.supLost

/-- Its inputs are in function: not parked by retirement, fused retirement or class U (R316, R907). -/
def Chan.inputs (c : Chan) : Bool := !c.fused && !c.retired && !(c.known && c.eclass == .u)

/-- Queues an event of tick `t`; a full FIFO counts it as lost and sets OVERFLOW (R290). -/
def Chan.push (c : Chan) (code t : Nat) (bypass : Bool := false) : Chan :=
  if c.stamps then
    if c.fifo.length < 16 then
      { c with fifo := c.fifo ++ [{ code := code, bypass := bypass, frozen := c.frozen, tick := t }] }
    else { c with lost := sat16 c.lost, sticky := { c.sticky with overflow := true } }
  else c

/-! ## The driven FEN level and the confirm window (R294, R302–R304) -/

/-- The level the class logic drives: demand in function P; in function G demand and latch, never risen while frozen
(R293, R294, R312); low while the pad is parked, high-impedance, or the channel is retired (R317). -/
def Chan.target (c : Chan) : Bool :=
  if c.retired || c.fused then false
  else
    match c.fenPad.cur with
    | .conn .p => c.dmd
    | .conn .g => if c.frozen then c.fen && c.latch && c.dmd else c.dmd && c.latch
    | _ => false

/-- FBK agrees with FEN in an open window: it closes with CONF_OK (R302). -/
def Chan.checkConf (c : Chan) (t : Nat) : Chan :=
  if c.conf.isSome && c.fbk == c.fen then { c with conf := none }.push evConfOk t else c

/-- The FEN pad is connected to a function. -/
def Chan.connected (c : Chan) : Bool :=
  match c.fenPad.cur with | .conn _ => true | _ => false

/-- Step 4 of R289: FEN takes the driven level in tick `t`; a change queues its event and, on a connected pad, opens a
confirm window for the new level, abandoning one that is open (R302, R303, R326). -/
def Chan.settle (c : Chan) (t : Nat) : Chan :=
  let n := c.target
  if n = c.fen then c
  else
    let c1 := { c with fen := n, conf := none }.push (if n then evFenRise else evFenFall) t
    if c1.connected && c1.stamps && !c1.retired && !c1.frz.notick then { c1 with conf := some (t + c1.tconfLen) }.checkConf t else c1

/-- FEN follows an edge of the asynchronous bypass: no tick passes, so the change abandons an open window and opens none (R302, R303,
R315; DEDUCED, log 62). -/
def Chan.moveFen (c : Chan) (t : Nat) : Chan :=
  let n := c.target
  if n = c.fen then c else { c with fen := n, conf := none }.push (if n then evFenRise else evFenFall) t

/-- The confirm window closes late at its closing tick when that is `t` or earlier (R302). -/
def Chan.closeConf (c : Chan) (t : Nat) : Chan :=
  match c.conf with
  | some k => if k ≤ t then { c with conf := none, confLate := sat16 c.confLate }.push evConfLate k else c
  | none => c

/-- The keep window closes in tick `k`: HB_EXPIRED, or HOLD_EXPIRED with the latch cleared and FEN falling (R306, R309). -/
def Chan.closeKeep (c : Chan) (k : Nat) : Chan :=
  match c.keep with
  | .idle => c
  | .heartbeat _ => { c with keep := .idle }.push evHbExpired k
  | .hold _ => (({ c with keep := .idle, latch := false }).push evHoldExpired k).settle k

/-- Closing tick of the keep window, if it is `t` or earlier. -/
def Chan.keepDue (c : Chan) (t : Nat) : Option Nat :=
  match c.keep with
  | .idle => none
  | .heartbeat k => if k ≤ t then some k else none
  | .hold k => if k ≤ t then some k else none

/-- Step 1 of R289: every window whose closing tick is `t` or earlier closes, in the order of the closing ticks. -/
def Chan.closeDue (c : Chan) (t : Nat) : Chan :=
  match c.keepDue t with
  | none => c.closeConf t
  | some k => ((c.closeConf k).closeKeep k).closeConf t

/-- Clears the latch, cancelling a continuity hold (R296, R309). -/
def Chan.clearLatch (c : Chan) : Chan :=
  { c with latch := false, keep := match c.keep with | .hold _ => .idle | k => k }

/-! ## Edges (R282, R283, R304, R315) -/

/-- The demand filter accepts an edge: a fall clears the latch, frozen or not (R289, R296). -/
def Chan.dmdEdge (c : Chan) (rise bypass : Bool) (t : Nat) : Chan :=
  if !c.inputs || c.dmd == rise then c
  else
    let c1 := { c with dmd := rise }.push (if rise then evDmdRise else evDmdFall) t bypass
    let c2 := if rise then c1 else c1.clearLatch
    if bypass then c2.moveFen t else c2.settle t

/-- The feedback filter accepts an edge: it confirms an open window, or without one counts and queues a mismatch (R304). -/
def Chan.fbkEdge (c : Chan) (rise : Bool) (t : Nat) : Chan :=
  if !c.inputs || c.fbk == rise then c
  else
    let c1 := { c with fbk := rise }.push (if rise then evFbkRise else evFbkFall) t
    if c1.conf.isSome then c1.checkConf t
    else if c1.fbk != c1.fen && c1.stamps then { c1 with mismatch := sat16 c1.mismatch }.push evMismatch t
    else c1

/-- A glitch is counted once the class is known (R283, R907). -/
def Chan.glitch (c : Chan) (feedback : Bool) : Chan :=
  if !c.inputs || !c.known then c
  else if feedback then { c with fbkGlitch := sat16 c.fbkGlitch } else { c with dmdGlitch := sat16 c.dmdGlitch }

/-! ## Freezes (R311–R314) -/

/-- A source is set: only on an H or A channel whose service flag is set; the first queues FREEZE_ON. -/
def Chan.freeze (c : Chan) (src : FreezeSrc) (t : Nat) : Chan :=
  if !c.eclass.guarded || !c.service || c.frz.get src then c
  else
    let was := c.frozen
    let c1 := { c with frz := c.frz.put true src, needDec := c.needDec || needsDecision src
                       keep := if dropsSessions src then .idle else c.keep }
    if was then c1 else c1.push evFreezeOn t

/-- A write or command ignored while frozen: counted, with WRITE_IGNORED; under PROVISIONAL alone it is kept (R312). -/
def Chan.ignoreWrite (c : Chan) : Chan :=
  { c with ignored := sat16 c.ignored, sticky := { c.sticky with writeIgnored := true } }

/-- GRANT_REFUSED is set. -/
def Chan.refuseGrant (c : Chan) : Chan := { c with sticky := { c.sticky with grantRefused := true } }

/-- KEEP_REFUSED is set. -/
def Chan.refuseKeep (c : Chan) : Chan := { c with sticky := { c.sticky with keepRefused := true } }

/-- SERVICE_REFUSED is set. -/
def Chan.refuseService (c : Chan) : Chan := { c with sticky := { c.sticky with serviceRefused := true } }

/-- The conditions of R295 that bear on the decision write too: service, CONTRACTED, demand, and no withhold in Sherd (R905). -/
def Chan.grantable (c : Chan) : Bool := c.service && c.contracted && c.dmd && !c.sherdHold

/-- GRANT = 1 outside a freeze, or as the decision (R295, R314). -/
def Chan.setLatch (c : Chan) (t : Nat) : Chan :=
  if c.grantable then { c with latch := true }.settle t else c.refuseGrant.settle t

/-- The decision ends the freeze, releases EXCHANGE and queues FREEZE_OFF (R314). -/
def Chan.endFreeze (c : Chan) (t : Nat) : Chan :=
  { c with needDec := false, frz := { c.frz with exchange := false } }.push evFreezeOff t

/-- A write of GRANT to CH_GUARD takes effect in tick `t` (R293, R295, R296, R312, R314, R319). -/
def Chan.guardWrite (c : Chan) (grant : Bool) (t : Nat) : Chan :=
  if c.fused then c
  else if !c.eclass.guarded then c.refuseGrant
  else if c.awaiting then
    let d := c.endFreeze t
    if grant then d.setLatch t else d.clearLatch.settle t
  else if c.frz.provisionalAlone then { c with keptGuard := some grant }
  else if c.frozen then c.ignoreWrite
  else if grant then c.setLatch t else c.clearLatch.settle t

/-- HEARTBEAT takes effect: starts or restarts the heartbeat window, ending a hold with no change to FEN (R306, R309). -/
def Chan.heartbeat (c : Chan) (t : Nat) : Chan := { c with keep := .heartbeat (t + c.hbLen) }

/-- HOLD takes effect when its conditions hold (R308). -/
def Chan.startHold (c : Chan) (t : Nat) : Chan :=
  let running := match c.keep with | .hold _ => true | _ => false
  if c.eclass == .a && c.latch && c.dmd && !running then { c with keep := .hold (t + c.holdLen) } else c.refuseKeep

/-- STOP takes effect: heartbeat mode goes idle; refused while a hold runs (R309, R310). -/
def Chan.stopKeep (c : Chan) : Chan :=
  match c.keep with
  | .hold _ => c.refuseKeep
  | _ => { c with keep := .idle }

/-- A command to CH_KEEP takes effect in tick `t` (R293, R306–R310, R312). -/
def Chan.keepWrite (c : Chan) (cmd : KeepCmd) (t : Nat) : Chan :=
  if c.fused then c
  else if !c.eclass.guarded then c.refuseKeep
  else if c.frz.provisionalAlone then { c with keptKeep := some cmd }
  else if c.frozen then c.ignoreWrite
  else
    match cmd with
    | .heartbeat => c.heartbeat t
    | .hold => c.startHold t
    | .stop => c.stopKeep

/-- Writes kept under PROVISIONAL alone take effect at the end of the hold, guard first (R312). -/
def Chan.applyKept (c : Chan) (t : Nat) : Chan :=
  let g := c.keptGuard
  let k := c.keptKeep
  let c1 := { c with keptGuard := none, keptKeep := none }
  let c2 := match g with | some v => c1.guardWrite v t | none => c1
  match k with | some cmd => c2.keepWrite cmd t | none => c2

/-- A source is released; a freeze with no source left that needed no decision ends with FREEZE_OFF (R314), and the
writes kept under PROVISIONAL take effect (R312). -/
def Chan.release (c : Chan) (src : FreezeSrc) (t : Nat) : Chan :=
  if !c.frz.get src then c
  else
    let c1 := { c with frz := c.frz.put false src }
    let c2 := if c1.frozen then c1 else (c1.push evFreezeOff t).settle t
    match src with | .provisional => c2.applyKept t | _ => c2

/-- The service flag clears: every source is released and the freeze ends (R311). -/
def Chan.clearService (c : Chan) (t : Nat) : Chan :=
  let was := c.frozen
  let c1 := { c with service := false, contracted := false, frz := {}, needDec := false, keptGuard := none, keptKeep := none }
  if was then c1.push evFreezeOff t else c1

/-- CONTRACTED is loaded; clearing it clears the latch (R296, R299). -/
def Chan.loadContracted (c : Chan) (v : Bool) (t : Nat) : Chan :=
  if v then { c with contracted := true } else ({ c with contracted := false }.clearLatch).settle t

/-! ## Pads (R77, R86–R94) -/

/-- The FEN keeper is on while parked: strap class H, A or U, or fused; never on a lamp channel or a marginal code (R77). -/
def fenKeeper (cls : EClass) (marginal fused : Bool) : Bool := fused || !(cls == .l || marginal)

/-- A switch request: performed at the first tick boundary after it; none on a locked pad (R86, R90, R94). -/
def Pad.request {φ : Type} (p : Pad φ) (f : φ) (t : Nat) : Pad φ :=
  if p.locked then p else { p with req := some (some f, t) }

/-- A park request overrides a pending switch; during a switch the pad stays parked at its end (R90). -/
def Pad.park {φ : Type} (p : Pad φ) (lock : Bool) (t : Nat) : Pad φ :=
  match p.cur with
  | .switching k _ => { p with cur := .switching k none, req := none, locked := p.locked || lock }
  | .parked => { p with req := none, locked := p.locked || lock }
  | _ => { p with req := some (none, t), locked := p.locked || lock }

/-- A pad is parked at once, as where the AO island first sets it (R84, R906). -/
def Pad.setParked {φ : Type} (p : Pad φ) (keeper lock : Bool) : Pad φ :=
  { p with cur := .parked, req := none, keeper := keeper, locked := p.locked || lock }

/-- A pad is connected at once, as where the AO island first sets it (R84, R104, R105). -/
def Pad.connect {φ : Type} (p : Pad φ) (f : φ) : Pad φ := { p with cur := .conn f, req := none, keeper := false }

/-- The request that may begin now: the pad is not in a switch (R89). -/
def Pad.startable {φ : Type} (p : Pad φ) : Option (Option φ × Nat) :=
  match p.cur with
  | .switching _ _ => none
  | _ => p.req

/-- A switch begins in tick `k`: the pad is parked for ticks [k, k + 2) (R86, R87). -/
def Pad.begin_ {φ : Type} (p : Pad φ) (nxt : Option φ) (keeper : Bool) (k : Nat) : Pad φ :=
  { p with cur := .switching k nxt, req := none, keeper := keeper }

/-- The parked interval ends: the incoming function is connected, the keeper off, or the pad stays parked (R86, R90). A request made
meanwhile counts from the connection, which lasts a whole tick (R89). -/
def Pad.finish {φ : Type} (p : Pad φ) : Pad φ :=
  match p.cur with
  | .switching k (some f) => { p with cur := .conn f, keeper := false, req := p.req.map (fun r => (r.1, max r.2 (k + 2))) }
  | .switching _ none => { p with cur := .parked }
  | _ => p

/-- Keeper of the FEN pad of channel `c` (R77, R78). -/
def State.fenKeeperOf (s : State) (c : Fin 16) : Bool :=
  fenKeeper s.straps.cls[c] s.straps.clsMarginal[c] (s.chan c).fused

/-! ## Retirement and return (R316, R317) -/

/-- Retirement of one channel in the order of R316. -/
def Chan.retire (c : Chan) (t : Nat) : Chan :=
  if c.retired || c.fused then c
  else
    let wasFen := c.fen
    let c1 := { c with latch := false }.clearService t
    let c2 := { c1 with fen := false, conf := none, keep := .idle }
    let c3 := if wasFen then c2.push evFenFall t else c2
    let c4 := c3.push evRetired t
    { c4 with retired := true, eclass := .u, supLost := false, setup := false
              fenPad := c4.fenPad.park true t, lnkPad := c4.lnkPad.park true t }

/-- Return of a retired channel to the class `k` (R317): its pads leave the parked state for their function. -/
def Chan.giveBack (c : Chan) (k : EClass) (t : Nat) : Chan :=
  if !c.retired || c.fused then c
  else
    let c1 := { c with retired := false, eclass := k, padRetired := false, rbBad := 0 }.push evReturned t
    let f : FenFn := if k == .l then .p else .g
    if k == .u then c1
    else { c1 with fenPad := ({ c1.fenPad with locked := false }).request f t
                   lnkPad := ({ c1.lnkPad with locked := false }).request .t t }

/-! ## Operations on a channel of the state -/

/-- Events queued or lost so far, as a count that grows with each. -/
def Chan.queued (c : Chan) : Nat := c.fifo.length + c.lost

/-- Applies an operation to channel `c` after closing the windows that are due; an event queued on an H or A channel
wakes the main island (R289, R292). -/
def State.chOp (s : State) (c : Fin 16) (f : Chan → Chan) : State :=
  let before := s.chan c
  let after := f (before.closeDue s.tick)
  let t := s.setCh c after
  if (before.eclass.guarded || after.eclass.guarded) && decide (before.queued < after.queued) then t.wakeMain else t

/-- Closes every window that is due on every channel. -/
def State.closeWindows (s : State) : State := s.eachCh (fun c t => t.chOp c id)

/-- A freeze source is set on every channel (R311). -/
def State.freezeAll (s : State) (src : FreezeSrc) : State := s.eachCh (fun c t => t.chOp c (·.freeze src t.tick))

/-- A freeze source is released on every channel (R311). -/
def State.releaseAll (s : State) (src : FreezeSrc) : State := s.eachCh (fun c t => t.chOp c (·.release src t.tick))

/-- The condition of a freeze source holds now (R311). -/
def State.freezeCond (s : State) : FreezeSrc → Bool
  | .notick => s.clk.tickSrc.isNone
  | .provisional => s.provisional
  | .crazed => s.crazed
  | .main => !s.mainUp
  | .pfail => s.bins.pfailLow
  | .exchange => false

/-- Service entry of a channel (R299): the flag is set, SERVICE_ENTRY queued, and every source whose condition is
present is set in the same tick (R311). -/
def Chan.enter (c : Chan) (contracted : Bool) (conds : FreezeSrc → Bool) (t : Nat) : Chan :=
  if c.fused then c
  else if !c.eclass.guarded || c.retired then c.refuseService
  else if c.service then c.loadContracted contracted t
  else
    let c1 := { c with service := true, contracted := contracted }.push evServiceEntry t
    [FreezeSrc.notick, .provisional, .crazed, .main, .pfail].foldl (fun x src => if conds src then x.freeze src t else x) c1

/-- XFREEZE = 1 sets source EXCHANGE on an H or A channel in service; the same write updates CONTRACTED (R299, R314). -/
def Chan.xfreeze (c : Chan) (contracted : Bool) (t : Nat) : Chan :=
  if c.fused then c
  else if !c.eclass.guarded || !c.service then c.refuseService
  else (c.loadContracted contracted t).freeze .exchange t

/-- A write to a window-length register: 0 is refused with LOAD_REFUSED (R300). -/
def Chan.lengthWrite (c : Chan) (w : WinLen) (v : Nat) : Chan :=
  let n := v % 2 ^ 24
  if c.fused then c
  else if n = 0 then { c with sticky := { c.sticky with loadRefused := true } }
  else match w with
    | .tconf => { c with tconfLen := n }
    | .hb => { c with hbLen := n }
    | .hold => { c with holdLen := n }

/-- The LNK pad of one channel is high-impedance while VIO is invalid, its switch abandoned (R82, R88). -/
def Chan.lnkDown (c : Chan) : Chan := { c with lnkPad := { c.lnkPad with cur := .hiZ, req := none, keeper := false } }

/-- VIO is lost: every LNK pad is high-impedance (R82, R88). -/
def State.lnkPadsDown (s : State) : State := s.eachCh (fun c t => t.updCh c Chan.lnkDown)

/-- The LNK pad of one channel is set anew once its supply is valid: function T, or parked (R79, R84, R90). -/
def Chan.lnkUp (c : Chan) (sherd : Bool) : Chan :=
  if !c.known then c
  else if sherd || c.fused || c.retired || c.eclass == .u then { c with lnkPad := c.lnkPad.setParked true false }
  else { c with lnkPad := c.lnkPad.connect .t }

/-- VIO has become valid: the LNK pads of every channel whose class is known are set (R84). -/
def State.lnkPadsUp (s : State) : State :=
  if s.rails.vao then s.eachCh (fun c t => t.updCh c (fun x => x.lnkUp (s.life.firing == .sherd))) else s

/-- A FEN pad that leaves its function is driven low: FEN_FALL is queued and no window stays open (R317, R326). -/
def Chan.fenParked (c : Chan) (t : Nat) : Chan :=
  let c1 := { c with conf := none }
  if c.fen then { c1 with fen := false }.push evFenFall t else c1

end Sys2Proof.Machine
end

