-- ==== Sys2Proof/Machine/Flags.lean ====
section
/-! DEFINITION. Status words computed from the state: the RO fields of the channel and strap registers (R123, R321).
A register with a field of each bit is a 32-bit word. -/

namespace Sys2Proof.Machine

open Sys2Proof

/-- FREEZE as CH_STAT gives it, NOTICK most significant (R321). -/
def Freeze.bits (f : Freeze) : Nat :=
  bitOf f.notick 5 + bitOf f.provisional 4 + bitOf f.crazed 3 + bitOf f.main 2 + bitOf f.pfail 1 + bitOf f.exchange 0

/-- KEEP_MODE: idle 0, heartbeat 1, hold 2; 3 is never read (R321). -/
def KeepSt.mode : KeepSt → Nat
  | .idle => 0 | .heartbeat _ => 1 | .hold _ => 2

/-- FUNCTION: parked or high-impedance 0, P 1, G 2 (R321). -/
def Chan.function (c : Chan) : Nat :=
  match c.fenPad.cur with
  | .conn .p => 1 | .conn .g => 2 | _ => 0

/-- Effective class of CH_STAT: U when retired or fused (R319, R321). -/
def Chan.eclassNow (c : Chan) : EClass := if c.retired || c.fused then .u else c.eclass

/-- CH_STAT (R321). -/
def Chan.stat (c : Chan) : Word :=
  BitVec.ofNat 32
    (c.fifo.length * 2 ^ 27 + bitOf c.conf.isSome 26 + c.keep.mode * 2 ^ 24 + c.frz.bits * 2 ^ 18 + bitOf c.awaiting 17
      + bitOf c.service 16 + bitOf c.contracted 15 + bitOf c.retired 14 + bitOf c.fused 13 + c.function * 2 ^ 11
      + bitOf c.latch 10 + bitOf c.fen 9 + bitOf c.fbk 8 + bitOf c.dmd 7 + bitOf c.supLost 6 + c.eclassNow.code)

/-- Ticks until a window closes (R321). -/
def leftOf (close : Option Nat) (t : Nat) : Nat := match close with | some k => k - t | none => 0

/-- Closing tick of the keep window. -/
def KeepSt.close : KeepSt → Option Nat
  | .idle => none | .heartbeat k => some k | .hold k => some k

/-- One event entry as 64 bits (R287). -/
def Event.word (e : Event) : BitVec 64 :=
  BitVec.ofNat 64 (e.code * 2 ^ 56 + bitOf e.bypass 55 + bitOf e.frozen 54 + e.tick % 2 ^ 48)

/-- CH_EVENT_LO and CH_EVENT_HI together: the head entry, or zero (R291). -/
def Chan.eventHead (c : Chan) : BitVec 64 := match c.fifo with | e :: _ => e.word | [] => 0

/-- CH_STICKY (R321). -/
def ChSticky.bits (x : ChSticky) : Nat :=
  bitOf x.writeIgnored 5 + bitOf x.serviceRefused 4 + bitOf x.loadRefused 3 + bitOf x.keepRefused 2
    + bitOf x.grantRefused 1 + bitOf x.overflow 0

/-- W1C: each bit written 1 clears its flag (R18, R321). -/
def ChSticky.clear (x : ChSticky) (v : Word) : ChSticky :=
  { overflow := x.overflow && !v.getLsbD 0, grantRefused := x.grantRefused && !v.getLsbD 1, keepRefused := x.keepRefused && !v.getLsbD 2
    loadRefused := x.loadRefused && !v.getLsbD 3, serviceRefused := x.serviceRefused && !v.getLsbD 4
    writeIgnored := x.writeIgnored && !v.getLsbD 5 }

/-- CH_PENDING: bit n is set while CHn's FIFO holds an entry (R321). -/
def State.chPending (s : State) : Word := BitVec.ofNat 32 (bitsOf (fun c => !(s.chan c).fifo.isEmpty))

/-- LEVEL of a CODE pin as CODE_LEVELS gives it: 0 when marginal (R123). -/
def CodePin.levelField (p : CodePin) : Nat := if p.marginal then 0 else p.level

/-- CODE_LEVELS0 and CODE_LEVELS1 together, CODE0 least significant (R123). -/
def Straps.levels (x : Straps) : Nat :=
  (List.finRange 12).foldl (fun n k => n + x.code[k].levelField * 16 ^ k.val) 0

/-- CODE_CLASS: CLASS15 … CLASS0, two bits each (R123; DEDUCED, log 61). -/
def Straps.classWord (x : Straps) : Word :=
  BitVec.ofNat 32 ((List.finRange 16).foldl (fun n k => n + x.cls[k].code * 4 ^ k.val) 0)

/-- CODE_STAT (R123). -/
def Straps.statWord (x : Straps) : Word :=
  BitVec.ofNat 32 ((List.finRange 12).foldl
    (fun n k => n + bitOf x.code[k].changed (16 + k.val) + bitOf x.code[k].marginal k.val) 0)

/-- CODE_CONFIG (R123). -/
def Straps.configWord (x : Straps) : Word :=
  BitVec.ofNat 32 (x.amp * 2 ^ 18 + x.rate * 2 ^ 16 + bitOf (x.cabinet == 0xFFF) 12 + x.cabinet)

/-- CODE_BIN (R123). -/
def State.codeBin (s : State) : Word :=
  BitVec.ofNat 32 (bitOf s.straps.testEnStart 4 + bitOf s.bins.pfailLow 3 + bitOf s.bins.doorOpen 2
    + bitOf s.bins.svcLow 1 + bitOf s.bins.testEn 0)

/-- The flags byte of a channel in START and STATUS records: effective class, contracted, retired, fused, contract
ignored (R418). -/
def State.chFlags (s : State) (c : Fin 16) : Nat :=
  let x := s.chan c
  x.eclassNow.code + bitOf (s.contract c).isSome 2 + bitOf x.retired 3 + bitOf x.fused 4 + bitOf s.life.ignored[c] 5

end Sys2Proof.Machine
end

