-- ==== Sys2Proof/Machine/Channels.lean ====
section
/-! DEFINITION. Commands of the channel machinery: input edges, windows that close, writes of the Wheel, function
switches (chapters 02 and 08). -/

namespace Sys2Proof.Machine

open Sys2Proof

/-- The AO island is powered. -/
def State.aoUp (s : State) : Bool := s.rails.vao

/-- The AO island samples and times: powered, with a tick source (R282, R315). -/
def State.aoTicks (s : State) : Bool := s.rails.vao && s.clk.tickSrc.isSome

/-- Wheel writes can reach the AO island: the Wheel runs (R21, R297). -/
def State.wheelWrites (s : State) : Bool := s.rails.vao && s.wheelRuns

/-- DMD_RISE (R282): the filtered demand of channel `c` rises. -/
def execDmdRise (c : Fin 16) (s : State) : Out :=
  .next (if s.aoTicks then s.chOp c (fun x => x.dmdEdge true false s.tick) else s)

/-- DMD_FALL (R296): the filtered demand of channel `c` falls. -/
def execDmdFall (c : Fin 16) (s : State) : Out :=
  .next (if s.aoTicks then s.chOp c (fun x => x.dmdEdge false false s.tick) else s)

/-- FBK_RISE (R304): the filtered feedback rises. -/
def execFbkRise (c : Fin 16) (s : State) : Out :=
  .next (if s.aoTicks then s.chOp c (fun x => x.fbkEdge true s.tick) else s)

/-- FBK_FALL (R304): the filtered feedback falls. -/
def execFbkFall (c : Fin 16) (s : State) : Out :=
  .next (if s.aoTicks then s.chOp c (fun x => x.fbkEdge false s.tick) else s)

/-- GLITCH (R283): a demand or feedback glitch is counted. -/
def execGlitch (c : Fin 16) (feedback : Bool) (s : State) : Out :=
  .next (if s.aoTicks then s.chOp c (fun x => x.glitch feedback) else s)

/-- BYPASS_EDGE (R315): with no tick, a demand edge accepted through the asynchronous bypass. -/
def execBypassEdge (c : Fin 16) (rise : Bool) (s : State) : Out :=
  .next (if s.aoUp && s.clk.tickSrc.isNone then s.chOp c (fun x => x.dmdEdge rise true s.tick) else s)

/-- CONF_LATE (R302): the open confirm window of channel `c` reaches its closing tick. -/
def execConfLate (c : Fin 16) (s : State) : Out :=
  .next (match (s.chan c).conf with
    | some k => if s.aoTicks then (s.advanceTo k).chOp c id else s
    | none => s)

/-- The Wheel is told of a heartbeat expiry by the event it takes (R307); the partner state follows in the link
family. HB_EXPIRED (R306): the heartbeat window reaches its closing tick. -/
def hbClose (c : Fin 16) (s : State) : State :=
  match (s.chan c).keep with
  | .heartbeat k => if s.aoTicks then (s.advanceTo k).chOp c id else s
  | _ => s

/-- HOLD_EXPIRED (R309): the continuity hold of channel `c` reaches its closing tick. -/
def execHoldExpired (c : Fin 16) (s : State) : Out :=
  .next (match (s.chan c).keep with
    | .hold k => if s.aoTicks then (s.advanceTo k).chOp c id else s
    | _ => s)

/-- GRANT_SET (R295): a write of GRANT = 1 to CH_GUARD. -/
def execGrantSet (c : Fin 16) (s : State) : Out :=
  .next (if s.wheelWrites then s.chOp c (fun x => x.guardWrite true s.tick) else s)

/-- GRANT_CLEAR (R296): a write of GRANT = 0 to CH_GUARD. -/
def execGrantClear (c : Fin 16) (s : State) : Out :=
  .next (if s.wheelWrites then s.chOp c (fun x => x.guardWrite false s.tick) else s)

/-- KEEP_HEARTBEAT (R306): CH_KEEP command HEARTBEAT. -/
def execKeepHeartbeat (c : Fin 16) (s : State) : Out :=
  .next (if s.wheelWrites then s.chOp c (fun x => x.keepWrite .heartbeat s.tick) else s)

/-- KEEP_HOLD (R308): CH_KEEP command HOLD. -/
def execKeepHold (c : Fin 16) (s : State) : Out :=
  .next (if s.wheelWrites then s.chOp c (fun x => x.keepWrite .hold s.tick) else s)

/-- KEEP_STOP (R310): CH_KEEP command STOP. -/
def execKeepStop (c : Fin 16) (s : State) : Out :=
  .next (if s.wheelWrites then s.chOp c (fun x => x.keepWrite .stop s.tick) else s)

/-- XFREEZE (R314): a write of XFREEZE = 1 to CH_SERVICE, with the CONTRACTED bit of the same write. -/
def execXfreeze (c : Fin 16) (contracted : Bool) (s : State) : Out :=
  .next (if s.wheelWrites then s.chOp c (fun x => x.xfreeze contracted s.tick) else s)

/-- WINDOW_LENGTH_WRITE (R300): a write to CH_TCONF_LEN, CH_HB_LEN or CH_HOLD_LEN. -/
def execWindowLengthWrite (c : Fin 16) (w : WinLen) (v : Word) (s : State) : Out :=
  .next (if s.wheelWrites then s.chOp c (fun x => x.lengthWrite w v.toNat) else s)

/-- EVENT_POP (R291): a write of 1 to CH_EVENT_POP consumes the head entry; an empty FIFO, or that of a fused-retired
channel, is not changed. -/
def execEventPop (c : Fin 16) (s : State) : Out :=
  .next (if s.wheelWrites then s.chOp c (fun x => if x.fused then x else { x with fifo := x.fifo.drop 1 }) else s)

/-- TICK_COUNTER_READ (R321): reading CH_TICK_LO captures bits [47:32] into CH_TICK_HI. -/
def execTickCounterRead (s : State) : Out :=
  .next (if s.wheelWrites then { s with tickHi := s.tick / 2 ^ 32 % 2 ^ 16 } else s)

/-- A pad's switch begins at the first tick boundary after its request: the pad parks for two ticks (R86, R87). -/
def fenSwitchBegin (c : Fin 16) (s : State) : State :=
  match (s.chan c).fenPad.startable with
  | some (nxt, at_) =>
    let s1 := s.advanceTo (at_ + 1)
    s1.chOp c (fun x =>
      let y := x.fenParked s1.tick
      match nxt with
      | none => { y with fenPad := { y.fenPad with cur := .parked, req := none, keeper := s.fenKeeperOf c } }
      | some f => { y with fenPad := y.fenPad.begin_ (some f) (s.fenKeeperOf c) s1.tick })
  | none => s

/-- The switch of an LNK pair begins once no transaction is outstanding on its channel (R91). -/
def lnkSwitchBegin (c : Fin 16) (s : State) : State :=
  match (s.chan c).lnkPad.startable, (s.lnk c).txn with
  | some (nxt, at_), none =>
    let s1 := s.advanceTo (at_ + 1)
    s1.chOp c (fun x =>
      match nxt with
      | none => { x with lnkPad := { x.lnkPad with cur := .parked, req := none, keeper := true } }
      | some f => { x with lnkPad := x.lnkPad.begin_ (some f) true s1.tick })
  | _, _ => s

/-- FUNCTION_SWITCH_BEGIN (R86). -/
def execFunctionSwitchBegin (c : Fin 16) (p : PadKind) (s : State) : Out :=
  .next (if s.aoTicks then (match p with | .fen => fenSwitchBegin c s | .lnk => lnkSwitchBegin c s) else s)

/-- The tick in which a pad's switch began. -/
def Pad.since {φ : Type} (p : Pad φ) : Option Nat :=
  match p.cur with | .switching k _ => some k | _ => none

/-- At the start of tick k + 2 the keeper is disabled and the incoming function connected (R86). -/
def padConnect (c : Fin 16) (p : PadKind) (s : State) : State :=
  if s.aoTicks then
    (match p with
      | .fen =>
        match (s.chan c).fenPad.since with
        | some k =>
          let s1 := s.advanceTo (k + 2)
          s1.chOp c (fun x => ({ x with fenPad := x.fenPad.finish }).settle s1.tick)
        | none => s
      | .lnk =>
        match (s.chan c).lnkPad.since with
        | some k =>
          let s1 := s.advanceTo (k + 2)
          s1.chOp c (fun x => { x with lnkPad := x.lnkPad.finish })
        | none => s)
  else s

end Sys2Proof.Machine
end

