-- ==== Sys2Proof/Machine/PermOps.lean ====
section
/-! DEFINITION. The memory map (R505) and the check of an access by the protection tables (chapter 14): splitting,
the order of checks, UPDATE, and the record of an engine DMA fault. -/

namespace Sys2Proof.Machine

open Sys2Proof

/-- Type of an access (R545, R565). -/
inductive AccType | read | write | exec
deriving DecidableEq, Repr

/-- TYPE field of P_FAULT and PROT_DFAULT_INFO. -/
def AccType.code : AccType → Nat
  | .read => 0 | .write => 1 | .exec => 2

/-- Who makes an access: level 0–2, domain, and the core that makes it, or an engine (R552). -/
structure Who where
  level : Nat
  domain : Nat
  core : Option (Fin 2)
deriving DecidableEq, Repr

/-- Target of an address by the table of targets, for a core (R540). Local data memory is target 24 on core 0 and 25 on
core 1; an engine sees it as target 24. -/
def targetOf (w : Who) (a : Nat) : Option Nat :=
  if a < 0x00020000 then some 19
  else if 0x04000000 ≤ a ∧ a < 0x04040000 then some (if w.core = some 1 then 25 else 24)
  else if 0x10000000 ≤ a ∧ a < 0x12000000 then some 20
  else if 0x12000000 ≤ a ∧ a < 0x14000000 then some 21
  else if 0x20000000 ≤ a ∧ a < 0x20C00000 then some 22
  else if 0x30000000 ≤ a ∧ a < 0x30130000 then some (a % 0x10000000 / 0x10000)
  else if 0x3F000000 ≤ a ∧ a < 0x3F004000 then some 23
  else none

/-- The IPT checks targets 19 to 23 (R540). -/
def iptTarget (g : Nat) : Bool := decide (19 ≤ g ∧ g ≤ 23)

/-- One field of a number: bits [hi:lo]. -/
def field (v hi lo : Nat) : Nat := v / 2 ^ lo % 2 ^ (hi + 1 - lo)

/-- ENABLE of a permission word (R543). -/
def permEnabled (p : Nat) : Bool := field p 31 31 == 1

/-- LOCK of a permission word (R543). -/
def permLocked (p : Nat) : Bool := field p 30 30 == 1

/-- The bit a permission word gives a level and access type (R543). -/
def permBit (p level : Nat) (t : AccType) : Bool :=
  field p (3 * level + t.code) (3 * level + t.code) == 1

/-- The domain condition of R544. -/
def permDomain (p domain : Nat) : Bool := field p 17 16 == 0 || field p 15 12 == domain

/-- Bytes an IPT region covers (R541). -/
def Region.iptHas (r : Region) (a : Nat) : Bool := decide (r.start ≤ a ∧ a < r.stop)

/-- Bytes a gate region covers: BASE to BASE + 2^SIZE (R542). -/
def Region.gateHas (r : Region) (a : Nat) : Bool := decide (r.start ≤ a ∧ a < r.start + 2 ^ r.stop)

/-- The decision of one table for one part: the highest-numbered matching region's bit, or none where no region matches
(R544, R545). -/
def decideIn (has : Region → Nat → Bool) (l : List Region) (w : Who) (t : AccType) (a : Nat) : Option Bool :=
  l.foldl (fun d r =>
    if permEnabled r.perm && has r a && permDomain r.perm w.domain then some (permBit r.perm w.level t) else d) none

/-- The P0 allowances where no region matches: fetch or load of ROM, load of the option window (R545). -/
def p0Allowed (w : Who) (t : AccType) (g : Nat) : Bool :=
  w.level == 0 && w.core.isSome && ((g == 19 && t != .write) || (g == 23 && t == .read))

/-- The eight regions of gate `g`. -/
def Prot.gateRegions (p : Prot) (g : Nat) : List Region := (p.gate.toList.drop (8 * g)).take 8

/-- The fixed rules of check 2 (R550, R505–R507, R546). -/
def fixedDeny (w : Who) (t : AccType) (g a : Nat) : Bool :=
  (t == .exec && (g ≤ 18 || g == 23 || g == 24 || g == 25))
    || (w.core.isNone && (g ≤ 18 || g == 23 || g == 24 || g == 25))
    || (decide (0x13C00000 ≤ a ∧ a < 0x14000000))
    || ((g == 3 || g == 4) && (w.core.isNone || w.level == 2))

/-- KIND of the first check that one part at address `a` fails, 0 when it passes (R550). `flashWrite` is an FLC program
or erase, to which check 3 does not apply (R551). -/
def Prot.partKind (p : Prot) (w : Who) (t : AccType) (flashWrite : Bool) (a : Nat) : Nat :=
  match targetOf w a with
  | none => 3
  | some g =>
    if fixedDeny w t g a then 4
    else if t == .write && !flashWrite && (g == 19 || g == 20 || g == 21 || g == 23) then 5
    else if g == 3 || g == 4 then 0
    else if iptTarget g && !((decideIn Region.iptHas p.ipt.toList w t a).getD (p0Allowed w t g)) then 1
    else if !((decideIn Region.gateHas (p.gateRegions g) w t a).getD (p0Allowed w t g)) then 2
    else 0

/-- The boundaries of the targets (R540). -/
def targetBounds : List Nat :=
  [0x00020000, 0x04000000, 0x04040000, 0x10000000, 0x12000000, 0x13C00000, 0x14000000, 0x20000000, 0x20C00000,
   0x3F000000, 0x3F004000] ++ (List.range 20).map (fun g => 0x30000000 + g * 0x10000)

/-- Every address at which the choice of regions may change (R548). -/
def Prot.bounds (p : Prot) : List Nat :=
  targetBounds
    ++ (p.ipt.toList.filter (fun r => permEnabled r.perm)).flatMap (fun r => [r.start, r.stop])
    ++ (p.gate.toList.filter (fun r => permEnabled r.perm)).flatMap (fun r => [r.start, r.start + 2 ^ r.stop])

/-- Inserts an address into a rising list, once. -/
def insertAddr (a : Nat) : List Nat → List Nat
  | [] => [a]
  | b :: l => if a < b then a :: b :: l else if a = b then b :: l else b :: insertAddr a l

/-- First addresses of the parts of the access [a, a + n), rising (R548). -/
def Prot.parts (p : Prot) (a n : Nat) : List Nat :=
  (p.bounds.filter (fun b => decide (a < b ∧ b < a + n))).foldl (fun l b => insertAddr b l) [a]

/-- The verdict on an access: none when every part passes, else KIND and the address named by R549. -/
def Prot.check (p : Prot) (w : Who) (t : AccType) (flashWrite : Bool) (a n : Nat) : Option (Nat × Nat) :=
  ((p.parts a n).find? (fun x => p.partKind w t flashWrite x != 0)).map (fun x => (p.partKind w t flashWrite x, x))

/-- A unit that the access consults is in UPDATE (R558). -/
def Prot.inUpdate (p : Prot) (w : Who) (a n : Nat) : Bool :=
  (p.parts a n).any (fun x => match targetOf w x with
    | none => false
    | some g => (iptTarget g && p.update.testBit 26) || p.update.testBit g)

/-- An access of this requester is held before its check: P2 core accesses and engine accesses only (R558). -/
def Prot.holds (p : Prot) (w : Who) (a n : Nat) : Bool := (w.core.isNone || w.level == 2) && p.inUpdate w a n

/-- The first engine DMA fault while VALID is clear is recorded; later ones are counted (R564). -/
def Prot.dmaFault (p : Prot) (eng ring : Nat) (w : Who) (t : AccType) (kind addr : Nat) : Prot :=
  if p.dfValid then { p with dfLost := sat16 p.dfLost }
  else { p with
    dfValid := true, dfAddr := addr
    dfInfo := kind * 2 ^ 28 + t.code * 2 ^ 26 + w.level * 2 ^ 24 + eng * 2 ^ 20 + ring * 2 ^ 14 + w.domain * 2 ^ 10 }

/-- P_FAULT of a refused core access (R503). -/
def pFaultWord (w : Who) (t : AccType) (kind : Nat) : Nat :=
  kind * 2 ^ 28 + t.code * 2 ^ 26 + w.level * 2 ^ 24 + w.domain * 2 ^ 16

/-! ## Contents behind the map -/

/-- A page of main flash: its programmed bytes; free bytes where it is torn; all ones where erased (R725, R728). -/
def Flc.page (f : Flc) (p : Nat) : Bytes :=
  match f.pages.find? (fun e => e.1 == p) with
  | some (_, b) => b
  | none =>
    match f.torn.find? (fun e => e.1 == p) with
    | some (_, k) => Config.freeBytesAt k (p % 512 * 512) 512
    | none => List.replicate 512 0xFF

/-- One byte of main flash. -/
def Flc.byte (f : Flc) (a : Nat) : Byte := (f.page (a % 0x10000000 / 512)).getD (a % 512) 0xFF

/-- The option-area window: bytes of the chosen copy up to 0x40 + L, then zero (R182). -/
def State.optionByte (s : State) (off : Nat) : Byte :=
  match s.pwr.optCopy with
  | none => 0
  | some k => (if k = 0 then s.opt[0] else s.opt[1]).getD off 0

/-- Byte of an installed image's copy at a flash address, where a present copy lies there (R730, R809). -/
def State.imageByte (s : State) (a : Nat) : Option Byte :=
  s.kiln.installs.findSome? (fun x =>
    let atA := a % 0x10000000 - x.firstA * 0x40000
    let atB := a % 0x10000000 - x.firstB * 0x40000
    if x.bankA = .present ∧ 0x10000000 + x.firstA * 0x40000 ≤ a ∧ atA < x.imgA.length then x.imgA[atA]?
    else if x.bankB = .present ∧ 0x10000000 + x.firstB * 0x40000 ≤ a ∧ atB < x.imgB.length then x.imgB[atB]? else none)

/-- The byte at an address as a core sees it: ROM contents are not stated and are free (log 14). -/
def State.memByte (s : State) (w : Who) (a : Nat) : Byte :=
  match targetOf w a with
  | some 19 => Config.romByte a
  | some 20 => (s.imageByte a).getD (s.flc.byte a)
  | some 21 => (s.imageByte a).getD (s.flc.byte a)
  | some 22 => readByte s.mem a
  | some 23 => s.optionByte (a % 0x1000000)
  | some 24 => readByte s.ldm[0] a
  | some 25 => readByte s.ldm[1] a
  | _ => 0

/-- Bytes [a, a + n) as a core or an engine reads them. -/
def State.memRead (s : State) (w : Who) (a n : Nat) : Bytes := (List.range n).map (fun i => s.memByte w (a + i))

/-- The word of shared SRAM at `a` holds an uncorrectable error. -/
def State.badWord (s : State) (a : Nat) : Bool := s.memBad.contains (a / 4 * 4)

/-- Some byte of the range lies in an uncorrectable word or page. -/
def State.uncorrectable (s : State) (a n : Nat) : Bool :=
  s.memBad.any (fun x => decide (a < x + 4 ∧ x < a + n))
    || s.flc.poison.any (fun p => let x := 0x10000000 + p * 512; decide (a < x + 512 ∧ x < a + n))

/-- Writes bytes into shared SRAM; a whole word written is no longer uncorrectable. -/
def State.sramWrite (s : State) (a : Nat) (b : Bytes) : State :=
  { s with mem := writeBytes s.mem a b
           memBad := s.memBad.filter (fun x => !decide (a ≤ x ∧ x + 4 ≤ a + b.length)) }

end Sys2Proof.Machine
end

