-- ==== Sys2Proof/Machine/Bundles.lean ====
section
/-! DEFINITION. The encodings of bundles, contracts, commissioning items and images: how they are read and which are
legal (22_kiln.md R812, R815, R816; 21_applets.md R773, R774; 10_link_sessions.md R368, R391; 09_link_line.md R347). -/

namespace Sys2Proof.Machine

open Sys2Proof

/-- Big-endian field of a byte string. -/
def beAt (l : Bytes) (off n : Nat) : Nat := ofBe (slice off n l)

/-- Little-endian field of a byte string. -/
def leAt (l : Bytes) (off n : Nat) : Nat := ofLe (slice off n l)

/-- Bytes [off, off + n) are all zero. -/
def zeroAt (l : Bytes) (off n : Nat) : Bool := (slice off n l).all (fun b => b == 0)

/-! ## Profiles and contracts (R347, R348, R391, R815) -/

/-- A signed 16-bit value from its two's-complement code. -/
def signed16 (v : Nat) : Int := if v < 32768 then v else (v : Int) - 65536

/-- The two's-complement code of a signed 16-bit value. -/
def code16 (v : Int) : Nat := (v % 65536).toNat

/-- The 514 bytes of a profile (R347). -/
def profileBytes (mode : Nat) (points : List Int) : Bytes :=
  beBytes 1 mode ++ [1] ++ padTo 512 (points.flatMap (fun p => beBytes 2 (code16 p)))

/-- The points of a profile. -/
def profilePoints (b : Bytes) : List Int := (List.range 256).map (fun k => signed16 (beAt b (2 + 2 * k) 2))

/-- A CONTRACT value (R815). -/
def Contract.bytes (k : Contract) : Bytes :=
  beBytes 1 k.channel ++ beBytes 1 k.cls.code ++ beBytes 1 (bitOf k.withhold 0) ++ beBytes 1 k.allow.length
    ++ beBytes 1 (bitOf k.slowRate 0) ++ beBytes 1 k.nRetry ++ beBytes 1 k.pollP ++ beBytes 1 k.tSilent
    ++ beBytes 1 k.tAbsent ++ beBytes 1 k.tSlow ++ beBytes 1 k.tFaulty ++ beBytes 1 k.tReplay
    ++ beBytes 3 k.tconfLen ++ beBytes 3 k.hbLen ++ beBytes 3 k.holdLen ++ beBytes 3 k.coolOff ++ beBytes 4 k.rekey
    ++ beBytes 4 k.fpInterval ++ beBytes 2 k.fpLimit ++ [0, 0] ++ profileBytes k.refMode k.refPoints
    ++ k.allow.flatMap (padTo 16)

/-- The contract a CONTRACT value encodes. -/
def contractOf (b : Bytes) : Contract :=
  { channel := beAt b 0 1, cls := if beAt b 1 1 = 3 then .a else .h, withhold := beAt b 2 1 == 1
    slowRate := beAt b 4 1 == 1, nRetry := beAt b 5 1, pollP := beAt b 6 1, tSilent := beAt b 7 1
    tAbsent := beAt b 8 1, tSlow := beAt b 9 1, tFaulty := beAt b 10 1, tReplay := beAt b 11 1
    tconfLen := beAt b 12 3, hbLen := beAt b 15 3, holdLen := beAt b 18 3, coolOff := beAt b 21 3
    rekey := beAt b 24 4, fpInterval := beAt b 28 4, fpLimit := beAt b 32 2, refMode := beAt b 36 1
    refPoints := profilePoints (slice 36 514 b)
    allow := (List.range (beAt b 3 1)).map (fun i => slice (550 + 16 * i) 16 b) }

/-- A CONTRACT value is whole and every field lies in its range (R49, R348, R391, R815). -/
def contractLegal (b : Bytes) : Bool :=
  let n := beAt b 3 1
  let k := contractOf b
  decide (b.length = 550 + 16 * n ∧ 1 ≤ n ∧ n ≤ 8 ∧ k.channel ≤ 15 ∧ (beAt b 1 1 = 2 ∨ beAt b 1 1 = 3) ∧ beAt b 2 1 ≤ 1
    ∧ beAt b 4 1 ≤ 1 ∧ k.nRetry ≤ 7 ∧ 1 ≤ k.pollP ∧ 1 ≤ k.tSilent ∧ k.tSilent ≤ 15 ∧ 1 ≤ k.tAbsent ∧ 1 ≤ k.tSlow
    ∧ 1 ≤ k.tFaulty ∧ 1 ≤ k.tReplay ∧ 1 ≤ k.tconfLen ∧ 1 ≤ k.holdLen ∧ 32768 * (k.pollP + 1) ≤ k.hbLen
    ∧ 32768 ≤ k.coolOff ∧ 1966080 ≤ k.rekey ∧ k.rekey ≤ 2831155200 ∧ 29491200 ≤ k.fpInterval
    ∧ k.fpInterval ≤ 2831155200 ∧ 1 ≤ k.fpLimit ∧ k.fpLimit < 1024 ∧ beAt b 34 2 = 0
    ∧ (k.refMode = 1 ∨ k.refMode = 2) ∧ beAt b 37 1 = 1)
    && (k.refPoints.take 16).any (fun p => p != 0)

/-! ## Credentials (R368) -/

/-- The fixed and zero fields of a credential are right, whatever its ROLE (R368). -/
def credFormed (c : Bytes) : Bool :=
  c.length == 192 && beAt c 0 2 == 0x434C && beAt c 2 1 == 1 && zeroAt c 34 2 && zeroAt c 124 4

/-- A part credential is laid out as R368 with ROLE 0x02 (R816 check 7). -/
def partCredFormed (c : Bytes) : Bool :=
  credFormed c && beAt c 3 1 == 2 && decide (beAt c 28 2 ≤ beAt c 30 2) && decide (beAt c 32 2 ≤ 3)

/-- ISSUER_ID of an issuer key (R368). -/
def issuerId (key : Bytes) : Bytes := (sha2 .sha256 key).take 8

/-! ## Bundles (R812) -/

/-- The fields of a bundle. -/
structure Bundle where
  kind : Nat
  signer : Nat
  target : Bytes
  serial : Nat
  flags : Nat
  reason : Nat
  body : Bytes
  lmsPub : Bytes
  eccPub : Bytes
  lmsSig : Bytes
  eccSig : Bytes
deriving DecidableEq, Repr

/-- SIG_OFF of a bundle's bytes. -/
def sigOff (b : Bytes) : Nat := beAt b 40 4

/-- Reads a bundle's fields. -/
def bundleOf (b : Bytes) : Bundle :=
  let o := sigOff b
  { kind := beAt b 6 1, signer := beAt b 7 1, target := slice 8 16 b, serial := beAt b 24 8, flags := beAt b 32 4
    reason := beAt b 44 1, body := slice 64 (beAt b 36 4) b, lmsPub := slice o 56 b, eccPub := slice (o + 56) 97 b
    lmsSig := slice (o + 153) 1772 b, eccSig := slice (o + 1925) 96 b }

/-- Check 1: the header is well formed and TOTAL is as R812 gives. -/
def bundleFormed (b : Bytes) : Bool :=
  let k := beAt b 6 1
  let body := beAt b 36 4
  decide (85 ≤ b.length ∧ b.length = sigOff b + 2021 ∧ b.length ≤ 25165824 ∧ beAt b 0 4 = 0x54524B42 ∧ beAt b 4 2 = 1
    ∧ 1 ≤ k ∧ k ≤ 5 ∧ (beAt b 7 1 = 1 ∨ beAt b 7 1 = 2) ∧ sigOff b = 64 + body)
    && zeroAt b 45 19
    && (if k = 1 ∨ k = 2 then decide (beAt b 32 4 ≤ 1) else beAt b 32 4 == 0)
    && (if k = 4 ∨ k = 5 then body == 0 else true)
    && (if k = 5 then beAt b 24 8 == 0 && decide (1 ≤ beAt b 44 1 ∧ beAt b 44 1 ≤ 3) else beAt b 44 1 == 0)

/-- Typecodes of LMS_PUB and LMS_SIG are the one accepted pair (R813, RFC 8554). -/
def typecodesOk (x : Bundle) : Bool :=
  beAt x.lmsPub 0 4 == 8 && beAt x.lmsPub 4 4 == 4 && beAt x.lmsSig 4 4 == 4 && beAt x.lmsSig 1128 4 == 8

/-- SHA-384 over LMS_PUB ∥ ECC_PUB (R814, R225). -/
def signerHash (x : Bundle) : Bytes := sha2 .sha384 (x.lmsPub ++ x.eccPub)

/-! ## Commissioning items (R815) -/

/-- The items of a COMMISSION body; `none` in place of the rest gives the DETAIL of a body that is not whole: the TAG of
the item cut short, or 0xFFFF for 1 to 3 bytes that hold no item header. -/
def itemsOf : (n : Nat) → Bytes → List (Nat × Bytes) × Option Nat
  | 0, _ => ([], none)
  | n + 1, b =>
    match b with
    | [] => ([], none)
    | _ =>
      if b.length < 4 then ([], some 0xFFFF)
      else
        let tag := beAt b 0 2
        let len := beAt b 2 2
        if b.length < 4 + len then ([], some tag)
        else
          let (l, e) := itemsOf n (b.drop (4 + len))
          ((tag, slice 4 len b) :: l, e)

/-- Least and largest legal number of items of a TAG. -/
def itemCount : Nat → Option (Nat × Nat)
  | 1 => some (1, 1) | 2 => some (0, 1) | 3 => some (1, 2) | 4 => some (1, 1) | 5 => some (1, 2) | 6 => some (0, 64)
  | 7 => some (1, 1) | 16 => some (0, 16) | _ => none

/-- What a commissioning bundle's items are checked against. -/
structure ItemEnv where
  root : Bytes
  device : Bytes
  slot0 : Bytes
  credSigOk : Bool
deriving DecidableEq, Repr

/-- The values of every item of a TAG, in order. -/
def itemsNamed (t : Nat) (l : List (Nat × Bytes)) : List Bytes := (l.filter (fun e => e.1 == t)).map (·.2)

/-- One item's value is legal; `all` is the whole list of items. -/
def itemLegal (env : ItemEnv) (all : List (Nat × Bytes)) (t : Nat) (v : Bytes) : Bool :=
  match t with
  | 1 => v == env.root
  | 2 => v.length == 153
  | 3 => v.length == 64
  | 4 => partCredFormed v && slice 4 16 v == env.device && slice 36 64 v == env.slot0
      && (itemsNamed 3 all).any (fun k => issuerId k == slice 20 8 v) && env.credSigOk
  | 5 => v.length == 66 && (beAt v 0 1 == 1 || beAt v 0 1 == 2) && beAt v 1 1 == 0
  | 6 => v.length == 160
  | 7 => v.length == 4 && zeroAt v 2 2
  | 16 => contractLegal v
  | _ => false

/-- TAGs in ascending order. -/
def itemTags : List Nat := [1, 2, 3, 4, 5, 6, 7, 16]

/-- A TAG that had to appear after `lo` and before `hi`, and did not. -/
def missingTag (all : List (Nat × Bytes)) (lo hi : Nat) : Option Nat :=
  itemTags.find? (fun t => decide (lo < t ∧ t < hi) && decide ((itemsNamed t all).length < ((itemCount t).getD (0, 0)).1))

/-- TAG of the first item that fails, walking in order: an item out of TAG order, of an illegal count or value, a channel
named twice, or a required item that is absent (R815, R816 check 7). -/
def itemFail (env : ItemEnv) (all : List (Nat × Bytes)) : (last seen : Nat) → (chans : List Nat) → List (Nat × Bytes) → Option Nat
  | last, _, _, [] => missingTag all last 0x10000
  | last, seen, chans, (t, v) :: l =>
    match missingTag all last t with
    | some m => some m
    | none =>
      let n := if t = last then seen + 1 else 1
      let ch := beAt v 0 1
      if t < last then some t
      else if ((itemCount t).getD (0, 0)).2 < n then some t
      else if !itemLegal env all t v then some t
      else if t = 16 && chans.contains ch then some t
      else itemFail env all t n (if t = 16 then ch :: chans else chans) l

/-- DETAIL of the first failing item of a COMMISSION body, if any. -/
def commissionFail (env : ItemEnv) (body : Bytes) : Option Nat :=
  let (l, e) := itemsOf body.length body
  match itemFail env l 0 0 [] l with
  | some t => some t
  | none => e

/-- The content a legal COMMISSION body applies (R228). -/
def commissionContent (gen : Nat) (body : Bytes) : CommitContent :=
  let l := (itemsOf body.length body).1
  { generation := gen
    contracts := (itemsNamed 16 l).map contractOf
    disposition := match itemsNamed 7 l with | v :: _ => beAt v 0 2 | [] => 0
    issuers := itemsNamed 3 l
    partCred := (itemsNamed 4 l).headD []
    concKeys := (itemsNamed 5 l).map (fun v => (beAt v 0 1, slice 2 64 v))
    keyBlobs := itemsNamed 6 l
    nextRoot := (itemsNamed 2 l).head? }

/-! ## Images (R773, R774, R815) -/

/-- A Wheel image's header is legal (R815); LENGTH is the image's own length. -/
def wheelFormed (b : Bytes) : Bool :=
  decide (32 ≤ b.length ∧ b.length ≤ 4194304 ∧ leAt b 0 4 = 0x57484C31 ∧ leAt b 8 4 = b.length
    ∧ leAt b 12 4 < b.length ∧ leAt b 16 4 < b.length) && zeroAt b 20 12

/-- VERSION of a Wheel image. -/
def wheelVersion (b : Bytes) : Nat := leAt b 4 4

/-- The sections of an image, by offset and length; an empty section is left out. -/
def sectionsOf (b : Bytes) : List (Nat × Nat) :=
  ([0x10, 0x18, 0x20, 0x28].map (fun o => (leAt b o 4, leAt b (o + 4) 4))).filter (fun e => e.2 != 0)

/-- Two ranges overlap. -/
def overlap (a b : Nat × Nat) : Bool := decide (a.1 < b.1 + b.2 ∧ b.1 < a.1 + a.2)

/-- The header of an Aminana image is legal, with every section inside IMAGE_LEN (R773, R816). -/
def imageFormed (b : Bytes) : Bool :=
  let s := sectionsOf b
  let len := leAt b 0x0C 4
  decide (leAt b 0 4 = 0x414D4E41 ∧ leAt b 4 2 = 1 ∧ leAt b 6 2 ≤ 1 ∧ 256 ≤ len ∧ len ≤ 4194304 ∧ len = b.length
    ∧ 128 ≤ leAt b 0x14 4 ∧ leAt b 0x14 4 ≤ 1024 ∧ 32 ≤ leAt b 0x1C 4 ∧ leAt b 0x30 4 < leAt b 0x1C 4
    ∧ leAt b 0x30 4 % 2 = 0)
    && zeroAt b 0x34 12
    && s.all (fun e => decide (e.1 % 32 = 0 ∧ e.2 % 32 = 0 ∧ 64 ≤ e.1 ∧ e.1 + e.2 ≤ len))
    && (List.range s.length).all (fun i => (List.range i).all (fun j => !overlap (s.getD i (0, 0)) (s.getD j (0, 0))))

/-- The RINGS entries of a manifest from offset `o`, with the offset of END. -/
def ringsOf (m : Bytes) : (n : Nat) → (o : Nat) → List (Nat × Nat × Nat × Nat × Nat)
  | 0, _ => []
  | n + 1, o =>
    if leAt m o 4 = 0xFFFFFFFF then []
    else (beAt m o 1, beAt m (o + 1) 1, beAt m (o + 2) 1, beAt m (o + 3) 1, leAt m (o + 4) 4) :: ringsOf m n (o + 8)

/-- Engine of a RINGS entry (R774). -/
def ringEngine : Nat → Option Eng
  | 0 => some .fae | 2 => some .dig | 3 => some .wmu | _ => none

/-- A RINGS entry is legal: an engine and ring an applet may own (R774, R775). -/
def ringEntryOk (e : Nat × Nat × Nat × Nat × Nat) : Bool :=
  (match e.1 with
    | 0 => decide (2 ≤ e.2.1 ∧ e.2.1 ≤ 7)
    | 2 => decide (2 ≤ e.2.1 ∧ e.2.1 ≤ 7)
    | 3 => decide (2 ≤ e.2.1 ∧ e.2.1 ≤ 3)
    | _ => false) && decide (4 ≤ e.2.2.1 ∧ e.2.2.1 ≤ 10 ∧ e.2.2.2.1 ≤ 1 ∧ e.2.2.2.2 = 0)

/-- A power of two in [4096, 131 072], or 0. -/
def ldmOk (n : Nat) : Bool := [0, 4096, 8192, 16384, 32768, 65536, 131072].contains n

/-- The manifest of an image whose header is legal is well formed (R774). -/
def manifestFormed (b : Bytes) : Bool :=
  let m := slice (leAt b 0x10 4) (leAt b 0x14 4) b
  let r := ringsOf m 128 0x40
  let e := 0x40 + 8 * r.length
  decide (leAt m 0 1 ≤ 15 ∧ 1 ≤ leAt m 1 1 ∧ leAt m 1 1 ≤ 3 ∧ leAt m 2 1 ≤ 7 ∧ (leAt m 3 1 = 1 ∨ leAt m 3 1 = 2)
    ∧ leAt m 6 2 = 0 ∧ leAt m 8 4 % 4096 = 0 ∧ 4096 ≤ leAt m 8 4 ∧ leAt m 8 4 ≤ 4194304
    ∧ 1000 ≤ leAt m 0x10 4 ∧ leAt m 0x10 4 ≤ 900000 ∧ 328 ≤ leAt m 0x14 2 ∧ leAt m 0x14 2 ≤ 32768
    ∧ 33 ≤ leAt m 0x16 2 ∧ leAt m 0x16 2 ≤ 32768 ∧ leAt m 0x18 1 ≤ 64 ∧ leAt m 0x19 1 ≤ 16 ∧ leAt m 0x1A 1 ≤ 8
    ∧ leAt m 0x1B 1 ≤ 6 ∧ leAt m 0x1C 1 ≤ 1 ∧ e + 4 ≤ m.length ∧ leAt m e 4 = 0xFFFFFFFF)
    && zeroAt m 0x1D 3 && ldmOk (leAt m 0x0C 4) && r.all ringEntryOk

/-- The manifest and section table of an image. -/
def manifestOf (b : Bytes) : Manifest :=
  let m := slice (leAt b 0x10 4) (leAt b 0x14 4) b
  { domain := leAt m 0 1, cores := leAt m 1 1, priority := leAt m 2 1, signer := leAt m 3 1
    version := leAt b 8 4, execOnly := leAt b 6 2 % 2 == 1, imageLen := leAt b 0x0C 4
    manOff := leAt b 0x10 4, manLen := leAt b 0x14 4, codeOff := leAt b 0x18 4, codeLen := leAt b 0x1C 4
    constOff := leAt b 0x20 4, constLen := leAt b 0x24 4, dataOff := leAt b 0x28 4, dataLen := leAt b 0x2C 4
    entry := leAt b 0x30 4
    channels := (List.range 16).filter (fun n => (leAt m 4 2).testBit n)
    sram := leAt m 8 4, ldm := leAt m 0x0C 4, cpuUs := leAt m 0x10 4, quiesceMax := leAt m 0x14 2
    decideMax := leAt m 0x16 2, slots := leAt m 0x18 1, counters := leAt m 0x19 1, meas := leAt m 0x1A 1
    dataBlocks := leAt m 0x1B 1, flcRing := leAt m 0x1C 1 == 1, calls := leAt m 0x20 32
    rings := (ringsOf m 128 0x40).filterMap (fun e => (ringEngine e.1).map (fun g => (g, e.2.1, e.2.2.1, e.2.2.2.1 == 1))) }

/-- The manifest section's bytes of an image. -/
def manifestBytes (b : Bytes) : Bytes := slice (leAt b 0x10 4) (leAt b 0x14 4) b

/-! ## The option area (R180, R183, R843) -/

/-- The test section is in range (R843). -/
def testSectionOk (b : Bytes) : Bool :=
  let iv := leAt b 0 4
  let w := leAt b 4 2
  decide ((iv = 0 ∨ (3600 ≤ iv ∧ iv ≤ 2592000)) ∧ 60 ≤ w ∧ w ≤ 3600 ∧ leAt b 6 1 ≤ 1 ∧ leAt b 7 1 = 0)

/-- A copy of the option area is valid (R180, R181, R183), with `floor` the OPTION_FLOOR count. -/
def optionValid (floor : Nat) (c : Bytes) : Bool :=
  let l := leAt c 8 4
  let body := slice 0x40 l c
  let wd := leAt body 0x408 4
  decide (leAt c 0 4 = 0x54524B4F ∧ floor ≤ leAt c 4 4 ∧ l % 128 = 0 ∧ 1152 ≤ l ∧ l ≤ 16256 ∧ 0x40 + l ≤ c.length
    ∧ leAt c 12 4 = 1 ∧ (wd = 0 ∨ (16384 ≤ wd ∧ wd < 1048577)))
    && testSectionOk body && zeroAt body 0x43C 12 && zeroAt body 0x448 (l - 1096)
    && slice 0x10 48 c == sha2 .sha384 (c.take 16 ++ body)

/-- Copy `k` of the option area. -/
def State.optCopyOf (s : State) (k : Nat) : Bytes := if k = 0 then s.opt[0] else s.opt[1]

/-- Body of the chosen copy, empty where none is chosen. -/
def State.optBody (s : State) : Bytes :=
  match s.pwr.optCopy with
  | none => []
  | some k => slice 0x40 (leAt (s.optCopyOf k) 8 4) (s.optCopyOf k)

/-- Main watchdog period in ticks (R183, R197). -/
def State.wdogPeriod (s : State) : Nat :=
  let v := leAt s.optBody 0x408 4
  if v = 0 then 65536 else v

/-- Class L confirm-window length of channel `c` (R183, R301). -/
def State.tconfL (s : State) (c : Fin 16) : Nat :=
  let v := leAt s.optBody (0x40C + 3 * c.val) 3
  if v = 0 then 328 else v

/-- Burned bits of OPTION_FLOOR (R184). -/
def State.optionFloor (s : State) : Nat :=
  (List.range 64).foldl (fun n i => if (s.fuse (0x3B + i / 32)).testBit (i % 32) then n + 1 else n) 0

end Sys2Proof.Machine
end

