-- ==== Sys2Proof/Machine/FlashOps.lean ====
section
/-! DEFINITION. Flash pages and blocks: programming, tearing, erasing, and what an abort does to a program or erase under
way (20_flash.md R726–R728, R742, R765, R766). A page is numbered block × 512 + page. -/

namespace Sys2Proof.Machine

open Sys2Proof

/-- Block `b` (R725). -/
def Flc.blk (f : Flc) (b : Nat) : Block := lookupD {} b f.blocks

/-- Writes block `b`. -/
def Flc.setBlk (f : Flc) (b : Nat) (x : Block) : Flc := { f with blocks := putD {} b x f.blocks }

/-- The programmed flag of page `p` is set (R728). -/
def Flc.flagged (f : Flc) (p : Nat) : Bool := f.pages.any (fun e => e.1 == p)

/-- Page `p` is torn (R728). -/
def Flc.isTorn (f : Flc) (p : Nat) : Bool := f.torn.any (fun e => e.1 == p)

/-- Page `p` is in the poison map (R758). -/
def Flc.poisoned (f : Flc) (p : Nat) : Bool := f.poison.contains p

/-- Page `p` reads blank: no flag, not torn, or programmed with all ones. -/
def Flc.blank (f : Flc) (p : Nat) : Bool := (f.page p).all (· == 0xFF) && !f.isTorn p

/-- The present time for first-program times and ages: while unset, the last time held plus the powered time since (R754). -/
def State.flashTime (s : State) : Nat :=
  match s.kiln.timeSt with
  | .unset => s.kiln.lastTime + (s.powered - s.kiln.lastTimePowered) / 32768
  | _ => s.timeSecs

/-- Page `p` takes its bytes and its flag; the write pointer moves past it, and the first page after an erase brings the
first-program time (R728). -/
def State.programPage (s : State) (p : Nat) (b : Bytes) : State :=
  let x := s.flc.blk (p / 512)
  let first := !(s.flc.pages.any (fun e => e.1 / 512 == p / 512))
  let y := { x with wp := max x.wp (p % 512 + 1), firstProg := if first then s.flashTime else x.firstProg }
  { s with flc := { s.flc.setBlk (p / 512) y with pages := putD [] p b s.flc.pages } }

/-- Page `p` is left torn. -/
def State.tearPage (s : State) (p : Nat) : State :=
  { s.tick1 with flc := { s.flc with torn := putD 0 p s.freeCount s.flc.torn } }

/-- A block whose erase stopped or failed: its content is undefined, and it is not erased (R744, R765). -/
def State.spoilBlock (s : State) (b : Nat) : State :=
  let k := s.freeCount
  let un := (List.range 512).filter (fun i => !s.flc.flagged (b * 512 + i))
  { s.tick1 with flc := { s.flc with
      pages := s.flc.pages.map (fun e => if e.1 / 512 = b then (e.1, Config.freeBytesAt k (e.1 % 512 * 512) 512) else e)
      torn := un.foldl (fun l i => putD 0 (b * 512 + i) k l) s.flc.torn } }

/-- Block `b` erased: no flag, no torn page, no poison entry, write pointer 0 (R744). -/
def Flc.wipeBlock (f : Flc) (b : Nat) : Flc :=
  { f.setBlk b { f.blk b with wp := 0, firstProg := 0 } with
    pages := f.pages.filter (fun e => e.1 / 512 != b)
    torn := f.torn.filter (fun e => e.1 / 512 != b)
    poison := f.poison.filter (fun p => p / 512 != b)
    refresh := f.refresh.filter (· != b) }

/-- Every block of a set erased, its erase count risen, as in zeroization (R266). -/
def Flc.wipeWhere (f : Flc) (gone : Nat → Bool) : Flc :=
  { f with
    blocks := f.blocks.map (fun e => if gone e.1 then (e.1, { e.2 with wp := 0, firstProg := 0, eraseCount := e.2.eraseCount + 1 }) else e)
    pages := f.pages.filter (fun e => !gone (e.1 / 512))
    torn := f.torn.filter (fun e => !gone (e.1 / 512))
    poison := f.poison.filter (fun p => !gone (p / 512)) }

/-- The erase in progress in the bank of block `b`. -/
def Flc.eraseOf (f : Flc) (b : Nat) : Option EraseJob := if b < 128 then f.eraseA else f.eraseB

/-- Writes the erase in progress in the bank of block `b`. -/
def Flc.setErase (f : Flc) (b : Nat) (j : Option EraseJob) : Flc :=
  if b < 128 then { f with eraseA := j } else { f with eraseB := j }

/-- The program under way for a ring. -/
def Flc.progOf (f : Flc) (ring : Nat) : Option ProgJob := f.progs.find? (fun j => j.ring == ring)

/-- Block `b` is claimed by a program or an erase under way (R735). -/
def Flc.claimed (f : Flc) (b : Nat) : Bool :=
  f.progs.any (fun j => j.rest.any (fun e => e.1 / 512 == b))
    || (match f.eraseOf b with | some j => j.block == b | none => false)

/-- Bank 0 A or 1 B of a block is programming or erasing (R729). -/
def Flc.busyBank (f : Flc) (b : Nat) : Bool :=
  (f.eraseOf b).isSome || f.progs.any (fun j => j.rest.any (fun e => decide (e.1 / 512 < 128) == decide (b < 128)))

/-- RESULT of a PROGRAM: where a page was programmed, it took a pulse at least (R741). -/
def progResult (j : ProgJob) (wp : Nat) : Bytes :=
  leBytes 2 j.programmed ++ leBytes 2 j.same ++ leBytes 2 wp ++ leBytes 1 (if j.programmed = 0 then 0 else max 1 j.pulses)

/-- The page being pulsed completes: it is programmed, and the job moves on (R741, R766). -/
def State.finishPage (s : State) (j : ProgJob) : State × ProgJob :=
  match j.rest with
  | [] => (s, j)
  | (p, b) :: l => (s.programPage p b, { j with done := j.done + 1, programmed := j.programmed + 1, rest := l })

/-- Removes the program of a ring. -/
def Flc.dropProg (f : Flc) (ring : Nat) : Flc := { f with progs := f.progs.filter (fun j => j.ring != ring) }

/-- What an abort does to the work under way of an FLC ring: code, DETAIL, BYTES and RESULT of its completion follow. In Crazed
the page being pulsed completes; otherwise it is torn. A stopped erase leaves its block not erased (R742, R765, R766). -/
def State.abortFlash (s : State) (ring : Nat) (tamper : Bool) : State × Option (Bool × Nat × Bytes) :=
  match s.flc.progOf ring with
  | some j =>
    if tamper then
      let (s1, j1) := s.finishPage j
      let s2 := { s1 with flc := s1.flc.dropProg ring }
      let wp := match j.rest with | (p, _) :: _ => (s1.flc.blk (p / 512)).wp | [] => 0
      (s2, some (j1.rest.isEmpty, 512 * j1.done, if j1.rest.isEmpty then progResult j1 wp else []))
    else
      let s1 := match j.rest with | (p, _) :: _ => s.tearPage p | [] => s
      ({ s1 with flc := s1.flc.dropProg ring }, some (false, 512 * j.done, []))
  | none =>
    match s.flc.eraseA, s.flc.eraseB with
    | some j, e =>
      if j.ring = ring then ({ (s.spoilBlock j.block) with flc := { (s.spoilBlock j.block).flc with eraseA := none } }, none)
      else match e with
        | some j => if j.ring = ring then ({ (s.spoilBlock j.block) with flc := { (s.spoilBlock j.block).flc with eraseB := none } }, none) else (s, none)
        | none => (s, none)
    | none, some j =>
      if j.ring = ring then ({ (s.spoilBlock j.block) with flc := { (s.spoilBlock j.block).flc with eraseB := none } }, none) else (s, none)
    | none, none => (s, none)

/-- Every program and erase under way stops, as at a reset: pages are torn, blocks are not erased (R765). -/
def State.stopFlash (s : State) : State := [0, 1, 2].foldl (fun t k => (t.abortFlash k false).1) s

end Sys2Proof.Machine
end

