-- ==== Sys2Proof/Machine/RingOps.lean ====
section
/-! DEFINITION. Descriptor rings (chapter 15): indices, doorbells, configuration, completion write-back and aborts. -/

namespace Sys2Proof.Machine

open Sys2Proof

/-! ## Indices (R578) -/

/-- Difference of two free-running 16-bit indices. -/
def sub16 (a b : Nat) : Nat := (a + 65536 - b % 65536) % 65536

/-- Descriptors pending on a ring (R578). -/
def Ring.pending (r : Ring) : Nat := sub16 r.prod r.cons

/-- Address of the slot of index `i` (R578). -/
def Ring.slot (r : Ring) (i : Nat) : Nat := r.base + 64 * (i % 2 ^ r.log2)

/-- Owner of a ring's DMA (R552). -/
def Ring.who (r : Ring) : Who := ⟨r.ownerLevel, r.ownerDomain, none⟩

/-- Numeric completion codes (R593). -/
def codeNum : Code → Nat
  | .done => 0x00 | .doneSame => 0x01 | .malformed => 0x10 | .length => 0x11 | .access => 0x12 | .slot => 0x13
  | .value => 0x14 | .verdict => 0x15 | .notErased => 0x16 | .order => 0x17 | .verify => 0x18
  | .uncorrectable => 0x19 | .counterExhausted => 0x1A | .abortReset => 0x20 | .abortTamper => 0x21
  | .abortPeer => 0x22

/-- What a completion says (R592). -/
structure Done where
  code : Code
  detail : Nat := 0
  bytes : Nat := 0
  result : Bytes := []
deriving DecidableEq, Repr

/-- The 16 bytes of a completion write-back, DONE set (R592). -/
def Done.wb (d : Done) : Bytes :=
  leBytes 1 (codeNum d.code) ++ [1] ++ leBytes 2 d.detail ++ leBytes 4 d.bytes ++ padTo 8 d.result

/-! ## Doorbells (R583–R585) -/

/-- INDEX of a doorbell is accepted (R583). -/
def Ring.indexOk (r : Ring) (n : Nat) : Bool :=
  decide (sub16 r.prod r.cons ≤ sub16 n r.cons ∧ sub16 n r.cons ≤ 2 ^ r.log2)

/-- SEEN of a doorbell is accepted (R584). -/
def Ring.seenOk (r : Ring) (n : Nat) : Bool := decide (sub16 n r.seen ≤ sub16 r.cons r.seen)

/-- A doorbell is judged field by field (R583, R584). -/
def Ring.doorbell (r : Ring) (index seen : Nat) : Ring :=
  let r1 := if r.indexOk index then { r with prod := index % 65536 } else { r with doorbellRefused := true }
  if r1.seenOk seen then { r1 with seen := seen % 65536 } else { r1 with seenRefused := true }

/-- Doorbells held are judged in order against the indices of that moment (R585). -/
def Ring.judgeHeld (r : Ring) : Ring :=
  r.held.foldl (fun x d => x.doorbell d.1 d.2) { r with held := [] }

/-! ## Configuration (R579–R581) -/

/-- Configuration writes take effect: the ring is OFF or HALTED (R579). -/
def Ring.configurable (r : Ring) : Bool := r.st == .off || r.st == .halted

/-- A write of ENABLE = 1 is legal (R580). -/
def Ring.enableOk (e : Eng) (r : Ring) : Bool :=
  decide (4 ≤ r.log2 ∧ r.log2 ≤ 10) && decide (r.base % (64 * 2 ^ r.log2) = 0)
    && decide (0x20000000 ≤ r.base ∧ r.base + 64 * 2 ^ r.log2 ≤ 0x20C00000)
    && decide (r.ownerLevel ≤ 2) && !((e == .ksm || e == .kiln) && r.ownerLevel == 2)

/-- CONFIG_REFUSED is set. -/
def Ring.refuseConfig (r : Ring) : Ring := { r with configRefused := true }

/-- A write of ENABLE = 1: an OFF or HALTED ring with a legal configuration runs, HALTED ones with REASON cleared and
fetching again from CONS (R580); during an engine reset it is refused (R608). -/
def Ring.enableWrite (e : Eng) (r : Ring) : Ring :=
  match r.st with
  | .resetting => r.refuseConfig
  | .running => r
  | .stopping => r.refuseConfig
  | _ => if r.enableOk e then { r with enable := true, st := .running, reason := 0, fetch := r.cons, cur := none } else r.refuseConfig

/-- A write of ENABLE = 0: the ring stops fetching; it is STOPPING until a fetched descriptor completes (R581). A ring in
an engine reset becomes OFF when the reset ends (R608). -/
def Ring.disableWrite (r : Ring) : Ring :=
  match r.st with
  | .running => { r with enable := false, st := if r.cur.isSome then .stopping else .off }
  | _ => { r with enable := false }

/-- A write to STEM_RING_BASE (R579): PROD, CONS and HALT_INDEX become zero; a HALTED ring goes OFF. -/
def Ring.baseWrite (r : Ring) (v : Nat) : Ring :=
  if r.configurable then
    { r with base := v / 64 * 64, prod := 0, seen := 0, cons := 0, fetch := 0, haltIndex := 0, cur := none
             st := .off, enable := if r.st == .halted then false else r.enable }
  else r.refuseConfig

/-- A write to STEM_RING_SIZE (R579). -/
def Ring.sizeWrite (r : Ring) (v : Nat) : Ring :=
  if r.configurable then { r with log2 := v % 16 } else r.refuseConfig

/-- The fields of STEM_RING_POLICY other than ENABLE (R579); HALT is RO on KSM and Kiln rings (R577). -/
def Ring.policyWrite (e : Eng) (r : Ring) (v : Nat) : Ring :=
  if r.configurable then
    { r with haltPart := if e == .ksm || e == .kiln then true else v.testBit 30
             notify := v.testBit 29, ownerLevel := v / 16 % 4, ownerDomain := v % 16 }
  else if v.testBit 30 == r.haltPart && v.testBit 29 == r.notify && v / 16 % 4 == r.ownerLevel && v % 16 == r.ownerDomain then r
  else r.refuseConfig

/-! ## Completion and abort (R592, R598–R602) -/

/-- The ring after its descriptor at CONS.INDEX completes: CONS advances and a STOPPING ring goes OFF (R581, R592). -/
def Ring.advance (r : Ring) : Ring :=
  let c := (r.cons + 1) % 65536
  { r with cons := c, fetch := if sub16 r.fetch r.cons = 0 then c else r.fetch, cur := none
           st := if r.st == .stopping then .off else r.st }

/-- Writes a completion into the slot at CONS.INDEX of ring `k`, under the check made at fetch, and advances (R592, R595). -/
def State.complete (s : State) (e : Eng) (k : Nat) (d : Done) : State :=
  let r := s.ring e k
  (s.sramWrite (r.slot r.cons + 0x30) d.wb).updRing e k Ring.advance

/-- Completes the descriptor at CONS.INDEX with an abort code: fetched, under its check; not fetched, at the owner rights
of this moment, a refused write-back being skipped with WB_LOST and recorded (R600). -/
def State.abortOne (s : State) (e : Eng) (k : Nat) (code : Code) : State :=
  let r := s.ring e k
  let a := r.slot r.cons + 0x30
  if r.cur.isSome then
    match e with
    | .flc =>
      match s.abortFlash k (code == .abortTamper) with
      | (s1, some (true, n, res)) => s1.complete e k { code := .done, bytes := n, result := res }
      | (s1, some (false, n, _)) => s1.complete e k { code := code, detail := 1, bytes := n }
      | (s1, none) => s1.complete e k { code := code, detail := 1 }
    | _ => s.complete e k { code := code, detail := 1 }
  else
    match s.prot.check r.who .write false a 16 with
    | none => s.complete e k { code := code }
    | some (kind, addr) =>
      { s with prot := s.prot.dmaFault (engIx e) k r.who .write kind addr }.updRing e k (fun x => { x.advance with wbLost := true })

/-- Completes `n` descriptors of ring `k` in ring order (R600). -/
def State.abortMany : (n : Nat) → State → Eng → (k : Nat) → Code → State
  | 0, s, _, _, _ => s
  | n + 1, s, e, k, code => State.abortMany n (s.abortOne e k code) e k code

/-- The access of ring `k` no longer waits under UPDATE. -/
def State.dropDma (s : State) (e : Eng) (k : Nat) : State :=
  { s with prot := { s.prot with held := s.prot.held.filter (fun h => h != .dma e k) } }

/-- Every descriptor pending on ring `k` completes with the abort code, in ring order; an access held for one no longer waits
(R569, R600). -/
def State.abortRing (s : State) (e : Eng) (k : Nat) (code : Code) : State :=
  (s.abortMany (s.ring e k).pending e k code).dropDma e k

/-- Every ring of an engine, ascending (R600). -/
def State.abortEngine (s : State) (e : Eng) (code : Code) : State :=
  (List.range (s.engOf e).rings.length).foldl (fun t k => t.abortRing e k code) s

/-- All engines in the order of R574. -/
def allEngines : List Eng := [.fae, .sae, .dig, .wmu, .flc, .ksm, .lnk, .upl, .sjm, .kiln]

/-- The engines that an entry into Crazed aborts (R602). -/
def crazedEngines : List Eng := [.fae, .sae, .dig, .wmu, .ksm, .lnk, .sjm, .flc]

/-- Every ring of every engine of a list. -/
def State.abortEngines (s : State) (l : List Eng) (code : Code) : State := l.foldl (fun t e => t.abortEngine e code) s

/-- ABORT_PEER on both SJM rings (R602). -/
def State.abortPeer (s : State) : State := s.abortEngine .sjm .abortPeer

/-- BUSY: a descriptor of some ring is between fetch and completion (R577). -/
def EngSt.busy (x : EngSt) : Bool := x.rings.any (fun r => r.cur.isSome)

/-- A completion source is asserted: some ring with NOTIFY has SEEN behind CONS (R584). -/
def EngSt.notifies (x : EngSt) : Bool := x.rings.any (fun r => r.notify && r.seen != r.cons)

end Sys2Proof.Machine
end

