-- ==== Sys2Proof/Machine/TamperOps.lean ====
section
/-! DEFINITION. Shared responses of the grade machine (chapter 07): trips, excuses, provisional holds, entry into
Crazed and into Sherd with zeroization, clearing; and the loss of sessions and of main-island state they share. -/

namespace Sys2Proof.Machine

open Sys2Proof

/-- Ticks of 24 h (R264). -/
def ticks24h : Nat := 2831155200

/-- Ticks of one hour (R260). -/
def ticks1h : Nat := 117964800

/-- Keeps the entries of a history that lie within the last `w` powered ticks. -/
def within (w now : Nat) (l : List Nat) : List Nat := l.filter (fun t => decide (now < t + w))

/-! ## Records of trips (R259, R271, R418) -/

/-- The 20-byte TAMPER record body (R418). -/
def tamperBody (die grade : Nat) (t : Trip) (ref refTick crazed glitches : Nat) : Bytes :=
  beBytes 1 die ++ beBytes 1 grade ++ beBytes 1 t.cause ++ beBytes 1 t.index ++ beBytes 6 t.tick ++ beBytes 1 ref ++ [0]
    ++ beBytes 6 refTick ++ beBytes 1 crazed ++ beBytes 1 glitches

/-- The TAMPER body of a trip with this die's escalation counts. -/
def State.tripBody (s : State) (grade : Nat) (t : Trip) (ref refTick : Nat) : Bytes :=
  tamperBody 0 grade t ref refTick (within ticks24h s.powered s.tamp.crazedAt).length
    (within 327680 s.powered s.tamp.glitchAt).length

/-- A trip is logged as TRIP with its grade, programmed at once for a VCORE glitch, reported as a TAMPER record, and sent
as a Spyhole EVENT (R244, R252, R259, R806). -/
def State.tripLog (s : State) (grade : Grade) (t : Trip) (ref : Nat := 0) (refTick : Nat := 0) : State :=
  let body := s.tripBody grade.code t ref refTick
  ((s.logEv 0x0301 grade.code 0 body false (t.cause == 3)).report 0x06 body).spyEvent 1 t.cause t.index grade.code t.tick []

/-! ## Loss of sessions and of main-island state -/

/-- A channel's session ends and its keys go: no session, handshake, transaction, wake filter or kept burst (R252, R388). -/
def Link.dropSession (l : Link) : Link :=
  { l with sess := none, hs := none, txn := none, waiting := [], wf := none, kept := [], rekeyDue := none, rsp := none
           closedSid := none, attemptK := 0, lastAttempt := none
           fp := { l.fp with occ := none, running := false, attempts := 0, retryFrom := none } }

/-- A pair taken for a measurement goes back to function T: at once where its switch has not begun, else by a switch of its own (R88,
R356). -/
def Chan.pairBack (c : Chan) (t : Nat) : Chan :=
  let p := c.lnkPad
  let q := match p.cur, p.req with
    | .conn .t, some (some .e, _) => { p with req := none }
    | .conn .e, _ => p.request .t t
    | .switching _ (some .e), _ => p.request .t t
    | _, _ => p
  { c with lnkPad := q }

/-- A waiting call returns: a0 and a1 are written and the applet is READY on the core (R783, R784). -/
def AppCore.returns (x : AppCore) (code a1 : Nat) : AppCore :=
  match x.st with
  | .waiting => { x with st := .ready, call := none, regs := (x.regs.set 10 (BitVec.ofNat 32 code)).set 11 (BitVec.ofNat 32 a1) }
  | _ => x

/-- The call an applet waits in on a core. -/
def AppCore.waitsIn (x : AppCore) (n : Nat) : Bool := match x.call with | some (m, _) => m == n | none => false

/-- Every waiting call of number `n` of a domain returns. -/
def App.returnCalls (a : App) (n code a1 : Nat) : App :=
  { a with cpu := a.cpu.map (fun x => if x.waitsIn n then x.returns code a1 else x) }

/-- Every field-link session is dropped, a measurement abandoned and its pair switched back; a LINK_REQ whose session ends returns
ABORT_RESET (R193, R252, R356, R784). -/
def State.dropSessions (s : State) : State :=
  let s1 := s.eachCh (fun c t => (t.updLnk c Link.dropSession).updCh c (fun x => x.pairBack t.tick))
  { s1 with app := s1.app.map (fun a => a.returnCalls 0x20 (codeNum .abortReset) 0) }

/-- The main end's Slip Joint session is dropped (R248); a METRO_LOAD call it cuts off returns ABORT_TAMPER in Crazed, else
ABORT_PEER (R861). -/
def State.dropSlip (s : State) : State :=
  let code := if s.crazed then codeNum .abortTamper else codeNum .abortPeer
  { s with sjm := { s.sjm with sj := { s.sjm.sj with sess := none }, loadOwner := none }
           app := if s.sjm.sj.sess.isSome then s.app.map (fun a => a.returnCalls 0x61 code 0) else s.app }

/-- A grade change: interrupt source 14, and wait event 6 of every applet (R527, R785). -/
def State.gradeChange (s : State) : State :=
  { s with irq := s.irq ||| 2 ^ 14, app := s.app.map (fun a => { a with events := a.events ||| 2 ^ 6 }) }

/-- A self-test run in progress is abandoned: what it has not tested stays NOT_RUN, and the Wheel still logs it (R837, R841). -/
def State.abandonRun (s : State) : State :=
  match s.selft.run with
  | none => s
  | some r =>
    { s with selft := { s.selft with
      run := none, prepared := none, logDue := true
      duration := min 65535 ((s.powered - r.started) * 1000 / 32768) } }

/-! ## Entry into Crazed (R251–R254, R264) -/

/-- The effects of Crazed that hardware lines and the Kiln make at once: guarded outputs freeze, keys are sealed, the
DRBG is to be reseeded, sessions drop, every pending descriptor of R253 completes ABORT_TAMPER, erases stop, a self-test
run is abandoned, the contexts of DIG and of the cipher engines are wiped (R655, R682). -/
def State.crazedEffects (s : State) : State :=
  let s1 := (s.gradeChange.freezeAll .crazed).releaseAll .provisional
  let s2 := s1.wakeMain
  let s3 := { s2 with ksm := { s2.ksm with sealed := true, reseedDue := true } }
  let s4 := s3.dropSessions.dropSlip
  let s5 := (s4.abortEngines crazedEngines .abortTamper).abandonRun
  { s5 with flc := { s5.flc with scrub := none, scrubStarved := false }
            wmu := { s5.wmu with yielded := none }
            dig := { s5.dig with ctx := Vector.replicate 16 {} }
            aes := { s5.aes with saggar := none, waiting := [], ctx := Vector.replicate 8 none, saeCtx := none } }

/-- Entry into Crazed by a trip: counted once (R264). -/
def State.enterCrazed (s : State) (t : Trip) : State :=
  let s1 := { s with tamp := { s.tamp with
    grade := .crazed, entry := t, selfCheck := false
    crazedAt := s.powered :: within ticks24h s.powered s.tamp.crazedAt } }
  s1.crazedEffects

/-! ## Sherd (R45, R46, R266–R270, R905) -/

/-- The pad has a function, or is on its way to it. -/
def Pad.goesTo (p : Pad FenFn) (f : FenFn) : Bool :=
  match p.cur, p.req with
  | _, some (some x, _) => x == f
  | .conn x, none => x == f
  | .switching _ (some x), none => x == f
  | _, _ => false

/-- A channel at entry into Sherd: withheld channels keep function G driven low with the latch refused (R905); every other
H or A channel asks for function P and loses its service flag (R45, R192); field-link pairs park (R90). -/
def Chan.toSherd (c : Chan) (withhold : Bool) (t : Nat) : Chan :=
  let c0 := { c with lnkPad := c.lnkPad.park false t }
  if !c0.eclass.guarded || c0.fused || c0.retired then c0
  else if withhold then
    let c1 := { c0.clearLatch with sherdHold := true, frz := {}, needDec := false, keptGuard := none, keptKeep := none }
    (if c0.frozen then c1.push evFreezeOff t else c1).settle t
  else
    let c1 := (c0.clearService t).clearLatch
    { c1 with keep := .idle, fenPad := if c1.fenPad.goesTo .p then c1.fenPad else c1.fenPad.request .p t }

/-- The disposition record sets withhold in Sherd for channel `c` (R46). -/
def State.withholds (s : State) (c : Fin 16) : Bool := s.life.disposition.testBit c.val

/-- Every channel at entry into Sherd (R905). -/
def State.channelsToSherd (s : State) : State := s.eachCh (fun c t => t.chOp c (fun x => x.toSherd (s.withholds c) t.tick))

/-- A completed zeroization step is shown on the Spyhole as a LIFECYCLE event (R851). -/
def State.zeroShown (s : State) : State := s.spyEvent 3 s.tamp.zeroStep 0 s.gradeNow s.tick []

/-- Z2: the Sherd cause in the AO latch, SHERD burned in both copies (R266). -/
def State.zeroZ2 (s : State) (cause : SherdCause) : State :=
  let s1 := { s with tamp := { s.tamp with sherdLatch := some cause, zeroStep := 2 } }
  let s2 := s1.burn 0x00 8
  { s2 with life := { s2.life with firing := .sherd, lastApplied := .sherd, sherdCause := some cause } }.zeroShown

/-- Z3: the volatile secrets are wiped (R266). -/
def State.zeroZ3 (s : State) : State :=
  let s1 := s.dropSessions.dropSlip
  State.zeroShown { s1 with
    ksm := { s1.ksm with slots := [], drbgReady := false }
    mem := [], ldm := Vector.replicate 2 [], memBad := [], ldmBad := Vector.replicate 2 []
    core := s1.core.map (fun c => { c with icache := [], sbuf := [] })
    wmu := {}
    aes := { s1.aes with saggar := none, waiting := [], ctx := Vector.replicate 8 none, saeCtx := none }
    dig := { s1.dig with ctx := Vector.replicate 16 {} }
    tamp := { s1.tamp with zeroStep := 3 } }

/-- Z4: the zeroization record, then the blocks of wrapped keys, contracts, staged records and the journal (R266). -/
def State.zeroZ4 (s : State) (cause : SherdCause) : State :=
  let gone := fun (b : Nat) => decide (112 ≤ b ∧ b < 120) || b == 254 || b == 255
  State.zeroShown { s with
    tamp := { s.tamp with zeroStep := 4, zeroRecord := some (4, cause) }
    ksm := { s.ksm with area := [], comp := none, entries := [], entryPages := 0, tail := [], cnt := [], sync := [], badPage := false }
    life := { s.life with contracts := Vector.replicate 16 none, staged := none, issuers := [], partCred := [], concKeys := [] }
    flc := s.flc.wipeWhere gone }

/-- Z5: every other block of the main flash (R266). -/
def State.zeroZ5 (s : State) (cause : SherdCause) : State :=
  let gone := fun (b : Nat) => decide (b < 240)
  State.zeroShown { s with
    tamp := { s.tamp with zeroStep := 5, zeroRecord := some (5, cause) }
    upl := { s.upl with ring := [], wptr := 0, held := [], todo := [], intake := none, complete := none, msgs := [] }
    app := Vector.replicate 16 {}
    kiln := { s.kiln with installs := s.kiln.installs.map (fun (x : Install) => { x with imgA := [], imgB := [] }) }
    flc := { s.flc.wipeWhere gone with refresh := [] } }

/-- Z6: the zeroization-complete entry; the cores enter the identity reporter (R266). -/
def State.zeroZ6 (s : State) (cause : SherdCause) : State :=
  let s1 := { s with tamp := { s.tamp with zeroStep := 6, zeroRecord := some (6, cause), grade := .none, holds := [], latches := [] }
                     pwr := { s.pwr with main := .running, phase := .done, mainWdogFrom := none }
                     ksm := { s.ksm with sealed := false } }
  (s1.klog 0x0304 (beBytes 1 6 ++ beBytes 1 cause.code)).zeroShown

/-- The rails and the Kiln that steps Z2 to Z6 need are there (R267, R277). -/
def State.canZeroize (s : State) : Bool := s.railsOk && s.kilnReady

/-- Zeroization in the order of R266 from its first step; without its rails only the latch and the hardware lines act,
and the next start completes it (R277). -/
def State.zeroize (s : State) (cause : SherdCause) : State :=
  let s1 := { s with tamp := { s.tamp with grade := .shattered, sherdLatch := some cause } }.crazedEffects
  if s1.canZeroize then
    (((((s1.wakeKiln.zeroZ2 cause).zeroZ3).zeroZ4 cause).zeroZ5 cause).zeroZ6 cause).channelsToSherd
  else s1

/-- Entry into Shattered by a trip: logged, then zeroization with cause TAMPER (R252, R266). -/
def State.enterShattered (s : State) (t : Trip) : State :=
  (({ s with tamp := { s.tamp with grade := .shattered } }).tripLog .shattered t).zeroize .tamper

/-! ## Grading (R250, R258, R261, R264) -/

/-- A trip restarts the quiet interval, and fails a self-check in progress (R261). -/
def State.quiet (s : State) : State :=
  { s with tamp := { s.tamp with quietEnd := s.tick + 1 + 32768, selfCheckTrip := s.tamp.selfCheck } }

/-- A trip graded Crazed: entered once, then escalated at the ninth entry within 24 h of powered time (R264). -/
def State.gradeCrazed (s : State) (t : Trip) : State :=
  if s.life.firing = .sherd then s.tripLog .watch t
  else if s.tamp.grade = .shattered then s
  else if s.tamp.grade = .crazed then
    if 9 ≤ s.tamp.crazedAt.length then s.quiet.enterShattered ⟨0x13, t.index, t.tick⟩ else (s.tripLog .crazed t).quiet
  else
    let s1 := s.enterCrazed t
    if 9 ≤ s1.tamp.crazedAt.length then s1.quiet.enterShattered ⟨0x13, t.index, t.tick⟩
    else (s1.tripLog .crazed t).quiet

/-- A VCORE glitch is counted in the history of 10 s of powered time; the third gives Shattered (R264). -/
def State.gradeGlitch (s : State) (t : Trip) : State :=
  let s1 := { s with tamp := { s.tamp with glitchAt := s.powered :: within 327680 s.powered s.tamp.glitchAt } }
  if s1.life.firing != .sherd && decide (3 ≤ s1.tamp.glitchAt.length) then s1.enterShattered ⟨0x14, t.index, t.tick⟩
  else s1.gradeCrazed t

/-- A trip graded Shattered (R250, R270). -/
def State.gradeShattered (s : State) (t : Trip) : State :=
  if s.life.firing = .sherd then s.tripLog .watch t
  else if s.tamp.grade = .shattered then s
  else s.enterShattered t

/-- A trip graded Watch: logged and reported (R252). -/
def State.gradeWatch (s : State) (t : Trip) (ref : Nat := 0) (refTick : Nat := 0) : State := s.tripLog .watch t ref refTick

/-- The grade a main-die cause gives (R240). -/
def causeGrade (f : Firing) (cause : Nat) : Grade :=
  if cause = 0x0B then (if f = .fired then .shattered else .crazed)
  else if cause = 0x0E ∨ cause = 0x10 ∨ cause = 0x11 then .shattered
  else if cause = 0x12 then .watch
  else .crazed

/-- A latched trip is graded (R240, R250). -/
def State.gradeTrip (s : State) (t : Trip) : State :=
  if t.cause = 0x03 then s.gradeGlitch t
  else match causeGrade s.life.firing t.cause with
    | .shattered => s.gradeShattered t
    | .watch => s.gradeWatch t
    | _ => s.gradeCrazed t

/-- The AO latch: cleared only once the Kiln has logged the trip (R244). While the Kiln can neither run nor be woken, the
hardware lines act and the latch waits for the next start. -/
def State.latchTrip (s : State) (t : Trip) : State :=
  if s.kilnReady then s.gradeTrip t
  else
    let s1 := { s with tamp := { s.tamp with latches := s.tamp.latches ++ [t] } }
    if s1.life.firing = .sherd ∨ s1.tamp.grade = .shattered then s1
    else match causeGrade s1.life.firing t.cause with
      | .shattered => { s1 with tamp := { s1.tamp with grade := .shattered, sherdLatch := some .tamper } }.crazedEffects
      | .watch => s1
      | _ => if s1.tamp.grade = .crazed then s1.quiet else (s1.enterCrazed t).quiet

/-! ## Discrimination (R255–R260, R272–R274) -/

/-- The most recent reference event of each kind with its code, in the order of R418. -/
def Tamp.refs (x : Tamp) : List (Nat × Nat) :=
  [(1, x.refSurge), (2, x.refPfail), (3, x.refA), (4, x.refB)].filterMap (fun e => e.2.map (fun t => (e.1, t)))

/-- A reference event that excuses an anomaly of tick `a`: sampled in [a − 66, a + 66) (R256). -/
def Tamp.excusing (x : Tamp) (a : Nat) : Option (Nat × Nat) :=
  x.refs.find? (fun e => decide (a ≤ e.2 + 66 ∧ e.2 < a + 66))

/-- Discrimination is suspended (R260). -/
def State.suspended (s : State) : Bool :=
  match s.tamp.suspendedUntil with | some t => decide (s.powered < t) | none => false

/-- An anomaly is excused: logged and reported as Watch with the reference; the 32nd excuse within an hour of powered time
suspends discrimination for the next (R259, R260). -/
def State.excuse (s : State) (a : Anomaly) (ref : Nat × Nat) : State :=
  let s1 := s.gradeWatch ⟨a.cause, a.index, a.tick⟩ ref.1 ref.2
  let ex := s1.powered :: within ticks1h s1.powered s1.tamp.excuses
  let s2 := { s1 with tamp := { s1.tamp with excuses := ex, excused := sat16 s1.tamp.excused } }
  if 32 ≤ ex.length then
    { s2 with tamp := { s2.tamp with excuses := [], suspendedUntil := some (s2.powered + ticks1h) } }.gradeWatch ⟨0x15, 0, s2.tick⟩
  else s2

/-- The provisional hold ends: guarded outputs are released when no anomaly's window is open without a reference (R257, R273). -/
def State.endHold (s : State) : State := if s.provisional then s else (s.gradeChange.releaseAll .provisional).programLog.drainReports

/-- A discriminable anomaly sampled now (R257, R258). -/
def State.anomaly (s : State) (cause index : Nat) : State :=
  let a : Anomaly := ⟨cause, index, s.tick⟩
  if s.life.firing = .sherd then s.gradeWatch ⟨cause, index, s.tick⟩
  else if s.suspended then s.latchTrip ⟨cause, index, s.tick⟩
  else match s.tamp.excusing s.tick with
    | some ref => s.excuse a ref
    | none =>
      let s1 := { s with tamp := { s.tamp with holds := s.tamp.holds ++ [a] } }
      if s1.provisional && !s.provisional then (s1.freezeAll .provisional).gradeChange else s1

/-- A reference event is sampled now: it excuses every open anomaly whose window contains this tick (R256–R258). In Crazed the quiet
interval starts again after a window that was open (R261). -/
def State.reference (s : State) (k : RefEvent) : State :=
  let t := s.tick
  let s1 := { s with tamp := match k with
    | .surge => { s.tamp with refSurge := some t }
    | .pfail => { s.tamp with refPfail := some t }
    | .upaAlarm => { s.tamp with refA := some t }
    | .upbAlarm => { s.tamp with refB := some t } }
  let hit := s1.tamp.holds.filter (fun a => decide (t < a.tick + 66))
  let s2 := { s1 with tamp := { s1.tamp with holds := s1.tamp.holds.filter (fun a => !decide (t < a.tick + 66)) } }
  let code := match k with | .surge => 1 | .pfail => 2 | .upaAlarm => 3 | .upbAlarm => 4
  let s3 := hit.foldl (fun x a => x.excuse a (code, t)) s2
  if hit.isEmpty then s3
  else if s3.crazed then { s3 with tamp := { s3.tamp with quietEnd := t + 1 + 32768 } }
  else s3.endHold

/-- An anomaly's window has closed with no reference: graded Crazed; in Crazed it is logged, with a new quiet interval (R258, R261,
R272). -/
def State.expireAnomaly (s : State) (a : Anomaly) : State :=
  let s1 := { s with tamp := { s.tamp with holds := s.tamp.holds.filter (fun x => x != a) } }
  if s1.crazed then (s1.tripLog .crazed ⟨a.cause, a.index, a.tick⟩).quiet
  else (s1.latchTrip ⟨a.cause, a.index, a.tick⟩).endHold

/-- Every anomaly whose window has closed by now is graded (R258). -/
def State.expireHolds (s : State) : State :=
  (s.tamp.holds.filter (fun a => decide (a.tick + 66 ≤ s.tick))).foldl (fun t a => t.expireAnomaly a) s

/-! ## The Wheel's decisions and clearing (R193, R263, R314) -/

/-- The decision of a channel that awaits one, on the filtered demand and session state of the moment, every session
having been dropped: a class A output held under demand is kept and starts its continuity hold; every other latch is
cleared (R64, R193, R263). -/
def Chan.decide_ (c : Chan) (t : Nat) : Chan :=
  if !c.awaiting then c
  else if c.eclass == .a && c.latch && c.dmd then (c.guardWrite true t).keepWrite .hold t
  else c.guardWrite false t

/-- The Wheel decides every channel that awaits a decision. -/
def State.decideAll (s : State) : State := s.eachCh (fun c t => t.chOp c (fun x => x.decide_ t.tick))

/-- Crazed clears (R263): keys are unsealed and the DRBG reseeded, the freeze ends with the Wheel's decisions, held records
are signed. The clearing is logged as CRAZED_CLEARED and reported with the trip that entered it. -/
def State.clearCrazed (s : State) : State :=
  let s1 := { s with tamp := { s.tamp with grade := .none, selfCheck := false, selfCheckTrip := false }
                     ksm := { s.ksm with sealed := false
                                         drbgReq := if s.ksm.trng = TrngSt.failed then s.ksm.drbgReq else 0
                                         reseedDue := s.ksm.reseedDue && decide (s.ksm.trng = TrngSt.failed) } }
  let s2 := s1.gradeChange.releaseAll .crazed
  let s3 := if s2.wheelRuns then s2.decideAll else s2
  let body := s3.tripBody 0 s3.tamp.entry 0 0
  ((s3.klog 0x0302 []).drainReports).report 0x06 body

end Sys2Proof.Machine
end

