-- ==== Sys2Proof/Machine/PowerOps.lean ====
section
/-! DEFINITION. Shared operations of power and resets (chapters 04, 05): main-island reset, Kiln reset, the flush, entry
into Hold, and the loss of the uplink ports. -/

namespace Sys2Proof.Machine

open Sys2Proof

/-- A port whose PHY is powered down has no link and no concentrator address (R408, R413). -/
def PortSt.down (p : PortSt) : PortSt := { p with linked := false, addr := none }

/-- Both uplink ports go down (R154, R408). -/
def State.portsDown (s : State) : State := { s with upl := { s.upl with a := s.upl.a.down, b := s.upl.b.down } }

/-- A main-island reset takes every ring OFF, as the Spyhole shows (R195, R851). -/
def State.ringsReset (s : State) : State :=
  allEngines.foldl (fun t e => (List.range (s.engOf e).rings.length).foldl (fun u k => if (s.ring e k).st = .off then u else u.ringMsg e k) t)
    { s with eng := resetEngines }

/-- The Wheel's and engines' state that no main-island reset keeps (R195): cores, protection, rings, engines, key store,
measurements, sessions, what the uplink engine held in SRAM, applets. Flash, OTP and AO state are kept. -/
def State.mainReset (s : State) : State :=
  let s1 := s.ringsReset.abandonRun.stopFlash.dropSessions.dropSlip.portsDown
  { s1 with
    core := Vector.replicate 2 {}
    mem := [], ldm := Vector.replicate 2 [], memBad := [], ldmBad := Vector.replicate 2 [], memError := false, irq := 0
    prot := {}
    aes := {}
    dig := {}
    wmu := {}
    ksm := { s1.ksm with slots := [], kfaClean := s1.ksm.kfaClean, drbgReady := false, drbgReq := 0, reseedDue := false
                         trng := .startup, trngFails := 0, trngFailAt := [], cnt := [], sync := [], tail := []
                         cntHi := 0, skipped := false, compWait := false }
    upl := { s1.upl with held := [], seen := [], attestAt := none, msgs := [], buf := [], ackPending := none, answered := []
                         intake := s1.upl.intake.map (fun x => { x with chunks := x.chunks.filter (fun e => !s1.upl.buf.contains e.1) })
                         chunkAckAt := none, statusAt := none }
    flc := { s1.flc with weights := Vector.replicate 3 1, weightRefused := false
                         corrected := 0, starved := 0, poisonFull := false, eraseStarved := false
                         poisonIdx := 0, scrub := none, scrubStarved := false, refresh := [] }
    app := s1.app.map (fun a => { a with man := none, cpu := Vector.replicate 2 {}, quar := none, events := 0
                                         decided := [], startedAt := none, fresh := false, xstep := .none, incoming := none })
    spy := { s1.spy with occPeriod := 0, pcPeriod := 0, ringEn := false, cntEn := false, occAt := none, cntGroup := 0, occWindow := 0
                         occBusy := Vector.replicate 19 0, liveWindow := 0, liveBusy := Vector.replicate 19 0 }
    sjm := { s1.sjm with sj := {}, loadOwner := none, loadResult := none }
    link := s1.link.map (fun l => { l with lateAt := [], faultAt := [], unanswered := 0, noBurst := 0, attemptK := 0
                                           lastAttempt := none, pollWakes := 0, probeWakes := 0, atn := [], taken := []
                                           stats := Vector.replicate 18 0, hostileAt := none, credFlags := 0
                                           fp := {}, cred := [], lineBusy := false })
    pwr := { s1.pwr with sleepReq := false, mainWdogFrom := none, optCopy := none, bank := none, bankFallback := false
                         startupComplete := false }
    clk := { s1.clk with fpllLocked := false } }

/-- Guarded outputs in service freeze under MAIN while the main island is in reset, Hold or Off (R311). -/
def State.freezeMain (s : State) : State := s.freezeAll .main

/-- The main island goes into reset, with everything a reset loses (R140, R196, R197). -/
def State.holdMainReset (s : State) (st : MainSt) : State :=
  let s1 := s.mainReset
  { s1 with pwr := { s1.pwr with main := st, phase := .idle } }.freezeMain

/-- The Kiln stops: its SRAM and its ring are lost; what the AO island and the flash hold is kept (R134, R195). -/
def State.kilnStop (s : State) (st : KilnSt) : State :=
  { s with pwr := { s.pwr with kiln := st }
           kiln := { s.kiln with verifying := s.kiln.verifying }
           tamp := { s.tamp with selfCheck := false, selfCheckTrip := false } }

/-- With the Kiln and the main island Off, XO25 stops; it is adopted anew after its next start check (R146, R149). -/
def State.xo25Stop (s : State) : State :=
  if s.pwr.kiln == .off && s.pwr.main == .off then
    { s with clk := { s.clk with xo25 := {}, fpllXo25 := false, fpllSwitch := none, held := s.clk.held.filter (fun h =>
      match h with | .lost .xo25 => false | .qualified .xo25 => false | _ => true) } }
  else s

/-- The retention-pointer page takes the ack floor (R440). -/
def State.flushPointers (s : State) : State :=
  { s with upl := { s.upl with ackFloor := s.upl.floorOf (s.ksm.cntOf 1 + 1), prevFloor := s.upl.ackFloor } }

/-- The Kiln programs its log tail, whatever the grade (R137, R138, R806). -/
def State.flushLog (s : State) : State := { s with kiln := s.kiln.programTail }

/-- One store-buffer entry becomes visible: its enabled bytes, word-aligned (R516). -/
def storeWrite (m : Mem) (e : StoreEnt) : Mem :=
  (List.range 4).foldl (fun u i =>
    if e.mask.testBit i then writeByte u (e.addr + i) (BitVec.ofNat 8 (e.data / 256 ^ i)) else u) m

/-- The store buffer of core `k` drains, oldest first (R516, R517). -/
def State.drainCore (s : State) (k : Fin 2) : State :=
  let l := (s.coreOf k).sbuf
  { s with mem := l.foldl storeWrite s.mem }.updCore k (fun c => { c with sbuf := [], fence := false })

/-- The stores still buffered are drained before the flush pages are programmed (R532). -/
def State.drainStores (s : State) : State := (s.drainCore 0).drainCore 1

/-- The three flush pages of a main island that runs (R136, R137): journal with CLOSE, retention pointers, Kiln Log tail.
No compaction is begun (R713). -/
def State.flushPages (s : State) : State :=
  let s1 := { s with pwr := { s.pwr with flushing := true } }.drainStores
  let s2 := s1.journalClose.flushPointers.flushLog
  { s2 with pwr := { s2.pwr with flushing := false } }

/-- A start is under way: the Wheel has not started yet (R164). -/
def State.starting (s : State) : Bool := s.pwr.phase != .idle && s.pwr.phase != .done

/-- The sequence of R137 and R138 on an accepted PFAIL fall. Its pages take less than 2 ms, so it is one step; it ends
with the Kiln off, and the main island off unless it is in Hold. The flush time it logs is a free value (log 17). -/
def State.powerFailFlush (s : State) : State :=
  let live := s.mainUp && !s.starting
  let s1 := s.wakeMain.wakeKiln
  let s2 := if live then s1.flushPages else s1.flushLog
  let s3 := if live then s2.abortEngines allEngines .abortReset else s2
  let s4 := s3.tick1.logEv 0x0104 0 0 (beBytes 1 0 ++ beBytes 2 (Config.freeNat s3.freeCount)) false
  let s5 := s4.flushLog
  let s6 := match s5.pwr.main with
    | .hold _ => s5
    | _ => s5.holdMainReset .off
  let s7 := s6.kilnStop .off
  { s7 with pwr := { s7.pwr with flushDone := true } }.xo25Stop

/-- Entry into Hold in the order of R200: flush, aborts, stop; logged as HOLD. Before the Wheel has started only the Kiln Log has content to
flush (R138, R164). -/
def State.enterHold (s : State) (r : HoldReason) : State :=
  let s1 := if s.mainUp && !s.starting then s.flushPages else s.flushLog
  let s2 := (s1.abortEngines allEngines .abortReset).abandonRun
  let s3 := s2.logEv 0x0102 0 0 (beBytes 1 r.code) true
  let s4 := s3.dropSessions.dropSlip.portsDown
  { s4 with pwr := { s4.pwr with main := .hold r, holdReason := some r, phase := .idle, mainWdogFrom := none } }.freezeMain

/-- A spell of watchdog expiries within 600 s, newest first (R199). -/
def wdogHistory (now : Nat) (l : List Nat) : List Nat := now :: l.filter (fun t => decide (now < t + 19660800))

end Sys2Proof.Machine
end

