-- ==== Sys2Proof/Machine/Forms.lean ====
section
/-! DEFINITION. The forms of descriptors (checks 4 to 10 of 15_rings.md R595): per engine and opcode, which buffers it
uses, whether it takes a length, its output length, its own malformations and its length limit. -/

namespace Sys2Proof.Machine

open Sys2Proof

/-- What an engine's chapter states about one opcode's form. -/
structure Form where
  /-- IN is used -/
  useIn : Bool := false
  /-- OUT is used; in `freeOut` OUT is judged by check 9 instead of check 4 (R617, Saggar mode) -/
  useOut : Bool := false
  freeOut : Bool := false
  /-- LENGTH is taken (R589) -/
  takesLen : Bool := true
  /-- output length (R588) -/
  outLen : Nat := 0
  /-- a reserved field of PARAM or FLAGS is not zero (check 4, reason 0x02) -/
  reserved : Bool := false
  /-- malformed in an engine-specific way (check 9) -/
  bad : Bool := false
  /-- LENGTH beyond the limit: DETAIL of check 10 -/
  long : Option Nat := none
deriving DecidableEq, Repr

/-- PARAM field at descriptor offset `off` (0x18 to 0x2F), little-endian. -/
def Desc.p (d : Desc) (off n : Nat) : Nat := leAt d.param (off - 0x18) n

/-- PARAM bytes [off, off + n) are zero. -/
def Desc.pz (d : Desc) (off n : Nat) : Bool := zeroAt d.param (off - 0x18) n

/-- FLAGS bit. -/
def Desc.flag (d : Desc) (b : Nat) : Bool := d.flags.testBit b

/-- The descriptor in a 64-byte slot (R587). -/
def descOf (b : Bytes) : Desc :=
  { opcode := leAt b 0 1, flags := leAt b 1 1, zero02 := leAt b 2 2, length := leAt b 4 4, inA := leAt b 8 4
    inCount := leAt b 0x0C 1, zero0D := leAt b 0x0D 3, outA := leAt b 0x10 4, outCount := leAt b 0x14 1
    zero15 := leAt b 0x15 3, param := slice 0x18 24 b }

/-! ## Cipher descriptors (R614–R617) -/

/-- Opcodes of FAE and SAE. -/
def cipherOps : List Nat := [0x01, 0x02, 0x03, 0x04, 0x05, 0x10]

/-- SAGGAR flag. -/
def Desc.saggar (d : Desc) : Bool := d.flag 2

/-- ZERO flag. -/
def Desc.zeroMode (d : Desc) : Bool := d.flag 3

/-- Fill of the saggar as seen by ring `k`: the present fill where it holds it, else 0 (R624). -/
def Aes.fillFor (x : Aes) (k : Nat) : Nat :=
  match x.saggar with
  | some (r, b) => if r = k then b.length else 0
  | none => 0

/-- Form of a cipher descriptor. -/
def cipherForm (x : Aes) (e : Eng) (k : Nat) (d : Desc) : Option Form :=
  if !cipherOps.contains d.opcode then none
  else
    let v := d.opcode == 0x10
    let useX := v || d.opcode == 3 || d.opcode == 4 || d.opcode == 5
    let sg := d.saggar
    let release := v && sg
    some
      { useIn := true
        useOut := if v then release else !sg
        freeOut := sg && !v
        outLen := if v then (if release then d.p 0x24 4 else 0) else if sg then 0 else d.length
        reserved := (d.flags / 16 != 0) || !d.pz 0x28 8 || (!useX && !d.pz 0x1C 4)
          || (!(v && d.zeroMode) && !release && !d.pz 0x24 4) || (!(v && d.zeroMode) && !release && !d.pz 0x20 4)
        bad := ((d.opcode == 1 || d.opcode == 2 || d.opcode == 3 || d.opcode == 5) && d.length % 16 != 0)
          || (v && !decide (4 ≤ d.length ∧ d.length ≤ 16)) || (v && !d.pz 0x18 4)
          || (sg && (d.opcode == 1 || d.opcode == 3 || e == .sae))
          || (d.zeroMode && !v) || (sg && d.zeroMode)
          || (v && d.zeroMode && (d.pz 0x20 4 || d.pz 0x24 4))
          || (sg && !v && (d.outA != 0 || d.outCount != 0 || d.flag 1)) || (release && !d.pz 0x20 4)
          || (useX && d.pz 0x1C 4)
        long := if v then none
          else if sg then (if 65536 < x.fillFor k + d.length then some 0 else none)
          else if 1048576 < d.length then some 0 else none }

/-! ## Digest descriptors (R637–R639) -/

/-- Digest length of ALG. -/
def algLen : Nat → Nat
  | 1 => 32 | 2 => 48 | _ => 64

/-- Block size of ALG. -/
def algBlock : Nat → Nat
  | 1 => 64 | _ => 128

/-- The hash of ALG. -/
def algSha : Nat → Sha2
  | 1 => .sha256 | 2 => .sha384 | _ => .sha512

/-- Opcodes of DIG. -/
def digOps : List Nat := [0x01, 0x02, 0x03, 0x04, 0x05, 0x20, 0x21]

/-- FIRST and LAST. -/
def Desc.first (d : Desc) : Bool := d.flag 2
def Desc.last (d : Desc) : Bool := d.flag 3

/-- ALG is one of the three. -/
def Desc.algOk (d : Desc) : Bool := decide (1 ≤ d.p 0x19 1 ∧ d.p 0x19 1 ≤ 3)

/-- Form of a digest descriptor. A reserved ALG is malformed in an engine-specific way. -/
def digForm (d : Desc) : Option Form :=
  let o := d.opcode
  if !digOps.contains o then none
  else
    let hash := o == 1 || o == 2
    let ext := o == 0x20 || o == 0x21
    let alg := d.p 0x19 1
    let useOut := o == 3 || (hash && d.last && (d.outA != 0 || d.outCount != 0 || d.flag 1))
    let useIn := hash || o == 4 || o == 0x20
    some
      { useIn := useIn
        useOut := useOut
        takesLen := useIn
        outLen := if useOut then algLen alg else 0
        reserved := (d.flags / 16 != 0) || !d.pz 0x1F 1 || !d.pz 0x22 14 || (o == 0x20 && !d.pz 0x18 1)
        bad := decide (15 < d.p 0x18 1) || decide (23 < d.p 0x1E 1) || (!d.algOk && o != 5)
          || (o == 0x20 && alg == 3) || ((d.first || d.last) && !hash)
          || (!d.pz 0x1A 4 && !(o == 2 && d.first)) || ((!d.pz 0x1E 1 || !d.pz 0x20 2) && !ext)
        long := if useIn && decide (4294967168 < d.length) then some 0 else none }

/-! ## Multiplier descriptors (R662–R667) -/

/-- n of SIZE, in bytes. -/
def wmuBytes : Nat → Nat
  | 0 => 32 | 1 => 48 | 2 => 384 | _ => 512

/-- Accumulator length of SIZE, in bytes. -/
def wmuAcc (z : Nat) : Nat := 2 * wmuBytes z + 8

/-- Input length by opcode and SIZE. -/
def wmuIn (o z : Nat) : Nat :=
  match o with
  | 1 => 2 * wmuBytes z
  | 2 => 2 * wmuBytes z + wmuAcc z
  | _ => 8 + wmuBytes z + wmuAcc z

/-- FIELD flag. -/
def Desc.field (d : Desc) : Bool := d.flag 2

/-- Form of a multiplier descriptor. -/
def wmuForm (k : Nat) (d : Desc) : Option Form :=
  let o := d.opcode
  if !(([1, 2, 3] : List Nat).contains o) then none
  else
    let z := d.p 0x18 1
    some
      { useIn := true, useOut := true, outLen := wmuAcc z
        reserved := (d.flags / 8 != 0) || !d.pz 0x1B 13
        bad := decide (3 < z) || d.length != wmuIn o z || decide (wmuBytes z / 8 < d.p 0x1A 1) || (o != 3 && !d.pz 0x1A 1)
          || decide (7 < d.p 0x19 1) || (!d.field && !d.pz 0x19 1)
        long := if k = 0 ∧ 2 ≤ z then some 1 else none }

/-! ## Flash descriptors (R736–R739) -/

/-- Form of a flash descriptor. -/
def flcForm (d : Desc) : Option Form :=
  let o := d.opcode
  if !(([1, 2, 3, 4, 5] : List Nat).contains o) then none
  else
    let fa := d.p 0x18 4
    let mode := d.p 0x1C 1
    let pages := d.p 0x1E 2
    let page := fa / 512 % 512
    some
      { useIn := o == 1, takesLen := o == 1
        reserved := (d.flags / 4 != 0) || !d.pz 0x1D 1 || !d.pz 0x20 16
        bad := decide (fa < 0x10000000 ∨ 0x14000000 ≤ fa)
          || (if o == 2 || o == 5 then fa % 262144 != 0 else fa % 512 != 0)
          || (o == 1 && d.length % 512 != 0)
          || decide ((match o with | 1 => 1 | 2 => 2 | 4 => 2 | _ => 0) < mode)
          || (if o == 3 || o == 4 then pages == 0 || decide (512 < page + pages) else pages != 0)
        long := if o = 1 ∧ (512 - page) * 512 < d.length then some 0 else none }

/-! ## Key store descriptors (R692, R693) -/

/-- Opcodes of the KSM. -/
def ksmOps : List Nat := [1, 2, 3, 4, 5, 6, 7, 8, 9, 10, 0x20, 0x21, 0x22, 0x23, 0x24]

/-- Offsets and sizes of the PARAM fields that an opcode names. -/
def ksmNamed : Nat → List (Nat × Nat)
  | 1 => [(0x1C, 4), (0x20, 6)]
  | 2 => [(0x1C, 4), (0x21, 4)]
  | 3 => [(0x1C, 4)]
  | 4 => [(0x18, 8), (0x21, 1), (0x24, 1)]
  | 5 => [(0x18, 8), (0x20, 7)]
  | 6 => [(0x18, 4)]
  | 7 => [(0x18, 4)]
  | 8 => [(0x18, 4)]
  | 10 => [(0x18, 4), (0x28, 2)]
  | 0x20 => [(0x28, 2)]
  | 0x21 => [(0x28, 2)]
  | 0x22 => [(0x28, 4)]
  | 0x24 => [(0x28, 4)]
  | _ => []

/-- Every PARAM byte that the opcode does not name is zero. -/
def namedOnly (named : List (Nat × Nat)) (d : Desc) : Bool :=
  (List.range 24).all (fun i => named.any (fun e => decide (e.1 ≤ i + 0x18 ∧ i + 0x18 < e.1 + e.2)) || d.param.getD i 0 == 0)

/-- Form of a key-store descriptor; `p384` says that the slot named holds a P-384 key. -/
def ksmForm (p384 : Bool) (d : Desc) : Option Form :=
  let o := d.opcode
  if !ksmOps.contains o then none
  else
    let idx := d.p 0x28 2
    let mem := o == 5 && d.p 0x1C 2 == 0xFFFF
    some
      { useIn := [2, 3, 4, 5, 6].contains o
        useOut := [6, 7, 9].contains o || mem
        takesLen := [2, 3, 4, 5, 6, 9].contains o
        outLen := match o with
          | 5 => if mem then d.p 0x25 1 else 0
          | 6 => if d.length = 48 then 96 else 64
          | 7 => if p384 then 96 else 64
          | 9 => d.length
          | _ => 0
        reserved := d.flags / 4 != 0
        bad := !namedOnly (ksmNamed o) d
          || (o == 2 && d.length != 64) || (o == 3 && d.length != 160) || (o == 4 && d.length != 64)
          || (o == 5 && (decide (64 < d.p 0x26 1) || decide (d.length < d.p 0x26 1)))
          || (o == 6 && d.length != 32 && d.length != 48) || (o == 9 && decide (4096 < d.length))
          || ([0x20, 0x21, 0x22, 0x24].contains o && decide (1023 < idx)) || (o == 10 && decide (15 < idx))
          || (o == 0x22 && !decide (1 ≤ d.p 0x2A 2 ∧ d.p 0x2A 2 ≤ 4096)) || (o == 0x24 && decide (1 < d.p 0x2A 2)) }

/-! ## Kiln ring descriptors (R802, R839) -/

/-- Output length of RECORD_READ by KIND, 0 for a KIND that no record has (R809). -/
def recordLen : Nat → Nat
  | 1 => 1248 | 2 => 4 | 3 => 98 | 4 => 96 | 5 => 46 | 6 => 2 | _ => 0

/-- Offsets and sizes of the PARAM fields of a Kiln opcode; those of SELFTEST by its OP (R802, R839). -/
def kilnNamed (o op : Nat) : List (Nat × Nat) :=
  match o with
  | 2 => [(0x18, 8), (0x20, 2)]
  | 5 => [(0x18, 24)]
  | 7 => [(0x18, 16)]
  | 8 => [(0x18, 1)]
  | 10 =>
    match op with
    | 1 => [(0x18, 1), (0x1A, 2), (0x20, 8)]
    | 2 => [(0x18, 2)]
    | _ => [(0x18, 1)]
  | _ => []

/-- Form of a Kiln-ring descriptor. A KIND or OP that the tables do not name is malformed in an engine-specific way. -/
def kilnForm (d : Desc) : Option Form :=
  let o := d.opcode
  if !decide (1 ≤ o ∧ o ≤ 10) then none
  else
    let op := d.p 0x18 1
    let count := d.p 0x20 2
    let result := o == 10 && op == 3
    some
      { useIn := o == 1 || o == 4
        useOut := o == 2 || o == 3 || o == 8 || result
        takesLen := o == 1 || o == 4
        outLen := match o with
          | 2 => 64 * count
          | 3 => 16
          | 8 => recordLen op
          | _ => if result then 32 else 0
        reserved := d.flags / 4 != 0
        bad := !namedOnly (kilnNamed o op) d || ((o == 1 || o == 4) && d.length != 24)
          || (o == 2 && !decide (1 ≤ count ∧ count ≤ 64)) || (o == 8 && recordLen op == 0)
          || (o == 10 && !decide (1 ≤ op ∧ op ≤ 3))
          || (o == 10 && op == 1 && !decide (60 ≤ d.p 0x1A 2 ∧ d.p 0x1A 2 ≤ 3600)) }

/-! ## Every engine -/

/-- What an engine makes of an OPCODE: refused, a form, or no opcode table in the spec (LNK, UPL and SJM). -/
inductive FormOf | refused | form (f : Form) | unlisted
deriving DecidableEq, Repr

/-- A form from an option. -/
def formOrRefuse : Option Form → FormOf
  | some f => .form f
  | none => .refused

/-- The form of a descriptor on ring `k` of engine `e`. -/
def State.formOf (s : State) (e : Eng) (k : Nat) (d : Desc) : FormOf :=
  match e with
  | .fae => formOrRefuse (cipherForm s.aes e k d)
  | .sae => formOrRefuse (cipherForm s.aes e k d)
  | .dig => formOrRefuse (digForm d)
  | .wmu => formOrRefuse (wmuForm k d)
  | .flc => formOrRefuse (flcForm d)
  | .ksm => formOrRefuse (ksmForm ((s.ksm.slot (d.p 0x18 2)).cls == 6) d)
  | .kiln => formOrRefuse (kilnForm d)
  | _ => .unlisted

end Sys2Proof.Machine
end

