-- ==== Sys2Proof/Machine/Jobs.lean ====
section
/-! DEFINITION. Fetching and checking descriptors (15_rings.md R595, R596) and running their transfers: which buffer stops a
job first, its zero-fill and its completion (R553, R592, R598, R599, R605). -/

namespace Sys2Proof.Machine

open Sys2Proof

/-! ## Halting -/

/-- The saggar is wiped and freed when FAE ring `k` holds it (R627). -/
def State.freeSaggar (s : State) (k : Nat) : State :=
  match s.aes.saggar with
  | some (r, _) => if r = k then { s with aes := { s.aes with saggar := none } } else s
  | none => s

/-- A ring that became HALTED or OFF frees the saggar it holds (R627). -/
def State.saggarOnStop (s : State) (e : Eng) (k : Nat) : State :=
  match e, (s.ring e k).st with
  | .fae, .halted => s.freeSaggar k
  | .fae, .off => s.freeSaggar k
  | _, _ => s

/-- The policy of a ring that met a malformed descriptor at index `i` (R596). -/
def State.haltRing (s : State) (e : Eng) (k i reason : Nat) : State :=
  let s1 := s.updRing e k (fun r => { r with haltIndex := i, reason := reason, cur := none, fetch := r.cons })
  if (s.ring e k).haltPart then s1.enterHold .ringHaltPart
  else (s1.updRing e k (fun r => { r with st := .halted })).saggarOnStop e k

/-- Completion of the descriptor at CONS.INDEX of ring `k`; a STOPPING ring goes OFF (R581, R592). -/
def State.finishDesc (s : State) (e : Eng) (k : Nat) (d : Done) : State := (s.complete e k d).saggarOnStop e k

/-- A malformed descriptor is written back and halts its ring (R596). -/
def State.malformed (s : State) (e : Eng) (k reason : Nat) : State :=
  let i := (s.ring e k).cons
  (s.complete e k { code := .malformed, detail := reason }).haltRing e k i reason

/-- A refused engine access is recorded (R564). -/
def State.recordFault (s : State) (e : Eng) (k : Nat) (t : AccType) (kind addr : Nat) : State :=
  { s with prot := s.prot.dmaFault (engIx e) k (s.ring e k).who t kind addr }

/-- An engine access waits under UPDATE (R558, R605). -/
def State.holdDma (s : State) (e : Eng) (k : Nat) : State :=
  if s.prot.held.contains (.dma e k) then s
  else { s with prot := { s.prot with held := s.prot.held ++ [.dma e k] } }

/-! ## One access -/

/-- What a check of one access says: passed; refused with KIND and address; held under UPDATE; or uncorrectable from an
offset on. -/
inductive Verdict
  | pass | refused (kind addr : Nat) | held | bad (off : Nat)
deriving DecidableEq, Repr

/-- First offset of an uncorrectable word or page in [a, a + n). -/
def State.badOffset (s : State) (a n : Nat) : Option Nat :=
  let l := (s.memBad.filter (fun x => decide (a < x + 4 ∧ x < a + n)))
    ++ ((s.flc.poison.map (fun p => 0x10000000 + p * 512)).filter (fun x => decide (a < x + 512 ∧ x < a + n)))
  match l with
  | [] => none
  | x :: l => some (l.foldl min x - a)

/-- One engine access by the owner of ring `k`; `tmo` says that an access held under UPDATE has timed out (R559). -/
def State.judge (s : State) (w : Who) (t : AccType) (flashWrite tmo : Bool) (a n : Nat) : Verdict :=
  if s.prot.holds w a n then
    if tmo then
      .refused 8 (((s.prot.parts a n).find? (fun x => s.prot.holds w x 1)).getD a)
    else .held
  else
    match s.prot.check w t flashWrite a n with
    | some (kind, addr) => .refused kind addr
    | none =>
      match t with
      | .write => .pass
      | _ => match s.badOffset a n with | some o => .bad o | none => .pass

/-! ## Transfers of a job -/

/-- A buffer or fragment of a job: `pos` is the unit of work before which its first byte moves, `unit` the bytes of it that
one unit of work moves. -/
structure Buf where
  addr : Nat
  len : Nat
  type : AccType
  detail : Nat
  pos : Nat
  unit : Nat
  flash : Bool := false
deriving DecidableEq, Repr

/-- How the transfers of a job end. -/
inductive JobEnd
  | clear | held | stop (pos : Nat) (code : Code) (detail : Nat) (fault : Option (AccType × Nat × Nat))
deriving DecidableEq, Repr

/-- Unit of work at which a job's end comes. -/
def JobEnd.at_ : JobEnd → Nat
  | .stop p _ _ _ => p | _ => 0

/-- The end one buffer makes. -/
def State.bufEnd (s : State) (w : Who) (tmo : Bool) (b : Buf) : Option (Nat × JobEnd) :=
  if b.len = 0 then none
  else match s.judge w b.type b.flash tmo b.addr b.len with
  | .pass => none
  | .held => some (b.pos, .held)
  | .refused kind addr => some (b.pos, .stop b.pos .access b.detail (some (b.type, kind, addr)))
  | .bad o => let p := b.pos + o / max b.unit 1; some (p, .stop p .uncorrectable b.detail none)

/-- The end that comes first: by unit of work, then in the order of the list. -/
def State.jobEnd (s : State) (w : Who) (tmo : Bool) (l : List Buf) : JobEnd :=
  ((l.filterMap (s.bufEnd w tmo)).foldl (fun (m : Option (Nat × JobEnd)) x =>
    match m with
    | none => some x
    | some y => if x.1 < y.1 then some x else some y) none).elim .clear (·.2)

/-- The fragments of a stream as buffers, the first byte of the stream moving in unit `base`. -/
def streamBufs (t : AccType) (detail base unit : Nat) : (i off : Nat) → List (Nat × Nat) → List Buf
  | _, _, [] => []
  | i, off, (a, n) :: l =>
    { addr := a, len := n, type := t, detail := detail + i, pos := base + off / max unit 1, unit := unit }
      :: streamBufs t detail base unit (i + 1) (off + n) l

/-- Input fragments, read from unit 0 on. -/
def Desc.inBufs (d : Desc) (unit : Nat) : List Buf := streamBufs .read 0 0 unit 0 0 d.inFr

/-- Output fragments, written from unit `base` on. -/
def Desc.outBufs (d : Desc) (base unit : Nat) : List Buf := streamBufs .write 0x100 base unit 0 0 d.outFr

/-- The bytes of a list of fragments, in table order. -/
def State.gather (s : State) (w : Who) (frs : List (Nat × Nat)) : Bytes := frs.flatMap (fun f => s.memRead w f.1 f.2)

/-- Writes a byte string over a list of fragments, in table order. -/
def State.scatter : State → List (Nat × Nat) → Bytes → State
  | s, [], _ => s
  | s, (a, n) :: l, b => State.scatter (s.sramWrite a (b.take n)) l (b.drop n)

/-- Bytes before fragment `i`. -/
def fragOffset (frs : List (Nat × Nat)) (i : Nat) : Nat := (frs.take i).foldl (fun n f => n + f.2) 0

/-- Output written before the fragment that a DETAIL names, where outputs are written last and in order. -/
def Desc.writtenBefore (d : Desc) (detail : Nat) : Nat :=
  if 0x100 ≤ detail ∧ detail < 0x110 then fragOffset d.outFr (detail - 0x100) else 0

/-- A job that stops partway: its fault is recorded, the `written` bytes of output are zero-filled, and it completes (R598,
R599). -/
def State.stopJob (s : State) (e : Eng) (k : Nat) (d : Desc) (written : Nat) (done : Done)
    (fault : Option (AccType × Nat × Nat)) : State :=
  let s1 := match fault with | some (t, kind, addr) => s.recordFault e k t kind addr | none => s
  ((s1.scatter d.outFr (zeros written)).dropDma e k).finishDesc e k done

/-! ## Checks 1 to 10 (R595) -/

/-- Outcome of checks 4 to 10. -/
inductive Judged
  | good (d : Desc) | malformed (reason : Nat) | refused (out : Bool) (kind addr : Nat) | bad (out : Bool) | held
  | tooLong (detail : Nat)
deriving DecidableEq, Repr

/-- Entries of a fragment table. -/
def tableEntries (b : Bytes) (n : Nat) : List (Nat × Nat) :=
  (List.range n).map (fun i => (leAt b (8 * i) 4, leAt b (8 * i + 4) 4))

/-- A LEN of a fragment entry is legal (R590). -/
def lenOk (f : Nat × Nat) : Bool := f.2 != 0 && f.2 != 0xFFFFFFFF

/-- Exact sum of the fragments' lengths. -/
def lenSum (l : List (Nat × Nat)) : Nat := l.foldl (fun n f => n + f.2) 0

/-- Counts and table flags of one side agree (check 6). -/
def countOk (use tbl : Bool) (count : Nat) : Bool :=
  if !use then true else if tbl then decide (1 ≤ count ∧ count ≤ 16) else count == 0

/-- A descriptor is checked against its form, checks 4 to 10 in order (R588–R590, R595, R597). -/
def State.judgeDesc (s : State) (w : Who) (tmo : Bool) (f : Form) (d : Desc) : Judged :=
  let inT := d.flag 0
  let outT := d.flag 1
  let unusedIn := !f.useIn && (d.inA != 0 || d.inCount != 0 || inT)
  let unusedOut := !f.useOut && !f.freeOut && (d.outA != 0 || d.outCount != 0 || outT)
  let tIn := f.useIn && inT
  let tOut := f.useOut && outT
  if d.zero02 != 0 || d.zero0D != 0 || d.zero15 != 0 || f.reserved || unusedIn || unusedOut then .malformed 2
  else if (if f.takesLen then d.length == 0 || d.length == 0xFFFFFFFF else d.length != 0) then .malformed 3
  else if !countOk f.useIn inT d.inCount || !countOk f.useOut outT d.outCount then .malformed 4
  else if (tIn && d.inA % 8 != 0) || (tOut && d.outA % 8 != 0) then .malformed 5
  else
    let vi := if tIn then s.judge w .read false tmo d.inA (8 * d.inCount) else .pass
    let vo := if tOut then s.judge w .read false tmo d.outA (8 * d.outCount) else .pass
    match vi, vo with
    | .refused kind addr, _ => .refused false kind addr
    | .bad _, _ => .bad false
    | .held, _ => .held
    | .pass, .refused kind addr => .refused true kind addr
    | .pass, .bad _ => .bad true
    | .pass, .held => .held
    | .pass, .pass =>
      let inFr := if tIn then tableEntries (s.memRead w d.inA (8 * d.inCount)) d.inCount
        else if f.useIn then [(d.inA, d.length)] else []
      let outFr := if tOut then tableEntries (s.memRead w d.outA (8 * d.outCount)) d.outCount
        else if f.useOut then [(d.outA, f.outLen)] else []
      if (tIn && !inFr.all lenOk) || (tOut && !outFr.all lenOk) then .malformed 6
      else if tIn && lenSum inFr != d.length then .malformed 7
      else if tOut && lenSum outFr != f.outLen then .malformed 8
      else if f.bad then .malformed 9
      else match f.long with
        | some x => .tooLong x
        | none => .good { d with inFr := inFr, outFr := outFr }

/-- The engine serves its rings now: the main island is Running, and on the Kiln ring the Kiln runs (R613, R802). -/
def State.serves (s : State) (e : Eng) : Bool :=
  s.mainRuns && (match e with | .kiln => s.pwr.kiln == .running | _ => true)

/-- Ring `k` has a descriptor that can be fetched now. -/
def State.fetchable (s : State) (e : Eng) (k : Nat) : Bool :=
  let r := s.ring e k
  s.serves e && r.st == .running && r.cur.isNone && r.cons != r.prod

/-- A descriptor newly fetched on an FAE ring does not wait for the saggar; an earlier one that waited is gone (R625). -/
def State.newWait (s : State) (e : Eng) (k : Nat) : State :=
  match e with
  | .fae => { s with aes := { s.aes with waiting := s.aes.waiting.filter (· != k) } }
  | _ => s

/-- The descriptor read from its slot is taken as fetched. -/
def State.takeDesc (s : State) (e : Eng) (k : Nat) (d : Desc) : State :=
  s.updRing e k (fun r => { r with cur := some d, fetch := (r.cons + 1) % 65536 })

/-- A job that has passed check 11 is held at an access: it keeps its copy `b` of the key or the modulus, and is not checked again
(R558; 16_cipher.md R621; 18_bignum.md R668). -/
def State.holdJob (s : State) (e : Eng) (k : Nat) (d : Desc) (b : Bytes) : State :=
  (s.takeDesc e k { d with copy := some b }).holdDma e k

/-- Checks 3 to 10 of the descriptor `d` fetched on ring `k`, on a state that has it as fetched; one held at its fragment table stays
fetched (R558, R595, R596). A descriptor that passes waits in the ring for its work. -/
def State.formStep (s : State) (e : Eng) (k : Nat) (d : Desc) (tmo : Bool) : State :=
  match s.formOf e k d with
  | .unlisted => s.takeDesc e k { d with raw := false }
  | .refused => s.malformed e k 1
  | .form f =>
    match s.judgeDesc (s.ring e k).who tmo f d with
    | .good d' => s.takeDesc e k { d' with raw := false }
    | .malformed x => s.malformed e k x
    | .refused out kind addr =>
      (s.recordFault e k .read kind addr).finishDesc e k { code := .access, detail := if out then 0x201 else 0x200 }
    | .bad out => s.finishDesc e k { code := .uncorrectable, detail := if out then 0x201 else 0x200 }
    | .held => (s.takeDesc e k { d with raw := true }).holdDma e k
    | .tooLong x => s.finishDesc e k { code := .length, detail := x }

/-- Fetches the descriptor at CONS.INDEX and makes checks 1 to 10; one that completes in them makes way for the next
(R595, R596). The engine reads bytes 0x00 to 0x2F of it (R587). -/
def State.fetchStep (s : State) (e : Eng) (k : Nat) (tmo : Bool) : State :=
  let r := s.ring e k
  let a := r.slot r.cons
  let w := r.who
  match s.judge w .read false tmo a 64 with
  | .held => s.holdDma e k
  | .refused kind addr => ((s.dropDma e k).recordFault e k .read kind addr).haltRing e k r.cons 0x10
  | _ =>
    match s.prot.check w .write false (a + 0x30) 16 with
    | some (kind, addr) => ((s.dropDma e k).recordFault e k .write kind addr).haltRing e k r.cons 0x12
    | none =>
      if (s.badOffset a 0x30).isSome then (s.dropDma e k).haltRing e k r.cons 0x11
      else
        let s0 := (s.dropDma e k).newWait e k
        let d := descOf (s0.memRead w a 0x30)
        let s1 := s0.takeDesc e k d
        if s1.crazed && crazedEngines.contains e then s1.finishDesc e k { code := .abortTamper, detail := 1 }
        else s1.formStep e k d false

/-- Fetches from ring `k` until a descriptor waits for its work or none can be fetched. -/
def State.fetchLoop : (n : Nat) → State → Eng → Nat → State
  | 0, s, _, _ => s
  | n + 1, s, e, k =>
    if s.fetchable e k && !s.prot.held.contains (.dma e k) then State.fetchLoop n (s.fetchStep e k false) e k else s

/-- Fetches from ring `k` what can be fetched. -/
def State.fetchNext (s : State) (e : Eng) (k : Nat) : State := State.fetchLoop ((s.ring e k).pending) s e k

/-- Fetches from every ring of an engine. -/
def State.fetchEngine (s : State) (e : Eng) : State :=
  (List.range (s.engOf e).rings.length).foldl (fun t k => t.fetchNext e k) s

/-- Fetches from every ring of every engine, as at a wake (R611). -/
def State.fetchAll (s : State) : State := allEngines.foldl (fun t e => t.fetchEngine e) s

/-- Completes the descriptor in progress on ring `k` and fetches the next. -/
def State.doneDesc (s : State) (e : Eng) (k : Nat) (d : Done) : State := (s.finishDesc e k d).fetchNext e k

/-- A job that stops partway, after which the ring goes on. -/
def State.stopDesc (s : State) (e : Eng) (k : Nat) (d : Desc) (written : Nat) (done : Done)
    (fault : Option (AccType × Nat × Nat)) : State := (s.stopJob e k d written done fault).fetchNext e k

/-- The job of another ring of an engine that performs one job at a time is under way: held at an access (R574). The multiplier and
the flash controller have rules of their own (18_bignum.md R673, R674; 20_flash.md R729). -/
def State.engTaken (s : State) (e : Eng) (k : Nat) : Bool :=
  match e with
  | .wmu => false
  | .flc => false
  | _ => (List.range (s.engOf e).rings.length).any (fun j => j != k && (match (s.ring e j).cur with | some d => d.copy.isSome | none => false))

/-- The descriptor in progress on ring `k` of an engine that serves it, when it has passed check 10 and its OPCODE is `op`. -/
def State.curOp (s : State) (e : Eng) (k op : Nat) : Option Desc :=
  if s.serves e && !s.engTaken e k then (s.ring e k).cur.filter (fun d => !d.raw && d.opcode == op) else none

end Sys2Proof.Machine
end

