-- ==== Sys2Proof/Machine/RingService.lean ====
section
/-! DEFINITION. Commands of descriptor rings: doorbells, enabling, configuration, engine reset (15_rings.md). -/

namespace Sys2Proof.Machine

open Sys2Proof

/-- FLC ring 3 is the FLC's own: writes to it are ignored (R582). -/
def ringOwn (e : Eng) (k : Nat) : Bool := e == .flc && k == 3

/-- Register writes of a core reach the engines: the main island runs. -/
def State.regWrites (s : State) : Bool := s.mainRuns

/-- DOORBELL (R583, R584): a write to STEM_RING_PROD, judged field by field; a doorbell of the Kiln ring wakes the Kiln
(R160, R802). What it makes pending is fetched. -/
def execDoorbell (e : Eng) (k : Nat) (v : Word) (s : State) : Out :=
  .next (if s.regWrites && !ringOwn e k then
    let s1 := s.updRing e k (fun r => r.doorbell (v.toNat % 65536) (v.toNat / 65536))
    let s2 := match e with | .kiln => s1.wakeKiln | _ => s1
    s2.fetchNext e k
  else s)

/-- A write to STEM_RING_POLICY: the fields of R579, then ENABLE (R580, R581). -/
def State.policyWrite (s : State) (e : Eng) (k v : Nat) : State :=
  let s1 := s.updRing e k (fun r =>
    let r1 := r.policyWrite e v
    if v.testBit 31 then r1.enableWrite e else r1.disableWrite)
  (s1.saggarOnStop e k).fetchNext e k

/-- RING_ENABLE (R580): a write of STEM_RING_POLICY with ENABLE = 1; `v` gives its other fields. -/
def execRingEnable (e : Eng) (k : Nat) (v : Word) (s : State) : Out :=
  .next (if s.regWrites && !ringOwn e k then s.policyWrite e k (v.toNat % 2 ^ 31 + 2 ^ 31) else s)

/-- RING_DISABLE (R581): a write of STEM_RING_POLICY with ENABLE = 0; `v` gives its other fields. -/
def execRingDisable (e : Eng) (k : Nat) (v : Word) (s : State) : Out :=
  .next (if s.regWrites && !ringOwn e k then s.policyWrite e k (v.toNat % 2 ^ 31) else s)

/-- RING_CONFIG_WRITE (R579): a write to STEM_RING_BASE, _SIZE or _POLICY. -/
def execRingConfigWrite (e : Eng) (k : Nat) (g : RingReg) (v : Word) (s : State) : Out :=
  .next (if s.regWrites && !ringOwn e k then
    match g with
    | .base => (s.updRing e k (fun r => r.baseWrite v.toNat)).saggarOnStop e k
    | .size => s.updRing e k (fun r => r.sizeWrite v.toNat)
    | .policy => s.policyWrite e k v.toNat
  else s)

/-- Internal state that an engine reset clears (R601): key contexts and saggar (R632), digest contexts (R644), a yielded
job (R684). The key store, the counters, the flash and the modulus registers are not an engine's internal state. -/
def State.clearEngine (s : State) (e : Eng) : State :=
  match e with
  | .fae => { s with aes := { s.aes with ctx := Vector.replicate 8 none, saggar := none, waiting := [] } }
  | .sae => { s with aes := { s.aes with saeCtx := none } }
  | .dig => { s with dig := { s.dig with ctx := Vector.replicate 16 {} } }
  | .wmu => { s with wmu := { s.wmu with yielded := none } }
  | _ => s

/-- An engine reset: the pending set completes with ABORT_RESET, the state is cleared, each ring is as it was before, and
held doorbells are judged (R601, R607, R608). -/
def State.engineReset (s : State) (e : Eng) : State :=
  let s1 := (s.abortEngine e .abortReset).clearEngine e
  let s2 := s1.updEng e (fun x => { x with resetting := false, rings := x.rings.map Ring.judgeHeld })
  { s2 with prot := { s2.prot with held := s2.prot.held.filter (fun h => match h with | .dma g _ => g != e | _ => true) } }.fetchEngine e

/-- ENGINE_RESET (R601): a write of RESET = 1 to STEM_ENG_CTL. -/
def execEngineReset (e : Eng) (s : State) : Out := .next (if s.regWrites then s.engineReset e else s)

end Sys2Proof.Machine
end

