-- ==== Sys2Proof/Machine/Cipher.lean ====
section
/-! DEFINITION. Block cipher engines FAE and SAE: key references, jobs, verdicts and the saggar (16_cipher.md). -/

namespace Sys2Proof

/-- The engine. -/
def CipherEng.eng : CipherEng → Eng
  | .fae => .fae | .sae => .sae

end Sys2Proof

namespace Sys2Proof.Machine

open Sys2Proof

/-! ## Key references (R619–R621) -/

/-- The key-reference checks in order: DETAIL of the first that fails. `usage` is the bit needed, `plain` says that the
descriptor is not in Saggar mode. -/
def State.keyCheck (s : State) (r : Ring) (slot gen : Nat) (clsOk : Nat → Bool) (usage : Nat) (plain : Bool) : Option Nat :=
  let x := s.ksm.slot slot
  if 255 < slot then some 1
  else if x.st != .live then some 2
  else if x.gen != gen then some 3
  else if !clsOk x.cls then some 4
  else if !x.usage.testBit usage then some 5
  else if plain && x.usage.testBit 2 then some 6
  else if r.ownerLevel == 2 && (decide (slot < 16) || x.owner.testBit 7 || x.owner % 16 != r.ownerDomain) then some 7
  else none

/-- Expanded-key context that serves ring `k` (R620). -/
def State.keyCtx (s : State) (e : CipherEng) (k : Nat) : Option (Nat × Nat) :=
  match e with
  | .fae => s.aes.ctx.toList.getD k none
  | .sae => s.aes.saeCtx

/-- Loads a key into the context of ring `k` (R620). -/
def State.setCtx (s : State) (e : CipherEng) (k : Nat) (x : Option (Nat × Nat)) : State :=
  match e with
  | .fae => if h : k < 8 then { s with aes := { s.aes with ctx := s.aes.ctx.set k x } } else s
  | .sae => { s with aes := { s.aes with saeCtx := x } }

/-- Discards every context that names a slot that changed (R621). -/
def Aes.forget (x : Aes) (slot : Nat) : Aes :=
  let keep := fun (c : Option (Nat × Nat)) => c.filter (fun p => p.1 != slot)
  { x with ctx := x.ctx.map keep, saeCtx := keep x.saeCtx }

/-! ## The block computations (R614) -/

/-- The 16-byte blocks of a byte string. -/
def blocks16 : (n : Nat) → Bytes → List Bytes
  | 0, _ => []
  | n + 1, b => if b.isEmpty then [] else b.take 16 :: blocks16 n (b.drop 16)

/-- The output of a cipher opcode. -/
def cipherOut (op : Nat) (key inp x : Bytes) : Bytes :=
  let n := ceilDiv inp.length 16
  match op with
  | 1 => (blocks16 n inp).flatMap (aesEnc key)
  | 2 => (blocks16 n inp).flatMap (aesDec key)
  | 3 => (blocks16 n (xorBytes inp x)).flatMap (aesEnc key)
  | 4 => xorBytes inp ((blocks16 n x).flatMap (aesEnc key))
  | _ => xorBytes ((blocks16 n inp).flatMap (aesDec key)) x

/-- Usage bit an opcode needs: FWD or INV. -/
def cipherUsage (op : Nat) : Nat := if op = 2 ∨ op = 5 then 1 else 0

/-- Length of the XBUF operand (R614). -/
def xbufLen (op length : Nat) : Nat :=
  match op with
  | 3 => length
  | 4 => ceilDiv length 16 * 16
  | 5 => length
  | _ => 0

/-- XBUF as a buffer, DETAIL 0x0300 (R616). -/
def Desc.xbuf (d : Desc) : Buf :=
  { addr := d.p 0x1C 4, len := xbufLen d.opcode d.length, type := .read, detail := 0x300, pos := 0, unit := 16 }

/-! ## Jobs -/

/-- A Saggar-mode job waits while another ring holds the saggar (R625). -/
def State.saggarBusy (s : State) (k : Nat) : Bool :=
  match s.aes.saggar with | some (r, _) => r != k | none => false

/-- Ring `k` waits for the saggar. -/
def State.waitSaggar (s : State) (k : Nat) : State :=
  if s.aes.waiting.contains k then s else { s with aes := { s.aes with waiting := s.aes.waiting ++ [k] } }

/-- Appends to the saggar, taking it when it is free (R624). -/
def State.fillSaggar (s : State) (k : Nat) (b : Bytes) : State :=
  let old := match s.aes.saggar with | some (_, c) => c | none => []
  { s with aes := { s.aes with saggar := some (k, old ++ b), waiting := s.aes.waiting.filter (· != k) } }

/-- One cipher job of the descriptor in progress on ring `k`: the saggar wait, the key reference, the key load that a
provisional hold makes wait (R631), then the blocks (R614, R619–R624, R634). A job held at an access keeps the key it has loaded
(R621). -/
def State.cipherJob (s : State) (e : CipherEng) (k : Nat) (d : Desc) (tmo : Bool) : State :=
  let g := e.eng
  let r := s.ring g k
  let slot := d.p 0x18 2
  let gen := d.p 0x1A 2
  if d.saggar && s.saggarBusy k then s.waitSaggar k
  else match if d.copy.isSome then none else s.keyCheck r slot gen (fun c => c == 1 || (c == 2 && e == .fae)) (cipherUsage d.opcode) (!d.saggar) with
  | some x =>
    let s1 := if d.saggar then s.freeSaggar k else s
    s1.doneDesc g k { code := .slot, detail := x }
  | none =>
    if d.copy.isNone && s.keyCtx e k != some (slot, gen) && s.provisional then s
    else
      let s1 := if d.copy.isSome then s else s.setCtx e k (some (slot, gen))
      let key := d.copy.getD (s1.ksm.slot slot).mat
      match s1.jobEnd r.who tmo (d.inBufs 16 ++ [d.xbuf] ++ d.outBufs 0 16) with
      | .held => s1.holdJob g k d key
      | .stop pos code detail fault =>
        let n := min (16 * pos) d.length
        let s2 := if d.saggar then { s1 with aes := { s1.aes with saggar := none } } else s1
        s2.stopDesc g k d (if d.saggar then 0 else n) { code := code, detail := detail, bytes := n } fault
      | .clear =>
        let x := s1.memRead r.who d.xbuf.addr d.xbuf.len
        let o := cipherOut d.opcode key (s1.gather r.who d.inFr) x
        if d.saggar then
          let s2 := s1.fillSaggar k o
          s2.doneDesc g k { code := .done, bytes := d.length, result := leBytes 4 (s2.aes.fillFor k) }
        else (s1.scatter d.outFr o).doneDesc g k { code := .done, bytes := d.length }

/-- A verdict completed VERDICT is counted by FAE (R630). -/
def State.countVerdict (s : State) (e : CipherEng) : State :=
  match e with
  | .fae => { s with aes := { s.aes with verdictFail := sat16 s.aes.verdictFail } }
  | .sae => s

/-- VERDICT without and with Zero mode, and the saggar release (R622, R623, R626, R627). -/
def State.verdictJob (s : State) (e : CipherEng) (k : Nat) (d : Desc) (tmo : Bool) : State :=
  let g := e.eng
  let r := s.ring g k
  let n := d.length
  let xb : Buf := { addr := d.p 0x1C 4, len := n, type := .read, detail := 0x300, pos := 0, unit := n }
  let za : Buf := { addr := d.p 0x20 4, len := d.p 0x24 4, type := .write, detail := 0x301, pos := 0, unit := 0 }
  let zlen := d.p 0x24 4
  let bufs := if d.saggar then d.outBufs 0 0 ++ d.inBufs n ++ [xb]
    else if d.zeroMode then d.inBufs n ++ [xb, za] else d.inBufs n ++ [xb]
  match s.jobEnd r.who tmo bufs with
  | .held => s.holdJob g k d []
  | .stop _ code detail fault =>
    (if d.saggar then s.freeSaggar k else s).stopDesc g k d 0 { code := code, detail := detail } fault
  | .clear =>
    let same := s.gather r.who d.inFr == s.memRead r.who xb.addr n
    if d.saggar then
      match s.aes.saggar with
      | some (h, b) =>
        if h = k ∧ b.length = zlen then
          if same then
            ((s.scatter d.outFr b).freeSaggar k).doneDesc g k { code := .done, bytes := n, result := leBytes 4 zlen }
          else ((s.freeSaggar k).countVerdict e).doneDesc g k { code := .verdict, bytes := n }
        else ((s.freeSaggar k).countVerdict e).doneDesc g k { code := .verdict, detail := 1, bytes := n }
      | none => (s.countVerdict e).doneDesc g k { code := .verdict, detail := 1, bytes := n }
    else if same then s.doneDesc g k { code := .done, bytes := n }
    else
      let s1 := if d.zeroMode then s.sramWrite za.addr (zeros za.len) else s
      (s1.countVerdict e).doneDesc g k { code := .verdict, bytes := n }

/-- The work of the cipher descriptor in progress on ring `k`, by its OPCODE. -/
def State.runCipher (s : State) (e : CipherEng) (k : Nat) (d : Desc) (tmo : Bool) : State :=
  if d.opcode = 0x10 then s.verdictJob e k d tmo else s.cipherJob e k d tmo

/-- Runs the descriptor in progress on ring `k` when its OPCODE is `op`; otherwise nothing happens. -/
def State.cipherOp (s : State) (e : CipherEng) (k op : Nat) : State :=
  match s.curOp e.eng k op with
  | some d => s.runCipher e k d false
  | none => s

/-- ENC (R614). -/
def execEnc (e : CipherEng) (k : Nat) (s : State) : Out := .next (s.cipherOp e k 0x01)

/-- DEC (R614). -/
def execDec (e : CipherEng) (k : Nat) (s : State) : Out := .next (s.cipherOp e k 0x02)

/-- ENC_XIN (R614). -/
def execEncXin (e : CipherEng) (k : Nat) (s : State) : Out := .next (s.cipherOp e k 0x03)

/-- ENC_XOUT (R614). -/
def execEncXout (e : CipherEng) (k : Nat) (s : State) : Out := .next (s.cipherOp e k 0x04)

/-- DEC_XOUT (R614). -/
def execDecXout (e : CipherEng) (k : Nat) (s : State) : Out := .next (s.cipherOp e k 0x05)

/-- VERDICT (R622). -/
def execVerdict (e : CipherEng) (k : Nat) (s : State) : Out := .next (s.cipherOp e k 0x10)

/-- SAGGAR_EXPIRY (R625): the job that waits on ring `k` has waited 1 048 576 cycles; with no descriptor of the holding
ring in progress the saggar is wiped and freed, the expiry counted, and the waiting job takes it. -/
def execSaggarExpiry (k : Nat) (s : State) : Out :=
  .next (match s.aes.saggar with
    | some (h, _) =>
      if s.aes.waiting.contains k && (s.ring .fae k).cur.isSome && (s.ring .fae h).cur.isNone then
        { s with aes := { s.aes with saggar := some (k, []), expired := sat16 s.aes.expired, waiting := s.aes.waiting.filter (· != k) } }
      else s
    | none => s)

end Sys2Proof.Machine
end

