-- ==== Sys2Proof/Machine/Measure.lean ====
section
/-! DEFINITION. Measurement registers: the tagged digest and the extend (17_digest.md R647, R650, R651). -/

namespace Sys2Proof.Machine

open Sys2Proof

/-- The 64-byte tagged digest T (R647). -/
def measTag (k alg level domain event count : Nat) (digest : Bytes) : Bytes :=
  beBytes 1 k ++ beBytes 1 alg ++ beBytes 1 level ++ beBytes 1 domain ++ beBytes 2 event ++ [0, 0]
    ++ beBytes 4 count ++ zeros 4 ++ padTo 48 digest

/-- EXTEND of MEASk: SHA-384(MEASk ∥ T), with the extend count risen by one (R647). -/
def Dig.extend (d : Dig) (k : Fin 24) (alg level domain event : Nat) (digest : Bytes) : Dig :=
  { d with
    meas := d.meas.set k (sha2 .sha384 (d.meas[k] ++ measTag k alg level domain event d.count[k] digest))
    count := d.count.set k (d.count[k] + 1) }

/-- An entry of the boot ROM or the Wheel: EXTEND with ALG 0x02 over SHA-384 of a string, from a ring of that level and
domain 0; none where the extend count is exhausted (R640, R650). -/
def State.measure (s : State) (k : Fin 24) (level event : Nat) (msg : Bytes) : State :=
  if s.dig.count[k] = 0xFFFFFFFF then s
  else { s with dig := s.dig.extend k 2 level 0 event (sha2 .sha384 msg) }

/-- SNAP copies MEAS0–MEAS23 at one instant (R651). -/
def Dig.takeSnap (d : Dig) : Dig := { d with snap := d.meas }

end Sys2Proof.Machine
end

