-- ==== Sys2Proof/Machine/Digest.lean ====
section
/-! DEFINITION. Digest engine: contexts, HASH and HMAC jobs, results, extends and the measurement registers
(17_digest.md). -/

namespace Sys2Proof.Machine

open Sys2Proof

/-! ## Contexts (R643, R644) -/

/-- Context `c`; beyond 15 a free one. -/
def Dig.ctxOf (d : Dig) (c : Nat) : DigCtx := d.ctx.toList.getD c {}

/-- Writes context `c`. -/
def State.setCtxOf (s : State) (c : Nat) (x : DigCtx) : State :=
  if h : c < 16 then { s with dig := { s.dig with ctx := s.dig.ctx.set c x } } else s

/-- Wipes and frees context `c` (R644). -/
def State.freeCtx (s : State) (c : Nat) : State := s.setCtxOf c {}

/-- The chaining value over whole blocks, unpadded (R641). -/
def shaRaw (a : Sha2) (l : Bytes) : Bytes :=
  ((shaBlocks a (l.length / a.block) a.init l).flatMap (beBytes (a.bits / 8))).take a.size

/-- The key of an HMAC context zero-extended to the block and XORed with a pad byte (R642). -/
def padKey (alg : Nat) (key : Bytes) (p : Byte) : Bytes := (padTo (algBlock alg) key).map (· ^^^ p)

/-- The digest of a finished context (R641, R642). -/
def DigCtx.finish (x : DigCtx) : Bytes :=
  let inner := shaRaw (algSha x.alg) x.data
  if x.hmac then sha2 (algSha x.alg) (padKey x.alg x.key 0x5C ++ inner) else inner

/-! ## Check 11 (R640) -/

/-- CTX, ALG, REG and EVENT of PARAM (R638). -/
def Desc.ctx (d : Desc) : Nat := d.p 0x18 1
def Desc.alg (d : Desc) : Nat := d.p 0x19 1
def Desc.reg (d : Desc) : Nat := d.p 0x1E 1

/-- Measurement register `k` accepts an extend from the owner of ring `r` (R648). -/
def Dig.accepts (x : Dig) (r : Ring) (k : Nat) : Bool :=
  if k < 4 then r.ownerLevel == 0 && !x.bootLock
  else if k < 8 then r.ownerLevel == 1 && !x.lock
  else if k < 12 then r.ownerLevel == 1
  else if k < 16 then false
  else
    let o := x.owner.toList.getD (k - 16) (false, 0)
    o.1 && (r.ownerLevel == 1 || (r.ownerLevel == 2 && r.ownerDomain == o.2))

/-- The digest-specific checks in their order: code and DETAIL of the first that fails (R640). -/
def State.digCheck (s : State) (r : Ring) (d : Desc) : Option (Code × Nat) :=
  let o := d.opcode
  let a := d.alg
  let c := s.dig.ctxOf d.ctx
  let absorb := o == 1 || o == 2
  let ext := o == 0x20 || o == 0x21
  let key := if o == 2 && d.first then s.keyCheck r (d.p 0x1A 2) (d.p 0x1C 2) (· == 3) 3 false else none
  if absorb && d.length % algBlock a != 0 then some (.length, 1)
  else if o == 4 && !decide (4 ≤ d.length ∧ d.length ≤ algLen a) then some (.length, 2)
  else if o == 0x20 && d.length != algLen a then some (.length, 2)
  else match key with
  | some x => some (.slot, x)
  | none =>
    if o != 0x20 && c.st != .free && r.ownerLevel == 2 && !(c.ownerLevel == r.ownerLevel && c.ownerDomain == r.ownerDomain) then
      some (.access, 0x301)
    else if absorb && ((d.first && c.st != .free) || (!d.first && c.st != .open_)) then some (.value, 1)
    else if o != 0x20 && o != 5 && c.st != .free && (c.alg != a || (absorb && c.hmac != (o == 2))) then some (.value, 3)
    else if o == 0x21 && (c.st != .final || c.hmac || c.alg == 3) then some (.value, 4)
    else if absorb && decide (2 ^ 61 ≤ c.data.length + d.length) then some (.length, 3)
    else if ext && !s.dig.accepts r d.reg then some (.access, 0x300)
    else if ext && s.dig.count.toList.getD d.reg 0 == 0xFFFFFFFF then some (.counterExhausted, 0)
    else none

/-! ## Jobs -/

/-- The context a HASH or HMAC job starts from: a fresh one on FIRST, with the key's ipad block for HMAC (R642). -/
def State.startCtx (s : State) (r : Ring) (d : Desc) : DigCtx :=
  if d.first then
    let key := if d.opcode = 2 then d.copy.getD (s.ksm.slot (d.p 0x1A 2)).mat else []
    { st := .open_, alg := d.alg, hmac := d.opcode == 2, key := key
      data := if d.opcode = 2 then padKey d.alg key 0x36 else []
      ownerLevel := r.ownerLevel, ownerDomain := r.ownerDomain }
  else s.dig.ctxOf d.ctx

/-- HASH and HMAC after check 11: blocks are absorbed, and on LAST the digest is written to OUT or kept (R641–R644). A stop
frees the context. -/
def State.absorbJob (s : State) (k : Nat) (d : Desc) (tmo : Bool) : State :=
  let r := s.ring .dig k
  let b := algBlock d.alg
  match s.jobEnd r.who tmo (d.inBufs b ++ d.outBufs (d.length / b) 0) with
  | .held => s.holdJob .dig k d (d.copy.getD (s.ksm.slot (d.p 0x1A 2)).mat)
  | .stop pos code detail fault =>
    (s.freeCtx d.ctx).stopDesc .dig k d (d.writtenBefore detail) { code := code, detail := detail, bytes := min (pos * b) d.length } fault
  | .clear =>
    let c := s.startCtx r d
    let c1 := { c with data := c.data ++ s.gather r.who d.inFr }
    let s1 :=
      if !d.last then s.setCtxOf d.ctx c1
      else if d.outFr.isEmpty then s.setCtxOf d.ctx { c1 with st := .final, digest := c1.finish, data := [] }
      else (s.scatter d.outFr c1.finish).freeCtx d.ctx
    s1.doneDesc .dig k { code := .done, bytes := d.length }

/-- RESULT (R645): the digest of a FINAL context, which is freed; else zeros with EARLY. -/
def State.resultJob (s : State) (k : Nat) (d : Desc) (tmo : Bool) : State :=
  let r := s.ring .dig k
  let c := s.dig.ctxOf d.ctx
  match s.jobEnd r.who tmo (d.outBufs 0 0) with
  | .held => s.holdJob .dig k d []
  | .stop _ code detail fault =>
    (s.freeCtx d.ctx).stopDesc .dig k d (d.writtenBefore detail) { code := code, detail := detail } fault
  | .clear =>
    if c.st = .final then ((s.scatter d.outFr c.digest).freeCtx d.ctx).doneDesc .dig k { code := .done }
    else
      let s1 := s.scatter d.outFr (zeros (algLen d.alg))
      { s1 with dig := { s1.dig with early := true } }.doneDesc .dig k { code := .done, detail := 1 }

/-- COMPARE (R645, R646). -/
def State.compareJob (s : State) (k : Nat) (d : Desc) (tmo : Bool) : State :=
  let r := s.ring .dig k
  let c := s.dig.ctxOf d.ctx
  match s.jobEnd r.who tmo (d.inBufs d.length) with
  | .held => s.holdJob .dig k d []
  | .stop _ code detail fault => (s.freeCtx d.ctx).stopDesc .dig k d 0 { code := code, detail := detail } fault
  | .clear =>
    if c.st != .final then
      { s with dig := { s.dig with early := true } }.doneDesc .dig k { code := .verdict, detail := 2 }
    else if s.gather r.who d.inFr = c.digest.take d.length then
      (s.freeCtx d.ctx).doneDesc .dig k { code := .done, bytes := d.length }
    else
      let s1 := s.freeCtx d.ctx
      { s1 with dig := { s1.dig with compareFail := sat16 s1.dig.compareFail } }.doneDesc .dig k
        { code := .verdict, bytes := d.length }

/-- Extends register `reg` with a digest under the owner of ring `r` (R647). -/
def State.extendReg (s : State) (r : Ring) (reg alg event : Nat) (digest : Bytes) : State :=
  if h : reg < 24 then { s with dig := s.dig.extend ⟨reg, h⟩ alg r.ownerLevel r.ownerDomain event digest } else s

/-- EXTEND (R647). -/
def State.extendJob (s : State) (k : Nat) (d : Desc) (tmo : Bool) : State :=
  let r := s.ring .dig k
  match s.jobEnd r.who tmo (d.inBufs d.length) with
  | .held => s.holdJob .dig k d []
  | .stop _ code detail fault => s.stopDesc .dig k d 0 { code := code, detail := detail } fault
  | .clear =>
    (s.extendReg r d.reg d.alg (d.p 0x20 2) (s.gather r.who d.inFr)).doneDesc .dig k { code := .done, bytes := d.length }

/-- EXTEND_CTX (R647): the digest held in a FINAL context, which is freed. -/
def State.extendCtxJob (s : State) (k : Nat) (d : Desc) : State :=
  let r := s.ring .dig k
  ((s.extendReg r d.reg d.alg (d.p 0x20 2) (s.dig.ctxOf d.ctx).digest).freeCtx d.ctx).doneDesc .dig k { code := .done }

/-- The work of the digest descriptor in progress on ring `k`: check 11, then by OPCODE. A provisional hold makes an HMAC
job with FIRST wait at its key load (R656). A job held at an access has passed check 11 (R558). -/
def State.runDig (s : State) (k : Nat) (d : Desc) (tmo : Bool) : State :=
  match if d.copy.isSome then none else s.digCheck (s.ring .dig k) d with
  | some (code, x) => s.doneDesc .dig k { code := code, detail := x }
  | none =>
    match d.opcode with
    | 1 => s.absorbJob k d tmo
    | 2 => if d.first && d.copy.isNone && s.provisional then s else s.absorbJob k d tmo
    | 3 => s.resultJob k d tmo
    | 4 => s.compareJob k d tmo
    | 5 => (s.freeCtx d.ctx).doneDesc .dig k { code := .done }
    | 0x20 => s.extendJob k d tmo
    | _ => s.extendCtxJob k d

/-- Runs the digest descriptor in progress on ring `k` when its OPCODE is `op`. -/
def State.digOp (s : State) (k op : Nat) : State :=
  match s.curOp .dig k op with
  | some d => s.runDig k d false
  | none => s

/-- HASH (R637). -/
def execHash (k : Nat) (s : State) : Out := .next (s.digOp k 0x01)

/-- HMAC (R642). -/
def execHmac (k : Nat) (s : State) : Out := .next (s.digOp k 0x02)

/-- RESULT (R645). -/
def execResult (k : Nat) (s : State) : Out := .next (s.digOp k 0x03)

/-- COMPARE (R646). -/
def execCompare (k : Nat) (s : State) : Out := .next (s.digOp k 0x04)

/-- FREE (R644). -/
def execFree (k : Nat) (s : State) : Out := .next (s.digOp k 0x05)

/-- EXTEND (R647). -/
def execExtend (k : Nat) (s : State) : Out := .next (s.digOp k 0x20)

/-- EXTEND_CTX (R647). -/
def execExtendCtx (k : Nat) (s : State) : Out := .next (s.digOp k 0x21)

/-- MEAS_SNAP (R651): a write of SNAP = 1 copies MEAS0–MEAS23 into the snapshot registers. -/
def execMeasSnap (s : State) : Out := .next (if s.regWrites then { s with dig := s.dig.takeSnap } else s)

/-- MEAS_LOCK (R649): a write of LOCK = 1 locks MEAS4–MEAS7 until the next main-island reset. -/
def execMeasLock (s : State) : Out := .next (if s.regWrites then { s with dig := { s.dig with lock := true } } else s)

/-- One byte of DIG_MEAS_OWNERn: a byte with VALID 1 ignores writes (R654). -/
def ownerByte (old : Bool × Nat) (b : Nat) : Bool × Nat := if old.1 then old else (b.testBit 7, b % 16)

/-- A write to DIG_MEAS_OWNERn, `n` 0 or 1 (R654). -/
def Dig.ownerWrite (x : Dig) (n v : Nat) : Dig :=
  { x with owner := Vector.ofFn (fun (i : Fin 8) =>
      if i.val / 4 = n then ownerByte x.owner[i] (v / 256 ^ (i.val % 4) % 256) else x.owner[i]) }

/-- MEAS_OWNER_WRITE (R654): a write to DIG_MEAS_OWNER0 or DIG_MEAS_OWNER1. -/
def execMeasOwnerWrite (n : Fin 2) (v : Word) (s : State) : Out :=
  .next (if s.regWrites then { s with dig := s.dig.ownerWrite n.val v.toNat } else s)

end Sys2Proof.Machine
end

