-- ==== Sys2Proof/Machine/Bignum.lean ====
section
/-! DEFINITION. The wide multiplier: products, modulus registers, yielding (18_bignum.md). -/

namespace Sys2Proof.Machine

open Sys2Proof

/-! ## Modulus registers (R679, R680) -/

/-- Modulus register `k`; beyond 7 an empty one. -/
def Wmu.modOf (x : Wmu) (k : Nat) : Modulus := x.mods.toList.getD k {}

/-- Bits of SIZE (R661). -/
def wmuBits (z : Nat) : Nat := 8 * wmuBytes z

/-- The first condition of R679 that fails, as REASON; 0 when all hold. -/
def Modulus.fault (m : Modulus) : Nat :=
  if m.value % 2 = 0 then 1
  else if !m.value.testBit (wmuBits m.size - 1) then 2
  else if 2 ^ wmuBits m.size ≤ m.value then 3
  else 0

/-- A write to WMU_MODCFGk (R679): SIZE while not VALID, then CLEAR, then SET. A write that would change SIZE of a VALID
register is ignored for SIZE, with MOD_WRITE_IGNORED. -/
def Wmu.cfgWrite (x : Wmu) (k : Fin 8) (v : Nat) : Wmu :=
  let m : Modulus := x.mods[k]
  let x1 : Wmu := if m.valid then { x with writeIgnored := x.writeIgnored || (v % 4 != m.size) }
    else { x with mods := x.mods.set k { m with size := v % 4 } }
  let m1 : Modulus := if v.testBit 9 then { x1.mods[k] with valid := false } else x1.mods[k]
  let x2 := { x1 with mods := x1.mods.set k m1 }
  if v.testBit 8 && !m1.valid then
    if m1.fault = 0 then { x2 with mods := x2.mods.set k { m1 with valid := true } }
    else { x2 with mods := x2.mods.set k { m1 with reason := m1.fault }, refused := true }
  else x2

/-- Word `j` of a value replaced. -/
def putWord (v j w : Nat) : Nat := v - (v / 2 ^ (32 * j) % 2 ^ 32) * 2 ^ (32 * j) + (w % 2 ^ 32) * 2 ^ (32 * j)

/-- A write to a value word of modulus `k` (R679). -/
def Wmu.valueWrite (x : Wmu) (k : Fin 8) (j v : Nat) : Wmu :=
  let m : Modulus := x.mods[k]
  if m.valid then { x with writeIgnored := true } else { x with mods := x.mods.set k { m with value := putWord m.value j v } }

/-! ## Jobs (R662, R668–R672) -/

/-- What a job computes from its input bytes: accumulator before reduction, and its width in bytes (R662). -/
def wmuSum (op z k : Nat) (b : Bytes) : Nat :=
  let n := wmuBytes z
  match op with
  | 1 => leAt b 0 n * leAt b n n
  | 2 => leAt b (2 * n) (wmuAcc z) + leAt b 0 n * leAt b n n
  | _ => leAt b (8 + n) (wmuAcc z) + leAt b 0 8 * leAt b 8 n * 2 ^ (64 * k)

/-- The FIELD check of one operand against the modulus: its DETAIL when refused (R669). -/
def fieldFault (base v m : Nat) : Option Nat :=
  if v = 0 then some base else if v = 1 then some (base + 1) else if m ≤ v then some (base + 2) else none

/-- The FIELD checks of a job, A before B (R669). -/
def wmuFieldFault (op z m : Nat) (b : Bytes) : Option Nat :=
  let n := wmuBytes z
  if op = 3 then fieldFault 0x10 (leAt b 8 n) m
  else match fieldFault 0x10 (leAt b 0 n) m with
    | some x => some x
    | none => fieldFault 0x20 (leAt b n n) m

/-- A VALUE completion is counted (R681). -/
def State.wmuValue (s : State) (k detail : Nat) : State :=
  { s with wmu := { s.wmu with valueRefused := sat16 s.wmu.valueRefused } }.doneDesc .wmu k { code := .value, detail := detail }

/-- A ring-0 job that completes while a job is yielded is counted (R676). -/
def State.countYield (s : State) (k : Nat) : State :=
  match s.wmu.yielded with
  | some (r, n) => if k = 0 then { s with wmu := { s.wmu with yielded := some (r, n + 1) } } else s
  | none => s

/-- Check 11 of a FIELD descriptor: DETAIL of a modulus register that is not VALID or of another size (R668). -/
def State.modFault (s : State) (d : Desc) : Option Nat :=
  let m := s.wmu.modOf (d.p 0x19 1)
  if !d.field then none else if !m.valid then some 1 else if m.size != d.p 0x18 1 then some 2 else none

/-- The modulus of a job: the copy taken at check 11 (R668, R685). -/
def State.modCopy (s : State) (d : Desc) : Nat :=
  match d.copy with
  | some b => leAt b 0 b.length
  | none => (s.wmu.modOf (d.p 0x19 1)).value

/-- The work of the multiplier descriptor in progress on ring `k`: check 11, load, FIELD checks, rows, write (R668–R671). -/
def State.runWmu (s : State) (k : Nat) (d : Desc) (tmo : Bool) : State :=
  let r := s.ring .wmu k
  let z := d.p 0x18 1
  match if d.copy.isSome then none else s.modFault d with
  | some x => (s.countYield k).wmuValue k x
  | none =>
    let m := s.modCopy d
    let load := s.jobEnd r.who tmo (d.inBufs 1)
    let b := s.gather r.who d.inFr
    match load with
    | .held => s.holdJob .wmu k d (leBytes 512 m)
    | .stop pos code detail fault => (s.countYield k).stopDesc .wmu k d 0 { code := code, detail := detail, bytes := pos } fault
    | .clear =>
      match (if d.field then wmuFieldFault d.opcode z m b else none) with
      | some x => (s.countYield k).wmuValue k x
      | none =>
        match s.jobEnd r.who tmo (d.outBufs 0 0) with
        | .held => s.holdJob .wmu k d (leBytes 512 m)
        | .stop _ code detail fault =>
          (s.countYield k).stopDesc .wmu k d (d.writtenBefore detail) { code := code, detail := detail, bytes := d.length } fault
        | .clear =>
          let sum := wmuSum d.opcode z (d.p 0x1A 1) b
          let w := wmuAcc z
          ((s.countYield k).scatter d.outFr (leBytes w sum)).doneDesc .wmu k
            { code := .done, bytes := d.length, result := leBytes 1 (sum / 2 ^ (8 * w)) }

/-- A job of ring `j` holds a bank: it has passed check 11 and is held at an access, or yielded (R673). -/
def State.hasBank (s : State) (j : Nat) : Bool := match (s.ring .wmu j).cur with | some d => d.copy.isSome | none => false

/-- A job of rings 1 to 3 does not go on while a job is yielded (R676), nor while another ring holds a bank (R673, R674). -/
def State.wmuBlocked (s : State) (k : Nat) : Bool := k != 0 && (s.wmu.yielded.isSome || [0, 1, 2, 3].any (fun j => j != k && s.hasBank j))

/-- Runs the multiplier descriptor in progress on ring `k` when its OPCODE is `op`. -/
def State.wmuOp (s : State) (k op : Nat) : State :=
  match s.curOp .wmu k op with
  | some d => if s.wmuBlocked k then s else s.runWmu k d false
  | none => s

/-- MUL (R662). -/
def execMul (k : Nat) (s : State) : Out := .next (s.wmuOp k 1)

/-- MAC (R662). -/
def execMac (k : Nat) (s : State) : Out := .next (s.wmuOp k 2)

/-- ROWMAC (R662). -/
def execRowmac (k : Nat) (s : State) : Out := .next (s.wmuOp k 3)

/-- Check 11 of a multiplier descriptor is passed, or would be now (R668). -/
def State.passes11 (s : State) (d : Desc) : Bool := !d.raw && (d.copy.isSome || (s.modFault d).isNone)

/-- WMU_YIELD (R675): the job in progress on ring `k`, 1 to 3, which has passed check 11, yields to a ring-0 descriptor that has; it
keeps its bank (R673, R685). -/
def execWmuYield (k : Nat) (s : State) : Out :=
  .next (match (s.ring .wmu 0).cur, (s.ring .wmu k).cur with
    | some d0, some d =>
      if 1 ≤ k ∧ s.wmuBlocked k = false ∧ s.passes11 d0 ∧ s.passes11 d ∧ s.mainRuns then
        { s with wmu := { s.wmu with yielded := some (k, 0), yields := sat16 s.wmu.yields } }.takeDesc .wmu k { d with copy := some (leBytes 512 (s.modCopy d)) }
      else s
    | _, _ => s)

/-- Ring 0 has no descriptor that can be fetched, and none in progress (R676). -/
def State.ring0Idle (s : State) : Bool := (s.ring .wmu 0).cur.isNone && !s.fetchable .wmu 0

/-- WMU_RESUME (R676): the yielded job resumes when ring 0 has nothing to fetch, or 32 ring-0 jobs have completed. -/
def execWmuResume (s : State) : Out :=
  .next (match s.wmu.yielded with
    | some (_, n) => if s.ring0Idle || decide (32 ≤ n) then { s with wmu := { s.wmu with yielded := none } } else s
    | none => s)

/-- MOD_SET (R679): a write of SET = 1 to WMU_MODCFGk; `v` gives its other fields. -/
def execModSet (k : Fin 8) (v : Word) (s : State) : Out :=
  .next (if s.regWrites then { s with wmu := s.wmu.cfgWrite k (v.toNat ||| 0x100) } else s)

/-- MOD_CLEAR (R679): a write of CLEAR = 1 to WMU_MODCFGk; `v` gives its other fields. -/
def execModClear (k : Fin 8) (v : Word) (s : State) : Out :=
  .next (if s.regWrites then { s with wmu := s.wmu.cfgWrite k (v.toNat ||| 0x200) } else s)

/-- MOD_VALUE_WRITE (R679): a write to value word `j` of modulus `k`, or where `j` is none to SIZE alone. -/
def execModValueWrite (k : Fin 8) (j : Option (Fin 128)) (v : Word) (s : State) : Out :=
  .next (if s.regWrites then
    match j with
    | some j => { s with wmu := s.wmu.valueWrite k j.val v.toNat }
    | none => { s with wmu := s.wmu.cfgWrite k (v.toNat % 4) }
  else s)

end Sys2Proof.Machine
end

