-- ==== Sys2Proof/Machine/Keys.lean ====
section
/-! DEFINITION. The key store: slot checks and KSM opcodes, counters, the TRNG (19_keys_counters.md). -/

namespace Sys2Proof.Machine

open Sys2Proof

/-! ## Slots -/

/-- Factory test mode: Greenware started with TEST_EN high (R235, R691). -/
def State.factoryTest (s : State) : Bool := s.life.firing == .greenware && s.straps.testEnStart && s.mainRuns

/-- A ring may write slot `n`: slots 0–15 only for P0 in factory test mode (R691, R694). -/
def State.maySlot (s : State) (r : Ring) (n : Nat) : Bool := decide (n ≤ 255) && (decide (16 ≤ n) || (r.ownerLevel == 0 && s.factoryTest))

/-- Length of a class's material, where it is fixed (R689). -/
def classLen : Nat → Option Nat
  | 1 => some 16 | 2 => some 32 | 5 => some 32 | 6 => some 48 | 7 => some 64 | _ => none

/-- KLEN of a new key is legal; `zeroOk` lets 0 stand for a fixed length. -/
def klenOk (cls klen : Nat) (zeroOk : Bool) : Bool :=
  match classLen cls with
  | some n => klen == n || (zeroOk && klen == 0)
  | none => if cls = 3 then decide (1 ≤ klen ∧ klen ≤ 64) else decide (16 ≤ klen ∧ klen ≤ 64)

/-- CLASS, USAGE and PERSIST of a new key are legal (R689). -/
def attrOk (classes : List Nat) (cls usage persist : Nat) : Bool :=
  classes.contains cls && decide (usage < 512) && decide (persist ≤ 1)

/-- An entry for exhausted counters and generations: counter index, or 0xFFFF with the slot (R808, R909). -/
def State.exhausted (s : State) (counter : Nat) (slot : Option Nat) : State :=
  s.klog 0x0803 (beBytes 2 counter ++ (match slot with | some k => beBytes 1 k | none => []))

/-- Writes slot `n` in the store, GEN risen by one; contexts that name it are discarded (R621, R690). -/
def State.storeSlot (s : State) (n : Nat) (x : Slot) : State :=
  { s with
    ksm := { s.ksm with slots := putD {} n { x with gen := (s.ksm.slot n).gen + 1 } s.ksm.slots }
    aes := s.aes.forget n }

/-- GEN of slot `n` after a change that no check refuses at 0xFFFF: no value is stated for it, and it is free (R690). -/
def State.freeGen (s : State) (n : Nat) : State :=
  if (s.ksm.slot n).gen = 0x10000 then
    { s.tick1 with ksm := { s.ksm with slots := putD {} n { s.ksm.slot n with gen := Config.freeNat s.freeCount % 65536 } s.ksm.slots } }
  else s

/-- A slot that is deleted or lost clears the wake-filter entry it was loaded into (R724). -/
def State.clearWake (s : State) (n : Nat) : State :=
  s.eachCh (fun c t => t.updLnk c (fun l =>
    match l.wf with
    | some w => if w.slot = some n then { l with wf := none } else l
    | none => l))

/-- Appends a wrapped record for slot `n` as it stands; the newest record of each slot is kept (R702, R703). -/
def State.keyRecord (s : State) (n : Nat) : State :=
  let x := s.ksm.slot n
  let rec_ : KeyRec := { slot := n, gen := x.gen, cls := x.cls, owner := x.owner, usage := x.usage, wseq := s.ksm.wseq, mat := x.mat }
  { s.drbg with ksm := { s.drbg.ksm with area := s.ksm.area.filter (fun r => r.slot != n) ++ [rec_], wseq := s.ksm.wseq + 1 } }

/-- A new key in slot `n`, with its record when persistent (R690, R702). -/
def State.newKey (s : State) (n cls usage owner : Nat) (persist : Bool) (mat : Bytes) : State :=
  let s1 := s.storeSlot n { st := .live, cls := cls, usage := usage, owner := owner, persist := persist, mat := mat }
  if persist then s1.keyRecord n else s1

/-- A slot is wiped to EMPTY; a persistent one writes a deletion record (R690, R693). -/
def State.deleteSlot (s : State) (n : Nat) : State :=
  let was := (s.ksm.slot n).persist
  let s1 := ((s.storeSlot n {}).freeGen n).clearWake n
  let s2 := { s1 with life := { s1.life with commSlots := s1.life.commSlots.filter (· != n) } }
  if was then s2.keyRecord n else s2

/-- A slot becomes LOST (R704): its material is wiped, its generation rises, and it is logged and reported. -/
def State.loseSlot (s : State) (n : Nat) : State :=
  let x := s.ksm.slot n
  let s1 := ((s.storeSlot n { x with st := .lost, mat := [] }).freeGen n).clearWake n
  s1.klogRep 0x0704 (beBytes 1 n ++ beBytes 2 (s1.ksm.slot n).gen)

/-! ## Check 11 (R694) -/

/-- Classes and usage bit that SLOT needs, by opcode; SIGN's class is that of its digest length. -/
def ksmSource (o length : Nat) : Option (List Nat × Option Nat) :=
  match o with
  | 4 => some ([5], some 6)
  | 5 => some ([4], some 4)
  | 6 => some (if length = 48 then [6] else [5], some 5)
  | 7 => some ([5, 6, 7], some 8)
  | 8 => some ([1, 2, 3, 4, 5, 6, 7], none)
  | 10 => some ([1], some 7)
  | _ => none

/-- The key-reference checks of SLOT. DELETE needs no usage; its slot must be one the ring may write. -/
def State.sourceCheck (s : State) (r : Ring) (d : Desc) : Option Nat :=
  match ksmSource d.opcode d.length with
  | none => none
  | some (classes, usage) =>
    let n := d.p 0x18 2
    match usage with
    | some u => s.keyCheck r n (d.p 0x1A 2) classes.contains u false
    | none =>
      let x := s.ksm.slot n
      if 255 < n then some 1 else if x.st != .live then some 2 else if x.gen != d.p 0x1A 2 then some 3
      else if !s.maySlot r n then some 0x11 else none

/-- Checks 1 to 3 of the target slot (R694). -/
def State.targetCheck (s : State) (r : Ring) (n dgen : Nat) : Option (Code × Nat) :=
  if !s.maySlot r n then some (.slot, 0x11)
  else if (s.ksm.slot n).gen != dgen then some (.slot, 0x13)
  else if (s.ksm.slot n).gen == 0xFFFF then some (.counterExhausted, 0)
  else none

/-- The new key's attributes are legal, by opcode (check 4 of R694). -/
def ksmAttrOk (d : Desc) : Bool :=
  let cls := d.p 0x20 1
  let klen := d.p 0x25 1
  match d.opcode with
  | 1 => attrOk [1, 2, 3, 4, 5, 6] cls (d.p 0x22 2) (d.p 0x21 1) && klenOk cls klen true
  | 2 => attrOk [7] 7 (d.p 0x22 2) (d.p 0x21 1)
  | 4 => attrOk [4] 4 0x10 (d.p 0x21 1)
  | 5 => if d.p 0x1C 2 = 0xFFFF then decide (1 ≤ klen)
    else attrOk [1, 2, 3, 4] cls (d.p 0x22 2) (d.p 0x21 1) && klenOk cls klen false
  | _ => true

/-- The opcode writes DST. -/
def ksmTargets (d : Desc) : Bool :=
  match d.opcode with
  | 1 => true | 2 => true | 3 => true | 4 => true | 5 => d.p 0x1C 2 != 0xFFFF | _ => false

/-- The opcode asks the DRBG (R700). -/
def ksmRandom (o : Nat) : Bool := o == 1 || o == 6 || o == 9

/-- Check 11 of a key-store descriptor: SLOT, then DST, then a request the DRBG cannot serve (R694, R700). -/
def State.ksmCheck (s : State) (r : Ring) (d : Desc) : Option (Code × Nat) :=
  match s.sourceCheck r d with
  | some x => some (.slot, x)
  | none =>
    match (if ksmTargets d then s.targetCheck r (d.p 0x1C 2) (d.p 0x1E 2) else none) with
    | some e => some e
    | none =>
      if !ksmAttrOk d then some (.value, 1)
      else if d.opcode == 5 && d.p 0x1C 2 == 0xFFFF
          && (!(s.ksm.slot (d.p 0x18 2)).usage.testBit 8 || decide (8 < d.p 0x25 1)) then some (.value, 3)
      else if d.opcode == 3 && (s.ksm.slot 0).st != .live then some (.slot, 2)
      else if ksmRandom d.opcode && !s.ksm.drbgOk then some (.value, 0xE0)
      else if d.opcode == 8 && (s.ksm.slot (d.p 0x18 2)).gen == 0xFFFF then some (.counterExhausted, 0)
      else none

/-! ## Opcodes (R693, R697) -/

/-- RESULT of an opcode that wrote slot `n`: its new GEN. -/
def State.genDone (s : State) (n length : Nat) : Done :=
  { code := .done, bytes := length, result := leBytes 2 (s.ksm.slot n).gen }

/-- Material length of a generated key. -/
def genLen (cls klen : Nat) : Nat := (classLen cls).getD klen

/-- GENERATE: DRBG material (a free value; a scalar is drawn by rejection). -/
def State.ksmGenerate (s : State) (d : Desc) : State × Done :=
  let n := d.p 0x1C 2
  let cls := d.p 0x20 1
  let s1 := s.drbg.newKey n cls (d.p 0x22 2) (d.p 0x24 1) (d.p 0x21 1 == 1) (Config.freeBytes s.freeCount (genLen cls (d.p 0x25 1)))
  (s1, s1.genDone n 0)

/-- IMPORT_PUBLIC, after the checks of R369. -/
def State.ksmImport (s : State) (d : Desc) (b : Bytes) : State × Done :=
  if p256Valid b then
    let n := d.p 0x1C 2
    let s1 := s.newKey n 7 (d.p 0x22 2) (d.p 0x24 1) (d.p 0x21 1 == 1) b
    (s1, s1.genDone n d.length)
  else (s, { code := .value, detail := 2 })

/-- Info string of UNWRAP, without ATTR: "trekan kwrap v1". -/
def kwrapInfo : Bytes := [0x74, 0x72, 0x65, 0x6B, 0x61, 0x6E, 0x20, 0x6B, 0x77, 0x72, 0x61, 0x70, 0x20, 0x76, 0x31]

/-- The result of unwrapping a commissioned key blob: the code when refused, or ATTR and the material (R696, R697). -/
def State.unwrap (s : State) (n : Nat) (b : Bytes) : Except (Code × Nat) (Bytes × Bytes) :=
  let e := b.take 64
  let attr := slice 64 16 b
  let ct := slice 80 64 b
  if !p256Valid e then .error (.value, 2)
  else
    let okm := hkdf s.deviceId (Config.ecdh (s.ksm.slot 0).mat e) (kwrapInfo ++ attr) 32
    if cmac (okm.drop 16) (b.take 144) != b.drop 144 then .error (.verdict, 0)
    else
      let pt := aesCtr (okm.take 16) (beBytes 16) ct
      let klen := beAt attr 6 1
      let cls := beAt attr 1 1
      if beAt attr 0 1 == n && decide (16 ≤ n) && zeroAt attr 7 9 && attrOk [1, 2, 3, 4, 5, 6, 7] cls (beAt attr 2 2) (beAt attr 5 1)
          && klenOk cls klen false && (pt.drop klen).all (· == 0) then .ok (attr, pt.take klen)
      else .error (.value, 1)

/-- UNWRAP: installs a commissioned key. -/
def State.ksmUnwrap (s : State) (d : Desc) (b : Bytes) : State × Done :=
  let n := d.p 0x1C 2
  match s.unwrap n b with
  | .error (c, x) => (s, { code := c, detail := x })
  | .ok (attr, mat) =>
    let s1 := s.newKey n (beAt attr 1 1) (beAt attr 2 2) (beAt attr 4 1) (beAt attr 5 1 == 1) mat
    (s1, s1.genDone n d.length)

/-- AGREE: Z into DST as SECRET with USAGE DERIVE. -/
def State.ksmAgree (s : State) (d : Desc) (b : Bytes) : State × Done :=
  if p256Valid b then
    let n := d.p 0x1C 2
    let s1 := s.newKey n 4 0x10 (d.p 0x24 1) (d.p 0x21 1 == 1) (Config.ecdh (s.ksm.slot (d.p 0x18 2)).mat b)
    (s1, s1.genDone n d.length)
  else (s, { code := .value, detail := 2 })

/-- HKDF output of DERIVE: salt is the first SALTLEN bytes of the input, info the rest. -/
def State.deriveOut (s : State) (d : Desc) (b : Bytes) : Bytes :=
  let n := d.p 0x26 1
  hkdf (b.take n) (s.ksm.slot (d.p 0x18 2)).mat (b.drop n) (d.p 0x25 1)

/-- DERIVE into DST. -/
def State.ksmDerive (s : State) (d : Desc) (b : Bytes) : State × Done :=
  let n := d.p 0x1C 2
  let s1 := s.newKey n (d.p 0x20 1) (d.p 0x22 2) (d.p 0x24 1) (d.p 0x21 1 == 1) (s.deriveOut d b)
  (s1, s1.genDone n d.length)

/-- Output bytes of an opcode with OUT. -/
def State.ksmOut (s : State) (d : Desc) (b : Bytes) : Bytes :=
  let x := s.ksm.slot (d.p 0x18 2)
  match d.opcode with
  | 5 => s.deriveOut d b
  | 6 => Config.ecdsa (x.cls == 6) x.mat b s.freeCount
  | 7 => if x.cls = 7 then x.mat else Config.publicKey (x.cls == 6) x.mat
  | _ => Config.freeBytes s.freeCount d.length

/-- WAKE_LOAD: SLOT into the wake-filter entry of channel INDEX, with the SID and last CTR of that channel's session. -/
def State.ksmWake (s : State) (d : Desc) : State :=
  let c : Fin 16 := ⟨d.p 0x28 2 % 16, Nat.mod_lt _ (by decide)⟩
  let n := d.p 0x18 2
  s.updLnk c (fun l =>
    let w : WakeFilter := { sid := (l.sess.map (·.sid)).getD 0, key := (s.ksm.slot n).mat, lastCtr := l.sess.bind (·.ctrRx), slot := some n }
    { l with wf := some w })

/-- A counter opcode: the state and what its completion says (R707, R708). -/
def State.ksmCounter (s : State) (d : Desc) : State × Done :=
  let i := d.p 0x28 2
  let delta := d.p 0x2A 2
  let value (t : State) : Done := { code := .done, result := leBytes 8 (t.ksm.cntOf i) }
  match d.opcode with
  | 0x20 => (s, value s)
  | 0x21 =>
    if cntMax ≤ s.ksm.cntOf i then (s.exhausted i none, { code := .counterExhausted }) else (s.cntInc i, value (s.cntInc i))
  | 0x22 =>
    if cntMax < s.ksm.cntOf i + delta then (s.exhausted i none, { code := .counterExhausted })
    else (s.cntAdvance i delta, value (s.cntAdvance i delta))
  | 0x23 => (s.journalProgram, { code := .done })
  | _ =>
    let l := s.ksm.sync.filter (· != i)
    let s1 := { s with ksm := { s.ksm with sync := if delta = 1 then l ++ [i] else l } }
    let s2 := (s1.journalAdd (.mode i (delta == 1))).journalProgram
    (s2, value s2)

/-- Counter opcodes. -/
def ksmIsCounter (o : Nat) : Bool := decide (0x20 ≤ o ∧ o ≤ 0x24)

/-- The work of the key-store descriptor in progress on ring `k`: a provisional hold makes it wait (R720), a compaction that
waits makes counter opcodes wait (R713); then check 11, the input, and the opcode. -/
def State.runKsm (s0 : State) (k : Nat) (d : Desc) (tmo : Bool) : State :=
  let s := if s0.ksm.compWait then s0.compactDue else s0
  let r := s.ring .ksm k
  if s.provisional || (ksmIsCounter d.opcode && s.ksm.compWait) then s
  else match if d.copy.isSome then none else s.ksmCheck r d with
  | some (c, x) =>
    let n := if d.opcode = 8 then d.p 0x18 2 else d.p 0x1C 2
    let s1 := match c with | .counterExhausted => s.exhausted 0xFFFF (some n) | _ => s
    s1.doneDesc .ksm k { code := c, detail := x }
  | none =>
    let bufs := if d.opcode = 9 then d.outBufs 0 0 else d.inBufs d.length ++ d.outBufs 1 0
    match s.jobEnd r.who tmo bufs with
    | .held => s.holdJob .ksm k d []
    | .stop pos code detail fault =>
      s.stopDesc .ksm k d (d.writtenBefore detail) { code := code, detail := detail, bytes := if pos = 0 then 0 else d.length } fault
    | .clear =>
      let b := s.gather r.who d.inFr
      let (s1, done) :=
        match d.opcode with
        | 1 => s.ksmGenerate d
        | 2 => s.ksmImport d b
        | 3 => s.ksmUnwrap d b
        | 4 => s.ksmAgree d b
        | 5 => if d.outFr.isEmpty then s.ksmDerive d b
          else (s.scatter d.outFr (s.ksmOut d b), { code := .done, bytes := d.length })
        | 6 => (s.drbg.scatter d.outFr (s.ksmOut d b), { code := .done, bytes := d.length })
        | 7 => (s.scatter d.outFr (s.ksmOut d b), { code := .done })
        | 8 => (s.deleteSlot (d.p 0x18 2), (s.deleteSlot (d.p 0x18 2)).genDone (d.p 0x18 2) 0)
        | 9 => (s.drbg.scatter d.outFr (s.ksmOut d b), { code := .done, bytes := d.length })
        | 10 => (s.ksmWake d, { code := .done })
        | _ => s.ksmCounter d
      s1.doneDesc .ksm k done

/-- Runs the key-store descriptor in progress on ring `k` when its OPCODE is `op`. -/
def State.ksmOp (s : State) (k op : Nat) : State :=
  match s.curOp .ksm k op with
  | some d => s.runKsm k d false
  | none => s

/-- GENERATE (R693). -/
def execGenerate (k : Nat) (s : State) : Out := .next (s.ksmOp k 0x01)

/-- IMPORT_PUBLIC (R693). -/
def execImportPublic (k : Nat) (s : State) : Out := .next (s.ksmOp k 0x02)

/-- UNWRAP (R697). -/
def execUnwrap (k : Nat) (s : State) : Out := .next (s.ksmOp k 0x03)

/-- AGREE (R693). -/
def execAgree (k : Nat) (s : State) : Out := .next (s.ksmOp k 0x04)

/-- DERIVE (R693). -/
def execDerive (k : Nat) (s : State) : Out := .next (s.ksmOp k 0x05)

/-- SIGN (R693). -/
def execSign (k : Nat) (s : State) : Out := .next (s.ksmOp k 0x06)

/-- PUBLIC (R693). -/
def execPublic (k : Nat) (s : State) : Out := .next (s.ksmOp k 0x07)

/-- DELETE (R693). -/
def execDelete (k : Nat) (s : State) : Out := .next (s.ksmOp k 0x08)

/-- RANDOM (R700). -/
def execRandom (k : Nat) (s : State) : Out := .next (s.ksmOp k 0x09)

/-- WAKE_LOAD (R693). -/
def execWakeLoad (k : Nat) (s : State) : Out := .next (s.ksmOp k 0x0A)

/-- CNT_READ (R693). -/
def execCntRead (k : Nat) (s : State) : Out := .next (s.ksmOp k 0x20)

/-- CNT_INC (R708). -/
def execCntInc (k : Nat) (s : State) : Out := .next (s.ksmOp k 0x21)

/-- CNT_ADVANCE (R708). -/
def execCntAdvance (k : Nat) (s : State) : Out := .next (s.ksmOp k 0x22)

/-- CNT_SYNC (R708). -/
def execCntSync (k : Nat) (s : State) : Out := .next (s.ksmOp k 0x23)

/-- CNT_MODE (R708). -/
def execCntMode (k : Nat) (s : State) : Out := .next (s.ksmOp k 0x24)

/-! ## The TRNG (R698, R699) -/

/-- TRNG_HEALTH_FAIL (R699): a window fails at raw bit `bit`, or the start-up test fails. The third failure within 2²⁰ raw
bits, or a failed start-up test, makes the TRNG FAILED until the next main-island reset. -/
def execTrngHealthFail (startup : Bool) (bit : Nat) (s : State) : Out :=
  .next (if !s.mainRuns then s
    else
      let l := bit :: s.ksm.trngFailAt.filter (fun b => decide (bit < b + 1048576))
      let s1 := { s with ksm := { s.ksm with trngFails := sat16 s.ksm.trngFails, trngFailAt := l } }
      if s1.ksm.trng = .failed then s1
      else if startup || decide (3 ≤ l.length) then
        { s1 with ksm := { s1.ksm with trng := .failed } }.watch 0x0802 []
      else s1)

end Sys2Proof.Machine
end

