-- ==== Sys2Proof/Machine/PortOps.lean ====
section
/-! DEFINITION. The uplink ports and what they send without a record: CHUNK_ACK messages (11_uplink.md R408, R413, R433–R436). -/

namespace Sys2Proof.Machine

open Sys2Proof

/-- Port `p`. -/
def State.port (s : State) : Port → PortSt
  | .a => s.upl.a | .b => s.upl.b

/-- Updates port `p`. -/
def State.updPort (s : State) (p : Port) (f : PortSt → PortSt) : State :=
  match p with
  | .a => { s with upl := { s.upl with a := f s.upl.a } }
  | .b => { s with upl := { s.upl with b := f s.upl.b } }

/-- Both PHYs are powered and may link (R154, R408). -/
def State.phyUp (s : State) : Bool := s.mainUp && s.clk.xo25.up

/-- Port `p` is linked. -/
def State.linkedTo (s : State) (p : Port) : Bool := s.phyUp && (s.port p).linked

/-- Number of chunks of a bundle of TOTAL bytes (R430). -/
def chunkCount (total : Nat) : Nat := ceilDiv total 1024

/-- Lowest index from `i` that is not stored, by fuel. -/
def nextMissing (l : List (Nat × Bytes)) : (fuel : Nat) → (i : Nat) → Nat
  | 0, i => i
  | n + 1, i => if l.any (fun e => e.1 == i) then nextMissing l n (i + 1) else i

/-- NEXT_MISSING of the intake (R433). -/
def Intake.next (x : Intake) : Nat := nextMissing x.chunks x.chunks.length 0

/-- STATUS of the complete place's bundle (R433). -/
def BStatus.code : BStatus → Nat
  | .complete => 2 | .verifying => 3 | .done => 4 | .digestMismatch => 0x13

/-- A CHUNK_ACK message for a bundle: what the intake or the complete place holds of it, and WINDOW (R433). -/
def State.chunkAck (s : State) (id : Bytes) (total status : Nat) : Bytes :=
  let (held, received, missing) := match s.upl.intake, s.upl.complete with
    | some x, c =>
      if x.id = id then (x.total, x.chunks.length, x.next)
      else match c with
        | some y => if y.id = id then (y.total, chunkCount y.total, chunkCount y.total) else (total, 0, 0)
        | none => (total, 0, 0)
    | none, some y => if y.id = id then (y.total, chunkCount y.total, chunkCount y.total) else (total, 0, 0)
    | none, none => (total, 0, 0)
  [0x49, 0x46, 0x01, 0x05] ++ padTo 16 id ++ beBytes 4 held ++ beBytes 2 received ++ beBytes 2 missing ++ beBytes 2 (64 - s.upl.buf.length)
    ++ beBytes 1 status ++ [0] ++ s.deviceId

/-- A message to the concentrator address of a port that has one. -/
def State.sendPort (s : State) (p : Port) (msg : Bytes) : State :=
  if s.linkedTo p && (s.port p).addr.isSome then s.emit (.uplink p msg) else s

/-- A CHUNK_ACK goes out on every port that has a concentrator address (R434). -/
def State.sendChunkAck (s : State) (id : Bytes) (total status : Nat) : State :=
  let m := s.chunkAck id total status
  let s1 := (s.sendPort .a m).sendPort .b m
  { s1 with upl := { s1.upl with chunkAckAt := some s.tick, ackPending := none, answered := id :: s1.upl.answered.filter (· != id) } }

/-- An answer that no rule makes immediate: at most one in 655 ticks, covering every chunk since the last; the first chunk of a bundle
is answered at once (R434). -/
def State.paceChunkAck (s : State) (id : Bytes) (total status : Nat) : State :=
  if s.upl.answered.contains id && (match s.upl.chunkAckAt with | some t => decide (s.tick < t + 655) | none => false) then
    { s with upl := { s.upl with ackPending := some (id, total, status) } }
  else s.sendChunkAck id total status

/-- The complete place's bundle takes a STATUS, told at once when it changes (R433, R434). -/
def State.setBStatus (s : State) (b : BStatus) : State :=
  match s.upl.complete with
  | some c =>
    if c.status = b then s
    else { s with upl := { s.upl with complete := some { c with status := b } } }.sendChunkAck c.id c.total b.code
  | none => s

end Sys2Proof.Machine
end

