-- ==== Sys2Proof/Machine/Recovery.lean ====
section
/-! DEFINITION. Counter skips and journal recovery (19_keys_counters.md R714–R716), and the outcome of a bundle with the
copies its intake displaced (22_kiln.md R818; 11_uplink.md R418 BUNDLE_RESULT). -/

namespace Sys2Proof.Machine

open Sys2Proof

/-! ## Skips (R714–R716) -/

/-- Counters after a skip: `base` values, those of `incl` raised by `amt`, none beyond 2⁶⁴ − 1. -/
def skipped (base : List (Nat × Nat)) (incl : Nat → Bool) (amt : Nat) : List (Nat × Nat) :=
  ((List.range 1024).map (fun k =>
    let v := lookupD 0 k base
    (k, if incl k then min cntMax (v + amt) else v))).filter (fun e => e.2 != 0)

/-- COUNTER_SKIP of one counter, or of 0xFFFF for every counter that stood at zero (R716, R808). -/
def State.skipEntry (s : State) (k old new : Nat) : State := s.klogRep 0x0801 (beBytes 2 k ++ beBytes 8 old ++ beBytes 8 new)

/-- GAP with cause 1 over a skip of CNT1 (R441, R716). -/
def State.gapSkip (s : State) (old new : Nat) : State :=
  if old < new then s.report 0x0A (beBytes 8 (old + 1) ++ beBytes 8 new ++ [1] ++ zeros 3 ++ beBytes 4 0) else s

/-- Logs and reports a skip: every counter above zero by itself, the others together (R716). `old` and `new` are the values
before and after. -/
def State.logSkip (s : State) (old new : List (Nat × Nat)) : State :=
  let changed := new.filter (fun e => lookupD 0 e.1 old != e.2)
  let own := changed.filter (fun e => lookupD 0 e.1 old != 0)
  let zero := changed.filter (fun e => lookupD 0 e.1 old == 0)
  let s1 := own.foldl (fun t e => t.skipEntry e.1 (lookupD 0 e.1 old) e.2) s
  let s2 := match zero with | (_, v) :: _ => s1.skipEntry 0xFFFF 0 v | [] => s1
  s2.gapSkip (lookupD 0 1 old) (lookupD 0 1 new)

/-- One journal entry applied to the counters and the SYNC set (R710). -/
def applyEntry (x : List (Nat × Nat) × List Nat) (e : JEntry) : List (Nat × Nat) × List Nat :=
  match e with
  | .inc k v => (putD 0 k v x.1, x.2)
  | .advance k v => (putD 0 k v x.1, x.2)
  | .mode k true => (x.1, x.2.filter (· != k) ++ [k])
  | .mode k false => (x.1, x.2.filter (· != k))
  | _ => x

/-- The last session was closed: a CLOSE follows the last OPEN, or where no OPEN follows the compaction a CLOSE does (R714). -/
def closedSession : List JEntry → Bool
  | l =>
    match l.reverse.find? (fun e => e == .openS || e == .closeS) with
    | some .closeS => true
    | _ => false

/-- Values, SYNC set and skip of a restore: the first row of the table of counter recovery whose condition holds (R714). -/
structure Restored where
  cnt : List (Nat × Nat)
  sync : List Nat
  amt : Nat
  /-- only BUFFERED counters skip -/
  buffered : Bool := false
deriving DecidableEq, Repr

/-- The restore of a journal at ratchet position `r` (R714). -/
def Ksm.recover (x : Ksm) (r : Nat) : Restored :=
  match x.comp with
  | none => { cnt := [], sync := x.sync, amt := 2 ^ 20 * (r + 1) }
  | some c =>
    if c.r < r then { cnt := c.values, sync := c.sync, amt := 2 ^ 20 * (r - c.r + 1) }
    else if x.badPage then { cnt := c.values, sync := c.sync, amt := 2 ^ 20 }
    else
      let y := x.entries.foldl applyEntry (c.values, c.sync)
      if closedSession x.entries then { cnt := y.1, sync := y.2, amt := 0 }
      else { cnt := y.1, sync := y.2, amt := 32, buffered := true }

/-- Phase F: the journal is restored; a skip brings a fresh compaction; the OPEN entry is programmed; the skip is logged and
reported (R711, R714, R716). A compaction that the flush left due is made first of all entries (R713). -/
def State.restoreJournal (s : State) : State :=
  let y := s.ksm.recover s.ratchet
  let new := if y.amt = 0 then y.cnt else skipped y.cnt (fun k => !y.buffered || !y.sync.contains k) y.amt
  let x := { s.ksm with cnt := new, sync := y.sync, skipped := y.amt != 0, tail := [] }
  let s1 := { s with ksm := if y.amt = 0 then x else x.compact s.ratchet }
  let s2 := s1.compactDue
  let s3 := (s2.journalAdd .openS)
  let s4 := { s3 with ksm := s3.ksm.program }
  if y.amt = 0 then s4 else s4.logSkip y.cnt new

/-- A journal page uncorrectable in service: every counter is set to its value in the newest compaction plus 2²⁰, or its present
value plus 2²⁰ where none remains, and a fresh compaction is written (R715). -/
def State.journalBad (s : State) : State :=
  let old := s.ksm.cnt
  let base := match s.ksm.comp with | some c => c.values | none => old
  let new := skipped base (fun _ => true) (2 ^ 20)
  ({ s with ksm := { s.ksm with cnt := new }.compact s.ratchet }).logSkip old new

/-! ## Outcome of a bundle -/

/-- BUNDLE_ID and TOTAL of the bundle at hand: under verification, or in the complete place. -/
def State.bundleKey (s : State) : Bytes × Nat :=
  match s.upl.complete with
  | some c => (c.id, c.total)
  | none => match s.kiln.verifying with | some (_, n, id) => (id, n) | none => (zeros 16, 0)

/-- Bytes of the bundle at hand. -/
def State.bundleData (s : State) : Bytes := match s.upl.complete with | some c => c.data | none => []

/-- BUNDLE_RESULT body (R418). -/
def State.resultBody (s : State) (result detail : Nat) : Bytes :=
  let (id, total) := s.bundleKey
  padTo 16 id ++ beBytes 1 (leAt s.bundleData 6 1) ++ beBytes 1 result ++ beBytes 2 detail ++ beBytes 4 total

/-- A displaced copy is rewritten from the other bank's copy and checked against its digest (R818). -/
def Install.rewrite (x : Install) (bank : Nat) : Install :=
  if bank = 0 then
    if x.bankB = .present ∧ sha2 .sha384 x.imgB = x.digest then { x with bankA := .present, imgA := x.imgB } else x
  else if x.bankA = .present ∧ sha2 .sha384 x.imgA = x.digest then { x with bankB := .present, imgB := x.imgA } else x

/-- The displaced copies listed are rewritten (R818). -/
def State.rewriteCopies (s : State) (l : List (Bool × Nat × Nat)) : State :=
  { s with kiln := { s.kiln with installs := l.foldl (fun k e =>
      k.map (fun x => if x.wheel = e.1 ∧ x.domain = e.2.1 then x.rewrite e.2.2 else x)) s.kiln.installs } }

/-- Every copy that the bundle of the complete place displaced is rewritten (R818). -/
def State.rewriteDisplaced (s : State) : State :=
  match s.upl.complete with
  | none => s
  | some c =>
    let t := s.rewriteCopies c.displaced
    { t with upl := { t.upl with complete := some { c with displaced := [] } } }

/-- STATE of the bundle machine that a result leaves (R802). -/
def resultState : Nat → BundleSt
  | 0 => .applied | 6 => .staged | _ => .refused

/-- A bundle outcome: logged as BUNDLE, reported as BUNDLE_RESULT, shown in BUNDLE_STATUS; any result but 6 ends the bundle, and
its displaced copies are rewritten (R802, R816, R818). -/
def State.bundleOutcome (s : State) (result detail : Nat) : State :=
  let body := s.resultBody result detail
  let s1 := { s with kiln := { s.kiln with bundle := resultState result, result := result, resultDetail := detail, verifying := none } }
  let s2 := (s1.klog 0x0501 (body.take 20)).report 0x0C body
  if result = 6 then s2
  else
    let s3 := s2.rewriteDisplaced
    let s4 := { s3 with upl := { s3.upl with complete := s3.upl.complete.map (fun (c : Complete) => { c with outcome := true }) } }
    s4.setBStatus (if result = 5 then .digestMismatch else .done)

end Sys2Proof.Machine
end

