-- ==== Sys2Proof/Machine/Flash.lean ====
section
/-! DEFINITION. The flash controller: FLC opcodes, suspends, the poison map with its handling by area, scrub sessions
(20_flash.md). What the analogue array does comes as operands: pulses, verify results, pages that fail a blank check, corrected
bits of a read. -/

namespace Sys2Proof.Machine

open Sys2Proof

/-! ## The poison map (R758–R760) -/

/-- Row of the table of flash areas (R730, R808 POISON); 12 is the information block, 13 a map block. -/
def flashArea (b : Nat) : Nat :=
  if b < 96 then 0 else if b < 112 then 1 else if b < 116 then 2 else if b < 118 then 3 else if b < 120 then 4
  else if b < 122 then 5 else if b < 128 then 6 else if b < 224 then 7 else if b < 240 then 8 else if b < 252 then 9
  else if b < 254 then 10 else if b < 256 then 11 else if b = 256 then 12 else 13

/-- Blocks a copy takes. -/
def copyBlocks (len : Nat) : Nat := ceilDiv len 262144

/-- An installed copy in bank 0 A or 1 B occupies block `b`. -/
def Install.holds (x : Install) (bank b : Nat) : Bool :=
  let st := if bank = 0 then x.bankA else x.bankB
  let first := if bank = 0 then x.firstA else x.firstB
  st == .present && decide (first ≤ b ∧ b < first + copyBlocks x.length)

/-- Marks a copy damaged (R188, R760). -/
def Install.damage (x : Install) (bank : Nat) : Install :=
  if bank = 0 then { x with bankA := .damaged } else { x with bankB := .damaged }

/-- BANK_DAMAGED of an install entry (R808). -/
def damagedDetail (x : Install) (bank : Nat) : Bytes :=
  beBytes 1 (if x.wheel then 1 else 2) ++ beBytes 1 x.domain ++ beBytes 1 bank ++ [0] ++ beBytes 4 x.release

/-- An image-area page: the copy that holds it is damaged, or the bundle received there is refused with result 5 (R760). -/
def State.imageBad (s : State) (b : Nat) : State :=
  let bank := if b < 128 then 0 else 1
  match s.kiln.installs.find? (fun x => x.holds bank b) with
  | some x =>
    { s with kiln := { s.kiln with installs := s.kiln.installs.map (fun y => if y = x then y.damage bank else y) } }.klog 0x0504
      (damagedDetail x bank)
  | none =>
    if s.upl.complete.any (fun c => !c.outcome) && s.pwr.bank != some bank then s.bundleOutcome 5 0 else s

/-- Retention-ring page of a flash page: block 111 is followed by block 224 (R730). -/
def ringPageOf (p : Nat) : Nat := if p / 512 < 112 then p - 96 * 512 else p - 224 * 512 + 16 * 512

/-- The record that holds a ring page is lost: a GAP of cause 2 where it was not acknowledged (R441). -/
def State.ringBad (s : State) (p : Nat) : State :=
  let g := ringPageOf p
  match s.upl.ring.find? (fun r => decide (r.page ≤ g ∧ g < r.page + recPages r)) with
  | some r =>
    let s1 := { s with upl := { s.upl with ring := s.upl.ring.filter (fun x => x.seq != r.seq) } }
    if r.acked then s1 else s1.report 0x0A (beBytes 8 r.seq ++ beBytes 8 r.seq ++ [2] ++ zeros 3 ++ beBytes 4 1)
  | none => s

/-- Every slot whose newest record lies in a key-area page becomes LOST: four records a page, in write order. The Slip Joint session,
keyed from slot 3, ends with it (R703, R704). -/
def State.keyPageBad (s : State) (p : Nat) : State :=
  let hit := (s.ksm.area.filter (fun r => (r.wseq - 1) / 4 % 512 == p % 512 && r.cls != 0)).map (·.slot)
  let s1 := hit.foldl (fun t n => if (t.ksm.slot n).st = .live then t.loseSlot n else t) s
  let s2 := if hit.contains 3 then s1.dropSlip else s1
  { s2 with ksm := { s2.ksm with area := s2.ksm.area.map (fun r => if hit.contains r.slot then { r with good := false } else r) } }

/-- The entries of a Kiln Log page are lost; LOG_LOST names the range (R760, R830). -/
def State.logPageBad (s : State) (p : Nat) : State :=
  let n := p - 240 * 512
  let gone := s.kiln.log.filter (fun e => e.page % 6144 == n)
  match gone with
  | [] => s
  | e :: l =>
    let lo := l.foldl (fun a x => min a x.lseq) e.lseq
    { s with kiln := { s.kiln with log := s.kiln.log.filter (fun x => x.page % 6144 != n) } }.klog 0x0702
      (beBytes 8 lo ++ beBytes 8 e.lseq)

/-- What the owner of an area does about an uncorrectable page (R760). The contract area, Kiln records and staging are rewritten
from their good copies. -/
def State.areaBad (s : State) (p : Nat) : State :=
  match flashArea (p / 512) with
  | 0 => s.imageBad (p / 512)
  | 7 => s.imageBad (p / 512)
  | 1 => s.ringBad p
  | 8 => s.ringBad p
  | 2 => s.journalBad
  | 3 => s.keyPageBad p
  | 5 => { s with upl := { s.upl with ackFloor := s.upl.prevFloor } }
  | 9 => s.logPageBad p
  | 12 => if p % 512 < 32 then { s with opt := s.opt.set 0 [] } else { s with opt := s.opt.set 1 [] }
  | _ => s

/-- FLASH_WEAR, logged and reported: 0 starved, 1 worn, 2 poison full (R747, R758, R761). -/
def State.flashWear (s : State) (kind b : Nat) : State := s.klogRep 0x0703 (beBytes 1 kind ++ beBytes 1 b)

/-- POISON_FULL is set, logged and reported, where it stands clear (R758). -/
def State.poisonFills (s : State) (b : Nat) : State :=
  if s.flc.poisonFull then s else { s with flc := { s.flc with poisonFull := true } }.flashWear 2 b

/-- A page whose flag is set reads uncorrectable: it enters the poison map, is logged as POISON with the reader that found it, and is
reported; the 1024th entry fills the map, and a page found after that is not recorded. Its area is handled (R758–R760). Pages 256 × 512 on
are the information block, then the map blocks. -/
def State.poisonPage (s : State) (p reader : Nat) : State :=
  let b := p / 512
  if s.flc.poisoned p then s
  else if 1024 ≤ s.flc.poison.length then (s.poisonFills b).areaBad p
  else
    let s1 := { s with flc := { s.flc with poison := s.flc.poison ++ [p] } }
    let s2 := s1.klogRep 0x0701 (beBytes 1 (if b < 256 then b else 0xFF) ++ beBytes 2 (p % 512) ++ beBytes 1 (flashArea b) ++ beBytes 1 reader)
    (if s.flc.poison.length = 1023 then s2.poisonFills b else s2).areaBad p

/-- A block enters the refresh queue once, at most 256 (R754). -/
def Flc.queue (f : Flc) (b : Nat) : Flc :=
  if b < 256 ∧ !f.refresh.contains b ∧ f.refresh.length < 256 then { f with refresh := f.refresh ++ [b] } else f

/-- One page read with its corrected bits: 4 or more are counted and queue the block; more than 8 are uncorrectable (R727, R754,
R758). Outside the applet-data area the page stands for one the area's owner has programmed. -/
def State.pageRead (s : State) (p bits reader : Nat) : State :=
  if 8 < bits then (if s.flc.flagged p || flashArea (p / 512) != 6 then s.poisonPage p reader else s)
  else if 4 ≤ bits then { s with flc := { s.flc.queue (p / 512) with corrected := sat16 s.flc.corrected } }
  else s

/-! ## Suspending an erase (R746, R747, R749) -/

/-- A read of the bank of block `b` suspends the erase there, unless its mode is NONE (R746); the 256th suspend of one erase is
ERASE_STARVED (R747). -/
def State.suspendErase (s : State) (b : Nat) : State :=
  match s.flc.eraseOf b with
  | some j =>
    if j.mode = 0 ∨ j.suspended = true then s
    else
      let n := j.suspends + 1
      let s1 := { s with flc := s.flc.setErase b (some { j with suspends := n, suspended := true }) }
      if n = 256 then
        { s1 with flc := { s1.flc with eraseStarved := true, starved := sat16 s1.flc.starved } }.flashWear 0 j.block
      else s1
  | none => s

/-- ERASE_RESUME (R746): the suspended erase of bank 0 A or 1 B resumes; not during a provisional hold (R767). -/
def execEraseResume (bank : Fin 2) (s : State) : Out :=
  .next (let b := 128 * bank.val
    match s.flc.eraseOf b with
    | some j =>
      if j.suspended && !s.provisional then { s with flc := s.flc.setErase b (some { j with suspended := false }) } else s
    | none => s)

/-! ## Check 11 (R740) -/

/-- First page a descriptor names, and how many. -/
def Desc.fpage (d : Desc) : Nat := d.p 0x18 4 % 0x10000000 / 512
def Desc.fpages (d : Desc) : Nat :=
  match d.opcode with
  | 1 => d.length / 512
  | 2 => 512
  | 5 => 512
  | _ => d.p 0x1E 2

/-- The target range as a buffer: a write for PROGRAM and ERASE, else a read (R740, R551). -/
def Desc.target (d : Desc) : Buf :=
  { addr := d.p 0x18 4, len := 512 * d.fpages, type := if d.opcode ≤ 2 then .write else .read, detail := 0x300, pos := 0, unit := 1, flash := true }

/-- The target check: a refusal, or a wait under UPDATE. An uncorrectable page is no refusal. -/
def State.targetEnd (s : State) (w : Who) (tmo : Bool) (d : Desc) : JobEnd :=
  if s.prot.holds w d.target.addr d.target.len then
    if tmo then .stop 0 .access 0x300 (some (d.target.type, 8, d.target.addr)) else .held
  else match s.prot.check w d.target.type (d.opcode ≤ 2) d.target.addr d.target.len with
  | some (kind, addr) => .stop 0 .access 0x300 (some (d.target.type, kind, addr))
  | none => .clear

/-- A flash descriptor waits: bank or block in use, or a provisional hold (R729, R735, R749, R767). -/
def State.flashBusy (s : State) (k : Nat) (d : Desc) : Bool :=
  let b := d.fpage / 512
  let own := (s.flc.progOf k).isSome || (match s.flc.eraseOf b with | some j => j.ring == k | none => false)
  !own && (s.flc.busyBank b || (s.provisional && decide (d.opcode ≤ 2)))

/-- Page check of a PROGRAM in ascending order: how many pages were same and what remains to program, or the refusal (R740
step 3, R768). `weak` are pages of the block that do not read blank at the erase-verify margin. -/
def State.pageCheck (s : State) (weak : List Nat) : (n : Nat) → (p : Nat) → Bytes → (same : Nat) → Except (Code × Nat) (Nat × List (Nat × Bytes))
  | 0, _, _, same => .ok (same, [])
  | n + 1, p, src, same =>
    let blk := s.flc.blk (p / 512)
    let b := src.take 512
    if p % 512 < blk.wp then
      if s.flc.flagged p && !s.flc.poisoned p && s.flc.page p == b then s.pageCheck weak n (p + 1) (src.drop 512) (same + 1)
      else .error (.order, p % 512)
    else if s.flc.blank p && !s.flc.poisoned p && !weak.contains (p % 512) then
      match s.pageCheck weak n (p + 1) (src.drop 512) same with
      | .ok (m, l) => .ok (m, (p, b) :: l)
      | e => e
    else .error (.notErased, p % 512)

/-! ## PROGRAM (R741, R742) -/

/-- Pages are programmed until `stop` pages of the rest are left. -/
def State.programRest : (n : Nat) → State → ProgJob → State × ProgJob
  | 0, s, j => (s, j)
  | n + 1, s, j => if j.rest.isEmpty then (s, j) else let (t, i) := s.finishPage j; State.programRest n t i

/-- A PROGRAM in progress goes on to its end. `badAt` is the number of pages after which the source is uncorrectable. -/
def State.programOn (s : State) (k : Nat) (d : Desc) (j0 : ProgJob) (ev : ProgEv) (bad : Option (Nat × Code × Nat)) (pulses : Nat) : State :=
  let j := { j0 with pulses := max j0.pulses (min pulses 12) }
  let s0 := { s with flc := s.flc.dropProg k }
  let total := d.length / 512
  let upTo := match bad with | some (n, _, _) => min n total | none => total
  let fail := match ev with
    | .verifyFails i => (j.rest.take (upTo - j.done)).findIdx? (fun e => e.1 % 512 == i)
    | _ => none
  match ev, fail with
  | .starts n, _ =>
    let (s1, j1) := s0.programRest (min n (upTo - j.done)) j
    if j1.rest.isEmpty then s1.doneDesc .flc k
      { code := if j1.programmed = 0 then .doneSame else .done, bytes := d.length, result := progResult j1 (s1.flc.blk (d.fpage / 512)).wp }
    else { s1 with flc := { s1.flc with progs := s1.flc.progs ++ [j1] } }
  | _, some i =>
    let (s1, j1) := s0.programRest i j
    let p := match j1.rest with | (p, _) :: _ => p | [] => 0
    (s1.tearPage p).doneDesc .flc k { code := .verify, detail := p % 512, bytes := 512 * j1.done }
  | _, none =>
    let (s1, j1) := s0.programRest (upTo - j.done) j
    match bad with
    | some (_, code, x) => s1.doneDesc .flc k { code := code, detail := x, bytes := 512 * j1.done }
    | none => s1.doneDesc .flc k
      { code := if j1.programmed = 0 then .doneSame else .done, bytes := d.length, result := progResult j1 (s1.flc.blk (d.fpage / 512)).wp }

/-- The checks of source buffers, without the reads: the first, in their order, that is held or refused (R740 step 2). -/
def State.checkEnd (s : State) (w : Who) (tmo : Bool) (l : List Buf) : JobEnd :=
  (l.findSome? (fun b => match s.bufEnd w tmo b with
    | some (_, .held) => some JobEnd.held
    | some (_, .stop p .access x f) => some (.stop p .access x f)
    | _ => none)).getD .clear

/-- PROGRAM from check 11 on (R740–R742). -/
def State.runProgram (s : State) (k : Nat) (d : Desc) (ev : ProgEv) (weak : List Nat) (pulses : Nat) (tmo : Bool) : State :=
  let r := s.ring .flc k
  let bad := match s.jobEnd r.who tmo (d.inBufs 512) with | .stop n .uncorrectable x _ => some (n, Code.uncorrectable, x) | _ => none
  match s.flc.progOf k with
  | some j => if s.provisional then s else s.programOn k d j ev bad pulses
  | none =>
    match s.targetEnd r.who tmo d, s.checkEnd r.who tmo (d.inBufs 512) with
    | .held, _ => s.holdDma .flc k
    | .stop _ code x f, _ => s.stopDesc .flc k d 0 { code := code, detail := x } f
    | .clear, .held => s.holdDma .flc k
    | .clear, .stop _ code x f => s.stopDesc .flc k d 0 { code := code, detail := x } f
    | .clear, .clear =>
      match s.pageCheck weak d.fpages d.fpage (s.gather r.who d.inFr) 0 with
      | .error (code, x) => s.doneDesc .flc k { code := code, detail := x }
      | .ok (same, rest) => s.programOn k d { ring := k, length := d.length, done := same, same := same, rest := rest } ev bad pulses

/-! ## ERASE (R744, R761) -/

/-- RESULT of an ERASE. -/
def eraseResult (count suspends : Nat) (replaced starved worn : Bool) : Bytes :=
  leBytes 4 count ++ leBytes 2 suspends ++ leBytes 1 (bitOf replaced 0 + bitOf starved 1 + bitOf worn 2)

/-- Block `b` reads wholly blank: no flag, no torn page. -/
def Flc.blockBlank (f : Flc) (b : Nat) : Bool :=
  !f.pages.any (fun e => e.1 / 512 == b) && !f.torn.any (fun e => e.1 / 512 == b)

/-- Spares of the bank of block `b`. -/
def Flc.sparesOf (f : Flc) (b : Nat) : List Nat := if b < 128 then f.sparesA else f.sparesB

/-- Writes the spares of the bank of block `b`. -/
def Flc.setSpares (f : Flc) (b : Nat) (l : List Nat) : Flc := if b < 128 then { f with sparesA := l } else { f with sparesB := l }

/-- An erased spare takes the place of block `b` (R744, R761). -/
def Flc.replace (f : Flc) (b : Nat) : Flc :=
  let l := f.sparesOf b
  let f1 := (f.wipeBlock b).setSpares b (l.drop 1)
  f1.setBlk b { eraseCount := l.headD 0 }

/-- An erase of block `b` succeeds: its count rises, and a block that reaches 20 000 is worn and reported (R744, R761). -/
def State.eraseOk (s : State) (b : Nat) : State :=
  let f := s.flc.wipeBlock b
  let n := (f.blk b).eraseCount + 1
  let s1 := { s with flc := f.setBlk b { f.blk b with eraseCount := n, worn := decide (20000 ≤ n) } }
  if n = 20000 then s1.flashWear 1 b else s1

/-- What an ERASE knows of its block: whether this ring's erase of it is in progress, its suspensions, and whether it is suspended. -/
structure EraseView where
  own : Bool := false
  sus : Nat := 0
  stuck : Bool := false

/-- The erase of block `b` as ring `k` sees it. -/
def Flc.eraseView (f : Flc) (b k : Nat) : EraseView :=
  match f.eraseOf b with
  | some j => { own := j.ring == k, sus := if j.ring = k then j.suspends else 0, stuck := j.suspended }
  | none => {}

/-- An ERASE ends: its job leaves the bank and RESULT is written (R744). -/
def State.eraseEnd (s : State) (k b : Nat) (v : EraseView) (code : Code) (replaced worn : Bool) : State :=
  { s with flc := if v.own then s.flc.setErase b none else s.flc }.doneDesc .flc k
    { code := code, result := eraseResult (s.flc.blk b).eraseCount v.sus replaced (decide (256 ≤ v.sus)) worn }

/-- An ERASE whose checks have passed: a blank block, a worn block with a spare, or its pulses (R744). -/
def State.eraseRun (s : State) (k b : Nat) (d : Desc) (v : EraseView) (ev : EraseEv) : State :=
  let spares := decide (2 ≤ (s.flc.sparesOf b).length)
  if s.flc.blockBlank b && !v.own then s.eraseEnd k b v .doneSame false false
  else if (s.flc.blk b).worn && spares then { s with flc := s.flc.replace b }.eraseEnd k b v .done true true
  else
    match ev with
    | .starts => if v.own then s else { s with flc := s.flc.setErase b (some { ring := k, block := b, mode := d.p 0x1C 1 }) }
    | .ends true => (s.eraseOk b).eraseEnd k b v .done false false
    | .ends false =>
      if spares then { s with flc := s.flc.replace b }.eraseEnd k b v .done true false
      else (s.spoilBlock b).eraseEnd k b v .verify false false

/-- ERASE from check 11 on (R740, R744, R761). -/
def State.runErase (s : State) (k : Nat) (d : Desc) (ev : EraseEv) (tmo : Bool) : State :=
  let b := d.fpage / 512
  let v := s.flc.eraseView b k
  match (if v.own then .clear else s.targetEnd (s.ring .flc k).who tmo d) with
  | .held => s.holdDma .flc k
  | .stop _ code x f => s.stopDesc .flc k d 0 { code := code, detail := x } f
  | .clear => if s.provisional || v.stuck then s else s.eraseRun k b d v ev

/-- Pages a query names. -/
def Desc.queryPages (d : Desc) : List Nat := (List.range d.fpages).map (fun i => d.fpage + i)

/-- BLANK: `weak` are pages of the block that do not read blank at the erase-verify margin. -/
def State.runBlank (s : State) (k : Nat) (d : Desc) (weak : List Nat) : State :=
  let l := d.queryPages.filter (fun p => !s.flc.blank p || weak.contains (p % 512))
  s.doneDesc .flc k { code := .done, result := leBytes 2 l.length ++ leBytes 2 (match l with | p :: _ => p % 512 | [] => 0xFFFF) }

/-- MARGIN: `reads` gives the corrected bits of pages of the block, more than 8 for uncorrectable; a page in the poison map is
uncorrectable. -/
def State.runMargin (s : State) (k : Nat) (d : Desc) (reads : List (Nat × Nat)) : State :=
  let bits (p : Nat) : Nat := if s.flc.poisoned p then 9 else lookupD 0 (p % 512) reads
  let l := d.queryPages.map (fun p => (p, bits p))
  let bad := (l.filter (fun e => decide (8 < e.2))).length
  let ok := l.filter (fun e => decide (e.2 ≤ 8))
  let s1 := l.foldl (fun t e => if d.p 0x1C 1 = 0 ∨ e.2 ≤ 8 then t.pageRead e.1 e.2 3 else t) s
  s1.doneDesc .flc k
    { code := .done, result := leBytes 2 bad ++ leBytes 1 (ok.foldl (fun a e => max a e.2) 0) ++ [0]
        ++ leBytes 2 (ok.filter (fun e => decide (4 ≤ e.2))).length }

/-- INFO. -/
def State.runInfo (s : State) (k : Nat) (d : Desc) : State :=
  let b := d.fpage / 512
  let x := s.flc.blk b
  s.doneDesc .flc k
    { code := .done, result := leBytes 2 x.wp ++ leBytes 4 x.eraseCount
        ++ leBytes 1 (min 255 (s.flc.poison.filter (fun p => p / 512 == b)).length)
        ++ leBytes 1 (bitOf (s.flc.refresh.contains b) 0 + bitOf x.worn 1 + bitOf (s.flc.torn.any (fun e => e.1 / 512 == b)) 2) }

/-- A query after its target check. -/
def State.runQuery (s : State) (k : Nat) (d : Desc) (tmo : Bool) (f : State → State) : State :=
  match s.targetEnd (s.ring .flc k).who tmo d with
  | .held => s.holdDma .flc k
  | .stop _ code x fa => s.stopDesc .flc k d 0 { code := code, detail := x } fa
  | .clear => f s

/-- The work of the flash descriptor in progress on ring `k`, with nothing going wrong in the array; used where a timeout ends it. -/
def State.runFlash (s : State) (k : Nat) (d : Desc) (tmo : Bool) : State :=
  match d.opcode with
  | 1 => s.runProgram k d .ends [] 1 tmo
  | 2 => s.runErase k d (.ends true) tmo
  | 3 => s.runQuery k d tmo (fun t => t.runBlank k d [])
  | 4 => s.runQuery k d tmo (fun t => t.runMargin k d [])
  | _ => s.runQuery k d tmo (fun t => t.runInfo k d)

/-- Runs the flash descriptor in progress on ring `k` when its OPCODE is `op` and its bank and block are free for it. -/
def State.flcOp (s : State) (k op : Nat) (f : State → Desc → State) : State :=
  match s.curOp .flc k op with
  | some d => if s.flashBusy k d then s else f s d
  | none => s

/-- PROGRAM (R741): `weak` are pages that fail the blank check, `pulses` the largest pulse count used. -/
def execProgram (k : Nat) (ev : ProgEv) (weak : List Nat) (pulses : Nat) (s : State) : Out :=
  .next (s.flcOp k 0x01 (fun t d => t.runProgram k d ev weak pulses false))

/-- ERASE (R744). -/
def execErase (k : Nat) (ev : EraseEv) (s : State) : Out := .next (s.flcOp k 0x02 (fun t d => t.runErase k d ev false))

/-- BLANK (R745). -/
def execBlank (k : Nat) (weak : List Nat) (s : State) : Out :=
  .next (s.flcOp k 0x03 (fun t d => t.runQuery k d false (fun u => u.runBlank k d weak)))

/-- MARGIN (R745). -/
def execMargin (k : Nat) (reads : List (Nat × Nat)) (s : State) : Out :=
  .next (s.flcOp k 0x04 (fun t d => t.runQuery k d false (fun u => u.runMargin k d reads)))

/-- INFO (R745). -/
def execInfo (k : Nat) (s : State) : Out :=
  .next (s.flcOp k 0x05 (fun t d => t.runQuery k d false (fun u => u.runInfo k d)))

/-- One weight field: a 0 leaves it unchanged (R764). -/
def weightField (old v : Nat) : Nat := if v = 0 then old else v

/-- FLC_WEIGHT_WRITE (R734, R764). -/
def execFlcWeightWrite (v : Word) (s : State) : Out :=
  .next (if s.regWrites then
    let n := v.toNat
    let f (i : Nat) : Nat := n / 16 ^ i % 16
    { s with flc := { s.flc with
        weights := Vector.ofFn (fun (i : Fin 3) => weightField s.flc.weights[i] (f i.val))
        weightRefused := s.flc.weightRefused || f 0 == 0 || f 1 == 0 || f 2 == 0 } }
  else s)

/-! ## Scrub sessions (R752–R757) -/

/-- Ticks between scrub sessions (R752). -/
def scrubPeriod : Nat := 707788800

/-- Relocation of block `b` into an erased spare: flagged pages that are not poisoned are copied, torn pages become blank, the
write pointer is one more than the highest page copied (R728), and the old block is erased and becomes a spare (R755). -/
def State.relocate (s : State) (b : Nat) : State :=
  match s.flc.sparesOf b with
  | [] => s
  | n :: l =>
    let old := s.flc.blk b
    let f := s.flc.setSpares b (l ++ [old.eraseCount + 1])
    let wp := f.pages.foldl (fun w e => if e.1 / 512 = b && !f.poisoned e.1 then max w (e.1 % 512 + 1) else w) 0
    { s with flc := { f.setBlk b { old with wp := wp, eraseCount := n, firstProg := s.flashTime, worn := decide (20000 ≤ n) } with
        pages := f.pages.filter (fun e => e.1 / 512 != b || !f.poisoned e.1)
        torn := f.torn.filter (fun e => e.1 / 512 != b)
        refresh := f.refresh.filter (· != b) } }

/-- Blocks of a unit list whose first-program time is more than two years back (R754). -/
def State.aged (s : State) (b : Nat) : Bool :=
  let x := s.flc.blk b
  decide (b < 256) && decide (0 < x.wp) && decide (x.firstProg + 63072000 < s.flashTime)

/-- The work of one session: the next 10 units are patrolled, with `reads` giving the corrected bits of pages that needed any, then
queued blocks that no program or erase claims are relocated, at most 16 (R752, R754–R756). -/
def State.scrubWork (s : State) (reads : List (Nat × Nat)) : State :=
  let units := (List.range 10).map (fun i => (s.flc.patrol + i) % 259)
  let s1 := (units.filter s.aged).foldl (fun t b => { t with flc := t.flc.queue b }) s
  let mine := reads.filter (fun e => units.contains (if e.1 / 512 < 256 then e.1 / 512 else if e.1 / 512 = 256 then 258 else e.1 / 512 - 1))
  let s2 := mine.foldl (fun t e => t.pageRead e.1 e.2 2) s1
  let s3 := ((s2.flc.refresh.filter (fun b => !s2.flc.claimed b)).take 16).foldl (fun t b => t.relocate b) s2
  { s3 with flc := { s3.flc with patrol := (s.flc.patrol + 10) % 259, scrub := none, scrubStarved := false } }

/-- SCRUB_SESSION (R752): the next session falls due after 6 h of powered time; the main island is woken, or the session is missed
and run at the next start (R757). With `done` the session's work is done and it closes. -/
def execScrubSession (reads : List (Nat × Nat)) (done : Bool) (s : State) : Out :=
  .next (if !s.kilnReady then s
    else
      let due := s.flc.scrubLast + scrubPeriod
      let s0 := if s.flc.scrub.isSome ∨ 0 < s.flc.missed then s else s.advanceTo (s.tick + (due - s.powered))
      let s1 := s0.wakeKiln.wakeMain
      if s1.mainRuns && s1.wheelRuns && !s1.crazed then
        let s2 := if s1.flc.scrub.isSome then s1
          else { s1 with flc := { s1.flc with scrub := some s1.tick, missed := 0
                                              scrubLast := if s1.flc.missed = 0 then due else s1.flc.scrubLast } }
        if done && !s2.provisional then s2.scrubWork reads else s2
      else if s.flc.scrub.isSome then s1
      else { s1 with flc := { s1.flc with missed := sat16 s1.flc.missed, scrubLast := due } }.klog 0x0703 (beBytes 1 0 ++ beBytes 1 (sat16 s1.flc.missed % 256)))

/-- SCRUB_STARVATION (R753): the minimum work of an open session is not done 60 s after it opened. -/
def execScrubStarvation (s : State) : Out :=
  .next (match s.flc.scrub with
    | some t => if s.mainRuns then let s1 := s.advanceTo (t + 1966080); { s1 with flc := { s1.flc with scrubStarved := true } } else s
    | none => s)

end Sys2Proof.Machine
end

