-- ==== Sys2Proof/Machine/AppletOps.lean ====
section
/-! DEFINITION. Applets at run time: resources, loading, scheduling, quarantine, applet faults and the exchange
(21_applets.md R776–R800; 13_cores.md R526). -/

namespace Sys2Proof.Machine

open Sys2Proof

/-! ## Applets on cores (R780, R781) -/

/-- The domain number as an index. -/
def dom (d : Nat) : Fin 16 := Fin.ofNat 16 d

/-- The manifest lists core `k` in CORES. -/
def Manifest.onCore (m : Manifest) (k : Fin 2) : Bool := m.cores.testBit k.val

/-- Updates the applet of domain `d` on core `k`. -/
def State.updCpu (s : State) (d : Fin 16) (k : Fin 2) (f : AppCore → AppCore) : State :=
  s.updApp d (fun a => { a with cpu := a.cpu.set k (f a.cpu[k]) })

/-- Run state of domain `d` on core `k`. -/
def State.cpuOf (s : State) (d : Fin 16) (k : Fin 2) : AppCore :=
  let a : App := s.appOf d
  a.cpu[k]

/-- The domain that runs on core `k`, if any. -/
def State.running (s : State) (k : Fin 2) : Option (Fin 16) :=
  (List.finRange 16).find? (fun d => (s.cpuOf d k).st == .running)

/-- Priority of domain `d`. -/
def State.priority (s : State) (d : Fin 16) : Nat := match (s.appOf d).man with | some m => m.priority | none => 0

/-- Domains in round-robin order, the one after `d` first. -/
def afterDom (d : Nat) : List (Fin 16) := (List.range 16).map (fun i => dom (d + 1 + i))

/-- Core `k` runs the Wheel: core 1 does once it has left its boot WFI (R504). -/
def State.coreUp (s : State) (k : Fin 2) : Bool := s.wheelRuns && (s.coreOf k).pLevel && !((s.coreOf k).wfi && k == 1)

/-- The READY applet of core `k` that goes first: highest priority, then round-robin (R781). -/
def State.nextReady (s : State) (k : Fin 2) : Option (Fin 16) :=
  let ready := (afterDom (s.coreOf k).domain).filter (fun d => (s.cpuOf d k).st == .ready)
  ready.foldl (fun b d => match b with | none => some d | some x => if s.priority x < s.priority d then some d else some x) none

/-- The applet running on core `k` leaves it, its context kept, in run state `st`; the core is the Wheel's. -/
def State.takeOff (s : State) (k : Fin 2) (st : AppSt) : State :=
  match s.running k with
  | none => s
  | some d =>
    let c := s.coreOf k
    (s.updCpu d k (fun a => { a with st := st, regs := c.regs, pc := c.pc })).updCore k (fun x => { x with level := .p1 })

/-- Domain `d` takes core `k`: at P2, with its domain and its context (R777 step 4). -/
def State.putOn (s : State) (k : Fin 2) (d : Fin 16) : State :=
  let a := s.cpuOf d k
  (s.updCpu d k (fun x => { x with st := .running })).updCore k (fun x =>
    { x with level := .p2, domain := d.val, regs := a.regs, pc := a.pc, wfi := false, tw := true })

/-- The Wheel gives core `k` to the READY applet of highest priority; a running applet gives way only to a higher one (R781). -/
def State.schedule (s : State) (k : Fin 2) : State :=
  if !s.coreUp k then s
  else match s.nextReady k with
    | none => s
    | some d =>
      match s.running k with
      | none => s.putOn k d
      | some r => if s.priority r < s.priority d then (s.takeOff k .ready).putOn k d else s

/-- Both cores are scheduled. -/
def State.reschedule (s : State) : State := (s.schedule 0).schedule 1

/-! ## Resources (R778) -/

/-- [a, a + n) meets no interval in use. -/
def freeAt (used : List (Nat × Nat)) (a n : Nat) : Bool := used.all (fun u => decide (a + n ≤ u.1 ∨ u.1 + u.2 ≤ a))

/-- Lowest multiple of `step` above `lo` at which `n` units are free below `hi`. -/
def firstFit (lo hi step n : Nat) (used : List (Nat × Nat)) : Option Nat :=
  ((List.range ((hi - lo) / step + 1)).map (fun i => lo + step * i)).find? (fun a => decide (a + n ≤ hi) && freeAt used a n)

/-- The place a domain has already, where the new size fits there; else the first fit. -/
def place (own : Option Nat) (lo hi step n : Nat) (used : List (Nat × Nat)) : Option Nat :=
  match own with
  | some a => if a % step = 0 ∧ a + n ≤ hi ∧ freeAt used a n then some a else firstFit lo hi step n used
  | none => firstFit lo hi step n used

/-- Where a domain's resources lie. -/
structure Placed where
  sram : Nat
  ldm : Nat
  cnt : Nat
  meas : Nat
  block : Nat
deriving DecidableEq, Repr

/-- The loaded applets of the other domains. -/
def State.others (s : State) (d : Fin 16) : List (App × Manifest) :=
  (List.finRange 16).filterMap (fun e => if e = d then none else (s.appOf e).man.map (fun m => (s.appOf e, m)))

/-- Every budget item of manifest `m` is available to domain `d` from what the other domains leave (R776 check 6, R778). -/
def State.placeFor (s : State) (d : Fin 16) (m : Manifest) : Option Placed :=
  let o := s.others d
  let a := s.appOf d
  let own := fun (f : App → Nat) => a.man.map (fun _ => f a)
  let slots := o.foldl (fun n e => n + e.2.slots) 0
  let shares := o.filter (fun e => e.2.cores &&& m.cores != 0)
  if 240 < slots + m.slots then none
  else do
    let sram ← place (own (·.sramAt)) 0x20400000 0x20C00000 4096 m.sram (o.map (fun e => (e.1.sramAt, e.2.sram)))
    let ldm ← place (own (·.ldmAt)) 0 131072 (max 1 m.ldm) m.ldm (shares.map (fun e => (e.1.ldmAt, e.2.ldm)))
    let cnt ← place (own (·.cntFrom)) 16 1024 8 (8 * m.counters) (o.map (fun e => (e.1.cntFrom, 8 * e.2.counters)))
    let meas ← place (own (·.measFrom)) 16 24 1 m.meas (o.map (fun e => (e.1.measFrom, e.2.meas)))
    let block ← place (own (·.blockFrom)) 122 128 1 m.dataBlocks (o.map (fun e => (e.1.blockFrom, e.2.dataBlocks)))
    pure { sram := sram, ldm := ldm, cnt := cnt, meas := meas, block := block }

/-- Memory with [a, a + n) zero-filled. -/
def wipeMem (m : Mem) (a n : Nat) : Mem := m.filter (fun c => !decide (a ≤ c.1 ∧ c.1 < a + n))

/-- SRAM and local data memory of domain `d` are wiped (R789, R790 X5). -/
def State.wipeApplet (s : State) (d : Fin 16) : State :=
  match (s.appOf d).man with
  | none => s
  | some m =>
    let a := s.appOf d
    let w := fun (k : Fin 2) => if m.onCore k then wipeMem s.ldm[k] (0x04000000 + a.ldmAt) m.ldm else s.ldm[k]
    { s with mem := wipeMem s.mem a.sramAt m.sram, ldm := #v[w 0, w 1] }

/-! ## Decisions without an applet (R789, R793) -/

/-- The Wheel's decision for a channel without an applet: class H is cleared; class A is granted where its latch is set and a
session live, and then only if it awaits a decision; class L gets none. -/
def State.wheelDecide (s : State) (c : Fin 16) : State :=
  let x := s.chan c
  match x.eclass with
  | .h => s.chOp c (fun y => y.guardWrite false s.tick)
  | .a =>
    if x.latch && (s.lnk c).sess.isSome then (if x.awaiting then s.chOp c (fun y => y.guardWrite true s.tick) else s)
    else s.chOp c (fun y => y.guardWrite false s.tick)
  | _ => s

/-- Governed channels of domain `d` (R779). -/
def State.governed (s : State) (d : Fin 16) : List (Fin 16) :=
  match (s.appOf d).man with | some m => m.channels.map dom | none => []

/-- The domain that governs channel `c`. -/
def State.governor (s : State) (c : Fin 16) : Option (Fin 16) :=
  (List.finRange 16).find? (fun d => (s.governed d).contains c)

/-- Governed channels of class H or A. -/
def State.guardedBy (s : State) (d : Fin 16) : List (Fin 16) := (s.governed d).filter (fun c => (s.chan c).eclass.guarded)

/-! ## Starting and loading (R776, R777) -/

/-- Image bytes of a copy. -/
def Install.img (x : Install) (bank : Nat) : Bytes := if bank = 0 then x.imgA else x.imgB

/-- First block of a copy. -/
def Install.first (x : Install) (bank : Nat) : Nat := if bank = 0 then x.firstA else x.firstB

/-- State of a copy. -/
def Install.copy (x : Install) (bank : Nat) : CopyState := if bank = 0 then x.bankA else x.bankB

/-- A copy is present and matches the digest of its install record. -/
def Install.good (x : Install) (bank : Nat) : Bool := x.copy bank == .present && sha2 .sha384 (x.img bank) == x.digest

/-- Check 1: the copy that loads, bank A first. -/
def Install.loads (x : Install) : Option Nat := [0, 1].find? (fun b => x.good b)

/-- Steps 2 to 4 of R777: the applet's data section, the rest of its SRAM zero, and its cores at ENTRY with a0 the core index; its
other registers are free values. -/
def State.startApplet (s : State) (d : Fin 16) (m : Manifest) (p : Placed) (bank first : Nat) (img : Bytes) : State :=
  let at_ := 0x10000000 + first * 0x40000
  let k0 := s.freeCount
  let core := fun (k : Fin 2) (a : AppCore) =>
    if m.onCore k then
      { ({} : AppCore) with
        st := .ready, used := a.used, runSince := s.tick, pc := at_ + m.codeOff + m.entry
        regs := Vector.ofFn (fun (i : Fin 32) => if i = 0 then 0 else if i = 10 then BitVec.ofNat 32 k.val
          else BitVec.ofNat 32 (ofLe (Config.freeBytesAt k0 (4 * (i.val + 32 * k.val)) 4))) }
    else ({} : AppCore)
  let s1 := s.tick1.updApp d (fun a => { a with
    man := some m, sramAt := p.sram, ldmAt := p.ldm, cntFrom := p.cnt, measFrom := p.meas, blockFrom := p.block
    bank := bank, imgAt := at_, quar := none, events := 0, decided := [], startedAt := none, xstep := .none, incoming := none
    cpu := #v[core 0 a.cpu[0], core 1 a.cpu[1]] })
  let s2 := s1.wipeApplet d
  let s3 := { s2 with mem := writeBytes s2.mem p.sram (slice m.dataOff m.dataLen img) }
  let s4 := { s3 with dig := { s3.dig with owner := (List.range m.meas).foldl (fun v i => v.setIfInBounds (p.meas + i - 16) (true, d.val)) s3.dig.owner } }
  s4

/-- The report of R526: domain, reason or channel, mcause, mepc offset, mtval, P_FAULT. -/
def faultDetail (d : Fin 16) (x mcause mepc mtval pf : Nat) : Bytes :=
  beBytes 1 d.val ++ beBytes 1 x ++ beBytes 1 mcause ++ [0] ++ beBytes 4 mepc ++ beBytes 4 mtval ++ beBytes 4 pf

/-- Quarantine, logged and reported (R788). -/
def State.markQuarantined (s : State) (d : Fin 16) (reason : Nat) (mcause mepc mtval pf : Nat) : State :=
  (s.updApp d (fun a => { a with
    quar := some reason, cpu := a.cpu.map (fun c => if c.st == .absent then c else { c with st := .quarantined, call := none })
    startedAt := none, fresh := false, xstep := .none, incoming := none })).wlog 0x0A02 0 (faultDetail d reason mcause mepc mtval pf) true

/-- Signers accepted in the firing (R210). -/
def signerOk (f : Firing) (signer : Nat) : Bool :=
  match f with | .bisque => signer == 1 | .glazed => signer == 1 || signer == 2 | .fired => signer == 1 || signer == 2 | _ => false

/-- Check 4: domain, channels and rings are free (R776). -/
def State.noConflict (s : State) (d : Fin 16) (m : Manifest) : Bool :=
  (s.others d).all (fun e =>
    m.channels.all (fun c => !e.2.channels.contains c) && !(m.flcRing && e.2.flcRing)
      && m.rings.all (fun r => e.2.rings.all (fun q => !(q.1 == r.1 && q.2.1 == r.2.1))))

/-- Check 5: every channel is of class L, or of H or A under R50 and not retired. -/
def State.channelsOk (s : State) (m : Manifest) : Bool :=
  m.channels.all (fun c => let x := s.chan (dom c); x.eclass == .l || (x.eclass.guarded && !x.retired))

/-- The measurements of an applet at load (R650, R777). -/
def State.measureApplet (s : State) (km ki : Fin 24) (em ei : Nat) (img : Bytes) : State :=
  let s1 := if imageFormed img then s.measure km 1 em (manifestBytes img) else s
  s1.measure ki 1 ei img

/-- One install record in phase G: the load checks in order, then loading, or quarantine with its reason (R776, R777, R788). -/
def State.loadApplet (s : State) (x : Install) : State :=
  let d := dom x.domain
  let stop := fun (t : State) (r : Nat) => t.markQuarantined d r 0 0 0 0
  if x.wheel || x.stale || (s.appOf d).man.isSome || decide (12 ≤ ((List.finRange 16).filter (fun e => (s.appOf e).man.isSome && (s.appOf e).quar.isNone)).length) then s
  else match x.loads with
    | none => stop s (if x.copy 0 == .present || x.copy 1 == .present then 0x02 else 0x01)
    | some b =>
      let img := x.img b
      let s1 := s.measureApplet 6 7 0x0601 0x0701 img
      if !(imageFormed img && manifestFormed img) then stop s1 0x03
      else
        let m := manifestOf img
        let hold := fun (t : State) => match t.placeFor d m with
          | some p => t.updApp d (fun a => { a with man := some m, sramAt := p.sram, ldmAt := p.ldm, cntFrom := p.cnt, measFrom := p.meas, blockFrom := p.block })
          | none => t
        if !signerOk s.life.firing m.signer then stop s1 0x05
        else if (s1.appOf d).barred == some x.digest then stop s1 0x08
        else if !s1.noConflict d m then stop s1 0x06
        else if !s1.channelsOk m then stop (hold s1) 0x06
        else match s1.placeFor d m with
          | none => stop s1 0x04
          | some p => s1.startApplet d m p b (x.first b) img

/-- The install record of domain `d`. -/
def State.installOf (s : State) (d : Fin 16) : Option Install := s.kiln.installs.find? (fun x => !x.wheel && !x.stale && x.domain == d.val)

/-- The install entry whose copy domain `d` runs, which may be one already replaced (R822). -/
def State.runsFrom (s : State) (d : Fin 16) : Option Install :=
  let a := s.appOf d
  s.kiln.installs.find? (fun x => !x.wheel && x.domain == d.val && x.copy a.bank == .present && 0x10000000 + x.first a.bank * 0x40000 == a.imgAt)

/-- The blocks of replaced images are freed: those of domain `d`, or of every domain (R822). -/
def State.freeOld (s : State) (d : Option (Fin 16)) : State :=
  { s with kiln := { s.kiln with installs := s.kiln.installs.filter (fun x => !(x.stale && (match d with | some e => x.domain == e.val | none => true))) } }

/-- The Wheel reports a staged applet bundle applied (R822). -/
def State.appletApplied (s : State) (d : Fin 16) : State :=
  if s.kiln.bundle == .staged && leAt s.bundleData 6 1 == 2 && (manifestOf (bundleOf s.bundleData).body).domain == d.val
  then s.bundleOutcome 0 0 else s

/-! ## Quarantine in service and applet faults (R526, R788, R789, R794) -/

/-- Contexts of DIG that a P2 ring of domain `d` owns are freed, and its saggar with them (R659, R627). -/
def State.freeContexts (s : State) (d : Fin 16) (rings : List (Eng × Nat × Nat × Bool)) : State :=
  let s1 := { s with dig := { s.dig with ctx := s.dig.ctx.map (fun c => if c.ownerLevel = 2 ∧ c.ownerDomain = d.val then {} else c) } }
  rings.foldl (fun t r => if r.1 == .fae then t.freeSaggar r.2.1 else t) s1

/-- A ring of a quarantined applet goes OFF and its BASE is written: what was not fetched is discarded (R789). -/
def State.discardRing (s : State) (e : Eng) (k : Nat) : State :=
  s.updRing e k (fun r => let q := r.disableWrite; if q.st == .off then q.baseWrite q.base else { q with prod := (q.cons + 1) % 65536 })

/-- Applets of domain `d` leave both cores in run state `st`. -/
def State.stopApplet (s : State) (d : Fin 16) (st : AppSt) : State :=
  let off := fun (t : State) (k : Fin 2) =>
    if t.running k = some d then t.takeOff k st
    else t.updCpu d k (fun c => if c.st == .absent then c else { c with st := st })
  (off (off s 0) 1).updApp d (fun a => { a with cpu := a.cpu.map (fun c => { c with call := none }) })

/-- Quarantine in service: the steps of R789. -/
def State.quarantine (s : State) (d : Fin 16) (reason mcause mepc mtval pf : Nat) : State :=
  let gov := s.governed d
  let rings := match (s.appOf d).man with | some m => m.rings | none => []
  let s1 := s.stopApplet d .quarantined
  let s2 := rings.foldl (fun t r => t.discardRing r.1 r.2.1) s1
  let s3 := (s2.freeContexts d rings).wipeApplet d
  let s4 := gov.foldl (fun t c => t.wheelDecide c) s3
  (s4.markQuarantined d reason mcause mepc mtval pf).reschedule

/-- Step X3: the applet stops and its guarded channels freeze (R790). -/
def State.xFreeze (s : State) (d : Fin 16) : State :=
  let s1 := s.stopApplet d .exchanging
  (s1.guardedBy d).foldl (fun t c => t.chOp c (fun x => x.xfreeze x.contracted t.tick)) s1

/-- Step X4 for one ring: drain leaves it to run out; leave takes it OFF and hands it to the new owner; a ring the incoming image does
not name goes OFF (R604, R790). -/
def State.xRing (s : State) (d : Fin 16) (new : Manifest) (r : Eng × Nat × Nat × Bool) : State :=
  let named := new.rings.any (fun q => q.1 == r.1 && q.2.1 == r.2.1)
  if r.2.2.2 && named then
    s.updRing r.1 r.2.1 (fun g => let q := g.disableWrite; { q with ownerLevel := 2, ownerDomain := d.val })
  else if named then s
  else s.updRing r.1 r.2.1 Ring.disableWrite

/-- The rings declared drain have run out (R604). -/
def State.drained (s : State) (m : Manifest) : Bool := m.rings.all (fun r => r.2.2.2 || (s.ring r.1 r.2.1).pending == 0)

/-- The decisions of a started image are awaited on its guarded channels from now on; `fresh` marks an incoming image (R793, R794). -/
def State.awaitDecisions (s : State) (d : Fin 16) (fresh : Bool) : State :=
  let g := !(s.guardedBy d).isEmpty
  s.updApp d (fun a => { a with startedAt := if g then some s.tick else none, fresh := fresh && g })

/-- Steps X4 to X6 once every ring to be drained has run out: contexts freed, memories wiped, the incoming image started (R790). -/
def State.xFinish (s : State) (d : Fin 16) : State :=
  match (s.appOf d).xstep, (s.appOf d).man, (s.appOf d).incoming, s.installOf d with
  | .draining, some old, some new, some x =>
    if !s.drained old || s.crazed then s
    else
      let s1 := old.rings.foldl (fun t r => t.xRing d new r) s
      let s2 := (s1.freeContexts d old.rings).wipeApplet d
      match x.loads, s2.placeFor d new with
      | some b, some p =>
        ((((s2.startApplet d new p b (x.first b) (x.img b)).awaitDecisions d true).freeOld (some d)).appletApplied d).reschedule
      | _, _ => s2.quarantine d 0x01 0 0 0 0
  | _, _, _, _ => s

/-- An exchange may be requested: no other is under way (R876), and Crazed is not in force (R795). -/
def State.mayExchange (s : State) : Bool :=
  s.wheelRuns && !s.crazed && (List.finRange 16).all (fun e => (s.appOf e).xstep == .none)

/-- Steps X1 and X2: the incoming copy is verified and measured, and event 5 set (R790, R785). An image with a budget that is not
available is not exchanged. -/
def State.xRequest (s : State) (d : Fin 16) : State :=
  match s.installOf d, (s.appOf d).man with
  | some x, some _ =>
    match x.loads with
    | some b =>
      let img := x.img b
      let m := manifestOf img
      if imageFormed img && manifestFormed img && (s.placeFor d m).isSome && (s.appOf d).quar.isNone then
        (s.measureApplet 10 10 0x0A01 0x0A02 img).updApp d (fun a => { a with incoming := some m, xstep := .requested, xTick := s.tick })
      else s.updApp d (fun a => { a with incoming := none })
    | none => s.updApp d (fun a => { a with incoming := none })
  | _, _ => s

/-- An installed image that waits for its exchange is taken up once none is under way (R876). -/
def State.xNext (s : State) : State :=
  if !s.mayExchange then s
  else match (List.finRange 16).find? (fun d => (s.appOf d).incoming.isSome && (s.appOf d).quar.isNone) with
    | some d => s.xRequest d
    | none => s

/-- The restart of an applet from its image, as an exchange of the applet for itself that waits for no quiescent point (R789). -/
def State.restartApplet (s : State) (d : Fin 16) : State :=
  match (s.appOf d).man, s.runsFrom d with
  | some m, some x =>
    let b := (s.appOf d).bank
    let img := x.img b
    let s1 := (s.measureApplet 10 10 0x0A01 0x0A02 img).xFreeze d
    let s2 := m.rings.foldl (fun t r => t.xRing d m r) s1
    let s3 := (s2.freeContexts d m.rings).wipeApplet d
    let a := s3.appOf d
    ((s3.startApplet d m ⟨a.sramAt, a.ldmAt, a.cntFrom, a.measFrom, a.blockFrom⟩ b (x.first b) img).awaitDecisions d false).reschedule
  | _, _ => s

/-- The address that a report may give (R526): register space and memory of another domain only as far as its 64 KiB block. -/
def State.reportAddr (s : State) (d : Fin 16) (a : Nat) : Nat :=
  let other := (s.others d).any (fun e => decide (e.1.sramAt ≤ a ∧ a < e.1.sramAt + e.2.sram))
  if (0x30000000 ≤ a ∧ a < 0x30130000) ∨ other then a / 65536 * 65536 else a

/-- An applet fault (R526): both cores stop, it is logged and reported. An incoming image that has not decided every governed channel is
quarantined with reason 0x08 (R794); otherwise the first and second fault within 24 h of powered time restart the applet and the third
quarantines it (R788, R789). -/
def State.appletFault (s : State) (d : Fin 16) (mcause mepc mtval pf : Nat) : State :=
  let off := mepc - (s.appOf d).imgAt
  let tv := s.reportAddr d mtval
  let s1 := (s.stopApplet d .exchanging).wlog 0x0A01 0 (faultDetail d 0 mcause off tv pf) true
  let hist := (s1.appOf d).faults.filter (fun t => decide (s1.powered < t + 2831155200))
  if (s1.appOf d).fresh then
    let s2 := s1.quarantine d 0x08 mcause off tv pf
    s2.updApp d (fun a => { a with barred := (s2.installOf d).map (·.digest) })
  else
    let s2 := s1.updApp d (fun a => { a with faults := s1.powered :: hist })
    if 2 ≤ hist.length then s2.quarantine d 0x07 mcause off tv pf else s2.restartApplet d

/-- The applet of domain `d` has decided channel `c` (R793, R794). -/
def State.noteDecision (s : State) (d c : Fin 16) : State :=
  let dec := c.val :: (s.appOf d).decided
  let all := (s.guardedBy d).all (fun x => dec.contains x.val)
  s.updApp d (fun a => { a with decided := dec, fresh := a.fresh && !all, startedAt := if all then none else a.startedAt })

end Sys2Proof.Machine
end

