-- ==== Sys2Proof/Machine/LinkOps.lean ====
section
/-! DEFINITION. Shared operations of the field link (chapters 09 and 10): frames and their protection, the line, transactions, partner
states, credentials, handshakes and sessions, cable fingerprints. -/

namespace Sys2Proof

/-- A state other than Present is left only for Present or for a later one (R392). -/
def PState.mayEnter (old new : PState) : Bool :=
  old != new && (new == .present || old == .present || decide (old.code < new.code))

/-- Occasions as records carry them (R418). -/
def FpOccasion.code : FpOccasion → Nat
  | .beforeHandshake => 1 | .periodic => 2 | .cableChanged => 3 | .reportOnly => 4

end Sys2Proof

namespace Sys2Proof.Machine

open Sys2Proof

/-! ## Which channels have a link, and its parameters (R46–R52, R391, R396) -/

/-- The contract of a channel in H/A service under one, which opens sessions. -/
def State.linkContract (s : State) (c : Fin 16) : Option Contract :=
  let x := s.chan c
  if x.eclass.guarded && x.service && x.contracted then s.contract c else none

/-- The Wheel supervises the channel's link: set up (R48), not retired, its link block sound (R55), of class L or in H/A service. -/
def State.linkServed (s : State) (c : Fin 16) : Bool :=
  let x := s.chan c
  s.wheelUp && x.setup && !x.retired && !x.fused && !(s.lnk c).supStopped && (x.eclass == .l || (x.eclass.guarded && x.service))

/-- N_retry, T_silent, T_absent, T_slow and T_faulty: the contract's, or the fixed ones of R396. -/
def nRetryOf (k : Option Contract) : Nat := match k with | some x => x.nRetry | none => 2
def tSilentOf (k : Option Contract) : Nat := match k with | some x => x.tSilent | none => 3
def tAbsentOf (k : Option Contract) : Nat := match k with | some x => x.tAbsent | none => 3
def tSlowOf (k : Option Contract) : Nat := match k with | some x => x.tSlow | none => 8
def tFaultyOf (k : Option Contract) : Nat := match k with | some x => x.tFaulty | none => 8

/-- The ticks of 60 s (R381, R391). -/
def ticks60s : Nat := 1966080

/-- The periodic wake at or after tick `t` (R57, R160). -/
def wakeAt (t : Nat) : Nat := ceilDiv t 32768 * 32768

/-! ## Frames (R363–R365, R378) -/

/-- Bytes 0 to 17 of a frame (R363). -/
def linkHead (type len sid ctr : Nat) (wtag : Bytes) : Bytes :=
  beBytes 1 type ++ [1] ++ beBytes 2 len ++ beBytes 4 sid ++ beBytes 6 ctr ++ wtag

/-- A body with its CRC (R364). -/
def withCrc (b : Bytes) : Bytes := b ++ beBytes 4 (crc32 b)

/-- An unprotected frame. -/
def plainFrame (type : Nat) (p : Bytes) : Bytes := withCrc (linkHead type p.length 0 0 (zeros 4) ++ p)

/-- WTAG of a frame of direction `dir` (R378). -/
def linkWtag (key : Bytes) (dir sid ctr len type : Nat) : Bytes :=
  (aesEnc key (beBytes 1 dir ++ beBytes 4 sid ++ beBytes 6 ctr ++ beBytes 2 len ++ beBytes 1 type ++ [0, 0])).take 4

/-- Counter block `k` of a frame (R378). -/
def linkBlock (dir sid ctr k : Nat) : Bytes := beBytes 1 dir ++ beBytes 4 sid ++ beBytes 6 ctr ++ zeros 3 ++ beBytes 2 k

/-- A protected frame of one direction with its keys (R378). -/
def protFrame (enc mac wake : Bytes) (dir sid type ctr : Nat) (p : Bytes) : Bytes :=
  let ct := aesCtr enc (linkBlock dir sid ctr) p
  let h := linkHead type p.length sid ctr (linkWtag wake dir sid ctr p.length type)
  withCrc (h ++ ct ++ cmac mac (h ++ ct))

/-- A protected frame of the part in a session. -/
def Sess.frame (x : Sess) (type : Nat) (p : Bytes) : Bytes := protFrame x.encPe x.macPe x.wake 0x50 x.sid type x.ctrTx p

/-- Fields of a received body (R363). -/
def fType (b : Bytes) : Nat := ofBe (slice 0 1 b)
def fVersion (b : Bytes) : Nat := ofBe (slice 1 1 b)
def fLen (b : Bytes) : Nat := ofBe (slice 2 2 b)
def fSid (b : Bytes) : Nat := ofBe (slice 4 4 b)
def fCtr (b : Bytes) : Nat := ofBe (slice 8 6 b)
def fWtag (b : Bytes) : Bytes := slice 14 4 b
def fPayload (b : Bytes) : Bytes := slice 18 (fLen b) b
def fMac (b : Bytes) : Bytes := slice (18 + fLen b) 16 b

/-- The types a partner sends protected (R365). -/
def fProtected (t : Nat) : Bool := t == 0x16 || t == 0x22 || t == 0x23

/-- The requests of a handshake. -/
def isHs (t : Nat) : Bool := t == 0x11 || t == 0x13 || t == 0x15

/-- The reply that answers a request (R365). -/
def replyOf (t : Nat) : Nat :=
  match t with | 0x01 => 0x02 | 0x11 => 0x12 | 0x13 => 0x14 | 0x15 => 0x16 | _ => 0x22

/-- The payload has the length and the codes its type allows (R365). -/
def contentOk (t : Nat) (p : Bytes) : Bool :=
  match t with
  | 0x02 => p.length == 192
  | 0x12 => p.length == 208
  | 0x14 => p.length == 128
  | 0x16 => p.length == 0
  | 0x1E => p.length == 2 && decide (1 ≤ ofBe p ∧ ofBe p ≤ 4000)
  | 0x1F => p.length == 1 && decide (1 ≤ ofBe p ∧ ofBe p ≤ 3)
  | 0x23 => p.length != 0
  | _ => true

/-! ## Statistics (R397) -/

/-- Index of a counter in the order of R397. -/
def LStat.ix : LStat → Fin 18
  | .lineErr => 0 | .jabber => 1 | .inverted => 2 | .crc => 3 | .malformed => 4 | .unexpected => 5 | .oversized => 6 | .stale => 7
  | .tag => 8 | .mac => 9 | .duplicate => 10 | .replay => 11 | .late => 12 | .unanswered => 13 | .busy => 14 | .filtered => 15
  | .hsFail => 16 | .opened => 17

/-- Adds one to a statistic counter. -/
def Link.count (l : Link) (k : LStat) : Link := { l with stats := l.stats.set k.ix (sat16 l.stats[k.ix]) }

/-- Adds one to a statistic counter of channel `c`. -/
def State.linkCount (s : State) (c : Fin 16) (k : LStat) : State := s.updLnk c (fun l => l.count k)

/-! ## Applets that wait for a link (R783–R785) -/

/-- Writes bytes where an applet on core `k` sees address `a`: its local data memory, or shared SRAM. -/
def State.appStore (s : State) (k : Fin 2) (a : Nat) (b : Bytes) : State :=
  if 0x04000000 ≤ a ∧ a < 0x04040000 then { s with ldm := s.ldm.set k (writeBytes s.ldm[k] a b) } else s.sramWrite a b

/-- The LINK_REQ call for channel `c` that waits on core `k` in domain `d` returns, with its reply in the reply buffer (R783, R784). -/
def State.linkReturnOne (s : State) (d : Fin 16) (k : Fin 2) (c : Fin 16) (code : Nat) (reply : Bytes) : State :=
  match (s.cpuOf d k).call with
  | some (n, args) =>
    if n = 0x20 ∧ args.getD 0 16 = c.val then
      (s.appStore k (args.getD 3 0) reply).updCpu d k (fun x => x.returns code reply.length)
    else s
  | none => s

/-- The core whose LINK_REQ for channel `c` has waited longest. -/
def State.linkFirst (s : State) (d c : Fin 16) : Fin 2 :=
  let on (k : Fin 2) : Bool := match (s.cpuOf d k).call with | some (n, args) => n == 0x20 && args.getD 0 16 == c.val | none => false
  if !on 0 || (on 1 && decide ((s.cpuOf d 1).runSince < (s.cpuOf d 0).runSince)) then 1 else 0

/-- The LINK_REQ call that waits for channel `c` returns: with the end of its session every one, else the one that has waited longest. -/
def State.linkReturn (s : State) (c : Fin 16) (code : Code) (reply : Bytes) : State :=
  match s.governor c with
  | some d =>
    let n := codeNum code
    if code = .abortReset then ((s.linkReturnOne d 0 c n reply).linkReturnOne d 1 c n reply).reschedule
    else (s.linkReturnOne d (s.linkFirst d c) c n reply).reschedule
  | none => s

/-- A wait event of the applet that governs channel `c` (R785). -/
def State.noteApp (s : State) (c : Fin 16) (bit : Nat) : State :=
  match s.governor c with
  | some d => s.updApp d (fun a => { a with events := a.events ||| 2 ^ bit })
  | none => s

/-! ## The line and transactions (R337, R338, R352, R361, R375, R382, R875) -/

/-- The part may begin a burst: the pair is in function T with no switch due, and the line has been idle (R338, R352, R875). -/
def State.lineFree (s : State) (c : Fin 16) : Bool :=
  let p := (s.chan c).lnkPad
  (match p.cur with | .conn .t => true | _ => false) && p.req.isNone && !(s.lnk c).lineBusy

/-- A handshake request waits for its BUSY time (R384). -/
def Link.busyWait (l : Link) : Bool := match l.hs with | some h => h.busyUntil.isSome | none => false

/-- The transaction's request goes on the line as soon as R338 allows. The time limit of a handshake runs from its CRQ (R377). -/
def State.sendTxn (s : State) (c : Fin 16) : State :=
  let l := s.lnk c
  match l.txn with
  | some x =>
    if !x.sent && s.lineFree c && !(l.busyWait && isHs x.type) then
      (s.setLnk c { l with
        txn := some { x with sent := true }
        hs := if x.type = 0x11 then l.hs.map (fun h => if h.stage = .crp then { h with startedAt := s.tick } else h) else l.hs }).emit (.burst c.val x.frame)
    else s
  | none => s

/-- A transaction opens with its request's frame; a protected one takes the next CTR of its session (R379). -/
def State.openTxn (s : State) (c : Fin 16) (type : Nat) (p : Bytes) (applet : Bool) : State :=
  let l := s.lnk c
  let start := fun (m : Link) (f : Bytes) =>
    (s.setLnk c { m with pollWakes := 0, txn := some { type := type, frame := f, retries := 0, sent := false, applet := applet } }).sendTxn c
  if type = 0x15 then
    match l.hs with
    | some h =>
      match h.sess with
      | some x => start { l with hs := some { h with sess := some { x with ctrTx := x.ctrTx + 1 } } } (x.frame type p)
      | none => s
    | none => s
  else if type = 0x21 then
    match l.sess with
    | some x => start { l with sess := some { x with ctrTx := x.ctrTx + 1 } } (x.frame type p)
    | none => s
  else start l (plainFrame type p)

/-- What waits for the line goes out in order: the outstanding request, a CLOSE, or the next transaction. The part's own CLOSE keeps the
line busy until it has been idle again (R338). -/
def State.pumpLink (s : State) (c : Fin 16) : State :=
  let l := s.lnk c
  if l.txn.isSome then s.sendTxn c
  else if s.lineFree c then
    match l.waiting with
    | [] => s
    | (t, p, a) :: rest =>
      let s1 := s.setLnk c { l with waiting := rest }
      if t = 0x31 then (s1.updLnk c (fun m => { m with lineBusy := true })).emit (.burst c.val p) else s1.openTxn c t p a
  else s

/-- A burst joins what waits for the line. -/
def State.ask (s : State) (c : Fin 16) (type : Nat) (p : Bytes) (applet : Bool) : State :=
  (s.updLnk c (fun l => { l with waiting := l.waiting ++ [(type, p, applet)] })).pumpLink c

/-! ## Sessions that end, and partner states (R388, R392–R394) -/

/-- The session's end at the output (R40, R41, R353, R394): in Hostile and for a withheld cable the Wheel writes GRANT = 0 on either class;
else it does so on class H where the latch is set, and class A starts its continuity hold. -/
def State.lostSession (s : State) (c : Fin 16) (hostile : Bool) : State :=
  s.chOp c (fun x =>
    if !x.eclass.guarded then x
    else if hostile then x.guardWrite false s.tick
    else if !x.latch then x
    else if x.eclass == .h then x.guardWrite false s.tick
    else if x.dmd then x.keepWrite .hold s.tick else x)

/-- The part ends the live session: CLOSE once with the reason, keys discarded; what the session had outstanding is lost (R388, R784). -/
def State.closeSess (s : State) (c : Fin 16) (reason : Nat) : State :=
  let l := s.lnk c
  match l.sess with
  | none => s
  | some x =>
    let f := x.frame 0x31 (beBytes 1 reason)
    let mine := match l.txn with | some t => t.type == 0x21 | none => false
    ((s.setLnk c { l with
      sess := none, wf := none, kept := [], rekeyDue := none, rsp := none, closedSid := some x.sid
      attemptK := 0, lastAttempt := none
      txn := if mine then none else l.txn
      waiting := (0x31, f, false) :: l.waiting.filter (fun w => w.1 != 0x21) }).linkReturn c .abortReset []).pumpLink c

/-- The session ends, with its effect on the output (R394). -/
def State.endLink (s : State) (c : Fin 16) (reason : Nat) : State :=
  if (s.lnk c).sess.isSome then (s.closeSess c reason).lostSession c false else s

/-- An attempt in progress is abandoned and counts towards nothing (R398, R400). -/
def State.dropAttempt (s : State) (c : Fin 16) : State :=
  s.updLnk c (fun l => { l with
    hs := none
    txn := match l.txn with | some t => if isHs t.type then none else some t | none => none
    waiting := l.waiting.filter (fun w => !isHs w.1) })

/-- The PARTNER entry and record of channel `c` (R393, R418, R808). -/
def State.partnerRecord (s : State) (c : Fin 16) (prev : PState) (cause : Nat) : State :=
  let l := s.lnk c
  let body := beBytes 1 c.val ++ beBytes 1 l.pstate.code ++ beBytes 1 prev.code ++ beBytes 1 cause ++ beBytes 1 l.credFlags ++ zeros 3
    ++ padTo 192 l.cred
  (s.wlog 0x0903 0 (beBytes 1 c.val ++ body.take 19) false).report 0x04 body

/-- The partner state changes: logged and reported with its cause; Silent, Slow, Faulty and Hostile end the live session, and Hostile
an attempt in progress too (R392–R394, R405). -/
def State.toPartner (s : State) (c : Fin 16) (st : PState) (cause : Nat) : State :=
  let l := s.lnk c
  if !l.pstate.mayEnter st then s
  else
    let s1 := s.setLnk c { l with pstate := st, hostileAt := if st = .hostile then some s.tick else l.hostileAt }
    let s2 := (s1.partnerRecord c l.pstate cause).noteApp c 3
    match st with
    | .present => s2
    | .absent => s2
    | .hostile => ((s2.lostSession c true).closeSess c 2).dropAttempt c
    | _ => s2.endLink c 2

/-- The channel's partner state starts anew at Absent: service entry, restart, or a new contract (R392, R399, R401). -/
def State.partnerRestart (s : State) (c : Fin 16) : State :=
  let l := s.lnk c
  (s.setLnk c { l with
    pstate := .absent, hostileAt := none, lateAt := [], faultAt := [], unanswered := 0, noBurst := 0, attemptK := 0, lastAttempt := none
    pollWakes := 0, probeWakes := 0
    fp := { occ := none, lastDone := none } }).partnerRecord c l.pstate 11

/-- One fault (R391), with the statistic it adds to. -/
def State.linkFault (s : State) (c : Fin 16) (k : Option LStat) : State :=
  let s1 := match k with | some x => s.linkCount c x | none => s
  let s2 := s1.updLnk c (fun l => { l with faultAt := s.tick :: within ticks60s s.tick l.faultAt })
  if tFaultyOf (s2.linkContract c) ≤ (s2.lnk c).faultAt.length then s2.toPartner c .faulty 6 else s2

/-- One late reply (R383, R391). -/
def State.linkLate (s : State) (c : Fin 16) : State :=
  let s1 := (s.linkCount c .late).updLnk c (fun l => { l with lateAt := s.tick :: within ticks60s s.tick l.lateAt })
  if tSlowOf (s1.linkContract c) ≤ (s1.lnk c).lateAt.length then s1.toPartner c .slow 5 else s1

/-- The handshake attempt has failed (R377, R392, R395). -/
def State.hsFail (s : State) (c : Fin 16) : State :=
  match (s.lnk c).hs with
  | none => s
  | some h =>
    let nb := if h.sawBurst then 0 else (s.lnk c).noBurst + 1
    let s1 := (s.dropAttempt c).updLnk c (fun l => ({ l with lastAttempt := some s.tick, attemptK := l.attemptK + 1, noBurst := nb }).count .hsFail)
    (if tAbsentOf (s1.linkContract c) ≤ nb then s1.toPartner c .absent 2 else s1).pumpLink c

/-! ## Credentials (R368–R371, R396) -/

/-- What the checks of a credential say. -/
inductive CredRes | ok | faulty | hostile
deriving DecidableEq, Repr

/-- The Kiln's day, while its time is set (R371, R810). -/
def State.today (s : State) : Option Nat := if s.kiln.timeSet then some (s.timeSecs / 86400) else none

/-- The checks of a partner credential: every failed check counts and Hostile goes before Faulty; with the flags validity unchecked,
unverified and not in allow-list. `sigOk` is the verdict on the signature under the issuer key named; a PROBE has no allow-list, and
without an issuer key installed its credential stays unverified (R371, R396). -/
def State.checkCred (s : State) (allow : Option (List Bytes)) (sigOk : Bool) (cr : Bytes) : CredRes × Nat :=
  let day := s.today
  let format := ofBe (slice 0 2 cr) == 0x434C && ofBe (slice 2 1 cr) == 1 && slice 34 2 cr == zeros 2 && slice 124 4 cr == zeros 4
  let valid := match day with | some n => decide (ofBe (slice 28 2 cr) ≤ n ∧ n ≤ ofBe (slice 30 2 cr)) | none => true
  let bare := allow.isNone && s.life.issuers.isEmpty
  let issued := s.life.issuers.any (fun k => (sha2 .sha256 k).take 8 == slice 20 8 cr)
  let listed := match allow with | some l => l.contains (slice 4 16 cr) | none => true
  let genuine := ofBe (slice 3 1 cr) == 1 && (bare || (issued && sigOk)) && p256Valid (slice 36 64 cr) && listed
  let res := if !genuine then CredRes.hostile else if !(format && valid) then .faulty else .ok
  (res, bitOf day.isNone 0 + bitOf (bare && format) 1 + bitOf (!listed) 2)

/-! ## Handshake (R373–R377) -/

/-- "cloldo v1 " -/
def cloldo : Bytes := [0x63, 0x6C, 0x6F, 0x6C, 0x64, 0x6F, 0x20, 0x76, 0x31, 0x20]

/-- "part sig" -/
def lblPartSig : Bytes := cloldo ++ [0x70, 0x61, 0x72, 0x74, 0x20, 0x73, 0x69, 0x67]

/-- "pe enc", "pe mac", "ep enc", "ep mac", "wake", "sid" (R375). -/
def lblPeEnc : Bytes := cloldo ++ [0x70, 0x65, 0x20, 0x65, 0x6E, 0x63]
def lblPeMac : Bytes := cloldo ++ [0x70, 0x65, 0x20, 0x6D, 0x61, 0x63]
def lblEpEnc : Bytes := cloldo ++ [0x65, 0x70, 0x20, 0x65, 0x6E, 0x63]
def lblEpMac : Bytes := cloldo ++ [0x65, 0x70, 0x20, 0x6D, 0x61, 0x63]
def lblWake : Bytes := cloldo ++ [0x77, 0x61, 0x6B, 0x65]
def lblSid : Bytes := cloldo ++ [0x73, 0x69, 0x64]

/-- The part can run a handshake: its device identity key is LIVE and unsealed, and the DRBG serves. -/
def State.linkKeys (s : State) : Bool := !s.crazed && !s.ksm.sealed && s.ksm.drbgOk && (s.ksm.slot 0).st == .live

/-- An attempt starts with its CRQ: Np and the ephemeral key are fresh (R373). -/
def State.startHandshake (s : State) (c : Fin 16) : State :=
  if !s.linkKeys then s
  else
    let np := Config.freeBytes s.freeCount 16
    let s1 := s.drbg
    let eph := s1.freeCount
    let s2 := s1.drbg
    let crq := np ++ padTo 192 s.life.partCred ++ beBytes 1 c.val ++ beBytes 2 (s.straps.cabinet % 4096) ++ [0]
    (s2.updLnk c (fun l => { l with
      hs := some { stage := .crp, np := np, crq := crq, eph := eph, startedAt := s.tick, rekey := l.sess.isSome } })).ask c 0x11 crq false

/-- The ephemeral private scalar of an attempt. -/
def Hs.priv (h : Hs) : Bytes := Config.freeBytes h.eph 32

/-- A CRP accepted: the credential is checked; KRQ follows, or the partner is graded and the attempt fails (R371, R374). -/
def State.takeCrp (s : State) (c : Fin 16) (h : Hs) (p : Bytes) (sigOk : Bool) : State :=
  let cr := p.drop 16
  let allow := match s.linkContract c with | some k => k.allow | none => []
  let (r, flags) := s.checkCred (some allow) sigOk cr
  let s1 := s.updLnk c (fun l => { l with cred := cr, credFlags := flags })
  match r with
  | .hostile => (s1.hsFail c).toPartner c .hostile 7
  | .faulty => (s1.linkFault c none).hsFail c
  | .ok =>
    let ep := Config.publicKey false h.priv
    let th1 := sha2 .sha256 (h.crq ++ p ++ ep)
    let sig := Config.ecdsa false (s1.ksm.slot 0).mat (sha2 .sha256 (lblPartSig ++ th1)) s1.freeCount
    (s1.drbg.updLnk c (fun l => { l with
      hs := some { h with stage := .krp, crp := p, ep := ep, cred := cr, credFlags := flags } })).ask c 0x13 (ep ++ sig) false

/-- Keys and SID of a session (R375). -/
def Hs.session (h : Hs) (ee : Bytes) : Sess :=
  let th2 := sha2 .sha256 (h.crq ++ h.crp ++ h.ep ++ ee)
  let z := Config.ecdh h.priv ee
  let out := fun (l : Bytes) (n : Nat) => hkdf (h.np ++ h.crp.take 16) z (l ++ th2) n
  { sid := ofBe (out lblSid 4), encPe := out lblPeEnc 16, macPe := out lblPeMac 16, encEp := out lblEpEnc 16, macEp := out lblEpMac 16
    wake := out lblWake 16 }

/-- A KRP accepted: Ee and the partner's signature are checked, and the keys derived; a SID of zero starts a new attempt at once, counted
towards nothing (R375, R376). -/
def State.takeKrp (s : State) (c : Fin 16) (h : Hs) (p : Bytes) (sigOk : Bool) : State :=
  let ee := p.take 64
  if !(p256Valid ee && sigOk) then (s.hsFail c).toPartner c .hostile 8
  else
    let x := h.session ee
    if x.sid = 0 then (s.dropAttempt c).startHandshake c
    else (s.updLnk c (fun l => { l with hs := some { h with stage := .frp, ee := ee, eph := 0, sess := some x } })).ask c 0x15 [] false

/-- HEARTBEAT of the Wheel on an accepted partner frame (R386). -/
def State.linkHeartbeat (s : State) (c : Fin 16) : State := s.chOp c (fun x => x.keepWrite .heartbeat s.tick)

/-- The session becomes live at the part: an earlier one is closed as re-keyed, the counts start anew, the wake filter is loaded
(R377, R381, R390, R393). -/
def State.goLive (s : State) (c : Fin 16) (x : Sess) : State :=
  let s1 := s.closeSess c 1
  let s2 := s1.updLnk c (fun l => ({ l with
    sess := some { x with openedAt := s.tick }, hs := none, rekeyDue := none
    lateAt := [], faultAt := [], unanswered := 0, noBurst := 0, attemptK := 0, lastAttempt := none, pollWakes := 0
    wf := some { sid := x.sid, key := x.wake, lastCtr := x.ctrRx } }).count .opened)
  (s2.toPartner c .present 1).linkHeartbeat c

/-! ## Receipt (R336, R339, R366, R379, R389) -/

/-- A credential that a PROBE brought (R396). -/
def State.takeProbe (s : State) (c : Fin 16) (p : Bytes) (sigOk : Bool) : State :=
  let (r, flags) := s.checkCred none sigOk p
  let was := (s.lnk c).pstate
  let s1 := s.updLnk c (fun l => { l with cred := p, credFlags := flags })
  let s2 := match r with
    | .hostile => s1.toPartner c .hostile 7
    | .faulty => s1.linkFault c none
    | .ok => (s1.updLnk c (fun l => { l with unanswered := 0, noBurst := 0 })).toPartner c .present 1
  if (s2.lnk c).pstate = was then s2.partnerRecord c was (if r = .ok then 1 else 7) else s2

/-- The outstanding request has its reply. -/
def State.doneTxn (s : State) (c : Fin 16) : State := s.updLnk c (fun l => { l with txn := none, unanswered := 0 })

/-- An accepted frame acts by its type; `x` is the transaction it answers, if any. -/
def State.acceptFrame (s : State) (c : Fin 16) (t : Nat) (p : Bytes) (x : Option Txn) (sigOk : Bool) : State :=
  let hs := (s.lnk c).hs
  match t, hs with
  | 0x02, _ => ((s.doneTxn c).takeProbe c p sigOk).pumpLink c
  | 0x12, some h => (s.doneTxn c).takeCrp c h p sigOk
  | 0x14, some h => (s.doneTxn c).takeKrp c h p sigOk
  | 0x16, some h => match h.sess with | some y => ((s.doneTxn c).goLive c y).pumpLink c | none => s
  | 0x1E, some h =>
    (s.linkCount c .busy).updLnk c (fun l => { l with
      hs := some { h with busyUntil := some (s.tick + ceilDiv (ofBe p * 32768) 1000) }
      txn := l.txn.map (fun y => { y with sent := false, retries := 0 }) })
  | 0x1F, _ => ((s.doneTxn c).linkFault c none).hsFail c
  | 0x22, _ =>
    let s1 := ((s.doneTxn c).updLnk c (fun l => { l with rsp := some p })).linkHeartbeat c
    (match x with | some y => if y.applet then s1.linkReturn c .done p else s1 | none => s1).pumpLink c
  | 0x23, _ => (s.updLnk c (fun l => { l with atn := l.atn ++ [p] })).linkHeartbeat c
  | _, _ => s

/-- The session whose keys protect a received type: the one being opened for FRP, else the live one. -/
def Link.rxSess (l : Link) (t : Nat) : Option Sess := if t = 0x16 then l.hs.bind (·.sess) else l.sess

/-- The partner frame accepted last moves the session's receive counter, and the wake filter's (R379, R390). -/
def Link.rxNote (l : Link) (t ctr : Nat) (body : Bytes) : Link :=
  let up := fun (x : Sess) => { x with ctrRx := some ctr, lastRx := body }
  if t = 0x16 then { l with hs := l.hs.map (fun h => { h with sess := h.sess.map up }) }
  else { l with sess := l.sess.map up, wf := l.wf.map (fun w => { w with lastCtr := some ctr }) }

/-- Checks 7 to 10 on a protected frame of session `y` (R366, R379). -/
def State.linkCheckProt (s : State) (c : Fin 16) (y : Sess) (b : Bytes) (accept : State → Bytes → State) : State :=
  let ctr := fCtr b
  let n := fLen b
  let t := fType b
  if ctr = 2 ^ 48 - 1 then s.linkFault c (some .malformed)
  else if fWtag b != linkWtag y.wake 0x45 y.sid ctr n t then s.linkFault c (some .tag)
  else if fMac b != cmac y.macEp (b.take (18 + n)) then (s.linkCount c .mac).toPartner c .hostile 9
  else if (match y.ctrRx with | some k => decide (ctr ≤ k) | none => false) then
    if b = y.lastRx then s.linkCount c .duplicate
    else
      let s1 := (s.linkCount c .replay).updLnk c (fun l => { l with sess := l.sess.map (fun z => { z with replays := z.replays + 1 }) })
      let limit := match s1.linkContract c with | some k => k.tReplay | none => 1
      match (s1.lnk c).sess with
      | some z => if limit ≤ z.replays then s1.toPartner c .hostile 10 else s1
      | none => s1
  else
    let p := aesCtr y.encEp (linkBlock 0x45 y.sid ctr) (fPayload b)
    if !contentOk t p then s.linkFault c (some .malformed) else accept (s.updLnk c (fun l => l.rxNote t ctr b)) p

/-- Checks 4 to 10 on a frame of an expected type (R366). -/
def State.linkCheck (s : State) (c : Fin 16) (b : Bytes) (accept : State → Bytes → State) : State :=
  let n := fLen b
  let t := fType b
  if 240 < n then s.linkFault c (some .oversized)
  else if b.length != n + (if fProtected t then 38 else 22) then s.linkFault c (some .malformed)
  else if fProtected t then
    match (s.lnk c).rxSess t with
    | some y => if fSid b != y.sid then s.linkFault c (some .stale) else s.linkCheckProt c y b accept
    | none => s.linkFault c (some .stale)
  else if slice 4 14 b != zeros 14 || !contentOk t (fPayload b) then s.linkFault c (some .malformed)
  else accept s (fPayload b)

/-- Check 1: length and CRC (R364, R366). -/
def crcOk (b : Bytes) : Bool := decide (22 ≤ b.length) && b.drop (b.length - 4) == beBytes 4 (crc32 (b.take (b.length - 4)))

/-- The request outstanding that a burst starting at bit time `start` after its E can answer (R339, R382). -/
def Link.answers (l : Link) (start : Option Nat) : Option Txn :=
  match l.txn, start with
  | some x, some k => if x.sent && decide (k < 8192) then some x else none
  | _, _ => none

/-- TYPE is one the part receives now (check 3 of R366). -/
def Link.expects (l : Link) (x : Option Txn) (t : Nat) : Bool :=
  match x with
  | some y => t == replyOf y.type || (isHs y.type && (t == 0x1E || t == 0x1F))
  | none => t == 0x23 && l.sess.isSome && !(match l.txn with | some y => y.sent | none => false)

/-- The link engine takes a decoded burst through the receive checks in their order (R366). A CLA of the session closed last counts
towards nothing (R388). A reply in the late window is counted late once accepted (R383), unless it is BUSY (R384). -/
def State.linkTake (s : State) (c : Fin 16) (b : Burst) (sigOk : Bool) : State :=
  let s0 := s.updLnk c (fun l => { l with hs := l.hs.map (fun h => { h with sawBurst := true }), txn := l.txn.map (fun x => { x with saw := true }) })
  let l := s0.lnk c
  let x := l.answers b.start
  let t := fType b.body
  let late := match x, b.start with | some _, some k => decide (1024 ≤ k) | _, _ => false
  if !crcOk b.body then s0.linkFault c (some .crc)
  else if fVersion b.body != 1 then s0.linkFault c (some .malformed)
  else if t = 0x32 ∧ l.closedSid = some (fSid b.body) then s0
  else if !l.expects x t then s0.linkFault c (some .unexpected)
  else s0.linkCheck c b.body (fun u p =>
    let u1 := u.acceptFrame c t p x sigOk
    if late && t != 0x1E then u1.linkLate c else u1)

/-- The wake filter judges a burst while the main island does not run (R389): it passes an ATN of the session it holds, and the Wheel,
woken, applies every check. -/
def State.wakeFilter (s : State) (c : Fin 16) (b : Burst) (sigOk : Bool) : State :=
  let l := s.lnk c
  let d := b.body
  match l.wf with
  | none => s.linkCount c .filtered
  | some w =>
    let ok := crcOk d && fVersion d == 1 && fType d == 0x23 && decide (fLen d ≤ 240) && d.length == fLen d + 38 && fSid d == w.sid
      && fCtr d != 2 ^ 48 - 1 && fWtag d == linkWtag w.key 0x45 w.sid (fCtr d) (fLen d) 0x23
    if !ok then (s.linkCount c .filtered).linkFault c none
    else if (match w.lastCtr with | some k => decide (fCtr d ≤ k) | none => false) then
      let s1 := (s.linkCount c .replay).updLnk c (fun m => { m with sess := m.sess.map (fun z => { z with replays := z.replays + 1 }) })
      let limit := match s1.linkContract c with | some k => k.tReplay | none => 1
      match (s1.lnk c).sess with
      | some z => if limit ≤ z.replays then s1.wakeMain.toPartner c .hostile 10 else s1
      | none => s1
    else if 2 ≤ l.kept.length then s.linkCount c .filtered
    else
      let s1 := (s.updLnk c (fun m => { m with kept := m.kept ++ [b] })).wakeMain
      if s1.mainRuns then
        let k := (s1.lnk c).kept
        k.foldl (fun u e => u.linkTake c e sigOk) (s1.updLnk c (fun m => { m with kept := [] }))
      else s1

/-- The pair receives: it is in function T. -/
def State.hears (s : State) (c : Fin 16) : Bool := match (s.chan c).lnkPad.cur with | .conn .t => s.rails.vao | _ => false

/-- A received burst (R336, R339, R341, R359): a line error or a turnaround violation is discarded; the rest goes to the link engine or
the wake filter. Before set-up no frame is accepted (R48), and in Crazed, or without a Wheel to load the filter, every burst is counted as
filtered (R389, R390). -/
def State.receive (s : State) (c : Fin 16) (b : Burst) (sigOk : Bool) : State :=
  if !s.hears c then s
  else
    let s1 := s.updLnk c (fun l => { l with lineBusy := true })
    if s1.crazed then s1.linkCount c .filtered
    else if !s1.linkServed c then if s1.mainRuns then s1 else s1.linkCount c .filtered
    else
      let s2 := if b.inverted then s1.linkCount c .inverted else s1
      let early := match (s2.lnk c).answers b.start, b.start with | some _, some k => decide (k < 8) | _, _ => false
      if b.err.isSome || b.body.isEmpty || decide (288 < b.body.length) then s2.linkFault c (some .lineErr)
      else if early then s2.linkFault c none
      else if s2.mainRuns then s2.linkTake c b sigOk
      else s2.wakeFilter c b sigOk

/-! ## Fingerprints (R343–R354) -/

/-- The mode of a measurement (R344). -/
def State.fpMode (s : State) (c : Fin 16) : Nat :=
  match s.linkContract c with
  | some k => k.refMode
  | none => if s.straps.rate = 0 then 1 else 2

/-- Nearest integer to a / b, ties away from zero, for b above zero (R349). -/
def roundDiv (a : Int) (b : Nat) : Int := a.sign * (((2 * a.natAbs + b) / (2 * b) : Nat) : Int)

/-- Sum of |q[k]| for k in [lo, hi). -/
def absSum (q : List Int) (lo hi : Nat) : Nat := ((q.drop lo).take (hi - lo)).foldl (fun n x => n + x.natAbs) 0

/-- The sum of differences at shift t over points 16 to 239 (R349). -/
def fpDiff (sp q : List Int) (t : Int) : Nat :=
  (List.range 224).foldl (fun (n i : Nat) => n + (sp.getD ((i : Int) + 16 + t).toNat 0 - (q.getD (16 + i) 0)).natAbs) 0

/-- The comparison of R349: m and the shifts at which d is reached; none when the launch sum is zero. -/
def fpCompare (p q : List Int) : Option (Nat × List Int) :=
  let aq := absSum q 0 16
  let ap := absSum p 0 16
  if ap = 0 then none
  else
    let sp := p.map (fun x => roundDiv (x * aq) ap)
    let ds := ([-2, -1, 0, 1, 2] : List Int).map (fun t => (t, fpDiff sp q t))
    let d := ds.foldl (fun n e => min n e.2) (fpDiff sp q 0)
    some (1024 * d / (absSum q 16 240 + 256), (ds.filter (fun e => e.2 == d)).map (·.1))

/-- A signed number of `n` bytes, two's complement. -/
def signedBytes (n : Nat) (x : Int) : Bytes := beBytes n ((x % (256 ^ n : Nat)).toNat)

/-- The pair is asked to go to function E for a measurement (R343, R351). -/
def State.startFp (s : State) (c : Fin 16) (o : FpOccasion) : State :=
  (s.updLnk c (fun l => { l with fp := { l.fp with occ := some o, running := true, retryFrom := none } })).updCh c
    (fun x => { x with lnkPad := x.lnkPad.request .e s.tick })

/-- A new contract in force while the Wheel runs ends the session with CLOSE 0x04, and fingerprint and handshake run again from Absent
(R52, R401). The hold of an A output is the new contract's. -/
def State.linkRecontract (s : State) (c : Fin 16) : State :=
  if !(s.chan c).eclass.guarded || (s.chan c).retired then s.updLnk c Link.dropSession
  else (((s.closeSess c 4).dropAttempt c).updCh c (fun x => x.pairBack s.tick)).partnerRestart c

/-- A channel that leaves service by retirement ends its session with CLOSE 0x05 (R365, R388). Its pair parks, so the CLOSE goes out only
where the line is free at once. -/
def State.linkRetire (s : State) (c : Fin 16) : State := (s.closeSess c 5).updLnk c Link.dropSession

end Sys2Proof.Machine
end

