-- ==== Sys2Proof/Machine/Link.lean ====
section
/-! DEFINITION. Commands of the field link (chapters 09 and 10), with service entry and the connection of a pair, which act on it. -/

namespace Sys2Proof.Machine

open Sys2Proof

/-! ## Bursts (R336–R342, R366, R389) -/

/-- BURST_DECODED (R336): a burst is received on channel `c`. `sigOk` is the verdict on the signature it may carry. -/
def execBurstDecoded (c : Fin 16) (b : Burst) (sigOk : Bool) (s : State) : Out := .next (s.receive c b sigOk)

/-- A burst of one type is received; a burst of another type is not this event. -/
def State.receiveType (s : State) (c : Fin 16) (t : Nat) (b : Burst) (sigOk : Bool) : State :=
  if fType b.body = t ∧ b.body ≠ [] then s.receive c b sigOk else s

/-- PROBE_RSP (R396): its credential is checked and reported. -/
def execProbeRsp (c : Fin 16) (b : Burst) (sigOk : Bool) (s : State) : Out := .next (s.receiveType c 0x02 b sigOk)

/-- CRP (R371): the partner credential is checked, `sigOk` its signature's verdict. -/
def execCrp (c : Fin 16) (b : Burst) (sigOk : Bool) (s : State) : Out := .next (s.receiveType c 0x12 b sigOk)

/-- KRP (R375): `sigOk` is the verdict on the partner signature fin th2. -/
def execKrp (c : Fin 16) (b : Burst) (sigOk : Bool) (s : State) : Out := .next (s.receiveType c 0x14 b sigOk)

/-- FRP (R377): the session becomes live. -/
def execFrp (c : Fin 16) (b : Burst) (s : State) : Out := .next (s.receiveType c 0x16 b true)

/-- BUSY (R384). -/
def execBusy (c : Fin 16) (b : Burst) (s : State) : Out := .next (s.receiveType c 0x1E b true)

/-- HS_ERR (R377). -/
def execHsErr (c : Fin 16) (b : Burst) (s : State) : Out := .next (s.receiveType c 0x1F b true)

/-- RSP (R386). -/
def execRsp (c : Fin 16) (b : Burst) (s : State) : Out := .next (s.receiveType c 0x22 b true)

/-- ATN (R387). -/
def execAtn (c : Fin 16) (b : Burst) (s : State) : Out := .next (s.receiveType c 0x23 b true)

/-- CLA (R388). -/
def execCla (c : Fin 16) (b : Burst) (s : State) : Out := .next (s.receiveType c 0x32 b true)

/-- JABBER (R342): counted, a fault (R391); it wakes the main island. In Crazed it changes no state count (R390). -/
def execJabber (c : Fin 16) (s : State) : Out :=
  .next (if !s.hears c then s
    else
      let s1 := s.updLnk c (fun l => { l with lineBusy := true })
      if s1.crazed then s1.linkCount c .filtered
      else if !s1.linkServed c then s1
      else s1.wakeMain.linkFault c (some .jabber))

/-- LINE_IDLE (R338): 8 bit times have passed; a deferred burst goes out. -/
def execLineIdle (c : Fin 16) (s : State) : Out :=
  .next (if s.mainUp then (s.updLnk c (fun l => { l with lineBusy := false })).pumpLink c else s.updLnk c (fun l => { l with lineBusy := false }))

/-! ## Transactions (R382, R384) -/

/-- A PROBE is unanswered: it counts towards Silent, and towards Absent when it drew no decodable burst; the result is reported (R396). -/
def State.probeFail (s : State) (c : Fin 16) (saw : Bool) : State :=
  let l := s.lnk c
  let un := l.unanswered + 1
  let nb := if saw then 0 else l.noBurst + 1
  let s1 := s.setLnk c { l with unanswered := un, noBurst := nb }
  let s2 := if tSilentOf none ≤ un then s1.toPartner c .silent 3 else if tAbsentOf none ≤ nb then s1.toPartner c .absent 2 else s1
  if (s2.lnk c).pstate = l.pstate then s2.partnerRecord c l.pstate 3 else s2

/-- The transaction is unanswered (R382): a handshake's fails its attempt, and in a live session it counts towards Silent (R392). A
LINK_REQ returns ABORT_PEER (R784). -/
def State.unanswered (s : State) (c : Fin 16) (x : Txn) : State :=
  let s1 := (s.updLnk c (fun l => { l with txn := none })).linkCount c .unanswered
  let s2 := if x.applet then s1.linkReturn c .abortPeer [] else s1
  let s3 := if isHs x.type then s2.hsFail c else if x.type = 0x01 then s2.probeFail c x.saw else s2
  let s4 :=
    if (s3.lnk c).sess.isSome then
      let n := (s3.lnk c).unanswered + 1
      let t := s3.updLnk c (fun l => { l with unanswered := n })
      if tSilentOf (t.linkContract c) ≤ n then t.toPartner c .silent 3 else t
    else s3
  s4.pumpLink c

/-- REPLY_TIMEOUT (R382): the request is retransmitted byte for byte up to N_retry times, then the transaction is unanswered. -/
def execReplyTimeout (c : Fin 16) (s : State) : Out :=
  .next (if !s.mainUp then s
    else match (s.lnk c).txn with
      | some x =>
        if !x.sent then s
        else if x.retries < nRetryOf (s.linkContract c) then
          (s.updLnk c (fun l => { l with txn := some { x with retries := x.retries + 1, sent := false } })).sendTxn c
        else s.unanswered c x
      | none => s)

/-- BUSY_RESEND (R384): after the stated wait the request is re-sent byte for byte. -/
def execBusyResend (c : Fin 16) (s : State) : Out :=
  .next (match (s.lnk c).hs with
    | some h =>
      match h.busyUntil with
      | some k =>
        if s.mainUp then
          let s1 := (s.advanceTo k).closeWindows
          (s1.updLnk c (fun l => { l with hs := some { h with busyUntil := none } })).sendTxn c
        else s
      | none => s
    | none => s)

/-! ## Handshakes and re-keying (R377, R381, R395) -/

/-- An attempt may be made: contracted in service, keys usable, no attempt, measurement or withholding under way, and no session live
but one that is to be re-keyed (R353, R381, R395). -/
def State.mayAttempt (s : State) (c : Fin 16) : Bool :=
  let l := s.lnk c
  s.linkServed c && (s.linkContract c).isSome && s.linkKeys && l.hs.isNone && l.fp.occ.isNone && !l.fp.withholding
    && (l.sess.isNone || l.rekeyDue.isSome)

/-- The tick from which attempt k may begin (R395): 2^min(k, 6) × 32 768 ticks after the end of the one before, and in Hostile not
before the cool-off has passed. -/
def State.attemptFrom (s : State) (c : Fin 16) : Nat :=
  let l := s.lnk c
  let back := match l.lastAttempt with | some t => t + 2 ^ (min l.attemptK 6) * 32768 | none => s.tick
  let cool := match l.pstate, l.hostileAt, s.linkContract c with
    | .hostile, some t, some k => t + k.coolOff
    | _, _, _ => 0
  max back cool

/-- HANDSHAKE_ATTEMPT (R395): at the first periodic wake after the backoff the part fingerprints; the CRQ follows (R351). -/
def execHandshakeAttempt (c : Fin 16) (s : State) : Out :=
  .next (if s.mayAttempt c then
      let s1 := ((s.advanceTo (wakeAt (max s.tick (s.attemptFrom c)))).closeWindows).wakeMain
      (s1.updLnk c (fun l => { l with fp := { l.fp with attempts := 0 } })).startFp c .beforeHandshake
    else s)

/-- HANDSHAKE_TIMEOUT (R377): the attempt has not completed 262 144 ticks after its CRQ: a fault, and the attempt fails. -/
def execHandshakeTimeout (c : Fin 16) (s : State) : Out :=
  .next (match (s.lnk c).hs with
    | some h =>
      if s.mainUp && !s.crazed then
        let s1 := (s.advanceTo (h.startedAt + 262144)).closeWindows
        (s1.linkFault c none).hsFail c
      else s
    | none => s)

/-- REKEY_DUE (R381): the re-key interval has passed since the session opened, or a CTR has reached 2³²; a new handshake, with its
fingerprint, runs beside the old session. -/
def execRekeyDue (c : Fin 16) (s : State) : Out :=
  .next (match (s.lnk c).sess, s.linkContract c with
    | some x, some k =>
      if (s.lnk c).rekeyDue.isSome || !s.linkServed c then s
      else
        let full := decide (2 ^ 32 ≤ x.ctrTx) || (match x.ctrRx with | some n => decide (2 ^ 32 ≤ n) | none => false)
        let s1 := (if full then s else (s.advanceTo (x.openedAt + k.rekey)).closeWindows).wakeMain
        let s2 := s1.updLnk c (fun l => { l with rekeyDue := some s1.tick })
        if s2.mayAttempt c then (s2.updLnk c (fun l => { l with fp := { l.fp with attempts := 0 } })).startFp c .beforeHandshake else s2
    | _, _ => s)

/-- REKEY_TIMEOUT (R381): no new session is live 60 s after the re-key became due: the old session ends. -/
def execRekeyTimeout (c : Fin 16) (s : State) : Out :=
  .next (match (s.lnk c).rekeyDue, (s.lnk c).sess with
    | some k, some _ =>
      if s.mainUp then
        let s1 := ((s.advanceTo (k + ticks60s)).closeWindows).wakeMain
        (s1.dropAttempt c).endLink c 1
      else s
    | _, _ => s)

/-! ## Fingerprints (R343–R355) -/

/-- The FINGERPRINT record, and for a changed or unobtained cable and the end of withholding the CABLE entry (R346, R350, R354, R418). -/
def State.fpReport (s : State) (c : Fin 16) (result m : Nat) (t : Int) (o : FpOccasion) (attempts : Nat) (profile : Bytes) : State :=
  let body := beBytes 1 c.val ++ beBytes 1 result ++ beBytes 2 m ++ signedBytes 1 t ++ beBytes 1 o.code ++ beBytes 1 attempts ++ [0] ++ profile
  let s1 := if result = 1 ∨ result = 2 ∨ result = 4 then s.wlog 0x0904 0 (beBytes 1 c.val ++ body.take 19) false else s
  s1.report 0x05 body

/-- A cable-changed event on a contracted channel (R353, R400). -/
def State.cableChanged (s : State) (c : Fin 16) (k : Contract) : State :=
  let s1 := s.updLnk c (fun l => { l with fp := { l.fp with changed := true, withholding := k.withhold, matched := 0 } })
  if k.withhold then ((s1.lostSession c true).closeSess c 3).dropAttempt c else s1

/-- A matching retry: the second in a row ends the changed state, and a withholding with it, reported (R354). -/
def State.cableMatched (s : State) (c : Fin 16) (m : Nat) (t : Int) (attempts : Nat) (profile : Bytes) : State :=
  let f := (s.lnk c).fp
  if f.matched = 0 then s.updLnk c (fun l => { l with fp := { l.fp with matched := 1 } })
  else
    let s1 := s.updLnk c (fun l => { l with fp := { l.fp with matched := 0, changed := false, withholding := false } })
    if f.withholding then s1.fpReport c 4 m t .cableChanged attempts profile else s1

/-- The measurement is unobtained (R346): logged, reported, and a cable-changed event. -/
def State.fpUnobtained (s : State) (c : Fin 16) (o : FpOccasion) (attempts : Nat) (profile : Bytes) : State :=
  let s1 := s.fpReport c 2 0xFFFF 0 o attempts profile
  match s1.linkContract c with
  | some k =>
    let s2 := s1.cableChanged c k
    if o = .beforeHandshake ∧ !k.withhold then s2.startHandshake c else s2
  | none => s1

/-- A completed measurement with its profile (R349–R351, R353): compared with the contract's reference, or only reported. Where two
shifts reach d, the spec does not say which is reported: a free choice among them. -/
def State.fpProfile (s : State) (c : Fin 16) (o : FpOccasion) (attempts : Nat) (p : List Int) : State :=
  let bytes := profileBytes (s.fpMode c) p
  match s.linkContract c with
  | none => s.fpReport c 3 0xFFFF 0 o attempts bytes
  | some k =>
    match fpCompare p k.refPoints with
    | none => s.fpUnobtained c o attempts bytes
    | some (m, ts) =>
      let t := ts.getD (Config.freeNat s.freeCount % ts.length) 0
      let s1 := s.tick1
      if m ≤ k.fpLimit then
        let s2 := s1.fpReport c 0 m t o attempts bytes
        match o with
        | .beforeHandshake => s2.startHandshake c
        | .cableChanged => s2.cableMatched c m t attempts bytes
        | _ => s2
      else
        let s2 := (s1.fpReport c 1 m t o attempts bytes).cableChanged c k
        if o = .beforeHandshake ∧ !k.withhold then s2.startHandshake c else s2

/-- The occasion that falls due next on channel `c`, with its tick (R351). -/
def State.fpDue (s : State) (c : Fin 16) : Option (FpOccasion × Nat) :=
  let l := s.lnk c
  match s.linkContract c, l.fp.lastDone with
  | some k, some t =>
    if l.fp.changed then some (.cableChanged, t + ticks60s) else if l.sess.isSome then some (.periodic, t + k.fpInterval) else none
  | some _, none => none
  | none, some t => some (.reportOnly, t + 2831155200)
  | none, none => some (.reportOnly, if (s.chan c).eclass == .l then wakeAt s.tick else s.tick)

/-- FINGERPRINT_DUE (R351): an occasion falls due, and the pair is to go to function E once no transaction is outstanding (R91, R875). -/
def execFingerprintDue (c : Fin 16) (s : State) : Out :=
  .next (if !s.linkServed c || s.crazed || (s.lnk c).fp.occ.isSome then s
    else match s.fpDue c with
      | some (o, k) =>
        let s1 := ((s.advanceTo k).closeWindows).wakeMain
        (s1.updLnk c (fun l => { l with fp := { l.fp with attempts := 0 } })).startFp c o
      | none => s)

/-- The pair is in function E for the measurement. -/
def State.measuring (s : State) (c : Fin 16) : Bool := match (s.chan c).lnkPad.cur with | .conn .e => (s.lnk c).fp.running | _ => false

/-- FINGERPRINT_DONE (R349): a capture completes and the pair goes back to function T. A disturbed one is retried, the eighth makes the
fingerprint unobtained (R346); the profile of an unobtained one is not stated: free bytes. -/
def execFingerprintDone (c : Fin 16) (cap : Capture) (s : State) : Out :=
  .next (match (s.lnk c).fp.occ with
    | some o =>
      if s.measuring c && s.linkServed c && !s.crazed then
        let n := (s.lnk c).fp.attempts + 1
        let back := (s.wakeMain.updCh c (fun x => { x with lnkPad := x.lnkPad.request .t s.tick })).updLnk c
          (fun l => { l with fp := { l.fp with running := false, attempts := n } })
        let fin := back.updLnk c (fun l => { l with fp := { l.fp with occ := none, lastDone := some s.tick } })
        match cap with
        | .profile p => fin.fpProfile c o n ((p ++ List.replicate 256 0).take 256)
        | .disturbed =>
          if n < 8 then back.updLnk c (fun l => { l with fp := { l.fp with retryFrom := some s.tick } })
          else fin.tick1.fpUnobtained c o n (Config.freeBytes s.freeCount 514)
      else s
    | none => s)

/-- FINGERPRINT_RETRY (R346): a disturbed measurement is retried after 32 768 ticks. -/
def execFingerprintRetry (c : Fin 16) (s : State) : Out :=
  .next (match (s.lnk c).fp.retryFrom, (s.lnk c).fp.occ with
    | some k, some o =>
      if s.linkServed c && !s.crazed then (((s.advanceTo (k + 32768)).closeWindows).wakeMain).startFp c o else s
    | _, _ => s)

/-! ## Channel commands that act on the link -/

/-- The Wheel notices HB_EXPIRED in a live session: the partner is Silent (R307, R392). -/
def State.hbNotice (s : State) (c : Fin 16) : State :=
  match (s.lnk c).sess with
  | some x =>
    if (s.chan c).fifo.any (fun e => e.code == evHbExpired && decide (x.openedAt ≤ e.tick)) && (s.chan c).keep == .idle then s.toPartner c .silent 4 else s
  | none => s

/-- HB_EXPIRED (R306): the heartbeat window closes, and a partner in session becomes Silent (R392). -/
def execHbExpired (c : Fin 16) (s : State) : Out := .next ((hbClose c s).hbNotice c)

/-- FUNCTION_CONNECT (R86); a pair back in function T carries what waits for the line (R352). -/
def execFunctionConnect (c : Fin 16) (p : PadKind) (s : State) : Out := .next ((padConnect c p s).pumpLink c)

/-- SERVICE_ENTER (R299): a write of ENTER = 1 to CH_SERVICE with CONTRACTED as given; a channel that enters service is set up (R48) and
its partner starts at Absent (R392). -/
def execServiceEnter (c : Fin 16) (contracted : Bool) (s : State) : Out :=
  .next (if s.wheelWrites then
      let was := (s.chan c).service
      let s1 := s.chOp c (fun x => x.enter contracted s.freezeCond s.tick)
      if (s1.chan c).service && !was then (s1.updCh c (fun x => { x with setup := true })).partnerRestart c else s1
    else s)

end Sys2Proof.Machine
end

