-- ==== Sys2Proof/Machine/Commit.lean ====
section
/-! DEFINITION. Lifecycle commits (chapter 06): burns of LC_STATE, the staged commit record and its application, operator roots;
contracts coming into force (01_cabinet.md R50–R52); the Kiln's time from beacons (22_kiln.md R811). -/

namespace Sys2Proof

/-- LC_STATE bit of a firing (R212). -/
def Firing.bit : Firing → Nat
  | .greenware => 0 | .bisque => 1 | .glazed => 2 | .fired => 4 | .sherd => 8

end Sys2Proof

namespace Sys2Proof.Machine

open Sys2Proof

/-! ## Contracts in force (R50–R52) -/

/-- The contract of channel `c` is for its strap class (R50). -/
def State.contractFits (s : State) (c : Fin 16) : Bool :=
  match s.contract c with
  | some k => k.cls == s.straps.cls[c] && k.cls.guarded
  | none => false

/-- A contract ignored under R50: logged as CONTRACT_IGNORED, a Watch event, and reported. -/
def State.ignoreContract (s : State) (c : Fin 16) : State :=
  match s.contract c with
  | some k =>
    if s.contractFits c then { s with life := { s.life with ignored := s.life.ignored.set c false } }
    else
      { s with life := { s.life with ignored := s.life.ignored.set c true } }.wlog 0x0906 1
        (beBytes 1 c.val ++ beBytes 1 (if s.straps.clsMarginal[c] then 0xFF else s.straps.cls[c].code) ++ beBytes 1 k.cls.code) true
  | none => { s with life := { s.life with ignored := s.life.ignored.set c false } }

/-- The window lengths of a contract are written to its channel (R47, R300). -/
def Chan.windows (x : Chan) (k : Contract) : Chan :=
  ((x.lengthWrite .tconf k.tconfLen).lengthWrite .hb k.hbLen).lengthWrite .hold k.holdLen

/-- Contracts are settled against the straps and their windows written (R50). -/
def State.settleContracts (s : State) : State :=
  s.eachCh (fun c t =>
    let t1 := t.ignoreContract c
    match t1.contract c with
    | some k => if t1.contractFits c then t1.chOp c (fun x => x.windows k) else t1
    | none => t1)

/-- A contract replaced while the Wheel runs (R52): the session is closed, an H output falls, an A output stays under the new
contract's continuity hold, and fingerprint and handshake run again. -/
def State.recontract (s : State) (c : Fin 16) : State :=
  let ok := s.contractFits c
  let s1 := s.linkRecontract c
  s1.chOp c (fun x =>
    if !x.eclass.guarded || x.fused || x.retired then x
    else
      let y := x.enter ok s1.freezeCond s1.tick
      if y.eclass == .a && ok then { y with keep := .idle }.keepWrite .hold s1.tick else y.guardWrite false s1.tick)

/-! ## Operator roots (R225, R226) -/

/-- First word of operator-root slot `i`. -/
def rootWord (i : Nat) : Nat := 0x14 + 13 * i

/-- The 48 bytes of a hash held in twelve fuse words. -/
def State.fuseHash (s : State) (w : Nat) : Bytes := (List.range 12).flatMap (fun i => beBytes 4 (s.fuse (w + i)))

/-- Slot `i` is burned, and not retired. -/
def State.rootBurned (s : State) (i : Nat) : Bool := (s.fuseHash (rootWord i)).any (· != 0)
def State.rootRetired (s : State) (i : Nat) : Bool := (s.fuse (rootWord i + 12)).testBit 0

/-- The current operator root: the lowest slot burned and not retired. -/
def State.rootSlot (s : State) : Option Nat := [0, 1, 2].find? (fun i => s.rootBurned i && !s.rootRetired i)

/-- Burns a hash into twelve fuse words. -/
def State.burnHash (s : State) (w : Nat) (h : Bytes) : State :=
  (List.range 12).foldl (fun t i => t.burn (w + i) (beAt h (4 * i) 4)) s

/-- The rotation of the operator root, when fuses may be burned: the next slot's hash, then RETIRED of the current slot; a third
rotation finds no slot (R214, R226). -/
def State.rotateRoot (s : State) : State :=
  match s.life.rootBurn, s.rootSlot with
  | some h, some i =>
    if s.burnOk && !s.provisional then
      let s1 := if i < 2 then (s.burnHash (rootWord (i + 1)) h).burn (rootWord i + 12) 1 else s
      { s1 with life := { s1.life with rootBurn := none } }
    else s
  | some _, none => { s with life := { s.life with rootBurn := none } }
  | none, _ => s

/-! ## Staged commit records (R219–R223) -/

/-- The Burn step of a staged record, when R214 allows it and no provisional hold is open (R219, R223, R863): a transition into Sherd
zeroizes; a re-commissioning burns nothing. -/
def State.burnStaged (s : State) : State :=
  match s.life.staged with
  | some g =>
    if g.applied || g.burned then s
    else match g.sherd with
    | some cause => if s.burnOk && !s.provisional then s.zeroize cause else s
    | none =>
      if g.target = s.life.firing then { s with life := { s.life with staged := some { g with burned := true } } }
      else if s.burnOk && !s.provisional then
        let s1 := s.burn 0x00 g.target.bit
        { s1 with life := { s1.life with staged := some { g with burned := true } } }
      else s
  | none => s

/-- No exchange is under way (R876). -/
def State.noExchange (s : State) : Bool := s.app.toList.all (fun a => a.xstep == .none)

/-- The commissioned keys of an applied bundle replace the former ones as a whole (R228). A blob that does not unwrap installs
nothing. -/
def State.commissionKeys (s : State) (blobs : List Bytes) : State :=
  let s1 := s.life.commSlots.foldl (fun t n => t.deleteSlot n) s
  let s2 := { s1 with life := { s1.life with commSlots := [] } }
  blobs.foldl (fun t b =>
    let n := beAt b 80 1
    match (if (t.ksm.slot n).gen < 0xFFFF then t.unwrap (beAt b 64 1) b else .error (.value, 1)) with
    | .ok (attr, mat) =>
      let k := beAt attr 0 1
      let u := t.newKey k (beAt attr 1 1) (beAt attr 2 2) (beAt attr 4 1) (beAt attr 5 1 == 1) mat
      { u with life := { u.life with commSlots := u.life.commSlots ++ [k] } }
    | .error _ => t) s2

/-- The content of a staged record takes effect (R219 step 4, R228): contracts, disposition record, issuers, credential,
concentrator keys, commissioned keys, CNT4, and the burns of a root rotation. `live` says that the Wheel is running channels. -/
def State.applyContent (s : State) (g : Staged) (live : Bool) : State :=
  let old := s.life.contracts
  let s0 := { s with life := { s.life with firing := g.target, lastApplied := g.target } }
  if g.content.generation = 0 ∨ g.target = .fired then s0
  else
    let k := g.content
    let table : Vector (Option Contract) 16 := Vector.ofFn (fun (c : Fin 16) => k.contracts.find? (fun x => x.channel == c.val))
    let s1 := { s0 with life := { s0.life with
      contracts := table, disposition := k.disposition, issuers := k.issuers, partCred := k.partCred, concKeys := k.concKeys
      rootBurn := k.nextRoot.map (fun x => sha2 .sha384 x) } }
    let s2 := (s1.commissionKeys k.keyBlobs).cntAdvance 4 (k.generation - s1.ksm.cntOf 4)
    let s3 := s2.rotateRoot
    if live then
      (s3.settleContracts).eachCh (fun c t => if old[c] = t.life.contracts[c] then t else t.recontract c)
    else s3

/-- The Apply and Report steps (R219): content, MEAS8 over the whole bundle (R650), record marked applied, TRANSITION logged and
reported, BUNDLE_RESULT 0. They wait for a running Wheel, an open key store and the end of an exchange (R876). -/
def State.applyStaged (s : State) (live : Bool) : State :=
  match s.life.staged with
  | some g =>
    if g.applied || !g.burned || s.crazed || s.provisional || !s.noExchange || s.ksm.compWait || s.life.firing == .sherd then s
    else
      let from_ := s.life.lastApplied
      let s1 := s.applyContent g live
      let s2 := s1.measure 8 1 0x0801 s1.bundleData
      let s3 := { s2 with life := { s2.life with staged := some { g with applied := true } } }
      ((s3.klogRep 0x0401 (beBytes 1 from_.code ++ beBytes 1 g.target.code ++ padTo 16 g.bundleId)).spyEvent 3
        (Config.transitionCode from_.code g.target.code).toNat 0 s.gradeNow s.tick []).bundleOutcome 0 0
  | none => s

/-- The Burn step, then where the Wheel runs the Apply step. -/
def State.pursueStaged (s : State) : State :=
  let s1 := s.burnStaged
  if s1.wheelRuns then s1.applyStaged true else s1

/-- Phase F (R220): a record whose target is the resolved firing is applied; one whose burn never began is discarded, logged and
reported. A record of a re-commissioning is told by its generation. -/
def State.startStaged (s : State) : State :=
  match s.life.staged with
  | some g =>
    if g.applied then s
    else if g.target = s.life.firing then
      { s with life := { s.life with staged := some { g with burned := true } } }.applyStaged false
    else
      ({ s with life := { s.life with staged := none } }.klogRep 0x0402 (padTo 16 g.bundleId)).bundleOutcome 7 0
  | none => s

/-! ## Completion of interrupted burns (R215, R216, R221) -/

/-- Burns both copies of LC_STATE to the resolved value, logged and reported as BURN_COMPLETED for each copy completed (R221). -/
def State.completeBurn (s : State) : State :=
  if s.fuses.completion && s.burnOk && !s.provisional then
    let f := s.fuseReads 0
    let v := s.fuse 0
    let s1 := (s.burn 0x00 v)
    let s2 := { s1 with fuses := { s1.fuses with completion := false } }
    let s3 := if f.cleanP && f.pl == v then s2 else s2.klogRep 0x0403 (beBytes 2 0 ++ beBytes 2 0)
    if f.cleanR && f.rl == v then s3 else s3.klogRep 0x0403 (beBytes 2 0 ++ beBytes 2 1)
  else s

/-- Burns that waited for their conditions (R214): an interrupted LC_STATE burn, a staged transition, a root rotation, a compaction's
ratchet bit. -/
def State.pendingBurns (s : State) : State :=
  let s1 := s.completeBurn.rotateRoot.pursueStaged
  if s1.ksm.compWait then s1.compactDue else s1

/-! ## The Kiln's time (R810, R811) -/

/-- A value held within bounds. -/
def clampInt (lo hi v : Int) : Int := max lo (min hi v)

/-- A valid beacon of KEY_ID `key` handed to the time reference: UNSET is set, a difference of 1 s or more steps, anything less is
slewed out and trims the rate by a quarter of its slope (R811). Times are in 1/65 536 s. -/
def State.handBeacon (s : State) (key time frac rx : Nat) : State :=
  let t := time * 65536 + frac
  let x := s.kiln
  let now := x.timeAt rx
  let d : Int := (t : Int) - now
  let set (k : Kiln) : Kiln := { k with anchor := t, anchorTick := rx, slew := none }
  let base (k : Kiln) : Kiln :=
    { k with unsignedTime := key == 0, timeSet := k.timeSet || key != 0, prevBeacon := some rx
             lastTime := time, lastTimePowered := s.powered }
  match x.timeSt with
  | .unset => s.setTimeSt (fun k => base (set { k with timeSt := .carried }))
  | _ =>
    if 65536 ≤ d.natAbs then
      let o := now.toNat
      (s.setTimeSt (fun k => base (set k))).klog 0x0601
        (beBytes 4 (o / 65536) ++ beBytes 2 (o % 65536) ++ beBytes 4 time ++ beBytes 2 frac)
    else
      let dt := match x.prevBeacon with | some p => rx - p | none => 0
      let rate := if dt = 0 then x.rate else clampInt (-500000) 500000 (x.rate + d * 1000000000 / (8 * (dt : Int)))
      s.setTimeSt (fun k => base { k with anchor := now.toNat, anchorTick := rx, slew := some (d, rx), rate := rate })

/-- The beacon reference qualifies: DISCIPLINED (R148, R810). -/
def State.discipline (s : State) : State :=
  match s.kiln.timeSt with
  | .carried => s.setTimeSt (fun k => { k with timeSt := .disciplined })
  | _ => s

/-- The beacon reference is lost: CARRIED (R148, R810). -/
def State.undiscipline (s : State) : State :=
  match s.kiln.timeSt with
  | .disciplined => s.setTimeSt (fun k => { k with timeSt := .carried })
  | _ => s

end Sys2Proof.Machine
end

