-- ==== Sys2Proof/Machine/SelfTest.lean ====
section
/-! DEFINITION. The self-test sequencer, and channels retired and returned by its results (23_test_observe.md R831–R847;
01_cabinet.md R53–R55; 08_channels.md R316–R318). -/

namespace Sys2Proof.Machine

open Sys2Proof

/-- Codes of the triggers (R834). -/
def StTrigger.code : StTrigger → Nat
  | .testEn => 1 | .svc => 2 | .schedule => 3 | .clearing => 4 | .request => 5 | .factory => 6

/-! ## The option-area choice the Kiln and the boot ROM make (R181) -/

/-- Choice between the two copies: the number chosen, if any. -/
def State.optChoice (s : State) : Option Nat :=
  let f := s.optionFloor
  let v0 := optionValid f (s.optCopyOf 0)
  let v1 := optionValid f (s.optCopyOf 1)
  match v0, v1 with
  | true, true => if leAt (s.optCopyOf 0) 4 4 < leAt (s.optCopyOf 1) 4 4 then some 1 else some 0
  | true, false => some 0
  | false, true => some 1
  | false, false => none

/-- GOLDEN entry `k` of the chosen copy's test section (R843). -/
def State.golden (s : State) (k : Nat) : Bytes := padTo 16 (slice (8 + 16 * k) 16 s.optBody)

/-! ## Partitions (R831, R832) -/

/-- Channel of a LINK_CHn or AO_CHn partition. -/
def partChannel (k : Nat) : Option (Fin 16) :=
  if h : 16 ≤ k ∧ k < 32 then some ⟨k - 16, by omega⟩
  else if h : 32 ≤ k ∧ k < 48 then some ⟨k - 32, by omega⟩ else none

/-- Reserved indices (R831). -/
def partReserved (k : Nat) : Bool := (decide (11 ≤ k) && decide (k ≤ 15)) || [56, 57, 62, 63].contains k || decide (64 ≤ k)

/-- Trigger-1 and trigger-6 runs take every partition, and nothing waits (R834, R835). -/
def StTrigger.whole : StTrigger → Bool
  | .testEn => true | .factory => true | _ => false

/-- A run of this trigger may test partition `k`: not reserved, with a golden value, not of a fused-retired channel, FABRIC only in
runs that precede the cores (R831, R832). -/
def State.partRuns (s : State) (t : StTrigger) (k : Nat) : Bool :=
  !partReserved k && (s.golden k).any (· != 0) && (k != 2 || t.whole)
    && (match partChannel k with | some c => !(s.chan c).fused | none => true)

/-- Every slot is EMPTY (R831). -/
def Ksm.allEmpty (x : Ksm) : Bool := x.slots.all (fun e => e.2.st == .empty)

/-- No ring of an engine has a pending descriptor. -/
def State.engIdle (s : State) (e : Eng) : Bool := (s.engOf e).rings.all (fun r => r.pending == 0)

/-- AO_CHn is idle (R844); the partitions of a retired channel always are (R846). -/
def Chan.testIdle (c : Chan) (t : Nat) : Bool :=
  c.retired || (((!c.latch && !c.fen) || c.eclass == .l) && c.conf.isNone
    && (match c.keep with | .idle => true | .heartbeat k => decide (t + 8 < k) | .hold k => decide (t + 8 < k)))

/-- The idle condition of partition `k` holds (R831). -/
def State.partIdle (s : State) (k : Nat) : Bool :=
  if k ≤ 1 ∨ k = 9 ∨ k = 10 then s.selft.prepared == some k
  else if k = 3 then s.engIdle .fae && s.aes.saggar.isNone
  else if k = 4 then s.mainRuns && s.engIdle .sae
  else if k = 5 then s.engIdle .dig
  else if k = 6 then s.engIdle .wmu
  else if k = 7 then s.engIdle .flc && s.flc.eraseA.isNone && s.flc.eraseB.isNone && s.flc.progs.isEmpty
    && s.flc.scrub.isNone
  else if k = 8 then s.engIdle .ksm
  else if k = 58 then s.ksm.allEmpty
  else if k = 59 then s.aes.saggar.isNone
  else if k = 60 then s.wmu.yielded.isNone && s.engIdle .wmu
  else match partChannel k with
    | some c => if k < 32 then (s.chan c).retired || s.selft.prepared == some k else (s.chan c).testIdle s.tick
    | none => true

/-! ## Retirement and return by results (R53–R55, R316–R318, R846) -/

/-- The Kiln's retirement record of channel `c` (R809 KIND 3). -/
def State.recordRetired (s : State) (c : Fin 16) : State :=
  { s with kiln := { s.kiln with retired := s.kiln.retired ||| 2 ^ c.val } }

/-- The retirement record is lifted, with POWERED of the passing run. -/
def State.recordReturned (s : State) (c : Fin 16) (at_ : Nat) : State :=
  { s with kiln := { s.kiln with
      retired := if s.kiln.retired.testBit c.val then s.kiln.retired - 2 ^ c.val else s.kiln.retired
      passedAt := s.kiln.passedAt.set c at_ } }

/-- Channel `c` is retired: at the pins, in the Kiln's record, logged and reported, and shown on the Spyhole (R53, R316, R846). Its
session ends. -/
def State.retireCh (s : State) (c : Fin 16) (pads : Bool) : State :=
  if (s.chan c).retired || (s.chan c).fused then s
  else
    let s1 := (s.linkRetire c).chOp c (fun x => { x.retire s.tick with padRetired := pads })
    ((s1.recordRetired c).wlog 0x0901 0 (beBytes 1 c.val) true).spyEvent 5 1 c.val s1.gradeNow s1.tick []

/-- Channel `c` returns to its strap class (R54, R317, R846). -/
def State.returnCh (s : State) (c : Fin 16) (at_ : Nat) : State :=
  if !(s.chan c).retired || (s.chan c).fused then s
  else
    let s1 := s.chOp c (fun x => let y := x.giveBack s.straps.cls[c] s.tick; { y with setup := y.eclass == .l })
    ((s1.recordReturned c at_).wlog 0x0902 0 (beBytes 1 c.val) true).spyEvent 5 2 c.val s1.gradeNow s1.tick []

/-- SUPERVISION_LOST is set: timers stop, the FIFO takes nothing more (R318). -/
def Chan.loseSupervision (c : Chan) : Chan := { c with supLost := true, conf := none, keep := .idle }

/-- The result of a channel's partition acts on the channel (R846). -/
def State.channelResult (s : State) (k : Nat) (c : Fin 16) (pass : Bool) (at_ : Nat) : State :=
  let cls := s.straps.cls[c]
  let both := (if k < 32 then s.selft.results.toList.getD (32 + c.val) 3 else s.selft.results.toList.getD (16 + c.val) 3) == 0
  if !pass then
    match cls with
    | .l => if k < 32 then s.updLnk c (fun l => { l with supStopped := true }) else s.chOp c Chan.loseSupervision
    | .u => s
    | _ => s.retireCh c false
  else if both then
    let s1 := (s.updLnk c (fun l => { l with supStopped := false })).updCh c (fun x => { x with supLost := false })
    if (s1.chan c).retired && !(s1.chan c).padRetired then s1.returnCh c at_ else s1
  else s

/-! ## Runs (R834–R841) -/

/-- The Kiln may begin a run of trigger 2 to 5: phase H is past, no grade above Watch, not Sherd, an option copy chosen (R834). -/
def State.mayTest (s : State) : Bool := s.wheelRuns && s.kilnReady && !s.crazed && s.pwr.optCopy.isSome

/-- A run begins with the partitions of `mask` that it may test; deferred ones go first (R834, R836). -/
def State.beginRun (s : State) (t : StTrigger) (mask : List Nat) (window : Nat) : State :=
  let s1 := s.wakeKiln
  let sel := (List.range 64).filter (fun k => mask.contains k && s1.partRuns t k)
  let first := sel.filter (fun k => s1.selft.deferred.contains k)
  let rest := sel.filter (fun k => !s1.selft.deferred.contains k)
  let full := t != .request
  let s2 := { s1 with selft := { s1.selft with
    number := (s1.selft.number + 1) % 65536, trigger := some t, startedAt := s1.powered, duration := 0
    run := some { trigger := t, todo := first ++ rest, started := s1.powered
                  close := if t.whole then none else some (s1.tick + window) }
    results := Vector.replicate 64 3, prepared := none
    lastFull := if full then s1.powered else s1.selft.lastFull } }
  s2.spyEvent 4 Config.runBeginCode.toNat Config.runBeginIndex.toNat s2.gradeNow s2.tick []

/-- A trigger of codes 2 to 5: a run begins, or it is kept; a kept trigger gives way only to one of larger mask (R834). -/
def State.triggerRun (s : State) (t : StTrigger) (mask : List Nat) (window : Nat) : State :=
  if s.life.firing = .sherd then s
  else if s.selft.run.isNone && s.mayTest then s.beginRun t mask window
  else
    let keep := match s.selft.kept with
      | none => true
      | some (_, m, _) => decide (m.length < mask.length)
    if keep then { s with selft := { s.selft with kept := some (t, mask, window) } } else s

/-- A kept trigger starts its run once none is in progress and one may begin (R834, R208). -/
def State.startKept (s : State) : State :=
  match s.selft.kept with
  | some (t, m, w) =>
    if s.selft.run.isNone && s.mayTest then { s with selft := { s.selft with kept := none } }.beginRun t m w else s
  | none => s

/-- Every partition that R831 names. -/
def fullMask : List Nat := (List.range 64).filter (fun k => !partReserved k)

/-- The result map, 16 bytes (R840). -/
def SelfT.map (x : SelfT) : Bytes := leBytes 16 ((List.finRange 64).foldl (fun n k => n + x.results[k] * 4 ^ k.val) 0)

/-- The Wheel's SELFTEST entry of the latest run, once the Wheel runs (R841, R869). -/
def State.selfLog (s : State) : State :=
  if s.selft.logDue && s.wheelRuns then
    let x := s.selft
    let fail := x.results.toList.contains 1
    let t := match x.trigger with | some t => t.code | none => 0
    { s with selft := { x with logDue := false } }.wlog 0x0905 (if fail then 1 else 0) ([0xFF] ++ beBytes 1 t ++ beBytes 2 x.number ++ x.map) true
  else s

/-- A run ends: partitions untested are DEFERRED, but for a KEYSTORE that is not empty, which is NOT_RUN (R836, R831). -/
def State.endRun (s : State) : State :=
  match s.selft.run with
  | none => s
  | some r =>
    let late := r.todo.filter (fun k => k != 58)
    let s1 := { s with selft := { s.selft with
      run := none, prepared := none, logDue := true
      deferred := late, twice := late.filter (fun k => s.selft.deferred.contains k)
      results := late.foldl (fun v k => v.setIfInBounds k 2) s.selft.results
      duration := min 65535 ((s.powered - r.started) * 1000 / 32768) } }
    s1.selfLog.startKept

/-- State that a test of partition `k` leaves: engines are reset, DIG and WMU wiped, core CSRs at their reset values
(R832, R838). -/
def State.testEffect (s : State) (k : Nat) : State :=
  match k with
  | 0 => s.updCore 0 (fun c => { ({} : Core) with pLevel := c.pLevel, regs := c.regs })
  | 1 => s.updCore 1 (fun c => { ({} : Core) with pLevel := c.pLevel, regs := c.regs })
  | 3 => s.engineReset .fae
  | 4 => s.engineReset .sae
  | 5 => s.engineReset .dig
  | 6 => s.engineReset .wmu
  | 7 => s.engineReset .flc
  | 8 => s.engineReset .ksm
  | 9 => s.engineReset .upl
  | 10 => s.dropSlip.engineReset .sjm
  | _ => s

/-- A partition's result is recorded, shown on the Spyhole, and acts on its channel (R842, R846, R851). -/
def State.partResult (s : State) (r : StRun) (k : Nat) (pass : Bool) : State :=
  let left := r.todo.filter (· != k)
  let s1 := { s with selft := { s.selft with
    run := some { r with todo := left }, prepared := if s.selft.prepared = some k then none else s.selft.prepared
    results := s.selft.results.setIfInBounds k (if pass then 0 else 1) } }
  let s2 := s1.spyEvent 4 (if pass then 0 else 1) k s1.gradeNow s1.tick []
  match partChannel k with
  | some c => s2.channelResult k c pass r.started
  | none => s2

/-- The FLASH partition's sweep of one block: pages `bad` read uncorrectable at a margin (R833). -/
def State.flashSweep (s : State) (bad : List Nat) : State :=
  let b := s.selft.flashBlock
  let hit := (bad.map (fun i => b * 512 + i % 512)).filter (fun p => s.flc.flagged p)
  let s1 := hit.foldl (fun t p => t.poisonPage p 4) s
  let s2 := { s1 with selft := { s1.selft with flashBlock := (b + 1) % 256 } }
  if hit.isEmpty then s2 else { s2 with flc := s2.flc.queue b }

/-- The start goes on once the run of its self-test phase has ended (R190, R835); the rest is the start's. -/
def State.runDone (s : State) : Bool := match s.selft.run with | some r => r.todo.isEmpty | none => false

end Sys2Proof.Machine
end

