-- ==== Sys2Proof/Machine/SlipOps.lean ====
section
/-! DEFINITION. The Slip Joint between the dies, its sessions, the legal log of the Ocnoix die and its handover
(12_metrology.md R464–R469, R481–R484, R491). -/

namespace Sys2Proof

/-- Entries per sector, and sectors, of an area. -/
def LArea.perSector : LArea → Nat
  | .interval => 128 | .daily => 64 | .event => 512
def LArea.sectors : LArea → Nat
  | .interval => 32 | .daily => 8 | .event => 24

/-- Entry size of an area. -/
def LArea.size : LArea → Nat
  | .interval => 256 | .daily => 512 | .event => 64

/-- Code of an area. -/
def LArea.code : LArea → Nat
  | .interval => 1 | .daily => 2 | .event => 3

/-- Most entries of one extract block (R469). -/
def LArea.perBlock : LArea → Nat
  | .interval => 3 | .daily => 1 | .event => 14

/-- Entries an area still holds once `n` have ever been written: the sector in use, and all but one of the others (R466). -/
def LArea.depth (a : LArea) (n : Nat) : Nat := (n - 1) % a.perSector + 1 + (a.sectors - 2) * a.perSector

end Sys2Proof

namespace Sys2Proof.Machine

open Sys2Proof

/-! ## Keys and STATE of the Ocnoix die -/

/-- Resolved value of an Ocnoix OTP word; words 0x04 to 0x0D are security words, the rest trim words (R718). -/
def Met.otpWord (m : Met) (w : Nat) : Nat :=
  let f : FuseReads := lookupD {} w m.otp
  if 0x04 ≤ w ∧ w ≤ 0x0D then f.or else f.trim.getD 0

/-- MID, 16 bytes (R718). -/
def Met.mid (m : Met) : Bytes := (List.range 4).flatMap (fun i => beBytes 4 (m.otpWord i))

/-- KL (R451). -/
def Met.kl (m : Met) : Bytes :=
  cmac m.ka ([0x6F, 0x63, 0x6E, 0x6F, 0x69, 0x78, 0x20, 0x6C, 0x65, 0x67, 0x61, 0x6C, 0x20, 0x74, 0x61, 0x67, 0x20, 0x76, 0x31] ++ m.mid)

/-- Ocnoix grade above Watch. -/
def Met.crazed (m : Met) : Bool := m.grade == .crazed || m.grade == .shattered

/-- STATE (R466), with the span's Crazed and XOM_LOST bits. -/
def Met.stateWord (m : Met) (crazed xom : Bool) : Nat :=
  bitOf (!m.sealOpen) 0 + bitOf m.sealExh 1 + bitOf crazed 2 + bitOf m.keysLost 3 + bitOf m.timeUnset 4
    + bitOf (m.m.toList.any (·.suspect)) 5 + bitOf m.substituted 6 + bitOf xom 7

/-- STATE of this moment. -/
def Met.stateNow (m : Met) : Nat := m.stateWord m.crazed (!m.xom)

/-- FITTED of the parameter set in force; zero without one (R489). -/
def Met.fitted (m : Met) : Nat := match m.lrps with | some l => l.fitted | none => 0

/-- LRPS version in force; 0 without one. -/
def Met.lrpsVersion (m : Met) : Nat := match m.lrps with | some l => l.version | none => 0

/-- TAG of the parameter set in force. -/
def Met.lrpsTag (m : Met) : Bytes := match m.lrps with | some l => padTo 16 l.tag | none => zeros 16

/-! ## The legal log (R466, R467) -/

/-- Entries of an area, newest first. -/
def Met.entries (m : Met) : LArea → List Bytes
  | .interval => m.ivLog | .daily => m.dayLog | .event => m.evLog

/-- Index of the next entry of an area. -/
def Met.nextIdx (m : Met) : LArea → Nat
  | .interval => m.ivIdx | .daily => m.dayIdx | .event => m.evIdx

/-- Handover pointer of an area (R483). -/
def Met.ptr (m : Met) : LArea → Nat
  | .interval => m.ivPtr | .daily => m.dayPtr | .event => m.evPtr

/-- Sets the handover pointer of an area. -/
def Met.setPtr (m : Met) (a : LArea) (v : Nat) : Met :=
  match a with
  | .interval => { m with ivPtr := v } | .daily => { m with dayPtr := v } | .event => { m with evPtr := v }

/-- An entry without its chain tag is appended with its tag (R466, R467). -/
def Met.append (m : Met) (a : LArea) (body : Bytes) : Met :=
  let prev := match m.entries a with | e :: _ => e.drop (a.size - 8) | [] => zeros 8
  let tag := if m.keysLost then zeros 8 else (cmac m.kl (body ++ prev)).take 8
  let l := ((body ++ tag) :: m.entries a).take (a.depth (m.nextIdx a + 1))
  match a with
  | .interval => { m with ivLog := l, ivIdx := m.ivIdx + 1 }
  | .daily => { m with dayLog := l, dayIdx := m.dayIdx + 1 }
  | .event => { m with evLog := l, evIdx := m.evIdx + 1 }

/-- Entry `i` of an area, if it is still held. -/
def Met.entryAt (m : Met) (a : LArea) (i : Nat) : Option Bytes :=
  if i < m.nextIdx a then (m.entries a)[m.nextIdx a - 1 - i]? else none

/-- An entry of the event area, with its header of the moment (R466). -/
def Met.logEvent (m : Met) (code ch : Nat) (detail : Bytes) : Met :=
  m.append .event (beBytes 1 code ++ beBytes 1 ch ++ beBytes 2 m.sealcnt ++ beBytes 4 m.mtime ++ beBytes 4 m.evIdx ++ beBytes 2 m.stateNow
    ++ [0, 0] ++ padTo 40 detail)

/-! ## The link (R481) -/

/-- One end of the link. -/
def State.slipEnd (s : State) : SjSide → SjEnd
  | .main => s.sjm.sj | .ocnoix => s.met.sj

/-- Writes one end of the link. -/
def State.setSlip (s : State) (d : SjSide) (e : SjEnd) : State :=
  match d with
  | .main => { s with sjm := { s.sjm with sj := e } }
  | .ocnoix => { s with met := { s.met with sj := e } }

/-- The Ocnoix die measures and its processor runs. -/
def State.metUp (s : State) : Bool := s.rails.vmet && s.met.running

/-- Both ends are powered. -/
def State.slipPowered (s : State) : Bool := s.metUp && s.mainUp

/-- A training: both sequences start at 0; frames not acknowledged before it are sent anew (R481). -/
def SjEnd.train (e : SjEnd) : SjEnd :=
  { e with up := true, lseq := 0, expect := 0, credit := 8, acked := 0xFFFF, unacked := []
           waiting := (e.unacked.map (fun f => { f with sends := 1 })) ++ e.waiting }

/-- Powered ends train when either is down. -/
def State.trainSlip (s : State) : State :=
  if s.slipPowered && !(s.sjm.sj.up && s.met.sj.up) then
    (s.setSlip .main s.sjm.sj.train).setSlip .ocnoix s.met.sj.train
  else s

/-- Numbers new frames from LSEQ `n`. -/
def numberFrames (n : Nat) : List SjFrame → List SjFrame
  | [] => []
  | f :: l => { f with lseq := n % 65536 } :: numberFrames (n + 1) l

/-- New frames go out while the credit lasts: those sent beyond the acknowledgement that came with it are taken from it (R481). -/
def SjEnd.pump (e : SjEnd) : SjEnd × List SjFrame :=
  let fs := numberFrames e.lseq (e.waiting.take (e.credit - e.unacked.length))
  ({ e with unacked := e.unacked ++ fs, waiting := e.waiting.drop fs.length, lseq := (e.lseq + fs.length) % 65536 }, fs)

/-- Sends what an end may send. -/
def State.pumpSlip (s : State) (d : SjSide) : State :=
  let (e, fs) := (s.slipEnd d).pump
  fs.foldl (fun t f => t.emit (.slip d f.type f.payload)) (s.setSlip d e)

/-- An end sends a frame; a session frame takes the next session counter (R481, R482). An end with no peer or no session sends none, and
before its session is live only CONFIRM. -/
def State.slipSend (s : State) (d : SjSide) (type : Nat) (payload : Bytes) (session : Bool) : State :=
  if !s.slipPowered then s
  else
    let s0 := s.trainSlip
    let e := s0.slipEnd d
    match session, e.sess with
    | false, _ => (s0.setSlip d { e with waiting := e.waiting ++ [{ lseq := 0, type := type, payload := payload }] }).pumpSlip d
    | true, some x =>
      if type = 0x10 || x.live then
        (s0.setSlip d { e with
          sess := some { x with ctrTx := x.ctrTx + 1 }
          waiting := e.waiting ++ [{ lseq := 0, type := type, payload := payload, ctr := some x.ctrTx }] }).pumpSlip d
      else s0
    | true, none => s0

/-- From `s`, end `d` has taken a frame with the effects of `t`: where it has accepted one and no frame of its own carries the
acknowledgement, it sends an IDLE frame (R481). -/
def State.ackIdle (s : State) (d : SjSide) (t : State) : State :=
  let a := s.trainSlip.slipEnd d
  let b := t.slipEnd d
  if t.slipPowered && t.sjm.sj.up && t.met.sj.up && b.expect != a.expect && b.lseq == a.lseq && b.waiting.isEmpty then t.slipSend d 0x00 [] false
  else t

/-- MAC of a session frame: over TYPE, FLAGS, LEN, the session counter and the payload (R482). -/
def slipMac (key : Bytes) (type ctr : Nat) (payload : Bytes) : Bytes :=
  cmac key (beBytes 1 type ++ [1] ++ beBytes 2 payload.length ++ beBytes 8 ctr ++ payload)

/-- The die's end of its session: noted for R480, and a load in progress is abandoned (R861). -/
def Met.endSession (m : Met) : Met :=
  let live := match m.sj.sess with | some x => x.live | none => false
  let m1 := { m with sj := { m.sj with sess := none }, sessEnd := if live then m.sec else m.sessEnd }
  match m.sj.sess, m1.load with
  | some _, some l => { m1 with load := none }.logEvent 0x05 0xFF (beBytes 1 l.kind ++ [6])
  | _, _ => m1

/-- An end's session ends. -/
def State.endSlip (s : State) (d : SjSide) : State :=
  match d with
  | .main => s.dropSlip
  | .ocnoix => { s with met := s.met.endSession }

/-- The frames an acknowledgement leaves unacknowledged. -/
def afterAck (ack : Nat) (l : List SjFrame) : List SjFrame :=
  if l.any (fun f => f.lseq == ack) then (l.dropWhile (fun f => f.lseq != ack)).drop 1 else l

/-- A frame reaches end `d`. It is taken only where its CRC is right and its LSEQ the next; its ACK and CREDIT then apply. A session
frame that fails its MAC or counter drops the session (R481, R482). The answer says whether the frame's content is accepted. -/
def State.slipTake (s : State) (d : SjSide) (type : Nat) (session : Bool) (f : SjRx) : State × Bool :=
  if !s.slipPowered then (s, false)
  else
    let s0 := match d with | .main => s.trainSlip.wakeMain | .ocnoix => s.trainSlip
    let e := s0.slipEnd d
    if !f.crcOk || f.lseq % 65536 != e.expect then (s0, false)
    else
      let e1 := { e with expect := (e.expect + 1) % 65536, credit := min 8 f.credit, acked := f.ack % 65536, unacked := afterAck f.ack e.unacked }
      let s1 := (s0.setSlip d e1).pumpSlip d
      match session, (s1.slipEnd d).sess with
      | false, _ => (s1, true)
      | true, none => (s1, false)
      | true, some x =>
        if f.ctr = x.ctrRx && f.mac == slipMac x.kRx type f.ctr f.payload then
          let e2 := s1.slipEnd d
          (s1.setSlip d { e2 with sess := some { x with ctrRx := x.ctrRx + 1 } }, true)
        else ((s1.endSlip d).reschedule, false)

/-- A frame of a live session: its content is accepted once both CONFIRMs have passed (R482). -/
def State.slipTakeLive (s : State) (d : SjSide) (type : Nat) (f : SjRx) : State × Bool :=
  let live := match (s.slipEnd d).sess with | some x => x.live | none => false
  let (t, ok) := s.slipTake d type true f
  (t, ok && live)

/-! ## Blocks and handover (R469, R483, R484) -/

/-- A whole block: header, payload, TAG; its BSEQ is the next (R469). -/
def Met.block (m : Met) (btype state : Nat) (payload : Bytes) : Bytes :=
  let body := beBytes 1 btype ++ [1] ++ beBytes 2 (64 + payload.length) ++ m.mid ++ beBytes 8 (m.bseq + 1) ++ beBytes 4 m.swid
    ++ beBytes 2 m.sealcnt ++ beBytes 2 state ++ beBytes 4 m.lrpsVersion ++ beBytes 4 m.mtime ++ zeros 4 ++ payload
  body ++ (if m.keysLost then zeros 16 else cmac m.kl body)

/-- A Slip Joint session is live at the die. -/
def Met.live (m : Met) : Bool := match m.sj.sess with | some x => x.live | none => false

/-- Blocks may be handed over (R484). -/
def State.handsOver (s : State) : Bool := s.slipPowered && s.met.live && !s.met.crazed && !s.met.keysLost

/-- Builds and sends the block of entries [first, first + count) of an area. -/
def State.sendBlock (s : State) (btype state : Nat) (a : LArea) (first count : Nat) (payload : Bytes) : State :=
  let b := s.met.block btype state payload
  let s1 := { s with met := { s.met with bseq := s.met.bseq + 1, blocks := s.met.blocks ++ [(s.met.bseq + 1, a, first, count, false)] } }
  s1.slipSend .ocnoix 0x12 b true

/-- Payload of an extract block of entries `es` from index `i` (R469). -/
def extractPayload (a : LArea) (i : Nat) (es : List Bytes) : Bytes :=
  beBytes 1 a.code ++ beBytes 1 es.length ++ [0, 0] ++ beBytes 4 i ++ es.flatten

/-- One extract block of up to a block's worth of entries from index `i`. -/
def State.sendExtract (s : State) (a : LArea) (i n : Nat) : State :=
  let es := (List.range n).filterMap (fun j => s.met.entryAt a (i + j))
  if es.isEmpty then s
  else s.sendBlock 4 s.met.stateNow a i es.length (extractPayload a i es)

/-- Extract blocks over [i, i + n) of an area; entries no longer held are left out. -/
def State.sendExtracts : (fuel : Nat) → State → LArea → (i n : Nat) → State
  | 0, s, _, _, _ => s
  | f + 1, s, a, i, n =>
    if n = 0 then s
    else
      let k := min n a.perBlock
      State.sendExtracts f (s.sendExtract a i k) a (i + k) (n - k)

/-- Oldest index still held of an area. -/
def Met.oldest (m : Met) (a : LArea) : Nat := m.nextIdx a - (m.entries a).length

/-- When a session becomes live, every entry from each pointer on is handed over, oldest first (R483). -/
def State.catchUp (s : State) : State :=
  if !s.handsOver then s
  else
    let go := fun (t : State) (a : LArea) =>
      let i := max (t.met.ptr a) (t.met.oldest a)
      t.sendExtracts (t.met.nextIdx a - i) a i (t.met.nextIdx a - i)
    [LArea.interval, .daily, .event].foldl go { s with met := { s.met with blocks := [] } }

/-- An entry of the event area (R466). It is handed over at once while a session is live (R483). -/
def State.metEvent (s : State) (code ch : Nat) (detail : Bytes) : State :=
  let m := s.met
  let s1 := { s with met := m.logEvent code ch detail }
  if s1.handsOver then
    match s1.met.entryAt .event m.evIdx with
    | some e => s1.sendBlock 3 s1.met.stateNow .event m.evIdx 1 e
    | none => s1
  else s1

/-- First index from `i` on that no acknowledged block covers. -/
def advancePtr (done : List (Nat × LArea × Nat × Nat × Bool)) (a : LArea) : (fuel : Nat) → (i : Nat) → Nat
  | 0, i => i
  | f + 1, i =>
    match done.find? (fun b => b.2.2.2.2 && b.2.1 == a && decide (b.2.2.1 ≤ i ∧ i < b.2.2.1 + b.2.2.2.1)) with
    | some b => advancePtr done a f (b.2.2.1 + b.2.2.2.1)
    | none => i

/-- A HACK covers blocks; the pointers advance past what they carry (R483). -/
def Met.hack (m : Met) (first last : Nat) : Met :=
  let bs := m.blocks.map (fun b => if first ≤ b.1 ∧ b.1 ≤ last then (b.1, b.2.1, b.2.2.1, b.2.2.2.1, true) else b)
  let step := fun (x : Met) (a : LArea) => x.setPtr a (advancePtr bs a bs.length (x.ptr a))
  let m1 := [LArea.interval, .daily, .event].foldl step m
  { m1 with blocks := bs.filter (fun b => decide (m1.ptr b.2.1 < b.2.2.1 + b.2.2.2.1)) }

/-! ## The register journal (R464, R491) -/

/-- Commits a register-journal entry of the present registers. -/
def Met.commit (m : Met) : Met :=
  let img := if m.fwActive = 0 then m.fwA.image else m.fwB.image
  let j : MetJournal :=
    { regs := m.m.toList.map (fun x => (x.eimp, x.eexp, x.aimp, x.aexp)), mtime := m.mtime, sealOpen := m.sealOpen
      sealcnt := m.sealcnt, bseq := m.bseq, ptrs := [m.ivPtr, m.dayPtr, m.evPtr], sessions := m.sessions, keysLost := m.keysLost
      bank := m.fwActive, digest := sha2 .sha256 img, idx := [m.ivIdx, m.dayIdx, m.evIdx] }
  { m with journal := some j }

/-- SWID: the first 4 bytes of SHA-256 over the active image (R473). -/
def swidOf (img : Bytes) : Nat := ofBe ((sha2 .sha256 img).take 4)

/-! ## Sessions (R482) -/

/-- A direction's session key (R482). -/
def slipKey (kp : Bytes) (dir : Nat) (nm no : Bytes) : Bytes :=
  cmac kp (beBytes 1 dir ++ [0x73, 0x6C, 0x69, 0x70, 0x20, 0x6A, 0x6F, 0x69, 0x6E, 0x74, 0x20, 0x76, 0x31] ++ nm ++ no)

/-- No of a session count (R482). -/
def slipNo (kp : Bytes) (count : Nat) : Bytes := aesEnc kp ([0x6F, 0x63, 0x6E, 0x78] ++ beBytes 8 count ++ zeros 4)

/-- KP on the main die: key slot 3, LIVE and not sealed. -/
def State.pairKey (s : State) : Option Bytes :=
  let k := s.ksm.slot 3
  if k.st == .live && !s.ksm.sealed then some k.mat else none

/-- The Wheel sends HELLO_M at a periodic wake while no session is live (R482, R870). -/
def State.slipHello (s : State) : State :=
  let live := match s.sjm.sj.sess with | some x => x.live | none => false
  if live || !s.slipPowered || !s.wheelRuns || s.crazed || s.pairKey.isNone || !s.ksm.drbgOk then s
  else
    let nm := Config.freeBytes s.freeCount 16
    let s1 := s.drbg
    let s2 := { s1 with sjm := { s1.sjm with sj := { s1.sjm.sj with nm := nm, sess := none } } }
    s2.slipSend .main 0x01 nm false

/-- HACKs go out for the blocks whose LEGAL records have reached the retention ring (R483). -/
def State.sendHacks (s : State) : State :=
  if s.sjm.hacks.isEmpty then s
  else
    let waits := fun (n : Nat) => s.upl.todo.any (fun e => e.1 == 7 && beAt e.2 (4 + 20) 8 == n)
      || s.upl.held.any (fun r => r.type == 7 && beAt r.body (4 + 20) 8 == n)
    let go := s.sjm.hacks.filter (fun n => !waits n)
    let s1 := { s with sjm := { s.sjm with hacks := s.sjm.hacks.filter waits } }
    go.foldl (fun t n => t.slipSend .main 0x13 (beBytes 8 n ++ beBytes 8 n) true) s1

/-- A TIME frame of the Kiln's time and its TIME_Q goes to the die, at each valid beacon and once a session is live (R468, R497). -/
def State.sendTime (s : State) : State :=
  let live := match s.sjm.sj.sess with | some x => x.live | none => false
  if live && s.wheelRuns then
    let u := (s.kiln.timeAt s.tick).toNat
    s.slipSend .main 0x11 (beBytes 4 (u / 65536) ++ beBytes 2 (u % 65536) ++ beBytes 1 s.timeQ ++ [0]) true
  else s

/-- The Slip Joint is down for 1 ms: both ends' sessions drop and the SJM rings complete ABORT_PEER (R481, R602). -/
def State.slipLost (s : State) : State := ((s.endSlip .ocnoix).endSlip .main).abortPeer

/-- A short press reaches the Ocnoix die as a PRESS frame, or is counted and logged as lost (R477, R495, R862). -/
def State.sendPress (s : State) : State :=
  if s.slipPowered && s.wheelUp && !s.crazed then s.wakeMain.slipSend .main 0x03 [] false
  else
    let n := sat16 s.sjm.pressLost
    { s with sjm := { s.sjm with pressLost := n } }.wlog 0x0D02 0 (beBytes 2 n) false

end Sys2Proof.Machine
end

