-- ==== Sys2Proof/Machine/Factory.lean ====
section
/-! DEFINITION. Factory test mode: the factory order, personalisation and the FACTORY series of the Spyhole (06_lifecycle.md R224;
23_test_observe.md R847). -/

namespace Sys2Proof.Machine

open Sys2Proof

/-- Public key of slot `k` as IDENTITY carries it; zero where the slot is not LIVE. -/
def State.pubOf (s : State) (k : Nat) (p384 : Bool) : Bytes :=
  let x := s.ksm.slot k
  if x.st = .live then Config.publicKey p384 x.mat else zeros (if p384 then 96 else 64)

/-- The FACTORY events of one item, in fragments of 32 bytes (R847). -/
def State.factoryItem (s : State) (code : Nat) (b : Bytes) : State :=
  (List.range (ceilDiv b.length 32)).foldl (fun t i => t.spyEvent 6 code i t.gradeNow t.tick (slice (32 * i) 32 b)) s

/-- The whole series: the identity and the public keys of slots 0, 1 and 2 (R847). -/
def State.factorySeries (s : State) : State :=
  (((s.factoryItem 1 s.deviceId).factoryItem 2 (s.pubOf 0 false)).factoryItem 3 (s.pubOf 1 false)).factoryItem 4 (s.pubOf 2 true)

/-- Counters in SYNC mode at personalisation (R706). -/
def syncAtStart : List Nat := [0, 2, 3, 4]

/-- The identity, the wrapping key and the four reserved keys come from the DRBG; the Slip Joint is paired (R224, R691, R701). -/
def State.makeKeys (s : State) : State :=
  let k := s.freeCount
  let part := fun (off n : Nat) => Config.freeBytesAt k off n
  let s0 := s.tick1
  let s1 := (List.range 4).foldl (fun t i => t.burn (4 + i) (ofBe (part (4 * i) 4))) s0
  let s2 := { s1 with fuses := { s1.fuses with kfa := (List.range 8).map (fun i => let v := ofBe (part (16 + 4 * i) 4); ⟨v, v, v, v⟩) } }
  let s3 := (((s2.newKey 0 5 0x160 0x80 true (part 48 32)).newKey 1 5 0x120 0x80 true (part 80 32)).newKey 2 6 0x120 0x80 true
    (part 112 48)).newKey 3 1 0x001 0x80 true (part 160 16)
  let v := s3.met.otpWord 4 ||| 3
  { s3 with met := { s3.met with kp := part 160 16, otp := putD {} 4 ⟨v, v, v, v⟩ s3.met.otp } }

/-- Personalisation and the transition to Bisque (R224, R217): keys, hashes, counters at zero in their first modes, the firing burned, then
the series. -/
def State.personalise (s : State) (o : FactoryOrder) : State :=
  let s1 := ((s.makeKeys.burnHash 0x08 o.vendorHash).burnHash 0x14 o.rootHash).burn 0x00 1
  let s2 := { s1 with
    ksm := { s1.ksm with cnt := [], sync := syncAtStart, tail := [], entries := [], entryPages := 0, comp := some ⟨0, [], syncAtStart⟩ }
    life := { s1.life with firing := .bisque, lastApplied := .bisque } }
  ((s2.klog 0x0401 (beBytes 1 0 ++ beBytes 1 1)).spyEvent 3 (Config.transitionCode 0 1).toNat 0 s.gradeNow s.tick []).factorySeries

/-- The Ocnoix die has started and passed its own tests (R217, R487). -/
def State.metPassed (s : State) : Bool := s.rails.vmet && s.met.hold.isNone && s.met.m.toList.all (fun x => !x.chainFault)

/-- The order is carried out once fuses may be burned (R214, R847): scrap, personalisation, or neither. -/
def State.factoryOrder (s : State) : State :=
  match s.selft.factoryDue, s.fuses.order with
  | some pass, some o =>
    if !s.burnOk || s.provisional then s
    else
      let s1 := { s with selft := { s.selft with factoryDue := none } }
      if o.scrap then s1.zeroize .factory
      else if pass && o.valid && s.metPassed then s1.personalise o else s1
  | some _, none => { s with selft := { s.selft with factoryDue := none } }
  | none, _ => s

end Sys2Proof.Machine
end

