-- ==== Sys2Proof/Machine/Starts.lean ====
section
/-! DEFINITION. From power to service: the phases of a start, run one after another until one has to wait
(05_startup.md R170–R208; 06_lifecycle.md R213–R221; 22_kiln.md R805–R807, R821, R827). -/

namespace Sys2Proof.Machine

open Sys2Proof

/-- A START message of the Spyhole for phase `n` of A to H (R851). -/
def State.spyPhase (s : State) (n : Nat) : State := s.spyEvent 2 (Config.phaseCode n).toNat 0 s.gradeNow s.tick []

/-- The next phase of the start under way. -/
def State.toPhase (s : State) (p : Phase) : State := { s with pwr := { s.pwr with phase := p } }

/-! ## Strap reading in the log and the start-up record (R106, R418) -/

/-- The level byte of a CODE pin in records: bit 7 marginal, level 0 when marginal (R418). -/
def CodePin.levelByte (p : CodePin) : Nat := bitOf p.marginal 7 + p.levelField

/-- A resistance in records: 3 bytes, 0xFF_FFFF out of window (R418). -/
def resBytes : Option Nat → Bytes
  | none => [0xFF, 0xFF, 0xFF]
  | some r => beBytes 3 r

/-- CODEk carries the classes of two channels that are both fused retired (R108). -/
def State.pinFused (s : State) (k : Nat) : Bool :=
  decide (k < 8) && (s.chan (dom (2 * k))).fused && (s.chan (dom (2 * k + 1))).fused

/-- The Kiln, awake after the reading has settled, logs and keeps it once in each power-up (R106). -/
def State.recordStraps (s : State) : State :=
  if s.straps.phase != .settled || s.straps.recorded || !s.kilnReady then s
  else
    let pin := fun (k : Fin 12) => (s.straps.code[k] : CodePin)
    let prev := fun (k : Fin 12) => (s.kiln.strapHist[k] : Nat)
    let changed := fun (k : Fin 12) => prev k != 0xFF && prev k != (pin k).levelByte
    let bits := fun (f : Fin 12 → Bool) => (List.finRange 12).foldl (fun n k => n + bitOf (f k) k.val) 0
    let watch := (List.finRange 12).any (fun k => ((pin k).marginal || changed k) && !s.pinFused k.val)
    let levels := (List.finRange 12).foldl (fun n k => n + (pin k).levelField * 16 ^ k.val) 0
    let block := (List.finRange 12).flatMap (fun k =>
      beBytes 1 (pin k).levelByte ++ resBytes (pin k).resA ++ resBytes (pin k).resB ++ beBytes 1 (prev k))
    let s1 := { s with
      straps := { s.straps with recorded := true }
      kiln := { s.kiln with strapHist := Vector.ofFn (fun k => (pin k).levelByte), strapBlock := block } }
    s1.logEv 0x0201 (if watch then 1 else 0) 0 (beBytes 2 (bits (fun k => (pin k).marginal)) ++ beBytes 2 (bits changed) ++ beBytes 6 levels) watch

/-! ## Phase B: fuses and the log (R174–R178, R213, R221, R239, R805, R807) -/

/-- Kind of a fuse word in FUSE_MARGINAL: 0 trim, 1 security, 2 lifecycle (R808). -/
def fuseKindCode (w : Nat) : Nat := if w = 0 then 2 else match fuseKind w with | .trim => 0 | _ => 1

/-- Marginal copies of a word; a trim word clean and unequal counts as both (R175). -/
def marginalsOf (trim : Bool) (f : FuseReads) : Nat := if trim && f.trim.isNone then 2 else f.marginals

/-- One FUSE_MARGINAL entry for each marginal copy; Watch for security and lifecycle words (R177). -/
def State.logMarginal (s : State) (addr kind n : Nat) (f : FuseReads) : State :=
  let body := beBytes 2 addr ++ beBytes 4 f.pl ++ beBytes 4 f.ph ++ beBytes 4 f.rl ++ beBytes 4 f.rh ++ beBytes 1 kind
  (List.range n).foldl (fun t _ => if kind = 1 ∨ kind = 2 then t.watch 0x0203 body else t.klog 0x0203 body) s

/-- Every main-die word with its kind is logged where marginal. -/
def State.logMarginals (s : State) : State :=
  let s1 := s.fuses.words.foldl (fun t e =>
    t.logMarginal e.1 (fuseKindCode e.1) (marginalsOf (fuseKindCode e.1 == 0) e.2) e.2) s
  (List.range 8).foldl (fun t i =>
    t.logMarginal (0x8000 + i) 3 (marginalsOf true (s.fuses.kfa.getD i {})) {}) s1

/-- Count of marginal fuse copies of the main-die words (R418 START). -/
def State.countMarginals (s : State) : Nat :=
  s.fuses.words.foldl (fun n e => n + marginalsOf (fuseKindCode e.1 == 0) e.2) 0

/-- Resolution of every word (R175). -/
def State.resolveFuses (s : State) : State :=
  let res := s.fuses.words.filterMap (fun e =>
    match e.2.resolve (fuseKind e.1) with | some v => if v = 0 then none else some (e.1, v) | none => none)
  let s1 := { s with fuses := { s.fuses with res := res }
                     ksm := { s.ksm with kfaClean := s.fuses.kfa.all (fun f => f.cleanP && f.cleanR) } }
  { s1 with life := { s1.life with firing := firingOf (s1.fuse 0) } }

/-- Address of the first word that holds the part: a trim word or a key-array word without a usable copy (R175, R178, R701). -/
def State.fuseHold (s : State) : Option Nat :=
  match s.fuses.words.find? (fun e => fuseKindCode e.1 == 0 && e.2.trim.isNone) with
  | some e => some e.1
  | none => (((List.range 8).find? (fun i => (s.fuses.kfa.getD i {}).trim.isNone)).map (fun i => 0x8000 + i))

/-- LC_PATTERN's detail (R808). -/
def State.lcDetail (s : State) (kind : Nat) : Bytes :=
  let f := s.fuseReads 0
  beBytes 1 kind ++ beBytes 4 (s.fuse 0) ++ beBytes 4 (f.pl ||| f.ph) ++ beBytes 4 (f.rl ||| f.rh) ++ beBytes 1 s.life.lastApplied.code

/-- An unapplied staged record accounts for the firing found (R220), or a zeroization does (R266). -/
def State.firingExplained (s : State) : Bool :=
  (match s.life.staged with | some g => !g.applied && g.target == s.life.firing | none => false)
    || (s.life.firing == .sherd && (s.tamp.sherdLatch.isSome || s.tamp.zeroRecord.isSome))

/-- The lifecycle word is judged: irregular pattern, unequal or marginal copies, a firing later than the last applied transition
(R213, R221, R239). -/
def State.judgeLc (s : State) : State :=
  let f := s.fuseReads 0
  let s1 := if lcRegular (s.fuse 0) then s else s.watch 0x0404 (s.lcDetail 0)
  let bad := !f.cleanP || !f.cleanR || f.pl != f.rl
  let s2 := if bad then s1.watch 0x0404 (s1.lcDetail 1) else s1
  let s3 := { s2 with fuses := { s2.fuses with completion := bad } }
  if s3.life.lastApplied.code < s3.life.firing.code && !s3.firingExplained then s3.watch 0x0404 (s3.lcDetail 2) else s3

/-- Reserved words that read a 1 (R717). -/
def State.logReserved (s : State) : State :=
  s.fuses.res.foldl (fun t e => if fuseKind e.1 = .reserved then t.watch 0x0208 (beBytes 2 e.1 ++ beBytes 4 e.2) else t) s

/-- Channels found fused retired by the Kiln's resolution (R906). -/
def State.fuseChannels (s : State) : State :=
  s.eachCh (fun c t =>
    if (t.fuse 1).testBit c.val && !(t.chan c).fused then
      t.chOp c (fun x => { x with fused := true, eclass := .u, fifo := []
                                  fenPad := x.fenPad.park true t.tick, lnkPad := x.lnkPad.park true t.tick }.clearLatch.settle t.tick)
    else t)

/-- The log's count and POWERED are restored (R805, R807); a lost tail is recorded. -/
def State.restoreLog (s : State) : State :=
  let (n, c, p) := match s.kiln.log with
    | e :: _ => (e.lseq, e.chain, e.powered)
    | [] => (0, zeros 16, 0)
  let s1 := if s.pwr.cause = .cold then { s with kiln := { s.kiln with poweredBase := p } } else s
  if s1.kiln.tailLost then
    { s1 with kiln := { s1.kiln with tailLost := false, nextLseq := n + 9, chain := c } }.klog 0x0106 (beBytes 8 n)
  else s1

/-- Phase B (R172). A word held marginal ends the start in the FUSE_MARGINAL hold (R178). -/
def State.phaseB (s : State) : State :=
  let s0 := { s with pwr := { s.pwr with kiln := .running } }
  let s1 := (s0.resolveFuses.restoreLog).drainLog
  let s2 := s1.logMarginals.logReserved
  let s3 := (s2.judgeLc.fuseChannels).spyPhase 1
  let s4 := { s3 with pwr := { s3.pwr with marginalCopies := s.countMarginals, phaseBDone := true } }
  match s4.fuseHold with
  | some w =>
    { s4 with pwr := { s4.pwr with kiln := .rom, main := .off, holdReason := some .fuseMarginal, holdWord := w, phase := .idle } }
  | none => s4.toPhase .c

/-! ## Phase C: grading and main power (R203, R141, R167) -/

/-- The latched VCORE loss is logged and graded, once its window has closed (R141, R203, R258). -/
def State.gradeVcore (s : State) : State :=
  let s0 := { s with pwr := { s.pwr with vcoreLoss := .none } }
  match s.pwr.vcoreLoss with
  | .none => s
  | .ordered => { s0 with pwr := { s0.pwr with vcoreOrdered := true } }.klog 0x0105 (beBytes 1 0)
  | .unordered t =>
    let s1 := { s0 with pwr := { s0.pwr with vcoreUnordered := true } }.advanceTo (t + 66)
    let s2 := s1.klog 0x0105 (beBytes 1 1)
    if s2.suspended then s2.gradeTrip ⟨1, 0, t⟩
    else match s2.tamp.excusing t with
      | some ref => s2.excuse ⟨1, 0, t⟩ ref
      | none => s2.gradeTrip ⟨1, 0, t⟩

/-- The trips the AO island latched while the Kiln could not run are graded in order (R203, R244). -/
def State.gradeLatches (s : State) : State :=
  let l := s.tamp.latches
  l.foldl (fun t e => t.gradeTrip e) { s with tamp := { s.tamp with latches := [] } }

/-- Zeroization is still to be done or completed: Shattered was latched, or SHERD is burned and no completion recorded (R239, R268,
R277). -/
def State.zeroDue (s : State) : Option SherdCause :=
  let done := match s.tamp.zeroRecord with | some (6, _) => true | _ => false
  if s.tamp.grade = .shattered ∨ (s.life.firing = .sherd ∧ !done) then
    match s.tamp.sherdLatch, s.tamp.zeroRecord with
    | some c, _ => some c
    | none, some (_, c) => some c
    | none, none => some .tamper
  else none

/-- Phase C (R172, R203): grading; Crazed keeps the main island Off; otherwise it is powered and the FPLL locks. -/
def State.phaseC (s : State) : State :=
  let s1 := s.recordStraps.gradeVcore.gradeLatches
  let s2 := match s1.zeroDue with | some c => s1.zeroize c | none => s1
  if s2.tamp.grade = .crazed then
    { s2 with pwr := { s2.pwr with main := .off, crazedWait := true } }.quiet
  else
    match s2.clk.lockFails with
    | some true => { s2 with clk := { s2.clk with lockFails := none, fpllFailedAt := some s2.tick }, pwr := { s2.pwr with main := .off } }.klog 0x0108 []
    | _ =>
      let s3 := { s2 with clk := { s2.clk with lockFails := none, fpllFailedAt := none, fpllLocked := true, fpllXo25 := s2.clk.fpllXo25 && s2.clk.lockFails != some false }
                          pwr := { s2.pwr with main := .running, mainWdogFrom := some s2.tick, phase := .selftest } }
      s3.spyPhase 2

/-! ## TEST_EN at power-up (R116, R190, R835, R847) -/

/-- A run of a start has ended, or there is none to make: the start goes on, or the factory order is carried out (R835, R847). -/
def State.afterRun (s : State) (t : StTrigger) (pass : Bool) : State :=
  match t with
  | .factory => { s with selft := { s.selft with factoryDue := some pass } }.factoryOrder
  | _ => s.toPhase .d

/-- The run of a power-up with TEST_EN high begins, with the option copy that the Kiln chooses itself (R835). -/
def State.startRun (s : State) (t : StTrigger) : State :=
  match s.optChoice with
  | none => s.afterRun t false
  | some k =>
    let s1 := { s with pwr := { s.pwr with optCopy := some k } }.beginRun t fullMask 0
    if s1.runDone then s1.endRun.afterRun t false else s1

/-- Between phases C and D (R116, R190). The reading of TEST_EN waits for the first CODE pass of the power-up. -/
def State.phaseSelf (s : State) : State :=
  if s.selft.run.isSome || s.straps.phase == .none then s
  else
    let te := s.straps.testEnStart
    match s.life.firing with
    | .greenware => if s.selft.factory then s else if te then { s with selft := { s.selft with factory := true } }.startRun .factory else s.enterHold .noImage
    | .sherd => (if te && s.pwr.cause == .cold then s.klog 0x0207 (beBytes 1 0 ++ beBytes 1 4) else s).toPhase .d
    | f => if s.selft.factory then s else if te && s.pwr.cause == .cold then (s.watch 0x0207 (beBytes 1 0 ++ beBytes 1 f.code)).startRun .testEn else s.toPhase .d

/-! ## Phase D: option area and first measurements (R181, R185) -/

/-- The digest field of an option copy. -/
def optDigest (c : Bytes) : Bytes := slice 0x10 48 c

/-- What is logged of the two copies at the choice (R181). -/
def State.logOptions (s : State) : State :=
  let f := s.optionFloor
  let v := fun k => optionValid f (s.optCopyOf k)
  let bad := fun (t : State) (k : Nat) => if v k then t else t.klogRep 0x0204 (beBytes 1 k ++ [1])
  let s1 := bad (bad s 0) 1
  if v 0 && v 1 && leAt (s.optCopyOf 0) 4 4 == leAt (s.optCopyOf 1) 4 4 && optDigest (s.optCopyOf 0) != optDigest (s.optCopyOf 1)
  then s1.watch 0x0204 ([0, 2]) else s1

/-- Resolved lifecycle, security and ratchet words in ascending address, 4 bytes each (R650). -/
def State.fuseWords (s : State) : Bytes :=
  ((List.range 256).filter (fun w => fuseKind w == .security)).flatMap (fun w => beBytes 4 (s.fuse w))

/-- Addresses of marginal words, 2 bytes each, ascending (R650). -/
def State.marginalWords (s : State) : Bytes :=
  (s.fuses.words.filter (fun e => marginalsOf (fuseKindCode e.1 == 0) e.2 != 0)).flatMap (fun e => beBytes 2 e.1)

/-- MEAS0 (R185, R650). -/
def State.measureRom (s : State) : State :=
  ((s.measure 0 0 0x0001 (beBytes 4 Config.romVersion)).measure 0 0 0x0002 s.fuseWords).measure 0 0 0x0003 s.marginalWords

/-- The chosen copy `k` is taken and measured into MEAS1; in Greenware and Sherd the start ends here (R185, R189). -/
def State.takeOption (s : State) (k : Nat) : State :=
  let c := s.optCopyOf k
  let s1 := { s with pwr := { s.pwr with optCopy := some k } }
  let s2 := (s1.measure 1 0 0x0101 (beBytes 1 k ++ beBytes 4 (leAt c 4 4) ++ optDigest c)).spyPhase 3
  match s.life.firing with
  | .sherd => (if s2.straps.phase == .settled then s2.channelsToSherd else s2).toPhase .done
  | .greenware => s2.toPhase .done
  | _ => s2.toPhase .e

/-- The DRBG is instantiated and the mesh generator seeded (R243, R700). -/
def State.seedAll (s : State) : State :=
  { s with ksm := { s.ksm with trng := .ok, drbgReady := true, drbgReq := 0, reseedDue := false }
           tamp := { s.tamp with meshSeeded := true } }

/-- Phase D (R172): the DRBG serves, the mesh is seeded, the option copy is chosen, MEAS0 and MEAS1 are extended; in Sherd the identity
reporter follows (R189). -/
def State.phaseD (s : State) : State :=
  let s1 := s.seedAll.logOptions.measureRom
  match s1.optChoice with
  | none => { s1 with pwr := { s1.pwr with optCopy := none } }.enterHold .optionInvalid
  | some k => s1.takeOption k

/-! ## Phase E: the Wheel bank (R187, R188, R821) -/

/-- The install record of Wheel bank `b`. -/
def State.wheelOf (s : State) (b : Nat) : Option Install := s.kiln.installs.find? (fun x => x.wheel && x.copy b != .absent)

/-- Updates the install record of Wheel bank `b`. -/
def State.updWheel (s : State) (b : Nat) (f : Install → Install) : State :=
  { s with kiln := { s.kiln with installs := s.kiln.installs.map (fun x => if x.wheel ∧ x.copy b ≠ .absent then f x else x) } }

/-- CNT2 as the boot ROM reads it from the journal (R188). -/
def Ksm.journalCnt (x : Ksm) (k : Nat) : Nat :=
  let v0 := match x.comp with | some c => lookupD 0 k c.values | none => 0
  x.entries.foldl (fun v e => match e with | .inc j w => if j = k then w else v | .advance j w => if j = k then w else v | _ => v) v0

/-- Banks that qualify under step 1 of R188, the preferred one first. -/
def State.banks (s : State) : List Nat :=
  let floor := s.ksm.journalCnt 2
  let ok := fun b => match s.wheelOf b with | some x => x.copy b == .present && decide (floor ≤ x.release) | none => false
  let rel := fun b => match s.wheelOf b with | some x => x.release | none => 0
  match ok 0, ok 1 with
  | true, true => if rel 0 < rel 1 then [1, 0] else [0, 1]
  | true, false => [0]
  | false, true => [1]
  | false, false => []

/-- A bank is marked damaged and logged (R188, R821). -/
def State.damageBank (s : State) (b : Nat) : State :=
  match s.wheelOf b with
  | some x => (s.updWheel b (fun y => y.damage b)).klogRep 0x0504 (damagedDetail x b)
  | none => s

/-- Tries the banks in order: a trial image is counted, and given up at a count of 3; a bank whose digest fails is marked damaged
(R188, R821). -/
def State.tryBanks : (l : List Nat) → State → State × Option Nat
  | [], s => (s, none)
  | b :: l, s =>
    match s.wheelOf b with
    | none => State.tryBanks l s
    | some x =>
      if x.trial && decide (3 ≤ x.trialCount) then State.tryBanks l (s.damageBank b)
      else
        let s1 := if x.trial then s.updWheel b (fun y => { y with trialCount := y.trialCount + 1 }) else s
        if x.good b then (s1, some b) else State.tryBanks l (s1.damageBank b)

/-- The flags byte of the START record (R418). -/
def Pwr.flags (p : Pwr) : Nat := bitOf p.leftHold 0 + bitOf p.leftFuseHold 1 + bitOf p.vcoreOrdered 2 + bitOf p.vcoreUnordered 3

/-- Version of the running Wheel. -/
def State.wheelVer (s : State) : Nat :=
  match s.pwr.bank with | some b => (match s.wheelOf b with | some x => x.version | none => 0) | none => 0

/-- Phase E (R172): once the straps have settled, a bank is chosen and verified; core 0 hands over to the Wheel (R504), which locks
MEAS0 to MEAS3. -/
def State.phaseE (s : State) : State :=
  if s.straps.phase != .settled then s
  else
    let s0 := s.recordStraps
    let pref := s0.banks
    match State.tryBanks pref s0 with
    | (s1, none) => s1.enterHold .noImage
    | (s1, some b) =>
      let x := (s1.wheelOf b).getD {}
      let s2 := { s1 with pwr := { s1.pwr with bank := some b, bankFallback := pref.head? != some b } }
      let s3 := s2.measure 2 0 0x0201 (beBytes 1 b ++ beBytes 4 x.version ++ padTo 48 x.digest)
      let s4 := (s3.measure 3 0 0x0301 (beBytes 1 s3.pwr.cause.code ++ beBytes 1 s3.pwr.flags)).measure 3 0 0x0302 s3.kiln.strapBlock
      let s5 := { s4 with dig := { s4.dig with bootLock := true } }
      let s6 := (s5.updCore 0 (fun c => { c with pLevel := true, level := .p1 })).updCore 1 (fun c => { c with wfi := true })
      (s6.spyPhase 4).toPhase .f

/-! ## Phase F: journal, keys, staged commits, contracts (R172, R220, R703, R709) -/

/-- A slot as its newest record restores it (R703). -/
def slotOf (r : KeyRec) : Slot :=
  if !r.good then { st := .lost, persist := true, gen := r.gen }
  else if r.cls = 0 then { gen := r.gen }
  else { st := .live, cls := r.cls, usage := r.usage, owner := r.owner, persist := true, gen := r.gen, mat := r.mat }

/-- Every persistent slot is restored; a LOST one is logged and reported (R703, R704). -/
def State.restoreKeys (s : State) : State :=
  s.ksm.area.foldl (fun t r =>
    let t1 := { t with ksm := { t.ksm with slots := putD {} r.slot (slotOf r) t.ksm.slots } }
    if r.good then t1 else t1.klogRep 0x0704 (beBytes 1 r.slot ++ beBytes 2 r.gen)) s

/-- The journal is restored and a pending cold start counted in CNT0 (R709, R714). -/
def State.restoreCounters (s : State) : State :=
  let s1 := s.restoreJournal
  if s1.ksm.coldPending then (let t := s1.cntInc 0; { t with ksm := { t.ksm with coldPending := false } }) else s1

/-- Records at or above the ack floor are unacknowledged and sent again; the floors of the beacons are the saved ones (R429, R440). -/
def State.restoreUplink (s : State) : State :=
  { s with upl := { s.upl with
      ring := s.upl.ring.map (fun r => { r with acked := decide (r.seq < s.upl.ackFloor), sentA := none, sendsA := 0, sentB := none, sendsB := 0 })
      floors := s.upl.savedFloors, savedAt := none
      intake := s.upl.intake.map (fun (x : Intake) => { x with lastStored := s.tick }) } }

/-- The key-slot binding table, 2048 bytes (R705). -/
def Ksm.bindings (x : Ksm) : Bytes :=
  (List.range 256).flatMap (fun k =>
    let y := x.slot k
    let st := match y.st with | .empty => 0 | .live => 1 | .lost => 2
    beBytes 1 k ++ beBytes 1 (st + bitOf y.persist 7) ++ beBytes 1 (if y.st = .empty then 0 else y.cls) ++ beBytes 1 y.owner
      ++ beBytes 2 y.usage ++ beBytes 2 y.gen)

/-- STEM_RING_POLICY of a ring (R577). -/
def Ring.policyWord (r : Ring) : Nat :=
  bitOf r.enable 31 + bitOf r.haltPart 30 + bitOf r.notify 29 + r.ownerLevel * 16 + r.ownerDomain

/-- STEM_RING_BASE, _SIZE and _POLICY of every ring, in the order of R574 (R650). -/
def State.ringWords (s : State) : Bytes :=
  s.eng.toList.flatMap (fun e => e.rings.flatMap (fun r => beBytes 4 r.base ++ beBytes 4 r.log2 ++ beBytes 4 r.policyWord))

/-- Active IPT registers, then gate registers, in register-address order (R650, R565, R566). -/
def Prot.words (p : Prot) : Bytes :=
  p.ipt.toList.flatMap (fun r => beBytes 4 r.start ++ beBytes 4 r.stop ++ beBytes 4 r.perm)
    ++ p.gate.toList.flatMap (fun r => beBytes 4 (r.start + r.stop) ++ beBytes 4 r.perm)

/-- MEAS5: each contract in force in channel order, then the disposition record, in their bundle encoding (R650). -/
def State.measureContracts (s : State) : State :=
  let s1 := s.eachCh (fun c t => if t.contractFits c then (match t.contract c with | some k => t.measure 5 1 0x0501 k.bytes | none => t) else t)
  s1.measure 5 1 0x0502 (beBytes 2 s1.life.disposition ++ [0, 0])

/-- Phase F (R172). -/
def State.phaseF (s : State) : State :=
  let s1 := s.restoreKeys.restoreCounters.restoreUplink
  let s2 := s1.startStaged.settleContracts
  let s3 := ((s2.measure 4 1 0x0401 s2.prot.words).measure 4 1 0x0402 s2.ksm.bindings).measure 4 1 0x0403 s2.ringWords
  (s3.measureContracts.spyPhase 5).toPhase .g

/-- Phase G (R172, R776): applets are loaded in the order of their install records. -/
def State.phaseG (s : State) : State :=
  let s0 := s.freeOld none
  let s1 := s0.kiln.installs.foldl (fun t x => t.loadApplet x) s0
  let s2 := (List.finRange 16).foldl (fun t d => if (t.appOf d).man.isSome && (t.appOf d).quar.isNone then t.appletApplied d else t) s1
  (s2.spyPhase 6).toPhase .h

/-! ## Phase H: service entry and the start-up record (R184, R191, R418, R821, R827) -/

/-- Binary straps of the START record (R418). -/
def Bins.byte (b : Bins) : Nat := bitOf b.testEn 0 + bitOf b.doorOpen 1 + bitOf b.pfailLow 2 + bitOf b.svcLow 3

/-- BODY of the START record (R418). -/
def State.startBody (s : State) : Bytes :=
  let k := s.pwr.optCopy.getD 0
  let hold := if s.pwr.leftHold || s.pwr.leftFuseHold then (match s.pwr.holdReason with | some r => r.code | none => 0) else 0
  beBytes 1 s.pwr.cause.code ++ beBytes 1 s.pwr.flags ++ beBytes 1 hold ++ beBytes 1 k ++ beBytes 4 (leAt (s.optCopyOf k) 4 4)
    ++ beBytes 1 (s.pwr.bank.getD 0) ++ beBytes 1 (bitOf s.pwr.bankFallback 0) ++ [0, 0] ++ beBytes 4 s.wheelVer
    ++ padTo 96 s.kiln.strapBlock ++ (List.finRange 16).flatMap (fun c => beBytes 1 (s.chFlags c))
    ++ beBytes 1 s.pwr.marginalCopies ++ beBytes 1 s.bins.byte ++ [0, 0]

/-- Every channel's control path is set up, and each H and A channel that is not retired enters service (R48, R191, R299). -/
def State.enterService (s : State) : State :=
  s.eachCh (fun c t =>
    let t1 := t.updCh c (fun x => { x with setup := !x.retired && !x.fused })
    if (t1.chan c).eclass.guarded && !(t1.chan c).retired then
      t1.chOp c (fun x => x.enter (t1.contractFits c) t1.freezeCond t1.tick)
    else t1)

/-- Each channel's partner state starts at Absent with the Wheel (R392, R396, R399). -/
def State.restartPartners (s : State) : State :=
  s.eachCh (fun c t => if t.linkServed c then t.partnerRestart c else t.updLnk c (fun l => { l with pstate := .absent }))

/-- OPTION_FLOOR is raised when both copies agree and R214 allows; else the raise stays pending (R184). -/
def State.raiseOption (s : State) : State :=
  let f := s.optionFloor
  let c0 := s.optCopyOf 0
  let c1 := s.optCopyOf 1
  let g := min 64 (leAt c0 4 4)
  if optionValid f c0 && optionValid f c1 && leAt c0 4 4 == leAt c1 4 4 && optDigest c0 == optDigest c1 && decide (f < g) then
    if s.burnOk && !s.provisional then
      let s1 := (List.range (g - f)).foldl (fun t i => t.burn (0x3B + (f + i) / 32) (2 ^ ((f + i) % 32))) s
      { s1 with pwr := { s1.pwr with floorRaise := false } }.klogRep 0x0505 (beBytes 2 0xFFFE ++ beBytes 8 f ++ beBytes 8 g)
    else { s with pwr := { s.pwr with floorRaise := true } }
  else { s with pwr := { s.pwr with floorRaise := false } }

/-- Burns that waited are made as soon as R214 allows (R184, R219, R221, R226). -/
def State.retryBurns (s : State) : State :=
  let s1 := s.pendingBurns.factoryOrder
  if s1.pwr.floorRaise && s1.wheelRuns then s1.raiseOption else s1

/-- A new Wheel that has reached phase H clears TRIAL, raises CNT2 where its record says so, and reports its bundle applied
(R817, R821). -/
def State.trialDone (s : State) : State :=
  match s.pwr.bank with
  | none => s
  | some b =>
    match s.wheelOf b with
    | none => s
    | some x =>
      let s1 := if x.trial then s.updWheel b (fun y => { y with trial := false }) else s
      let old := s1.ksm.cntOf 2
      let s2 := if x.raiseFloor && decide (old < x.release) then
          (s1.cntAdvance 2 (x.release - old)).klogRep 0x0505 (beBytes 2 2 ++ beBytes 8 old ++ beBytes 8 x.release)
        else s1
      if x.trial && s2.kiln.bundle == .staged && leAt s2.bundleData 6 1 == 1 then s2.bundleOutcome 0 0 else s2

/-- An install cut off before its record was written is repeated from the verification of the stored bundle; a bundle that has been lost
is reported with result 7 (R827). -/
def State.resumeInstall (s : State) : State :=
  if s.kiln.bundle = .installing then
    match s.upl.complete with
    | some c => { s with kiln := { s.kiln with bundle := .verifying, verifying := some (0, c.total, c.id) } }
    | none => s.bundleOutcome 7 0
  else s

/-- Phase H (R172): service entry, the first decisions, the start-up record; start-up is complete (R186, R193). -/
def State.phaseH (s : State) : State :=
  let s1 := s.enterService.toPhase .done
  let s2 := { s1 with pwr := { s1.pwr with startupComplete := true }, dig := { s1.dig with lock := true } }
  let s3 := s2.releaseAll .main
  let s4 := s3.decideAll
  let body := s4.startBody
  let s5 := (s4.klog 0x0101 (body.take 4)).report 0x01 body
  let s6 := { s5 with pwr := { s5.pwr with leftHold := false, leftFuseHold := false, vcoreOrdered := false, vcoreUnordered := false, holdReason := none } }
  let s7 := (s6.drainLog.drainReports).restartPartners.raiseOption.trialDone
  ((s7.resumeInstall.selfLog.startKept).spyPhase 7).reschedule.fetchAll

/-! ## Running a start -/

/-- Nothing lets the start go on now: a rail is invalid, nRST is low, the power-fail wait runs before phase C, or Crazed has to clear
(R196, R202, R203). -/
def State.startBlocked (s : State) : Bool :=
  !s.railsOk || s.bins.nrstLow || s.bins.pfailLow || s.bins.pfailHighSince.isSome || s.pwr.crazedWait

/-- One phase of the start under way. -/
def State.startStep (s : State) : State :=
  if s.startBlocked then s
  else match s.pwr.phase with
    | .b => s.phaseB
    | .c => if s.clk.fpllFailedAt.isSome then s else s.phaseC
    | .selftest => s.phaseSelf
    | .d => s.phaseD
    | .e => s.phaseE
    | .f => s.phaseF
    | .g => s.phaseG
    | .h => s.phaseH
    | .idle => s
    | .done => s

/-- The start runs its phases until one has to wait. -/
def State.runStart (s : State) : State := (List.range 9).foldl (fun t _ => t.startStep) s

/-- A start begins with its cause at phase B, or at phase C for a main-watchdog restart (R170, R197). The first start after VAO became
valid is the cold one. -/
def State.beginStart (s : State) (cause : StartCause) : State :=
  let cold := !s.pwr.coldBegun
  let c : StartCause := if cold then .cold else cause
  let p : Phase := if c = .mainWdog then .c else .b
  { s with
    pwr := { s.pwr with cause := c, phase := p, phaseBDone := c == StartCause.mainWdog, coldBegun := true, crazedWait := false, flushDone := false }
    clk := { s.clk with fpllFailedAt := none } }.runStart

/-- A Hold or a FUSE_MARGINAL hold is left: the next START record says so (R171, R201). -/
def State.leaveHold (s : State) : State :=
  match s.pwr.main, s.pwr.holdReason with
  | .hold _, _ => { s with pwr := { s.pwr with leftHold := true } }
  | _, some .fuseMarginal => { s with pwr := { s.pwr with leftFuseHold := true } }
  | _, _ => s

/-- Crazed raised while a start is between phases C and H abandons it; it runs again from phase C at clearing (R203). -/
def State.crazedStart (s : State) : State :=
  if s.tamp.grade = .crazed && s.starting && !s.pwr.crazedWait && s.pwr.phase != .b && s.pwr.phase != .c then
    let s1 := s.holdMainReset .off
    { s1 with pwr := { s1.pwr with phase := .c, crazedWait := true } }
  else s

end Sys2Proof.Machine
end

