-- ==== Sys2Proof/Machine/Islands.lean ====
section
/-! DEFINITION. Commands of rails, the power-fail warning, nRST and the watchdogs (04_power_clocks.md R132–R142, R164,
R165; 05_startup.md R170, R196–R205). -/

namespace Sys2Proof.Machine

open Sys2Proof

/-- An open anomaly of a dip whose rail has become invalid ends its hold and is logged as Watch (R274). -/
def State.dipLost (s : State) (cause : Nat) : State :=
  let hit := s.tamp.holds.filter (fun a => a.cause == cause)
  let s1 := { s with tamp := { s.tamp with holds := s.tamp.holds.filter (fun a => a.cause != cause) } }
  let s2 := hit.foldl (fun t a => t.gradeWatch ⟨a.cause, a.index, a.tick⟩) s1
  if hit.isEmpty then s2 else s2.endHold

/-- A trip during a start may abandon it (R203, R280); a call it cuts off makes its applet READY. -/
def State.settleGrade (s : State) : State := s.crazedStart.reschedule

/-- The Kiln and the main island are held in reset: nothing is flushed, and a Hold ends (R140, R196, R201). -/
def State.holdBoth (s : State) : State :=
  let s1 := (s.leaveHold.holdMainReset .reset).kilnStop .reset
  { s1 with pwr := { s1.pwr with crazedWait := false } }

/-- What the AO island, the Kiln's memories and the main island hold is lost with VAO; flash and OTP contents, and what the Ocnoix die
holds, are kept (R134, R140, R195). -/
def State.loseAo (s : State) : State :=
  let s1 := (s.dipLost 0x07).leaveHold.mainReset
  { s1 with
    rails := { s1.rails with vao := false }
    tick := 0, tickHi := 0
    straps := {}, bins := {}, clk := {}
    ch := Vector.replicate 16 {}, link := Vector.replicate 16 {}
    pwr := { leftHold := s1.pwr.leftHold, leftFuseHold := s1.pwr.leftFuseHold, holdReason := s1.pwr.holdReason }
    tamp := { zeroRecord := s1.tamp.zeroRecord, crazedAt := s1.tamp.crazedAt, glitchAt := s1.tamp.glitchAt
              excuses := s1.tamp.excuses, suspendedUntil := s1.tamp.suspendedUntil }
    kiln := { s1.kiln with
      tailLost := s1.kiln.tailLost || !(s1.bins.pfailLow || s1.pwr.flushDone), tail := [], todo := []
      poweredBase := s1.powered
      timeSt := .unset, anchor := 0, anchorTick := 0, rate := 0, slew := none, unsignedTime := false, timeSet := false
      prevBeacon := none, kept := [] }
    upl := { s1.upl with a := {}, b := {}, dropped := 0, todo := [], savedAt := none }
    selft := { s1.selft with run := none, kept := none, prepared := none, factory := false }
    spy := {}, sjm := {} }

/-- Fuse words with both copies clean. -/
def cleanFuses (l : List (Nat × Nat)) (old : List (Nat × FuseReads)) : List (Nat × FuseReads) :=
  l.foldl (fun m e => putD {} e.1 ⟨e.2, e.2, e.2, e.2⟩ m) old

/-- Nothing has been written into the part yet. -/
def State.blank (s : State) : Bool :=
  s.fuses.words.isEmpty && s.opt[0].isEmpty && s.opt[1].isEmpty && s.fuses.order.isNone && s.kiln.installs.isEmpty

/-- What wafer probe wrote into a blank part (R231, R847; log 1). The factory Wheel image lies at the start of both image areas. -/
def State.deliver (s : State) (x : Probe) : State :=
  { s with
    fuses := { s.fuses with words := cleanFuses x.fuses s.fuses.words, order := x.order }
    opt := #v[x.opt0, x.opt1]
    met := { s.met with otp := cleanFuses x.otp s.met.otp, kv := padTo 16 x.kv, ka := padTo 16 x.ka
                        fwA := if x.fw.isEmpty then {} else { version := x.fwVersion, image := x.fw, ok := true } }
    kiln := { s.kiln with installs := if x.wheel.isEmpty then [] else
      [{ wheel := true, release := x.release, version := wheelVersion x.wheel, length := x.wheel.length, digest := sha2 .sha384 x.wheel
         bankA := .present, bankB := .present, imgA := x.wheel, imgB := x.wheel, firstA := 0, firstB := 128 }] } }

/-- VAO_VALID (R172): the AO island powers up with the binary straps as first accepted; every channel found fused retired is known
(R906); a cold start begins where the other rails are valid and nRST is high (R170, R202). -/
def execVaoValid (testEn svcLow doorOpen pfailLow nrstLow : Bool) (probe : Probe) (s0 : State) : Out :=
  .next (if s0.rails.vao then s0 else
    let s := if s0.blank then s0.deliver probe else s0
    let fused := (s.fuseReads 1).or
    let s1 := { s with
      rails := { s.rails with vao := true }
      bins := { s.bins with testEn := testEn, svcLow := svcLow, doorOpen := doorOpen, pfailLow := pfailLow, nrstLow := nrstLow
                            svcIgnored := svcLow }
      ksm := { s.ksm with coldPending := true }
      pwr := { s.pwr with coldBegun := false } }
    let s2 := s1.eachCh (fun c t => t.updCh c (fun x => if fused.testBit c.val then { x with fused := true } else x))
    let s3 := if doorOpen then s2.gradeWatch ⟨0x12, 0, s2.tick⟩ |>.watch 0x0206 [1] else s2
    if s3.railsOk && !nrstLow then s3.beginStart .cold else s3)

/-- VAO_INVALID (R140): the whole main die is held in reset, AO state is lost and every FEN is high-impedance (R37). -/
def execVaoInvalid (s : State) : Out := .next (if s.rails.vao then s.loseAo else s)

/-- A rail of the Kiln and the main island has become valid again: both start once nRST is high (R142, R170). -/
def State.railBack (s : State) : State := if s.railsOk && !s.bins.nrstLow then s.beginStart .railReturn else s

/-- VIO_VALID (R170). -/
def execVioValid (s : State) : Out :=
  .next (if s.rails.vio then s else ({ s with rails := { s.rails with vio := true } }.lnkPadsUp).railBack)

/-- VIO_INVALID (R140): the Kiln and the main island are held in reset; PHYs and transceivers go down, the LNK pads
high-impedance (R82). -/
def execVioInvalid (s : State) : Out :=
  .next (if !s.rails.vio then s
    else if !s.rails.vao then { s with rails := { s.rails with vio := false } }
    else { ((s.dipLost 0x06).holdBoth).lnkPadsDown with rails := { s.rails with vio := false } })

/-- VCORE_VALID (R170). -/
def execVcoreValid (s : State) : Out :=
  .next (if s.rails.vcore then s else { s with rails := { s.rails with vcore := true } }.railBack)

/-- The VCORE-loss latch: ordered after the completed sequence of R137, else unordered while the Kiln or the main island is powered; the
latch outlives the loss (R141). -/
def State.latchVcore (s : State) : VcoreLoss :=
  match s.pwr.vcoreLoss with
  | .unordered t => .unordered t
  | _ =>
    if s.pwr.flushDone then .ordered
    else if s.kilnRuns || s.pwr.main != .off then .unordered s.tick
    else s.pwr.vcoreLoss

/-- VCORE_INVALID (R141): the Kiln and the main island lose all state, and the AO island latches the loss. -/
def execVcoreInvalid (s : State) : Out :=
  .next (if !s.rails.vcore then s
    else if !s.rails.vao then { s with rails := { s.rails with vcore := false } }
    else
      let l := s.latchVcore
      let s1 := s.holdBoth
      { s1 with rails := { s1.rails with vcore := false }, pwr := { s1.pwr with vcoreLoss := l, main := .off, kiln := .off } }.xo25Stop)

/-- A start that has not reached phase C waits with the main island Off (R202). -/
def State.startWaits (s : State) : Bool := s.pwr.phase == .b || s.pwr.phase == .c

/-- PFAIL_FALL (R137): a reference event; guarded outputs freeze and the flush is made, or the start stops where it stands (R164,
R165, R202). -/
def execPfailFall (s : State) : Out :=
  .next (if !s.rails.vao || s.bins.pfailLow then s else
    let s1 := { s with bins := { s.bins with pfailLow := true, pfailHighSince := none } }
    let s2 := (s1.reference .pfail).freezeAll .pfail
    if !s2.railsOk || s2.bins.nrstLow || s2.pwr.flushDone || (s2.startWaits && !s2.pwr.crazedWait) then s2
    else s2.powerFailFlush.settleGrade)

/-- PFAIL_RISE (R139): a reference event; the wait of 3277 ticks starts. -/
def execPfailRise (s : State) : Out :=
  .next (if !s.rails.vao || !s.bins.pfailLow then s else
    let s1 := { s with bins := { s.bins with pfailLow := false, pfailHighSince := some s.tick, pfailFrom := s.tick } }
    ((s1.reference .pfail).releaseAll .pfail))

/-- The Kiln alone restarts after a power-fail wait, the main island staying in its hold (R139, R178, R199). -/
def State.kilnReturns (s : State) (st : KilnSt) : State :=
  let s1 := { s.resolveFuses with pwr := { s.pwr with kiln := st, flushDone := false } }
  s1.drainLog.tick1.klog 0x0104 (beBytes 1 1 ++ beBytes 2 (Config.freeNat s1.freeCount))

/-- The restart when PFAIL has been accepted high for 3277 ticks (R139, R202). -/
def State.powerFailRestart (s : State) : State :=
  if !s.railsOk || s.bins.nrstLow then s
  else if s.starting then s.runStart
  else if !s.pwr.flushDone then s
  else match s.pwr.main, s.pwr.holdReason with
    | .hold r, _ => s.kilnReturns (if r == HoldReason.kilnLoop then .rom else .running)
    | _, some .fuseMarginal => s.kilnReturns .rom
    | _, _ => (s.tick1.klog 0x0104 (beBytes 1 1 ++ beBytes 2 (Config.freeNat s.freeCount))).beginStart .powerFail

/-- POWER_FAIL_RESTART (R139). -/
def execPowerFailRestart (s : State) : Out :=
  .next (match s.bins.pfailHighSince with
    | some t =>
      if s.rails.vao && s.clk.tickSrc.isSome then
        let s1 := (s.advanceTo (t + 3277)).closeWindows
        { s1 with bins := { s1.bins with pfailHighSince := none } }.powerFailRestart
      else s
    | none => s)

/-- PFAIL_GLITCH (R165). -/
def execPfailGlitch (s : State) : Out :=
  .next (if s.rails.vao then { s with bins := { s.bins with pfailGlitch := sat16 s.bins.pfailGlitch } } else s)

/-- NRST_LOW (R196). -/
def execNrstLow (s : State) : Out :=
  .next (if !s.rails.vao || s.bins.nrstLow then s
    else
      let s1 := { s with bins := { s.bins with nrstLow := true } }
      if s1.railsOk then s1.holdBoth else s1)

/-- NRST_HIGH (R196): the start runs from phase B with cause external reset. -/
def execNrstHigh (s : State) : Out :=
  .next (if !s.rails.vao || !s.bins.nrstLow then s
    else
      let s1 := { s with bins := { s.bins with nrstLow := false } }
      if s1.railsOk then s1.beginStart .external else s1)

/-- NRST_GLITCH (R196). -/
def execNrstGlitch (s : State) : Out :=
  .next (if s.rails.vao then { s with bins := { s.bins with nrstGlitch := sat16 s.bins.nrstGlitch } } else s)

/-- A main-watchdog expiry now: Watch, every pending descriptor aborted, then a restart from phase C, or Hold at the fourth within
600 s (R197, R199). -/
def State.mainExpiry (s : State) : State :=
  let hist := wdogHistory s.tick s.pwr.mainWdogAt
  let s1 := { s with pwr := { s.pwr with mainWdogAt := hist } }
  let s2 := s1.watch 0x0103 (beBytes 1 0 ++ beBytes 1 (min 255 hist.length))
  let s3 := s2.abortEngines allEngines .abortReset
  if 4 ≤ hist.length then s3.enterHold .watchdogLoop
  else (s3.holdMainReset .reset).beginStart .mainWdog

/-- MAIN_WATCHDOG_EXPIRY (R197): the period from its last restart has passed on a Running island. -/
def execMainWatchdogExpiry (s : State) : Out :=
  .next (match s.pwr.mainWdogFrom with
    | some t => if s.mainRuns then ((s.advanceTo (t + s.wdogPeriod)).closeWindows).mainExpiry else s
    | none => s)

/-- The Kiln alone restarts from its ROM: phases B and C run again; otherwise the fuses are not re-read, a run in progress is abandoned
with its trigger kept, and what the flash holds staged is taken up (R170, R205, R868, R869). -/
def State.kilnRestart (s : State) : State :=
  let s1 := { (s.kilnStop .running) with spy := { s.spy with fill := 0 } }
  if s.startWaits then (s1.toPhase .b).runStart
  else
    let kept := match s1.selft.run with
      | some r => some (r.trigger, (List.range 64).filter (fun k => r.todo.contains k), (match r.close with | some c => c - s1.tick | none => 0))
      | none => s1.selft.kept
    let s2 := s1.abandonRun
    let s3 := { s2 with selft := { s2.selft with kept := kept }, pwr := { s2.pwr with cause := .kilnWdog } }
    let s4 := if s3.tamp.grade = .crazed then s3.quiet else s3
    s4.drainLog.resumeInstall.pendingBurns

/-- KILN_WATCHDOG_EXPIRY (R198): the Kiln ring is aborted and the Kiln alone restarts; the fourth expiry within 600 s puts the main island
in Hold and leaves the Kiln in its ROM (R199). -/
def execKilnWatchdogExpiry (s : State) : Out :=
  .next (if !s.kilnRuns || s.clk.tickSrc.isNone then s else
    let hist := wdogHistory s.tick s.pwr.kilnWdogAt
    let s1 := { s with pwr := { s.pwr with kilnWdogAt := hist } }
    let s2 := (s1.abortEngine .kiln .abortReset).watch 0x0103 (beBytes 1 1 ++ beBytes 1 (min 255 hist.length))
    if 4 ≤ hist.length then (s2.enterHold .kilnLoop).kilnStop .rom else s2.kilnRestart)

end Sys2Proof.Machine
end

