-- ==== Sys2Proof/Machine/Clocks.lean ====
section
/-! DEFINITION. Commands of clock sources and references (04_power_clocks.md R146–R155, R166–R168). -/

namespace Sys2Proof.Machine

open Sys2Proof

/-- Updates the clock state. -/
def State.updClk (s : State) (f : Clk → Clk) : State := { s with clk := f s.clk }

/-- A CLOCK entry: reference 0 XO32, 1 XO25, 2 beacon, 3 tick sources; 0 lost, 1 qualified, 2 returned (R808). -/
def State.clockLog (s : State) (ref ev : Nat) : State := s.klog 0x0107 (beBytes 1 ref ++ beBytes 1 ev)

/-- XO25 runs while the Kiln or the main island is not Off (R146). -/
def State.xo25Runs (s : State) : Bool := s.railsOk && (s.pwr.kiln != .off || s.pwr.main != .off)

/-- A switch of the tick source begins; one in progress is completed first (R150, R151). -/
def Clk.toTick (c : Clk) (src : TickSrc) : Clk := if c.tickSrc == some src then c else { c with tickSwitch := some src }

/-- A switch of the FPLL reference begins; with the FPLL not running the reference is only chosen. -/
def Clk.toFpll (c : Clk) (xo25 : Bool) : Clk :=
  if c.fpllXo25 == xo25 then c else if c.fpllLocked then { c with fpllSwitch := some xo25 } else { c with fpllXo25 := xo25 }

/-! ## Adoption (R149) -/

/-- XO32 takes the tick with no tick source left (R155), or is adopted at the next tick boundary. -/
def Clk.adoptXo32 (c : Clk) : Clk :=
  let c1 := { c with xo32 := { c.xo32 with up := true, adopted := true, lost := false } }
  if c1.tickSwitch.isSome then { c1 with held := c1.held ++ [.tickBack .xo32] } else c1.toTick .xo32

/-- A tick source returns: the bypass is left, NOTICK is released and the failure's end is logged (R155, R315). -/
def State.tickReturns (s : State) (src : TickSrc) : State :=
  let s1 := s.updClk (fun c =>
    { c with tickSrc := some src, tickSwitch := none, rc32 := c.rc32 || src == .rc32
             xo32 := if src == .xo32 then { c.xo32 with up := true, adopted := true, lost := false } else c.xo32 })
  let s2 := s1.releaseAll .notick
  s2.clockLog 3 2

/-- XO32_START_CHECK (R149): a crystal not adopted since VAO became valid is adopted; one that was lost returns so only where no tick
source is left (R152, R155). -/
def execXo32StartCheck (s : State) : Out :=
  .next (if !s.rails.vao then s
    else if s.clk.tickSrc.isNone then s.tickReturns .xo32
    else if s.clk.xo32.adopted then s
    else s.updClk Clk.adoptXo32)

/-- XO25_START_CHECK (R149): XO25 becomes the FPLL reference and the PHYs' clock; one that was lost must qualify (R152). -/
def execXo25StartCheck (s : State) : Out :=
  .next (if !s.xo25Runs || s.clk.xo25.adopted then s
    else s.updClk (fun c =>
      let c1 := { c with xo25 := { c.xo25 with up := true, adopted := true, lost := false } }
      if c1.fpllSwitch.isSome then { c1 with held := c1.held ++ [.qualified .xo25] } else c1.toFpll true))

/-! ## Loss (R148, R151, R155) -/

/-- Both tick sources are lost: in-service guarded outputs freeze under NOTICK; logged and reported (R155, R311). -/
def State.tickLost (s : State) : State :=
  let s1 := s.closeWindows.freezeAll .notick
  let s2 := s1.updClk (fun c =>
    { c with tickSrc := none, tickSwitch := none, rc32 := false, held := []
             xo32 := { c.xo32 with up := false, lost := c.xo32.adopted, qualified := false } })
  s2.klogRep 0x0107 [3, 0]

/-- The fallback of a lost XO32: RC32 drives the tick (R148). -/
def State.xo32Falls (s : State) : State :=
  if s.clk.tickSrc != some .xo32 then s
  else if s.clk.rc32 then s.updClk (fun c => c.toTick .rc32)
  else s.tickLost

/-- XO32_LOST (R148): declared lost after adoption; during a switch of the tick source its fallback is held (R151). A qualification
measured against it is abandoned (R168). -/
def execXo32Lost (s : State) : Out :=
  .next (if !s.rails.vao || !s.clk.xo32.up then s
    else
      let s1 := (s.updClk (fun c => { c with xo32 := { c.xo32 with up := false, lost := true, qualified := false } })).clockLog 0 0
      if s1.clk.tickSwitch.isSome then s1.updClk (fun c => { c with held := c.held ++ [.lost .xo32] }) else s1.xo32Falls)

/-- XO25_LOST (R148, R154): the FPLL falls back to RC25 and both uplink ports go down. -/
def execXo25Lost (s : State) : Out :=
  .next (if !s.clk.xo25.up then s
    else
      let s1 := s.updClk (fun c => { c with xo25 := { c.xo25 with up := false, lost := true, qualified := false } })
      let s2 := (s1.clockLog 1 0).portsDown
      if s2.clk.fpllSwitch.isSome then s2.updClk (fun c => { c with held := c.held ++ [.lost .xo25] })
      else s2.updClk (fun c => c.toFpll false))

/-- BEACON_REFERENCE_LOST (R148): no valid beacon accepted for 600 s. -/
def execBeaconReferenceLost (s : State) : Out :=
  .next (match s.clk.lastBeacon with
    | some t =>
      if s.rails.vao && s.clk.tickSrc.isSome && (s.clk.beaconQual || s.kiln.timeSt == .disciplined) then
        let s1 := (s.advanceTo (t + 19660800)).closeWindows
        (s1.updClk (fun c => { c with beaconQual := false, beaconRun := 0 })).undiscipline.clockLog 2 0
      else s
    | none => s)

/-! ## Qualification (R148, R149, R152) -/

/-- XO32 has qualified against a start-checked XO25; a lost one comes back by a switch at the next tick boundary. -/
def State.qualifyXo32 (s : State) : State :=
  if !s.rails.vao || !s.clk.xo32.adopted || !s.clk.xo25.up || (s.clk.xo32.up && s.clk.xo32.qualified) then s
  else
    let s1 := (s.updClk (fun c => { c with xo32 := { c.xo32 with up := true, lost := false, qualified := true } })).clockLog 0 1
    if s1.clk.tickSwitch.isSome then s1.updClk (fun c => { c with held := c.held ++ [.qualified .xo32] })
    else s1.updClk (fun c => c.toTick .xo32)

/-- XO25 has qualified against a qualified XO32. -/
def State.qualifyXo25 (s : State) : State :=
  if !s.xo25Runs || !s.clk.xo25.adopted || !s.clk.xo32.qualified || (s.clk.xo25.up && s.clk.xo25.qualified) then s
  else
    let s1 := (s.updClk (fun c => { c with xo25 := { c.xo25 with up := true, lost := false, qualified := true } })).clockLog 1 1
    if s1.clk.fpllSwitch.isSome then s1.updClk (fun c => { c with held := c.held ++ [.qualified .xo25] })
    else s1.updClk (fun c => c.toFpll true)

/-- Three consecutive valid beacons qualify the beacon reference: DISCIPLINED (R148, R810). -/
def State.qualifyBeacon (s : State) : State :=
  if s.clk.beaconQual || decide (s.clk.beaconRun < 3) then s
  else ((s.updClk (fun c => { c with beaconQual := true })).discipline).clockLog 2 1

/-- QUALIFICATION_COMPLETE (R152). -/
def execQualificationComplete (r : RefId) (s : State) : Out :=
  .next (if s.clk.tickSrc.isNone then s else match r with
    | .xo32 => s.qualifyXo32 | .xo25 => s.qualifyXo25 | .beacon => s.qualifyBeacon)

/-! ## Switches (R150, R151) -/

/-- A held event concerns the tick source. -/
def HeldRef.ofTick : HeldRef → Bool
  | .lost .xo32 => true | .qualified .xo32 => true | .tickBack _ => true | _ => false

/-- What was held during a switch is acted on: the last event of the reference decides, since each was logged as it came. -/
def State.actHeld (s : State) (h : HeldRef) : State :=
  match h with
  | .lost .xo32 => if s.clk.xo32.up then s else s.xo32Falls
  | .qualified .xo32 => if s.clk.xo32.up then s.updClk (fun c => c.toTick .xo32) else s
  | .tickBack src => if src == .xo32 && !s.clk.xo32.up then s else s.updClk (fun c => c.toTick src)
  | .lost .xo25 => if s.clk.xo25.up then s else s.updClk (fun c => c.toFpll false)
  | .qualified .xo25 => if s.clk.xo25.up then s.updClk (fun c => c.toFpll true) else s
  | _ => s

/-- REFERENCE_SWITCH_COMPLETE (R151): the next held switch of the same kind then begins. -/
def execReferenceSwitchComplete (k : SwitchKind) (s : State) : Out :=
  .next (match k with
    | .tick =>
      match s.clk.tickSwitch with
      | some src =>
        let mine := s.clk.held.filter (fun h => h.ofTick)
        let s1 := s.updClk (fun c => { c with tickSrc := some src, tickSwitch := none, held := c.held.filter (fun h => !h.ofTick) })
        match mine.getLast? with | some h => s1.actHeld h | none => s1
      | none => s
    | .fpll =>
      match s.clk.fpllSwitch with
      | some x =>
        let mine := s.clk.held.filter (fun h => !h.ofTick)
        let s1 := s.updClk (fun c => { c with fpllXo25 := x, fpllSwitch := none, held := c.held.filter (fun h => h.ofTick) })
        match mine.getLast? with | some h => s1.actHeld h | none => s1
      | none => s)

/-- TICK_SOURCES_LOST (R155). -/
def execTickSourcesLost (s : State) : Out := .next (if s.rails.vao && s.clk.tickSrc.isSome then s.tickLost else s)

/-- TICK_SOURCE_RETURN (R155): with another source in force, RC32 only runs again. -/
def execTickSourceReturn (src : TickSrc) (s : State) : Out :=
  .next (if !s.rails.vao then s
    else if s.clk.tickSrc.isNone then s.tickReturns src
    else if src == .rc32 then s.updClk (fun c => { c with rc32 := true })
    else s)

/-! ## The FPLL (R167) -/

/-- FPLL_LOCK_FAIL (R167): the next lock attempt fails, and its retry with RC25 too where `retryFails`; with a lock awaited, it is that
attempt. -/
def execFpllLockFail (retryFails : Bool) (s : State) : Out :=
  .next (if !s.rails.vao || s.clk.fpllLocked then s
    else if s.pwr.phase == .c && s.clk.fpllFailedAt.isSome then
      (if retryFails then { s with clk := { s.clk with fpllFailedAt := some s.tick } }.klog 0x0108 []
       else { s with clk := { s.clk with fpllFailedAt := none, fpllXo25 := false } }.runStart)
    else s.updClk (fun c => { c with lockFails := some retryFails }))

/-- FPLL_RETRY (R167): 32 768 ticks after the last failure the lock is tried again. -/
def execFpllRetry (s : State) : Out :=
  .next (match s.clk.fpllFailedAt with
    | some t =>
      if s.rails.vao && s.clk.tickSrc.isSome then
        let s1 := (s.advanceTo (t + 32768)).closeWindows
        { s1 with clk := { s1.clk with fpllFailedAt := none } }.runStart
      else s
    | none => s)

end Sys2Proof.Machine
end

