-- ==== Sys2Proof/Machine/Tamper.lean ====
section
/-! DEFINITION. Commands of attack sensing on the main die (07_tamper.md R240–R281), and of the FEN readback
(23_test_observe.md R845). -/

namespace Sys2Proof.Machine

open Sys2Proof

/-! ## Sensors -/

/-- Causes a sensor condition latches by itself: not the VCORE loss, which R141 latches, not the discriminable dips and pad injection,
not DOOR (R240). -/
def sensorCause (c : Nat) : Bool := (decide (2 ≤ c) && decide (c ≤ 5)) || (decide (9 ≤ c) && decide (c ≤ 0x11))

/-- The monitored clock runs: the FABCLK monitors have nothing to compare while the FPLL does not run (R242). -/
def State.sensed (s : State) (cause : Nat) : Bool := if cause = 9 ∨ cause = 10 then s.clk.fpllLocked else true

/-- A trip wakes the Kiln and is graded (R160, R244, R250). -/
def State.trip (s : State) (cause index : Nat) : State := (s.wakeKiln.latchTrip ⟨cause, index, s.tick⟩).settleGrade

/-- SENSOR_TRIP (R240): a sensor's condition completes its filter. -/
def execSensorTrip (cause index : Nat) (s : State) : Out :=
  .next (if s.rails.vao && sensorCause cause && s.sensed cause then s.trip cause index else s)

/-- Discriminable causes the AO island samples, with the balls of R908. -/
def anomalyCause (cause index : Nat) : Bool := cause == 6 || cause == 7 || (cause == 8 && decide (index ≤ 35))

/-- DISCRIMINABLE_ANOMALY (R257). -/
def execDiscriminableAnomaly (cause index : Nat) (s : State) : Out :=
  .next (if s.rails.vao && s.clk.tickSrc.isSome && anomalyCause cause index then ((s.wakeKiln).anomaly cause index).settleGrade else s)

/-- A common-mode alarm counts on its port (R409). -/
def State.countAlarm (s : State) : RefEvent → State
  | .upaAlarm => { s with upl := { s.upl with a := { s.upl.a with alarms := sat16 s.upl.a.alarms } } }
  | .upbAlarm => { s with upl := { s.upl with b := { s.upl.b with alarms := sat16 s.upl.b.alarms } } }
  | _ => s

/-- REFERENCE_EVENT (R258): no SURGE arises while VMET is invalid (R255). -/
def execReferenceEvent (k : RefEvent) (s : State) : Out :=
  .next (if !s.rails.vao || s.clk.tickSrc.isNone || (k == .surge && !s.rails.vmet) then s
    else ((s.countAlarm k).reference k).settleGrade)

/-- SUSPENSION_END (R260). -/
def execSuspensionEnd (s : State) : Out :=
  .next (match s.tamp.suspendedUntil with
    | some t =>
      if s.rails.vao && s.clk.tickSrc.isSome then
        let s1 := (s.advanceTo (t - s.kiln.poweredBase)).closeWindows
        { s1 with tamp := { s1.tamp with suspendedUntil := none } }
      else s
    | none => s)

/-- PROVISIONAL_HOLD_EXPIRY (R258): at the start of tick a + 66 of the oldest open anomaly. -/
def execProvisionalHoldExpiry (s : State) : Out :=
  .next (match s.tamp.holds with
    | a :: _ => if s.rails.vao && s.clk.tickSrc.isSome then (((s.advanceTo (a.tick + 66)).closeWindows).expireHolds).settleGrade else s
    | [] => s)

/-- CRAZED_QUIET_EXPIRY (R261): the Kiln self-check starts at the end of the quiet interval, its rails valid and no hold open. -/
def execCrazedQuietExpiry (s : State) : Out :=
  .next (if s.rails.vao && s.clk.tickSrc.isSome && s.tamp.grade == .crazed && s.railsOk && s.kilnReady && s.tamp.holds.isEmpty && !s.tamp.selfCheck then
    let s1 := ((s.advanceTo s.tamp.quietEnd).closeWindows).wakeKiln
    { s1 with tamp := { s1.tamp with selfCheck := true, selfCheckTrip := false } }
  else s)

/-! ## Temperature (R240, R241) -/

/-- A count of consecutive samples beyond a limit. -/
def beyond (now : Bool) (n : Nat) : Nat := if now then n + 1 else 0

/-- The second consecutive sample beyond a limit trips; while the cause persists it only keeps the quiet interval from running
(R240, R262). -/
def State.tempTrip (s : State) (n cause k : Nat) : State :=
  if n = 2 then s.trip cause k else if 2 < n && s.tamp.grade == .crazed then s.quiet else s

/-- The rate comparison with a sensor's own sample 50 samples earlier: more than 7.5 K. -/
def rateTrips (old : List Int) (v : Int) : Bool := match old[49]? with | some w => decide (75 < (v - w).natAbs) | none => false

/-- One sensor's sample, in tenths of a degree above −273.15 °C: +150 °C is 4231.5, −50 °C 2231.5, −60 °C 2131.5. -/
def State.tempSensor (s : State) (k : Fin 4) (v : Int) : State :=
  let old : List Int := s.tamp.temps[k]
  let hi := beyond (decide (4231 < v)) s.tamp.tempHi[k]
  let lo := beyond (decide (v ≤ 2231)) s.tamp.tempLo[k]
  let vlo := beyond (decide (v ≤ 2131)) s.tamp.tempVlo[k]
  let s1 := { s with tamp := { s.tamp with
    temps := s.tamp.temps.set k ((v :: old).take 50), tempHi := s.tamp.tempHi.set k hi
    tempLo := s.tamp.tempLo.set k lo, tempVlo := s.tamp.tempVlo.set k vlo } }
  let s2 := ((s1.tempTrip hi 0x0C k.val).tempTrip lo 0x0D k.val).tempTrip vlo 0x0E k.val
  if rateTrips old v then s2.trip 0x0F k.val else s2

/-- TEMPERATURE_SAMPLE (R241): in the next tick whose count is a multiple of 328. -/
def execTemperatureSample (samples : List Int) (s : State) : Out :=
  .next (if s.rails.vao && s.clk.tickSrc.isSome && samples.length == 4 then
    let at_ := match s.tamp.tempAt with | some k => max (k + 328) (ceilDiv s.tick 328 * 328) | none => ceilDiv s.tick 328 * 328
    let s0 := (s.advanceTo at_).closeWindows
    let s1 := { s0 with tamp := { s0.tamp with tempAt := some at_ } }
    (List.finRange 4).foldl (fun t k => t.tempSensor k (samples.getD k.val 0)) s1
  else s)

/-! ## FEN readback (R845) -/

/-- The part drives the FEN pad of channel `c`. -/
def State.drives (s : State) (c : Fin 16) : Bool :=
  s.rails.vao && s.clk.tickSrc.isSome && (s.chan c).connected && !(s.chan c).retired && !(s.chan c).fused

/-- FEN_READBACK_FAIL (R845): eight consecutive ticks of disagreement retire the channel: on class L for its pads, on H and A as a failure
of AO_CHn. -/
def execFenReadbackFail (c : Fin 16) (s : State) : Out :=
  .next (if s.drives c then s.retireCh c (s.straps.cls[c] == .l) else s)

/-- PASSTHROUGH_PAD_RETURN (R845): a class L channel retired for its pads has read back without failure for its first 328 ticks. -/
def execPassthroughPadReturn (c : Fin 16) (s : State) : Out :=
  .next (if s.drives c && (s.chan c).padRetired then
    let s1 := (s.advanceTo (s.straps.firstPassTick + 328)).closeWindows
    let s2 := s1.chOp c (fun x => { x with padRetired := false, rbBad := 0 }.push evReturned s1.tick)
    ((s2.recordReturned c s2.powered).wlog 0x0902 0 (beBytes 1 c.val) true).spyEvent 5 2 c.val s2.gradeNow s2.tick []
  else s)

end Sys2Proof.Machine
end

