-- ==== Sys2Proof/Machine/Uplink.lean ====
section
/-! DEFINITION. Commands of the uplink (11_uplink.md R406–R449; 06_lifecycle.md R211): links, inbound frames, ACK, BEACON and CHUNK
messages, sending, announcements and the daily STATUS. -/

namespace Sys2Proof.Machine

open Sys2Proof

/-! ## Links, faults and quarantine (R408, R409, R412, R413, R444) -/

/-- Number of a port in logs: UPA 0, UPB 1. -/
def portNum : Port → Nat
  | .a => 0 | .b => 1

/-- LINK_UP (R408): announcements start anew. -/
def execLinkUp (p : Port) (s : State) : Out :=
  .next (if s.phyUp && !(s.port p).linked then s.updPort p (fun x => { x with linked := true, annAt := none }) else s)

/-- LINK_DOWN (R413). -/
def execLinkDown (p : Port) (s : State) : Out :=
  .next (if (s.port p).linked then s.updPort p (fun x => { x with linked := false, addr := none }) else s)

/-- COMMON_MODE_ALARM (R409): a reference event of the PHY's pair, counted for the STATUS record. -/
def execCommonModeAlarm (p : Port) (s : State) : Out :=
  .next (if s.phyUp && s.clk.tickSrc.isSome then
    let k := match p with | .a => RefEvent.upaAlarm | .b => RefEvent.upbAlarm
    ((s.countAlarm k).reference k).settleGrade
  else s)

/-- An inbound fault on port `p`; the 64th within 1 966 080 ticks puts the port into quarantine, logged and reported (R412, R444). -/
def State.inboundFault (s : State) (p : Port) : State :=
  let l := s.tick :: (s.port p).faults.filter (fun t => decide (s.tick < t + 1966080))
  let s1 := s.updPort p (fun x => { x with faultCount := sat16 x.faultCount, faults := l })
  if 64 ≤ l.length then
    (s1.updPort p (fun x => { x with quarantine := some s1.tick, faults := [], addr := none })).wlog 0x0B01 0
      (beBytes 1 (portNum p) ++ beBytes 4 l.length) true
  else s1

/-- The port takes inbound frames: linked, not in quarantine, in a firing that has an uplink (R210, R408, R444). -/
def State.inboundOpen (s : State) (p : Port) : Bool := s.linkedTo p && (s.port p).quarantine.isNone && s.life.firing != .greenware

/-! ## Frames (R410–R412) -/

/-- H of the part's addresses (R410): SHA-256 over "trekan uplink" and the device identity. -/
def State.addrHash (s : State) : Bytes :=
  sha2 .sha256 ([0x74, 0x72, 0x65, 0x6B, 0x61, 0x6E, 0x20, 0x75, 0x70, 0x6C, 0x69, 0x6E, 0x6B] ++ s.deviceId)

/-- The part's MAC address (R410). -/
def State.macAddr (s : State) : Bytes :=
  let h := s.addrHash
  [((h.getD 0 0) ||| 0x02) &&& 0xFE] ++ slice 1 5 h

/-- The part's link-local address (R410). -/
def State.ipAddr (s : State) : Bytes :=
  let h := s.addrHash
  [0xFE, 0x80] ++ zeros 6 ++ [(h.getD 0 0) &&& 0xFD] ++ slice 1 7 h

/-- Sum of the 16-bit words of a byte string, an odd last byte padded with zero. -/
def sum16 : Bytes → Nat
  | [] => 0
  | [a] => a.toNat * 256
  | a :: b :: l => a.toNat * 256 + b.toNat + sum16 l

/-- Ones' complement folding to 16 bits: a nonzero sum that is a multiple of 0xFFFF folds to 0xFFFF. -/
def fold16 (n : Nat) : Nat := if n = 0 then 0 else (n - 1) % 0xFFFF + 1

/-- Envelope: MAGIC, VERSION and a KIND the part accepts inbound (R414). -/
def envelopeOk (m : Bytes) : Bool := beAt m 0 2 == 0x4946 && beAt m 2 1 == 1 && decide (4 ≤ m.length ∧ 2 ≤ beAt m 3 1 ∧ beAt m 3 1 ≤ 4)

/-- Length of a signature field (R422). -/
def sigLen (key : Nat) : Nat := if key = 0 then 0 else 64

/-- Content length exactly as the KIND's layout requires (R412 check 6, R423, R426, R430). -/
def lengthOk (m : Bytes) : Bool :=
  match beAt m 3 1 with
  | 2 => decide (6 ≤ m.length) && m.length == 24 + 16 * beAt m 5 1 + sigLen (beAt m 4 1)
  | 3 => decide (5 ≤ m.length) && m.length == 56 + sigLen (beAt m 4 1)
  | 4 => decide (29 ≤ m.length ∧ m.length ≤ 28 + 1024)
  | _ => false

/-- Checks 1 to 4 of R412 on a frame without its FCS. -/
def State.frameOk (s : State) (fcsOk : Bool) (f : Bytes) : Bool :=
  let plen := beAt f 18 2
  let udp := slice 54 plen f
  fcsOk && decide (60 ≤ f.length ∧ f.length ≤ 1514) && slice 0 6 f == s.macAddr
    && beAt f 12 2 == 0x86DD && beAt f 14 1 / 16 == 6 && beAt f 20 1 == 17
    && beAt f 21 1 == 255 && slice 22 8 f == [0xFE, 0x80] ++ zeros 6 && slice 38 16 f == s.ipAddr
    && beAt udp 0 2 == 45210 && beAt udp 2 2 == 45210 && decide (8 ≤ plen ∧ 54 + plen ≤ f.length) && beAt udp 4 2 == plen
    && beAt udp 6 2 != 0 && fold16 (sum16 (slice 22 32 f) + plen + 17 + sum16 udp) == 0xFFFF

/-- The UDP payload of a frame. -/
def framePayload (f : Bytes) : Bytes := slice 62 (beAt f 18 2 - 8) f

/-- INBOUND_FRAME (R412): a frame that fails checks 1 to 6 is an inbound fault; a BEACON whose length is wrong is refused too (R148,
R428). A frame that passes them comes as ACK, BEACON or CHUNK. -/
def execInboundFrame (p : Port) (fcsOk : Bool) (frame : Bytes) (s : State) : Out :=
  .next (if s.inboundOpen p then
    let m := framePayload frame
    let ok := s.frameOk fcsOk frame && envelopeOk m
    if ok && lengthOk m then s
    else
      let s1 := s.wakeMain.inboundFault p
      if ok && beAt m 3 1 == 3 && s1.life.firing != .sherd then s1.updClk (fun c => { c with beaconRun := 0 }) else s1
  else s)

/-! ## ACK and BEACON (R422–R429, R436, R445) -/

/-- KEY_ID is accepted in the firing, and its key installed (R422). -/
def State.keyAccepted (s : State) (key : Nat) : Bool :=
  match s.life.firing with
  | .bisque => key == 0
  | .glazed => (key == 1 || key == 2) && s.life.concKeys.any (fun k => k.1 == key)
  | .fired => (key == 1 || key == 2) && s.life.concKeys.any (fun k => k.1 == key)
  | _ => false

/-- The second in progress on a port: its counts of verified messages start anew (R436). -/
def PortSt.verWindow (x : PortSt) (now : Nat) : PortSt :=
  let w := now / 32768 * 32768
  if x.verFrom = w then x else { x with verFrom := w, verAcks := 0, verBeacons := 0 }

/-- The ranges of an ACK. -/
def ackRanges (m : Bytes) : List (Nat × Nat) := (List.range (beAt m 5 1)).map (fun i => (beAt m (24 + 16 * i) 8, beAt m (32 + 16 * i) 8))

/-- Content checks of an ACK that need no engine (R423, R424). -/
def State.ackFormed (s : State) (m : Bytes) : Bool :=
  envelopeOk m && beAt m 3 1 == 2 && lengthOk m && decide (beAt m 4 1 ≤ 2 ∧ 1 ≤ beAt m 5 1 ∧ beAt m 5 1 ≤ 32)
    && zeroAt m 6 2 && slice 8 16 m == s.deviceId && (ackRanges m).all (fun r => decide (1 ≤ r.1 ∧ r.1 ≤ r.2))

/-- Every issued SEQ of every range is acknowledged; a range that goes above the highest issued counts as ack ahead (R424). -/
def State.acknowledge (s : State) (l : List (Nat × Nat)) : State :=
  let top := s.ksm.cntOf 1
  { s with upl := { s.upl with
      ring := s.upl.ring.map (fun r => if l.any (fun e => decide (e.1 ≤ r.seq ∧ r.seq ≤ e.2)) then { r with acked := true } else r)
      ackAhead := l.foldl (fun n e => if top < e.2 then sat16 n else n) s.upl.ackAhead } }

/-- An ACK whose signature is judged (R422, R424). -/
def State.ackJudged (s : State) (p : Port) (m : Bytes) (sigOk : Bool) : State :=
  if beAt m 4 1 != 0 && !sigOk then s.inboundFault p else s.acknowledge (ackRanges m)

/-- ACK (R424): discarded and counted as a fault, discarded over the limit of R436, held in Crazed (R445), or taken. -/
def execAck (p : Port) (msg : Bytes) (sigOk : Bool) (s : State) : Out :=
  .next (if !s.inboundOpen p then s
    else
      let s0 := s.wakeMain
      let key := beAt msg 4 1
      if !s0.ackFormed msg then s0.inboundFault p
      else if s0.life.firing = .sherd then s0
      else if !s0.keyAccepted key then s0.inboundFault p
      else
        let s1 := s0.updPort p (fun x => x.verWindow s0.tick)
        if key ≠ 0 ∧ 10 ≤ (s1.port p).verAcks then s1.updPort p (fun x => { x with excess := sat16 x.excess })
        else
          let s2 := if key = 0 then s1 else s1.updPort p (fun x => { x with verAcks := x.verAcks + 1 })
          if s2.crazed then { s2 with upl := { s2.upl with msgs := s2.upl.msgs ++ [.ack p msg sigOk] } }
          else s2.ackJudged p msg sigOk)

/-- Content checks of a BEACON that need no engine and no earlier beacon (R426, R428): TARGET is the part or every part. -/
def State.beaconFormed (s : State) (m : Bytes) : Bool :=
  envelopeOk m && beAt m 3 1 == 3 && lengthOk m && decide (beAt m 4 1 ≤ 2 ∧ beAt m 5 1 ≤ 1) && zeroAt m 6 2 && zeroAt m 38 2
    && decide (1 ≤ beAt m 24 8) && (slice 8 16 m == s.deviceId || zeroAt m 8 16) && s.keyAccepted (beAt m 4 1)

/-- A refused BEACON: an inbound fault that breaks the run of R148 (R428). -/
def State.refuseBeacon (s : State) (p : Port) : State := (s.inboundFault p).updClk (fun c => { c with beaconRun := 0 })

/-- The port learns its concentrator address (R413). -/
def State.learnAddr (s : State) (p : Port) (src : Nat × Nat) : State := s.updPort p (fun x => { x with addr := some src, addrAt := s.tick })

/-- The floors go to the Kiln's flash at the first valid beacon of a start and once every 117 964 800 ticks after it (R429). -/
def State.saveFloors (s : State) : State :=
  if (match s.upl.savedAt with | none => true | some t => decide (t + 117964800 ≤ s.tick)) then
    { s with upl := { s.upl with savedFloors := s.upl.floors, savedAt := some s.tick } }
  else s

/-- ATTEST for a beacon that asks for it, at most once in 1 966 080 ticks (R418). -/
def State.attest (s : State) (m : Bytes) : State :=
  if beAt m 5 1 == 1 && (match s.upl.attestAt with | none => true | some t => decide (t + 1966080 ≤ s.tick)) then
    { s with upl := { s.upl with attestAt := some s.tick } }.report 0x0B (slice 40 16 m ++ slice 24 8 m ++ s.dig.meas.toList.flatMap (padTo 48))
  else s

/-- A valid BEACON received in tick `rx`: floors, address, time reference, TIME for the Ocnoix die, attestation (R413, R428, R429). -/
def State.takeBeacon (s : State) (p : Port) (m : Bytes) (src : Nat × Nat) (rx : Nat) : State :=
  let key := beAt m 4 1
  let f : Floor := ⟨beAt m 24 8, beAt m 32 4⟩
  let s1 := { s with upl := { s.upl with floors := s.upl.floors.setIfInBounds key f, seen := m :: s.upl.seen } }.learnAddr p src
  let s2 := s1.updClk (fun c => { c with lastBeacon := some rx, beaconRun := min 3 (c.beaconRun + 1) })
  let s3 := s2.wakeKiln.handBeacon key (beAt m 32 4) (beAt m 36 2) rx
  s3.qualifyBeacon.saveFloors.sendTime.attest m

/-- A BEACON whose signature and place in its series are judged (R428). -/
def State.beaconJudged (s : State) (p : Port) (m : Bytes) (sigOk : Bool) (src : Nat × Nat) (rx : Nat) : State :=
  let key := beAt m 4 1
  let f := (s.upl.floors[key]?).getD {}
  if s.upl.seen.contains m then s.learnAddr p src
  else if (key != 0 && !sigOk) || decide (beAt m 24 8 ≤ f.bseq) || decide (beAt m 32 4 < f.time) then s.refuseBeacon p
  else s.takeBeacon p m src rx

/-- BEACON (R428): in Sherd discarded; a duplicate only sets the address; a signed one over the limit of R436 is not verified; in Crazed
it is held with its tick of reception (R445). -/
def execBeacon (p : Port) (msg : Bytes) (sigOk : Bool) (mac ip : Nat) (s : State) : Out :=
  .next (if !s.inboundOpen p || s.life.firing == .sherd then s
    else
      let s0 := s.wakeMain
      let key := beAt msg 4 1
      if !s0.beaconFormed msg then s0.refuseBeacon p
      else if s0.upl.seen.contains msg then s0.learnAddr p (mac, ip)
      else
        let s1 := s0.updPort p (fun x => x.verWindow s0.tick)
        if key ≠ 0 ∧ 1 ≤ (s1.port p).verBeacons then s1.updPort p (fun x => { x with excess := sat16 x.excess })
        else
          let s2 := if key = 0 then s1 else s1.updPort p (fun x => { x with verBeacons := x.verBeacons + 1 })
          if s2.crazed then { s2 with upl := { s2.upl with msgs := s2.upl.msgs ++ [.beacon p msg sigOk (mac, ip) s2.tick] } }
          else s2.beaconJudged p msg sigOk (mac, ip) s2.tick)

/-- CONCENTRATOR_ADDRESS_TIMEOUT (R413). -/
def execConcentratorAddressTimeout (p : Port) (s : State) : Out :=
  .next (if (s.port p).addr.isSome && s.phyUp && s.clk.tickSrc.isSome then
    ((s.advanceTo ((s.port p).addrAt + 19660800)).closeWindows).updPort p (fun x => { x with addr := none })
  else s)

/-- QUARANTINE_END (R444). -/
def execQuarantineEnd (p : Port) (s : State) : Out :=
  .next (match (s.port p).quarantine with
    | some t =>
      if s.rails.vao && s.clk.tickSrc.isSome then
        ((s.advanceTo (t + 1966080)).closeWindows).updPort p (fun x => { x with quarantine := none })
      else s
    | none => s)

/-! ## Chunks (R430–R434, R445; 22_kiln.md R818) -/

/-- The bank that does not hold the running Wheel receives a bundle (R818). -/
def State.recvBank (s : State) : Nat := 1 - s.pwr.bank.getD 0

/-- Blocks of a bank's image area that installed copies occupy. -/
def State.usedBlocks (s : State) (bank : Nat) : Nat :=
  s.kiln.installs.foldl (fun n x => if x.copy bank = .present then n + copyBlocks x.length else n) 0

/-- Marks one bank's copy of an install-record entry absent. -/
def Install.drop (x : Install) (bank : Nat) : Install := if bank = 0 then { x with bankA := .absent, imgA := [] } else { x with bankB := .absent, imgB := [] }

/-- Copies of the receiving bank are displaced one at a time, applet copies before the Wheel copy, until `need` blocks are free; each is
marked absent and logged as DISPLACED (R818). -/
def State.displace : (fuel : Nat) → (need : Nat) → State → List (Bool × Nat × Nat) → State × List (Bool × Nat × Nat)
  | 0, _, s, l => (s, l)
  | n + 1, need, s, l =>
    let b := s.recvBank
    if s.usedBlocks b + need ≤ 96 then (s, l)
    else
      let here := s.kiln.installs.filter (fun x => x.copy b == .present)
      match here.find? (fun x => !x.wheel), here.find? (fun x => x.wheel) with
      | some x, _ | none, some x =>
        let s1 := { s with kiln := { s.kiln with installs := s.kiln.installs.map (fun y => if y = x then y.drop b else y) } }
        State.displace n need (s1.klog 0x0506 (beBytes 1 b ++ beBytes 1 (if x.wheel then 1 else 2) ++ beBytes 1 x.domain)) (l ++ [(x.wheel, x.domain, b)])
      | none, none => (s, l)

/-- Opens the intake (R431, R818). -/
def State.openIntake (s : State) (id : Bytes) (total : Nat) : State :=
  let r := State.displace (s.kiln.installs.length + 1) (ceilDiv total 262144) s []
  { r.1 with upl := { r.1.upl with intake := some { id := id, total := total, lastStored := r.1.tick, displaced := r.2 } } }

/-- A chunk's data in its place by index. -/
def putChunk (i : Nat) (d : Bytes) : List (Nat × Bytes) → List (Nat × Bytes)
  | [] => [(i, d)]
  | (j, e) :: l => if j < i then (j, e) :: putChunk i d l else (i, d) :: (j, e) :: l

/-- BUNDLE_RESULT of an intake: its kind byte is the header's where chunk 0 is stored, else a free value (R418, R432). -/
def State.intakeResult (s : State) (x : Intake) (result : Nat) : State :=
  let kind := match x.chunks with
    | (0, d) :: _ => beAt d 6 1
    | _ => (Config.freeByte s.freeCount 0).toNat
  s.tick1.report 0x0C (padTo 16 x.id ++ beBytes 1 kind ++ beBytes 1 result ++ beBytes 2 0 ++ beBytes 4 x.total)

/-- The end of an intake that stored every chunk (R432): the digest decides. In Crazed the digest waits. -/
def State.finishIntake (s : State) : State :=
  match s.upl.intake with
  | some x =>
    if x.chunks.length < chunkCount x.total || s.crazed then s
    else
      let data := x.chunks.flatMap (·.2)
      if (sha2 .sha384 data).take 16 = x.id then
        { s with upl := { s.upl with intake := none, complete := some { id := x.id, total := x.total, status := .complete, data := data, displaced := x.displaced } } }.sendChunkAck
          x.id x.total BStatus.complete.code
      else
        let s1 := (s.intakeResult x 5).rewriteCopies x.displaced
        { s1 with upl := { s1.upl with intake := none } }.sendChunkAck x.id x.total BStatus.digestMismatch.code
  | none => s

/-- A chunk of the bundle whose intake is open: duplicates, overruns, and storing (R431). `first`: the chunk opened the intake. -/
def State.intakeChunk (s : State) (p : Port) (x : Intake) (total i : Nat) (d : Bytes) (first : Bool) : State :=
  let put (y : Intake) : State := { s with upl := { s.upl with intake := some y } }
  if total ≠ x.total then (s.inboundFault p).paceChunkAck x.id total 0x12
  else match x.chunks.find? (fun e => e.1 == i) with
    | some e => (put (if e.2 = d then x else { x with conflicts := x.conflicts + 1 })).paceChunkAck x.id total 1
    | none =>
      if i < x.next ∨ x.next + (64 - s.upl.buf.length) ≤ i then (put { x with overruns := x.overruns + 1 }).paceChunkAck x.id total 1
      else
        let y := { x with chunks := putChunk i d x.chunks, lastStored := s.tick }
        let s1 := put y
        let s2 := if s1.crazed then { s1 with upl := { s1.upl with buf := s1.upl.buf ++ [i] } } else s1
        if chunkCount total ≤ y.chunks.length then (if s2.crazed then s2.sendChunkAck x.id total 1 else s2.finishIntake)
        else if first then s2.sendChunkAck x.id total 1
        else s2.paceChunkAck x.id total 1

/-- The rows of the table of chunk handling, the first that matches (R431). -/
def State.takeChunk (s : State) (p : Port) (m : Bytes) : State :=
  let id := slice 4 16 m
  let total := beAt m 20 4
  let i := beAt m 24 2
  let d := m.drop 28
  let refuse (t : State) (st : Nat) : State := t.paceChunkAck id total st
  if 25165824 < total then refuse (s.inboundFault p) 0x11
  else if chunkCount total ≤ i ∨ d.length ≠ min 1024 (total - 1024 * i) then refuse (s.inboundFault p) 0x12
  else match s.upl.complete, s.upl.intake with
    | some c, k =>
      if c.id = id then refuse s c.status.code
      else match k with
        | some x => if x.id = id then s.intakeChunk p x total i d false else refuse s 0x10
        | none =>
          if c.outcome then
            let s1 := s.openIntake id total
            match s1.upl.intake with | some x => s1.intakeChunk p x total i d true | none => s1
          else refuse s 0x10
    | none, some x => if x.id = id then s.intakeChunk p x total i d false else refuse s 0x10
    | none, none =>
      let s1 := s.openIntake id total
      match s1.upl.intake with | some x => s1.intakeChunk p x total i d true | none => s1

/-- CHUNK (R431): discarded in Sherd (R210). -/
def execChunk (p : Port) (msg : Bytes) (s : State) : Out :=
  .next (if !s.inboundOpen p || s.life.firing == .sherd then s
    else
      let s0 := s.wakeMain
      if !(envelopeOk msg && beAt msg 3 1 == 4 && lengthOk msg && zeroAt msg 26 2) then s0.inboundFault p
      else s0.takeChunk p msg)

/-- INTAKE_ABANDON (R432): logged nowhere else than in its BUNDLE_RESULT; displaced copies are rewritten (R818). -/
def execIntakeAbandon (s : State) : Out :=
  .next (match s.upl.intake with
    | some x =>
      if s.wheelUp && s.clk.tickSrc.isSome && decide (x.chunks.length < chunkCount x.total) then
        let s1 := (s.advanceTo (x.lastStored + 19660800)).closeWindows
        let s2 := (s1.intakeResult x 7).rewriteCopies x.displaced
        { s2 with upl := { s2.upl with intake := none, buf := [] } }
      else s
    | none => s)

/-- CHUNK_ACK (R434): the pacing interval ends. -/
def execChunkAck (s : State) : Out :=
  .next (match s.upl.ackPending, s.upl.chunkAckAt with
    | some (id, total, st), some t =>
      if s.mainUp && s.clk.tickSrc.isSome then ((s.advanceTo (t + 655)).closeWindows).sendChunkAck id total st else s
    | _, _ => s)

/-- Clearing of Crazed (R445): what was held is verified in its order of arrival, and buffered chunks reach flash. -/
def State.uplClearing (s : State) : State :=
  let l := s.upl.msgs
  let s1 := { s with upl := { s.upl with msgs := [], buf := [] } }
  let s2 := l.foldl (fun t h => match h with
    | .ack p m ok => t.ackJudged p m ok
    | .beacon p m ok src rx => t.beaconJudged p m ok src rx) s1
  s2.finishIntake

/-! ## Sending (R421, R435, R447; 06_lifecycle.md R211) -/

/-- Last sending of a record on a port, and the number of sendings there. -/
def Rec.sent (r : Rec) : Port → Option Nat × Nat
  | .a => (r.sentA, r.sendsA) | .b => (r.sentB, r.sendsB)

/-- A record sent on a port now. -/
def Rec.sentNow (r : Rec) (p : Port) (t : Nat) : Rec :=
  match p with
  | .a => { r with sentA := some t, sendsA := r.sendsA + 1 }
  | .b => { r with sentB := some t, sendsB := r.sendsB + 1 }

/-- A resend is due: 8, 16, … 512 s after the last sending, then every 512 s (R435). -/
def Rec.due (r : Rec) (p : Port) (now : Nat) : Bool :=
  match r.sent p with
  | (some t, n) => decide (t + 2 ^ (min (n + 2) 9) * 32768 ≤ now)
  | (none, _) => false

/-- What a port sends now: records never sent there, then resends due, each oldest first, within the room left in this second. -/
def State.sendList (s : State) (p : Port) (room : Nat) : List Rec :=
  let live := s.upl.ring.filter (fun r => !r.acked)
  (live.filter (fun r => (r.sent p).1.isNone) ++ live.filter (fun r => r.due p s.tick)).take room

/-- RECORD_SEND (R435): the Wheel keeps the main island Running for it. -/
def execRecordSend (p : Port) (s : State) : Out :=
  .next (if s.wheelUp && s.linkedTo p && (s.port p).addr.isSome then
    let w := s.tick / 32768 * 32768
    let used := if (s.port p).paceFrom = w then (s.port p).paceSent else 0
    let l := s.sendList p (100 - used)
    let s0 := if l.isEmpty then s else s.wakeMain
    let s1 := l.foldl (fun t r => t.emit (.record p r)) s0
    let s2 := s1.updPort p (fun x => { x with paceFrom := w, paceSent := used + l.length })
    { s2 with upl := { s2.upl with ring := s2.upl.ring.map (fun r => if l.any (fun e => e.seq == r.seq) then r.sentNow p s.tick else r) } }
  else s)

/-- BODY of IDENTITY; keys and versions are zero in Sherd (R418). -/
def State.identityBody (s : State) : Bytes :=
  let sherd := s.life.firing == .sherd
  beBytes 1 (s.fuse 0x02) ++ beBytes 1 0xB0 ++ beBytes 1 (match s.life.sherdCause with | some c => if sherd then c.code else 0 | none => 0)
    ++ beBytes 1 s.gradeNow
    ++ (if sherd then zeros 232 else beBytes 4 s.wheelVer ++ beBytes 4 s.sjm.swid ++ s.pubOf 1 false ++ s.pubOf 2 true ++ s.pubOf 0 false)

/-- The firing announces itself with signed records (R421). -/
def announces : Firing → Bool
  | .bisque => true | .glazed => true | .fired => true | _ => false

/-- ANNOUNCEMENT (R421): a signed IDENTITY with SEQ 0 to ff02::1, 327 680 ticks after the last on the port. -/
def execAnnouncement (p : Port) (s : State) : Out :=
  .next (if s.wheelUp && s.linkedTo p && (s.port p).addr.isNone && announces s.life.firing && s.clk.tickSrc.isSome then
    let s0 := ((match (s.port p).annAt with | some t => s.advanceTo (t + 327680) | none => s).closeWindows).wakeMain
    let r := s0.buildRec 0x02 s0.identityBody false
    if s0.canSign r then
      let (s1, r1) := s0.sign r
      (s1.updPort p (fun x => { x with annAt := some s1.tick })).emit (.record p r1)
    else s0.updPort p (fun x => { x with annAt := some s0.tick })
  else s)

/-- SHERD_IDENTITY (R211): unsigned, on each linked port, every 32 768 ticks. -/
def execSherdIdentity (s : State) : Out :=
  .next (if s.life.firing == .sherd && s.mainUp && (s.linkedTo .a || s.linkedTo .b) && s.clk.tickSrc.isSome then
    let s1 := (s.advanceTo ((s.tick / 32768 + 1) * 32768)).closeWindows
    let r := { s1.buildRec 0x02 s1.identityBody false with sigalg := 0 }
    let s2 := if s1.linkedTo .a then s1.emit (.record .a r) else s1
    if s2.linkedTo .b then s2.emit (.record .b r) else s2
  else s)

/-! ## STATUS (R397, R409, R418) -/

/-- The least `k` from `lo` on at which a monotone condition holds, searched below `lo + 2ⁿ`. -/
def firstAt (f : Nat → Bool) : (n : Nat) → (lo : Nat) → Nat
  | 0, lo => if f lo then lo else lo + 1
  | n + 1, lo => if f (lo + 2 ^ n - 1) then firstAt f n lo else firstAt f n (lo + 2 ^ n)

/-- Ticks at which the Kiln's time next reaches 00:00:00. -/
def State.midnight (s : State) : Nat :=
  let day : Int := 86400 * 65536
  let goal := (s.kiln.timeAt s.tick / day + 1) * day
  firstAt (fun k => decide (goal ≤ s.kiln.timeAt k)) 33 s.tick

/-- The 40 bytes of a channel (R418). -/
def State.statusChannel (s : State) (c : Fin 16) : Bytes :=
  beBytes 1 (s.chFlags c) ++ beBytes 1 (s.lnk c).pstate.code ++ ((s.lnk c).stats.toList.flatMap (beBytes 2) : Bytes) ++ zeros 2

/-- BODY of STATUS (R418). -/
def State.statusBody (s : State) : Bytes :=
  let day := match s.kiln.timeSt with | .unset => 0xFFFF | _ => s.timeSecs / 86400
  let pages := (s.upl.ring.filter (fun r => !r.acked)).foldl (fun n r => n + recPages r) 0
  (beBytes 2 day : Bytes) ++ zeros 2 ++ beBytes 2 (min 0xFFFF pages) ++ beBytes 4 s.upl.dropped ++ beBytes 2 s.tamp.excused
    ++ beBytes 2 s.upl.a.alarms ++ beBytes 2 s.upl.b.alarms ++ (List.finRange 16).flatMap (fun c => s.statusChannel c)

/-- What STATUS reported starts from zero (R397, R418). -/
def State.clearReported (s : State) : State :=
  { s with upl := { s.upl with dropped := 0, a := { s.upl.a with alarms := 0 }, b := { s.upl.b with alarms := 0 }, statusAt := some s.tick }
           tamp := { s.tamp with excused := 0 }
           link := s.link.map (fun l => { l with stats := Vector.replicate 18 0 }) }

/-- STATUS (R418): at the next 00:00:00, or 2 831 155 200 ticks after the last while the time is unset. -/
def execStatus (s : State) : Out :=
  .next (if s.wheelUp && s.clk.tickSrc.isSome then
    let at_ := match s.kiln.timeSt with | .unset => s.upl.statusAt.getD 0 + 2831155200 | _ => s.midnight
    let s1 := ((s.advanceTo at_).closeWindows).wakeMain
    (s1.report 0x08 s1.statusBody).clearReported
  else s)

end Sys2Proof.Machine
end

