-- ==== Sys2Proof/Machine/WaitOps.lean ====
section
/-! DEFINITION. What the Wheel does at its periodic wakes and between commands: waiting applets, CPU windows, event FIFOs, link polls
and probes, exchanges, work that waited (21_applets.md R781, R785, R790; 11_uplink.md R418; 10_link_sessions.md R385, R396). -/

namespace Sys2Proof.Machine

open Sys2Proof

/-! ## WAIT (R785) -/

/-- The event bits present for domain `d` (R785). -/
def State.waitEvents (s : State) (d : Fin 16) : Nat :=
  let a := s.appOf d
  let g := s.governed d
  let rings := match a.man with | some m => m.rings | none => []
  bitOf (g.any (fun c => !(s.chan c).fifo.isEmpty)) 0 + bitOf (g.any (fun c => !(s.lnk c).atn.isEmpty)) 1
    + bitOf (rings.any (fun r => (s.ring r.1 r.2.1).seen != (s.ring r.1 r.2.1).cons)) 2
    + bitOf (a.events.testBit 3) 3 + bitOf (a.events.testBit 4) 4 + bitOf (a.xstep == .requested) 5 + bitOf (a.events.testBit 6) 6

/-- A WAIT of domain `d` on core `k` returns DONE with the events present; bit 6 counts from here (R785). -/
def State.waitReturns (s : State) (d : Fin 16) (k : Fin 2) : State :=
  let ev := s.waitEvents d
  (s.updCpu d k (fun x => x.returns 0 ev)).updApp d (fun a => { a with events := if a.events.testBit 6 then a.events - 64 else a.events })

/-- The mask and the deadline of a WAIT in progress; a deadline of 0 is none. -/
def State.waitingOn (s : State) (d : Fin 16) (k : Fin 2) : Option (Nat × Option Nat) :=
  let x := s.cpuOf d k
  match x.call with
  | some (n, args) =>
    if n = 1 then some (args.getD 0 0, if args.getD 1 0 = 0 then none else some (x.runSince + args.getD 1 0)) else none
  | none => none

/-- A WAIT returns once an event of its mask is present or its deadline has passed (R785). -/
def State.pollWait (s : State) (d : Fin 16) (k : Fin 2) : State :=
  match s.waitingOn d k with
  | some (mask, dl) =>
    if mask &&& s.waitEvents d ≠ 0 || (match dl with | some t => decide (t ≤ s.tick) | none => false) then s.waitReturns d k else s
  | none => s

/-! ## Flash calls on FLC ring 1 (R784, R787) -/

/-- The 64 bytes of the Wheel's descriptor for FLASH_PROG (0x70) or FLASH_ERASE (0x71) with arguments `a`. -/
def flashCallDesc (n : Nat) (a : List Nat) : Bytes :=
  let prog := n == 0x70
  leBytes 1 (if prog then 1 else 2) ++ zeros 3 ++ leBytes 4 (if prog then a.getD 2 0 else 0) ++ leBytes 4 (if prog then a.getD 1 0 else 0)
    ++ zeros 12 ++ leBytes 4 (a.getD 0 0) ++ leBytes 1 (if prog then 0 else a.getD 1 0) ++ zeros 35

/-- A flash call that waits on core `k`: its descriptor goes onto FLC ring 1 once that ring runs and has room; once it has completed, its
code and RESULT bytes 0–3, or DETAIL, return. The seventh argument kept is one more than the descriptor's index. -/
def State.pollFlash (s : State) (d : Fin 16) (k : Fin 2) : State :=
  match (s.cpuOf d k).call with
  | some (n, args) =>
    if n ≠ 0x70 ∧ n ≠ 0x71 then s
    else
      let r := s.ring .flc 1
      match args.getD 6 0 with
      | 0 =>
        if r.st == .running && decide (r.pending < 2 ^ r.log2) then
          let s1 := (s.sramWrite (r.slot r.prod) (flashCallDesc n args)).updRing .flc 1 (fun x => { x with prod := (x.prod + 1) % 65536 })
          (s1.updCpu d k (fun x => { x with call := some (n, args.take 6 ++ [r.prod + 1]) })).fetchNext .flc 1
        else s
      | i + 1 =>
        if sub16 r.cons i = 0 ∨ 32768 < sub16 r.cons i then s
        else
          let b := readBytes s.mem (r.slot i + 0x30) 16
          let code := leAt b 0 1
          let ok := code == codeNum .done || code == codeNum .doneSame
          (s.updRing .flc 1 (fun x => { x with seen := (i + 1) % 65536 })).updCpu d k (fun x => x.returns code (if ok then leAt b 8 4 else leAt b 2 2))
  | none => s

/-- Every WAIT and every flash call that waits is judged, and the cores are scheduled. -/
def State.pollWaits (s : State) : State :=
  if s.wheelRuns then
    ((List.finRange 16).foldl (fun t d => (((t.pollWait d 0).pollWait d 1).pollFlash d 0).pollFlash d 1) s).reschedule
  else s

/-! ## CPU windows (R781) -/

/-- A core's share of an applet as a window begins. -/
def AppCore.renew (x : AppCore) : AppCore := { x with used := 0, st := if x.st = .throttled then .ready else x.st }

/-- A window of 32 768 ticks ends: budgets renew and THROTTLED applets are READY (R781). -/
def State.cpuWindow (s : State) : State :=
  let t : State := { s with app := s.app.map (fun a => { a with cpu := a.cpu.map AppCore.renew }) }
  t.reschedule

/-! ## CHANNEL_EVENT records (R291, R418) -/

/-- A CHANNEL_EVENT record of up to 64 entries taken from channel `c`: OVERFLOW is told and cleared, and the loss since the last such
record given (R418). -/
def State.eventRecord (s : State) (c : Fin 16) : State :=
  let l := s.lnk c
  let x := s.chan c
  let es := l.taken.take 64
  if es.isEmpty then s
  else
    let body := beBytes 1 c.val ++ beBytes 1 es.length ++ beBytes 1 (bitOf x.sticky.overflow 0) ++ zeros 1 ++ beBytes 2 (x.lost - l.lostRep)
      ++ zeros 2 ++ es.flatMap (fun e => beBytes 8 e.word.toNat)
    let s1 := s.setLnk c { l with taken := l.taken.drop 64, lostRep := x.lost }
    (s1.updCh c (fun y => { y with sticky := { y.sticky with overflow := false } })).report 0x03 body

/-- Where no applet governs the channel the Wheel takes every entry of its FIFO; what has been taken is reported. -/
def State.takeEvents (s : State) (c : Fin 16) : State :=
  let s1 := if (s.governor c).isSome then s
    else (s.updLnk c (fun l => { l with taken := l.taken ++ (s.chan c).fifo })).updCh c (fun x => { x with fifo := [] })
  (s1.eventRecord c).eventRecord c

/-! ## Polls and probes (R385, R396) -/

/-- A transaction of a type is outstanding or waits for the line. -/
def Link.has (l : Link) (type : Nat) : Bool :=
  (match l.txn with | some x => x.type == type | none => false) || l.waiting.any (fun w => w.1 == type)

/-- A periodic wake on one channel: a poll at every Pth wake of a live session with no transaction since the last, or, without a
contract, a PROBE at the first wake and every 60th after it (R385, R396). -/
def State.linkWake (s : State) (c : Fin 16) : State :=
  let s0 := s.hbNotice c
  let l := s0.lnk c
  if !s0.linkServed c || s0.crazed then s0
  else match s0.linkContract c with
    | some k =>
      if l.sess.isNone then s0
      else if l.pollWakes + 1 < k.pollP then s0.setLnk c { l with pollWakes := l.pollWakes + 1 }
      else if l.has 0x21 then s0
      else (s0.setLnk c { l with pollWakes := 0 }).ask c 0x21 [] false
    | none =>
      let s1 := s0.setLnk c { l with probeWakes := l.probeWakes + 1 }
      if l.probeWakes % 60 = 0 && !l.has 0x01 then s1.ask c 0x01 (beBytes 1 c.val ++ beBytes 2 s.straps.cabinet ++ zeros 1) false else s1

/-! ## Work that waited -/

/-- What the Wheel and the Kiln take up as soon as they can: entries, records, burns, HACKs, a kept self-test run, exchanges. -/
def State.dueWork (s : State) : State :=
  let s1 := s.drainLog.drainReports.retryBurns
  if s1.wheelRuns then
    let s2 := s1.sendHacks.selfLog.startKept.finishIntake
    ((List.finRange 16).foldl (fun t d => t.xFinish d) s2).xNext
  else s1

end Sys2Proof.Machine
end

