-- ==== Sys2Proof/Machine/Sleep.lean ====
section
/-! DEFINITION. Commands of wake and sleep (04_power_clocks.md R143–R145, R160–R162; 01_cabinet.md R57), and the end of a Kiln
self-check (07_tamper.md R261–R263). -/

namespace Sys2Proof.Machine

open Sys2Proof

/-- The Wheel's work at a periodic wake: the watchdog is restarted (R197), CPU windows renew, FIFOs are drained and reported, links
polled, HELLO_M sent while no Slip Joint session is live (R870). -/
def State.kernelTick (s : State) : State :=
  let s1 := { s.wakeMain with irq := s.irq ||| 1 }
  let s2 := { s1 with pwr := { s1.pwr with mainWdogFrom := some s1.tick } }
  let s3 := (s2.cpuWindow.eachCh (fun c t => t.linkWake c)).eachCh (fun c t => t.takeEvents c)
  s3.slipHello.dueWork.pollWaits

/-- PERIODIC_KERNEL_TICK (R57, R160): the next tick whose value is a multiple of 32 768. -/
def execPeriodicKernelTick (s : State) : Out :=
  .next (if s.rails.vao && s.clk.tickSrc.isSome then
    let s1 := (s.advanceTo ((s.tick / 32768 + 1) * 32768)).closeWindows
    if s1.wheelUp then s1.kernelTick else s1.wakeMain
  else s)

/-- KILN_WAKE_TIMER (R160): a Kiln that has switched itself off runs again for scrub, schedule and time keeping; the beacon floors due are
written (R429). -/
def execKilnWakeTimer (s : State) : Out :=
  .next (if s.pwr.kilnTimerArmed && s.kilnReady && s.clk.tickSrc.isSome then
    let s1 := s.wakeKiln
    let s2 := { s1 with pwr := { s1.pwr with kilnTimerArmed := false } }
    if s2.upl.savedAt.isSome then s2.saveFloors else s2
  else s)

/-- The island or islands a wake source wakes (R160). -/
def wakesKiln : WakeSrc → Bool
  | .kilnDoorbell => true | .tamperTrip => true | .svcDoor => true | .pfailFall => true | .kilnTimer => true | _ => false

/-- A source wakes the main island. -/
def wakesMain : WakeSrc → Bool
  | .kernelTick => true | .demandEdge => true | .linkFrame => true | .uplinkPacket => true | .kilnRequest => true
  | .pfailFall => true | .slipJoint => true | _ => false

/-- WAKE (R160): the source's island runs; a sleep request it meets is abandoned (R145), and a woken island resumes fetching (R611). A
wake of an island that runs is merged (R162). -/
def execWake (src : WakeSrc) (s : State) : Out :=
  .next (if !s.rails.vao || s.pwr.flushing then s
    else
      let s1 := if wakesKiln src then s.wakeKiln else s
      if wakesMain src && s1.mainUp then
        let s2 := s1.wakeMain
        ({ s2 with pwr := { s2.pwr with sleepReq := false } }.fetchAll).pollWaits
      else s1)

/-- A core has nothing to run: it is in WFI with its store buffer empty (R533). -/
def State.coreIdle (s : State) (k : Fin 2) : Bool := (s.running k).isNone && (s.nextReady k).isNone && (s.coreOf k).sbuf.isEmpty

/-- An uplink port has records to send within its pacing (R144, R435). -/
def State.portSends (s : State) (p : Port) : Bool :=
  let used := if (s.port p).paceFrom = s.tick / 32768 * 32768 then (s.port p).paceSent else 0
  s.linkedTo p && (s.port p).addr.isSome && !(s.sendList p (100 - used)).isEmpty

/-- The conditions of an entry into Retention: no descriptor between fetch and completion, no flash program or erase, empty transmit
queues, no link transaction (R144), both cores in WFI (R533). -/
def State.mayRetain (s : State) : Bool :=
  s.wheelRuns && s.eng.toList.all (fun x => !x.busy) && s.flc.progs.isEmpty && s.flc.eraseA.isNone && s.flc.eraseB.isNone
    && s.aes.waiting.isEmpty && s.wmu.yielded.isNone && !s.portSends .a && !s.portSends .b
    && s.link.toList.all (fun l => l.txn.isNone && l.waiting.isEmpty) && s.coreIdle 0 && s.coreIdle 1

/-- The main island enters Retention: its instruction caches are invalidated (R510), its watchdog stops (R197). -/
def State.enterRetention (s : State) : State :=
  { s with pwr := { s.pwr with main := .retention, sleepReq := false, mainWdogFrom := none }
           core := s.core.map (fun c => { c with icache := [] }) }

/-- RETENTION_ENTRY (R144): the Wheel asks to sleep; it holds the request until every condition holds. -/
def execRetentionEntry (s : State) : Out :=
  .next (if s.mayRetain then s.enterRetention
    else if s.wheelRuns then { s with pwr := { s.pwr with sleepReq := true } } else s)

/-- The Kiln has nothing left to do: its ring is empty, no tamper response is open, no entry is unwritten (R161), and it neither verifies,
installs nor tests. -/
def State.kilnIdle (s : State) : Bool :=
  s.pwr.kiln == .running && (s.ring .kiln 0).pending == 0 && s.tamp.holds.isEmpty && !s.crazed && s.tamp.latches.isEmpty
    && s.kiln.todo.isEmpty && s.kiln.bundle != .verifying && s.kiln.bundle != .installing && s.selft.run.isNone
    && (s.pwr.phase == .done || s.pwr.phase == .idle)

/-- KILN_SWITCH_OFF (R161): the Kiln arms its wake timer, programs its log tail (R806) and switches itself off. -/
def execKilnSwitchOff (s : State) : Out :=
  .next (if s.kilnIdle then
    let s1 := s.flushLog
    { s1 with pwr := { s1.pwr with kiln := .off, kilnTimerArmed := true }, spy := { s1.spy with fill := 0 } }.xo25Stop
  else s)

/-! ## The end of a self-check (R245, R261–R263, R795) -/

/-- Step X1 is repeated after clearing for an exchange under way (R795). -/
def State.repeatX1 (s : State) : State :=
  (List.finRange 16).foldl (fun t d =>
    match (t.appOf d).xstep, (t.appOf d).incoming, t.installOf d with
    | .none, _, _ => t
    | _, some _, some x => match x.loads with | some b => t.measureApplet 10 10 0x0A01 0x0A02 (x.img b) | none => t
    | _, _, _ => t) s

/-- A passing self-check clears Crazed (R263): what waited for it goes on, and a self-test run is triggered (R834). A start that Crazed
abandoned runs again from phase C (R203). -/
def State.clearing (s : State) : State :=
  let s1 := s.clearCrazed
  if s1.pwr.crazedWait then
    { s1 with pwr := { s1.pwr with crazedWait := false } }.runStart
  else
    let s2 := s1.resumeInstall.repeatX1.uplClearing.slipHello
    ((s2.dueWork.triggerRun .clearing fullMask 1966080).fetchAll).pollWaits

/-- KILN_SELFCHECK_DONE (R262): `front` lists the front ends, by cause and index, that failed their stimulus and count as tripped
(R245). A failure is logged and a new quiet interval begins. -/
def execKilnSelfcheckDone (pass : Bool) (front : List (Nat × Nat)) (s : State) : Out :=
  .next (if !s.tamp.selfCheck || s.tamp.grade != .crazed then s
    else
      let s1 := front.foldl (fun t f => t.latchTrip ⟨f.1, f.2, t.tick⟩) s
      if s1.tamp.grade != .crazed then s1.settleGrade
      else if pass && front.isEmpty && !s1.tamp.selfCheckTrip && s1.tamp.holds.isEmpty then s1.clearing
      else
        let s2 := s1.logEv 0x0303 0 0 [] false
        { s2.quiet with tamp := { s2.quiet.tamp with selfCheck := false, selfCheckTrip := false } }.settleGrade)

end Sys2Proof.Machine
end

