-- ==== Sys2Proof/Machine/KilnRing.lean ====
section
/-! DEFINITION. The Kiln ring (22_kiln.md R802, R803; 23_test_observe.md R839) and the two events of a bundle: the end of its
verification and the end of its install (22_kiln.md R816–R822). -/

namespace Sys2Proof.Machine

open Sys2Proof

/-! ## Time as software reads it (R802, 21_applets.md R783) -/

/-- The 16 bytes of TIME_GET and of the TIME call; while the reference is UNSET the fraction is a free value. -/
def State.timeBytes (s : State) : Bytes :=
  let frac := match s.kiln.timeSt with
    | .unset => ofLe (Config.freeBytes s.freeCount 2)
    | _ => ((s.kiln.timeAt s.tick) % 65536).toNat
  leBytes 4 s.timeSecs ++ leBytes 2 frac ++ leBytes 1 s.timeQ ++ [0] ++ leBytes 6 s.tick ++ zeros 2

/-! ## The Kiln Log through the ring (R802, R803) -/

/-- Codes of the Wheel's ranges that the table of Kiln Log codes names (R808). -/
def wheelCode (c : Nat) : Bool :=
  decide (0x0901 ≤ c ∧ c ≤ 0x0906) || decide (0x0A01 ≤ c ∧ c ≤ 0x0A05) || c == 0x0B01 || c == 0x0B02 || c == 0x0D01 || c == 0x0D02

/-- The entry with a given LSEQ, 64 zero bytes where it is not held. -/
def Kiln.entryBytes (x : Kiln) (n : Nat) : Bytes :=
  match (x.tail ++ x.log).find? (fun e => e.lseq == n) with
  | some e => e.bytes
  | none => zeros 64

/-- LOG_WRITE. -/
def State.kilnLogWrite (s : State) (b : Bytes) : State × Done :=
  if !wheelCode (beAt b 0 2) || decide (1 < beAt b 2 1) then (s, { code := .value, detail := 2 })
  else (s.writeEntry (beAt b 0 2) (beAt b 2 1) 1 (slice 4 20 b) false, { code := .done, bytes := 24, result := leBytes 8 s.kiln.nextLseq })

/-! ## Kiln records (R809) -/

/-- STATE of a copy as record 1 codes it. -/
def CopyState.code : CopyState → Nat
  | .absent => 0 | .present => 1 | .damaged => 2

/-- One 96-byte install record. -/
def Install.bytes (x : Install) : Bytes :=
  beBytes 1 (if x.wheel then 1 else 2) ++ beBytes 1 x.domain ++ beBytes 1 (bitOf x.raiseFloor 0 + bitOf x.trial 1)
    ++ beBytes 1 x.trialCount ++ beBytes 4 x.release ++ beBytes 4 x.version ++ beBytes 4 x.length ++ padTo 48 x.digest
    ++ beBytes 1 x.firstA ++ beBytes 1 (copyBlocks x.length) ++ beBytes 1 x.bankA.code ++ [0]
    ++ beBytes 1 x.firstB ++ beBytes 1 (copyBlocks x.length) ++ beBytes 1 x.bankB.code ++ [0] ++ zeros 24

/-- Install records in force. -/
def Kiln.installed (x : Kiln) : List Install := x.installs.filter (fun i => !i.stale)

/-- A Kiln record as RECORD_READ copies it; one never written reads as zeros. -/
def State.kilnRecord (s : State) (kind : Nat) : Bytes :=
  let x := s.kiln
  padTo (recordLen kind) (match kind with
    | 1 => (x.installed.take 13).flatMap Install.bytes
    | 2 => beBytes 2 s.life.disposition ++ [0, 0]
    | 3 => beBytes 2 x.retired ++ x.passedAt.toList.flatMap (beBytes 6)
    | 4 => x.strapBlock
    | 5 => s.upl.savedFloors.toList.flatMap (fun f => beBytes 8 f.bseq ++ beBytes 4 f.time) ++ beBytes 4 x.lastTime ++ beBytes 6 x.lastTimePowered
    | _ => match s.tamp.zeroRecord with | some (n, c) => beBytes 1 n ++ beBytes 1 c.code | none => [])

/-! ## Opcodes -/

/-- BEACON: the time reference takes it, and the floors are saved when that is due (R429, R811). -/
def State.kilnBeacon (s : State) (b : Bytes) : State :=
  let key := leAt b 0 1
  let s1 := s.handBeacon key (leAt b 10 4) (leAt b 14 2) (leAt b 16 6)
  let s2 := s1.saveFloors
  if s2.upl.savedAt = s1.upl.savedAt then s2
  else { s2 with upl := { s2.upl with savedFloors := s2.upl.savedFloors.setIfInBounds key ⟨leAt b 2 8, leAt b 10 4⟩ } }

/-- A bundle is under verification or install (R802, R824). -/
def State.bundleBusy (s : State) : Bool := s.kiln.bundle == .verifying || s.kiln.bundle == .installing

/-- BUNDLE_VERIFY: verification starts. -/
def State.startVerify (s : State) (faddr total : Nat) (id : Bytes) : State :=
  { s with kiln := { s.kiln with bundle := .verifying, result := 0, resultDetail := 0, verifying := some (faddr, total, id) } }.setBStatus .verifying

/-- STATE as BUNDLE_STATUS codes it (R802). -/
def BundleSt.code : BundleSt → Nat
  | .none => 0 | .verifying => 1 | .installing => 2 | .staged => 3 | .refused => 4 | .applied => 5

/-- BUNDLE_APPLIED of the staged bundle: a lifecycle bundle at its Apply step, another with result 0 (R819, R822, R823). -/
def State.kilnApplied (s : State) (id : Bytes) : State × Done :=
  if id != padTo 16 s.bundleKey.1 then (s, { code := .value })
  else match s.kiln.bundle with
    | .staged =>
      if decide (3 ≤ leAt s.bundleData 6 1) then (s.pursueStaged, { code := .done }) else (s.bundleOutcome 0 0, { code := .done })
    | .applied => (s, { code := .done })
    | _ => (s, { code := .value })

/-- Main-watchdog expiries of the last 600 s (R199, R820). -/
def State.recentExpiries (s : State) : Nat := (s.pwr.mainWdogAt.filter (fun t => decide (s.tick < t + 19660800))).length

/-- Partitions that a MASK selects. -/
def maskParts (m : Nat) : List Nat := (List.range 64).filter (fun k => m.testBit k)

/-- SELFTEST RESULT, 32 bytes (R839). -/
def State.selfResult (s : State) : Bytes :=
  let x := s.selft
  let st := if x.run.isSome then 1 else if x.trigger.isSome then 2 else 0
  leBytes 2 x.number ++ leBytes 1 (match x.trigger with | some t => t.code | none => 0) ++ leBytes 1 st ++ x.map ++ leBytes 6 x.startedAt
    ++ leBytes 2 x.duration ++ zeros 4

/-- A partition that the Wheel has to prepare (R831, R838). -/
def partPrepared (k : Nat) : Bool := decide (k ≤ 1) || k == 9 || k == 10 || (decide (16 ≤ k) && decide (k < 32))

/-- The Kiln has requested partition `k`: it is the first of the run's partitions that wait to be prepared (R836, R838). -/
def State.requested (s : State) : Option Nat :=
  match s.selft.run with
  | some r => if s.selft.prepared.isSome then none else r.todo.find? partPrepared
  | none => none

/-- A ring is taken OFF and its BASE written, which leaves nothing pending (R579, R838). -/
def State.parkRing (s : State) (e : Eng) (k : Nat) : State :=
  s.updRing e k (fun r => let q := r.disableWrite; q.baseWrite q.base)

/-- The core goes into WFI for its test: its store buffer is drained and its applets leave it (R838). -/
def State.parkCore (s : State) (k : Fin 2) : State :=
  let s1 := match s.running k with | some _ => s.takeOff k .ready | none => s
  (s1.drainCore k).updCore k (fun c => { c with wfi := true })

/-- The Wheel prepares a partition: a core is drained and put in WFI, a receive ring is taken OFF with nothing pending (R838). -/
def State.prepare (s : State) (k : Nat) : State :=
  let s1 :=
    if k = 0 then s.parkCore 0
    else if k = 1 then s.parkCore 1
    else if k = 9 then s.parkRing .upl 1
    else if k = 10 then s.parkRing .sjm 1
    else match partChannel k with | some c => s.parkRing .lnk (2 * c.val + 1) | none => s
  { s1 with selft := { s1.selft with prepared := some k } }

/-- Checks of a Kiln-ring descriptor that need no buffer (R802, R820, R824, R829, R839, R855). -/
def State.kilnCheck (s : State) (d : Desc) : Option (Code × Nat) :=
  match d.opcode with
  | 4 => if s.life.firing = .sherd then some (.value, 0) else none
  | 5 => if s.bundleBusy then some (.value, 1) else if s.life.firing = .sherd then some (.value, 0) else none
  | 9 => if 2 ≤ s.recentExpiries then some (.value, 3) else none
  | 10 =>
    if d.p 0x18 1 = 1 then (if (maskParts (d.p 0x20 8)).all partReserved then some (.value, 6) else none)
    else if d.p 0x18 1 = 2 then (if s.requested = some (d.p 0x19 1) then none else some (.value, 5))
    else none
  | _ => none

/-- Output of a Kiln-ring descriptor. -/
def State.kilnOut (s : State) (d : Desc) : Bytes :=
  match d.opcode with
  | 2 => (List.range (d.p 0x20 2)).flatMap (fun i => s.kiln.entryBytes (d.p 0x18 8 + i))
  | 3 => s.timeBytes
  | 8 => s.kilnRecord (d.p 0x18 1)
  | 10 => if d.p 0x18 1 = 3 then s.selfResult else []
  | _ => []

/-- The effect of a Kiln-ring descriptor and what its completion says. RESTART expires the main watchdog after its completion. -/
def State.kilnDo (s : State) (d : Desc) (b : Bytes) : State × Done :=
  match d.opcode with
  | 1 => s.kilnLogWrite b
  | 2 => (s, { code := .done, result := leBytes 8 (s.kiln.nextLseq - 1) })
  | 3 => (s.tick1, { code := .done })
  | 4 => (s.kilnBeacon b, { code := .done, bytes := 24 })
  | 5 => (s.startVerify (d.p 0x18 4) (d.p 0x1C 4) (slice 8 16 d.param), { code := .done })
  | 6 => (s, { code := .done, result := leBytes 1 s.kiln.bundle.code ++ leBytes 1 s.kiln.result ++ leBytes 2 s.kiln.resultDetail })
  | 7 => s.kilnApplied (slice 0 16 d.param)
  | 9 => (s.klog 0x0503 [], { code := .done })
  | 10 =>
    if d.p 0x18 1 = 1 then
      let t := s.triggerRun .request (maskParts (d.p 0x20 8)) (d.p 0x1A 2 * 32768)
      (t, { code := .done, result := leBytes 2 t.selft.number })
    else if d.p 0x18 1 = 2 then (s.prepare (d.p 0x19 1), { code := .done })
    else (s, { code := .done })
  | _ => (s, { code := .done })

/-- RESTART and PREPARED wait for the end of an exchange (R876). -/
def State.kilnWaits (s : State) (d : Desc) : Bool :=
  (d.opcode == 9 || (d.opcode == 10 && d.p 0x18 1 == 2)) && !s.noExchange

/-- The work of the Kiln-ring descriptor in progress. -/
def State.runKiln (s : State) (d : Desc) (tmo : Bool) : State :=
  let r := s.ring .kiln 0
  if s.kilnWaits d then s
  else match if d.copy.isSome then none else s.kilnCheck d with
  | some (c, x) => s.doneDesc .kiln 0 { code := c, detail := x }
  | none =>
    match s.jobEnd r.who tmo (d.inBufs d.length ++ d.outBufs 1 0) with
    | .held => s.holdJob .kiln 0 d []
    | .stop pos code detail fault =>
      s.stopDesc .kiln 0 d (d.writtenBefore detail) { code := code, detail := detail, bytes := if pos = 0 then 0 else d.length } fault
    | .clear =>
      let out := s.kilnOut d
      let (s1, done) := s.kilnDo d (s.gather r.who d.inFr)
      let s2 := s1.scatter d.outFr out
      if d.opcode = 9 then (s2.finishDesc .kiln 0 done).mainExpiry else s2.doneDesc .kiln 0 done

/-- Runs the Kiln-ring descriptor in progress when its OPCODE is `op`, and its OP too where one is given. -/
def State.kilnOp (s : State) (op : Nat) (sub : Option Nat) : State :=
  match s.curOp .kiln 0 op with
  | some d => if (match sub with | some x => d.p 0x18 1 == x | none => true) then s.runKiln d false else s
  | none => s

/-- LOG_WRITE (R803). -/
def execLogWrite (s : State) : Out := .next (s.kilnOp 1 none)

/-- LOG_READ (R802). -/
def execLogRead (s : State) : Out := .next (s.kilnOp 2 none)

/-- TIME_GET (R802). -/
def execTimeGet (s : State) : Out := .next (s.kilnOp 3 none)

/-- BEACON_HANDOVER (R811). -/
def execBeaconHandover (s : State) : Out := .next (s.kilnOp 4 none)

/-- BUNDLE_VERIFY (R802, R816). -/
def execBundleVerify (s : State) : Out := .next (s.kilnOp 5 none)

/-- BUNDLE_STATUS (R802). -/
def execBundleStatus (s : State) : Out := .next (s.kilnOp 6 none)

/-- BUNDLE_APPLIED (R819, R822, R823). -/
def execBundleApplied (s : State) : Out := .next (s.kilnOp 7 none)

/-- RECORD_READ (R809). -/
def execRecordRead (s : State) : Out := .next (s.kilnOp 8 none)

/-- RESTART (R820). -/
def execRestart (s : State) : Out := .next (s.kilnOp 9 none)

/-- SELFTEST REQUEST (R839). -/
def execSelftestRequest (s : State) : Out := .next (s.kilnOp 10 (some 1))

/-- SELFTEST PREPARED (R838). -/
def execSelftestPrepared (s : State) : Out := .next (s.kilnOp 10 (some 2))

/-- SELFTEST RESULT (R839). -/
def execSelftestResult (s : State) : Out := .next (s.kilnOp 10 (some 3))

end Sys2Proof.Machine
end

