-- ==== Sys2Proof/Machine/MetroOps.lean ====
section
/-! DEFINITION. What the Ocnoix die computes and decides: windows, intervals, days, loads, its grade machine and its start
(12_metrology.md R454–R496; 07_tamper.md R246–R249). -/

namespace Sys2Proof.Machine

open Sys2Proof

/-- Meter of channel `c`. -/
def Met.meter (m : Met) (c : Fin 16) : Meter := m.m[c]

/-- Updates the meter of channel `c`. -/
def Met.updMeter (m : Met) (c : Fin 16) (f : Meter → Meter) : Met := { m with m := m.m.set c (f (m.meter c)) }

/-- Updates the meter of every channel. -/
def Met.eachMeter (m : Met) (f : Fin 16 → Meter → Meter) : Met := { m with m := Vector.ofFn (fun c => f c (m.meter c)) }

/-- The Ocnoix die is powered: it measures, or is in metrology hold. -/
def State.metPowered (s : State) : Bool := s.rails.vmet && (s.met.running || s.met.hold.isSome)

/-! ## Windows (R456–R458, R463) -/

/-- One mWh in units u (R456). -/
def mWh : Nat := 28800000000000000 * 4294967296

/-- GAIN of an input; without a parameter set it is not stated and free (R489, log 18). -/
def gainOf (l : Option Lrps) (k i : Nat) : Nat := match l with | some x => x.gain.getD i 0 | none => Config.freeNat k

/-- A register and its remainder advanced by energy `e`, stopping at 2⁶⁴ − 1 (R456, R463). -/
def advanceReg (reg rem e : Nat) : Nat × Nat := (min cntMax (reg + (rem + e) / mWh), (rem + e) % mWh)

/-- rms value in mV or mA (R456). -/
def rmsOf (sq g : Nat) : Nat := Nat.sqrt (sq * g * g / (8000 * 2 ^ 32 * 1000000))

/-- Net energy of a window in units u (R456). -/
def netOf (x : Sums) (gv gi : Nat) : Int := x.s * gv * gi

/-- Power in mW, rounded toward zero (R456). -/
def powerOf (x : Sums) (gv gi : Nat) : Int := (netOf x gv gi).tdiv (2 ^ 32 * 8000 * 1000000000)

/-- Either input of a channel is in a health state. -/
def Meter.has (x : Meter) (h : Health) : Bool := x.hi == h || x.hv == h

/-- The channel is measured in the window that closes (R455, R458, R460, R493). -/
def Met.measures (m : Met) (c : Fin 16) : Bool :=
  m.fitted.testBit c.val && !(m.meter c).has .stuck && !(m.meter c).chainFault && m.xom && !m.skipWin

/-- One channel's window (R455, R456, R458). -/
def Meter.window (x : Meter) (measured xom : Bool) (q : Sums) (gv gi : Nat) : Meter :=
  let e := netOf q gv gi
  let v := rmsOf q.sv gv
  let i := rmsOf q.si gi
  let y := { x with
    vrms := v % 2 ^ 32, irms := i % 2 ^ 32, p := powerOf q gv gi
    stuckSeen := x.stuckSeen || x.has .stuck, overSeen := x.overSeen || (x.has .overrange && !x.has .stuck), xomSeen := x.xomSeen || !xom }
  if measured then
    let (a, ar) := if 0 < e then advanceReg y.eimp y.aimp e.toNat else (y.eimp, y.aimp)
    let (b, br) := if e < 0 then advanceReg y.eexp y.aexp (-e).toNat else (y.eexp, y.aexp)
    { y with eimp := a, aimp := ar, eexp := b, aexp := br, saturated := y.saturated || a == cntMax || b == cntMax
             secs := y.secs + 1, daySecs := y.daySecs + 1, vmax := max y.vmax v, imax := max y.imax i, vsum := y.vsum + v, isum := y.isum + i }
  else y

/-- MTIME after one metrology second, with a slew of 1 ms in it (R468). -/
def Met.second (m : Met) : Met :=
  let ms := m.mfrac + 1000 + (if 0 < m.slew then 1 else 0) - (if m.slew < 0 then 1 else 0)
  { m with sec := m.sec + 1, mtime := (m.mtime + ms / 1000) % 2 ^ 32, mfrac := ms % 1000, slew := m.slew - m.slew.sign }

/-- The parameter set accepted comes into force at a window boundary, logged as LRPS_LOADED (R474). -/
def State.adoptLrps (s : State) : State :=
  match s.met.nextLrps with
  | none => s
  | some l =>
    let old := s.met.lrps
    let v0 := match old with | some o => o.version | none => 0
    let t0 := match old with | some o => padTo 16 o.tag | none => zeros 16
    { s with met := { s.met with lrps := some l, prevLrps := old, nextLrps := none } }.metEvent 0x03 0xFF
      (beBytes 4 v0 ++ beBytes 4 l.version ++ t0 ++ padTo 16 l.tag)

/-- A signed 32-bit value's code. -/
def code32 (v : Int) : Nat := (v % 4294967296).toNat

/-- Payload of MEASURE (R482). -/
def Met.measurePayload (m : Met) : Bytes :=
  beBytes 4 m.mtime ++ m.m.toList.flatMap (fun x => beBytes 4 x.vrms ++ beBytes 4 x.irms ++ beBytes 4 (code32 x.p))

/-- The channel MPULSE shows gains the window's net energy (R478). -/
def Met.mpAdd (m : Met) (q : Fin 16 → Sums) (k : Nat) : Met :=
  match m.mpSel with
  | .ch n =>
    let c := dom n
    if m.measures c then { m with mpAcc := m.mpAcc + netOf (q c) (gainOf m.lrps k (16 + n)) (gainOf m.lrps k n) } else m
  | _ => m

/-- A window closes with its sums (R456). -/
def State.windowClose (s : State) (sums : List Sums) : State :=
  let q := fun (c : Fin 16) => sums.getD c.val ⟨0, 0, 0⟩
  let k := s.freeCount
  let m0 := s.met.mpAdd q k
  let m1 := m0.eachMeter (fun c x => x.window (m0.measures c) m0.xom (q c) (gainOf m0.lrps k (16 + c.val)) (gainOf m0.lrps k c.val))
  let m2 := { m1 with skipWin := false, ivXom := m1.ivXom || !m1.xom }.second
  let s1 := { s.tick1 with met := m2 }.adoptLrps
  s1.slipSend .ocnoix 0x17 s1.met.measurePayload true

/-! ## Intervals and days (R464, R466, R468, R469, R494) -/

/-- Channel flags (R466). -/
def Met.chanFlags (m : Met) (c : Fin 16) : Nat :=
  let x := m.meter c
  bitOf (m.fitted.testBit c.val) 0 + bitOf x.stuckSeen 1 + bitOf x.overSeen 2 + bitOf x.chainFault 3 + bitOf x.suspect 4
    + bitOf x.notFull 5 + bitOf x.saturated 6 + bitOf x.xomSeen 7

/-- Channels in order. -/
def perChannel (f : Fin 16 → Bytes) : Bytes := (List.finRange 16).flatMap f

/-- The interval entry without its tag. -/
def Met.intervalEntry (m : Met) : Bytes :=
  beBytes 4 m.ivStart ++ beBytes 4 m.ivIdx ++ beBytes 2 m.sealcnt ++ beBytes 2 (m.stateWord m.ivCrazed m.ivXom) ++ beBytes 2 m.fitted ++ [0, 0]
    ++ perChannel (fun c =>
      let x := m.meter c
      beBytes 4 (x.eimp - x.eimp0) ++ beBytes 4 (x.eexp - x.eexp0) ++ beBytes 2 x.secs ++ beBytes 3 x.imax ++ beBytes 1 (m.chanFlags c))
    ++ zeros 8

/-- Payload of an interval block. -/
def Met.intervalPayload (m : Met) (idx : Nat) : Bytes :=
  let mean := fun (sum n : Nat) => if n = 0 then 0 else sum / n
  beBytes 4 m.ivStart ++ beBytes 2 900 ++ beBytes 2 m.fitted ++ m.lrpsTag ++ beBytes 4 idx
    ++ perChannel (fun c =>
      let x := m.meter c
      beBytes 8 x.eimp ++ beBytes 8 x.eexp ++ beBytes 4 (mean x.vsum x.secs) ++ beBytes 4 (mean x.isum x.secs) ++ beBytes 4 x.vmax
        ++ beBytes 4 x.imax ++ beBytes 2 x.secs ++ beBytes 2 (m.chanFlags c) ++ [0, 0])

/-- A new interval starts at `start`; the flags of the closed one pass to its day. -/
def Met.newInterval (m : Met) (start : Nat) : Met :=
  let m1 := m.eachMeter (fun c x =>
    { x with dayFlags := x.dayFlags ||| m.chanFlags c, eimp0 := x.eimp, eexp0 := x.eexp, secs := 0, vmax := 0, imax := 0, vsum := 0, isum := 0
             stuckSeen := false, overSeen := false, suspect := false, notFull := false, xomSeen := false })
  { m1 with ivStart := start, dayCrazed := m.dayCrazed || m.ivCrazed, dayXom := m.dayXom || m.ivXom, ivCrazed := m.crazed, ivXom := !m.xom }

/-- The interval closes: entry, block, journal commit; the next starts at the last boundary passed (R464, R466). -/
def State.closeInterval (s : State) : State :=
  let m := s.met
  let s1 := { s with met := m.append .interval m.intervalEntry }
  let s2 := if s1.handsOver then s1.sendBlock 1 (m.stateWord m.ivCrazed m.ivXom) .interval m.ivIdx 1 (m.intervalPayload m.ivIdx) else s1
  { s2 with met := (s2.met.newInterval (s2.met.mtime / 900 * 900)).commit }

/-- The die's time runs on to MTIME `t`, where that is ahead. -/
def Met.runTo (m : Met) (t : Nat) : Met := if m.mtime < t then { m with sec := m.sec + (t - m.mtime), mtime := t, mfrac := 0 } else m

/-- The daily entry without its tag: its day is the one that ends (R466, log 19). -/
def Met.dailyEntry (m : Met) : Bytes :=
  beBytes 2 (m.dayStart / 86400) ++ [0, 0] ++ beBytes 4 m.mtime ++ beBytes 4 m.dayIdx ++ beBytes 2 m.sealcnt
    ++ beBytes 2 (m.stateWord (m.dayCrazed || m.ivCrazed) (m.dayXom || m.ivXom)) ++ beBytes 4 m.swid ++ beBytes 4 m.lrpsVersion
    ++ perChannel (fun c =>
      let x := m.meter c
      beBytes 8 x.eimp ++ beBytes 8 x.eexp ++ beBytes 4 x.daySecs ++ beBytes 2 (x.dayFlags ||| m.chanFlags c) ++ [0, 0])
    ++ zeros 96

/-- The day closes (R466). -/
def State.closeDay (s : State) : State :=
  let m := s.met
  let s1 := { s with met := m.append .daily m.dailyEntry }
  let s2 := match s1.handsOver, s1.met.entryAt .daily m.dayIdx with
    | true, some e => s1.sendBlock 2 m.stateNow .daily m.dayIdx 1 e
    | _, _ => s1
  let m2 := s2.met.eachMeter (fun _ x => { x with daySecs := 0, dayFlags := 0 })
  { s2 with met := { m2 with dayStart := m2.mtime / 86400 * 86400, dayCrazed := false, dayXom := false } }

/-- A TIME frame with TIME_Q 0x01: a difference under 2 s is slewed, a larger one stepped and logged; a forward step across a boundary
closes the current interval there (R468, R496). -/
def State.metTime (s : State) (secs frac : Nat) : State :=
  let m := s.met
  let d : Int := ((secs * 1000 + frac * 1000 / 65536 : Nat) : Int) - ((m.mtime * 1000 + m.mfrac : Nat) : Int)
  let s0 := { s with met := { m with timeUnset := false } }
  if d.natAbs < 2000 then { s0 with met := { s0.met with slew := d } }
  else
    let s1 := { s0 with met := { s0.met with mtime := secs, mfrac := frac * 1000 / 65536, slew := 0, dayStart := secs / 86400 * 86400 } }
    let s2 := s1.metEvent 0x09 0xFF (beBytes 4 m.mtime ++ beBytes 4 secs)
    if m.ivStart / 900 * 900 + 900 ≤ secs then s2.closeInterval else s2

/-! ## Loads (R472–R475, R491, R492) -/

/-- Version of the active firmware. -/
def Met.fwVersion (m : Met) : Nat := if m.fwActive = 0 then m.fwA.version else m.fwB.version

/-- LOAD_RESULT; its detail is not stated and is free (log 18). -/
def State.loadResultFrame (s : State) (kind result : Nat) : State :=
  let v := if kind = 1 then (match s.met.nextLrps with | some l => l.version | none => s.met.lrpsVersion) else s.met.fwVersion
  let d := Config.freeBytes s.freeCount 2
  s.tick1.slipSend .ocnoix 0x16 (beBytes 1 kind ++ beBytes 1 result ++ d ++ beBytes 4 v) true

/-- A load ends refused, or abandoned: logged as LOAD_REFUSED and answered. -/
def State.loadRefuse (s : State) (kind reason : Nat) : State :=
  ({ s with met := { s.met with load := none } }.metEvent 0x05 0xFF (beBytes 1 kind ++ beBytes 1 reason)).loadResultFrame kind reason

/-- The parameter set in 336 bytes (R474). -/
def lrpsOf (b : Bytes) : Lrps :=
  let signed := fun (v : Nat) => if v < 2147483648 then (v : Int) else (v : Int) - 4294967296
  { version := beAt b 24 4, fitted := beAt b 28 2
    offset := (List.range 32).map (fun i => signed (beAt b (32 + 8 * i) 4))
    gain := (List.range 32).map (fun i => beAt b (36 + 8 * i) 4)
    surgeFloor := (List.range 16).map (fun i => beAt b (288 + 2 * i) 2), tag := slice 320 16 b }

/-- Result of an LRPS (R474, R491). -/
def Met.judgeLrps (m : Met) (b : Bytes) : Nat :=
  if !m.sealOpen then 1
  else if b.length ≠ 336 ∨ beAt b 0 4 ≠ 0x4F4C5250 then 5
  else if slice 8 16 b ≠ m.mid then 2
  else if beAt b 4 4 ≠ 1 ∨ beAt b 30 2 ≠ 0 then 5
  else if beAt b 24 4 ≤ m.lrpsVersion then 3
  else if m.keysLost || cmac m.ka (b.take 320) != slice 320 16 b then 4
  else 0

/-- Firmware floor: the largest value burned (R718). -/
def Met.fwFloor (m : Met) : Nat := (List.range 8).foldl (fun n i => max n (m.otpWord (6 + i))) 0

/-- Result of a firmware image with its tag (R475, R491). -/
def Met.judgeFw (m : Met) (b : Bytes) : Nat :=
  let len := beAt b 28 4
  let formed := decide (beAt b 0 4 = 0x4F465743 ∧ beAt b 4 2 = 1 ∧ beAt b 6 2 ≤ 1 ∧ len % 32 = 0 ∧ 128 ≤ len ∧ len ≤ 262112
    ∧ b.length = len + 16 ∧ beAt b 32 4 % 4 = 0 ∧ beAt b 32 4 < len) && zeroAt b 36 28
  if !m.sealOpen then 1
  else if !formed then 5
  else if slice 8 16 b ≠ m.mid then 2
  else if beAt b 24 4 < m.fwFloor then 3
  else if m.keysLost || cmac m.kv (b.take len) != slice len 16 b then 4
  else 0

/-- Writes the bank that is not active. -/
def Met.writeBank (m : Met) (x : FwBank) : Met := if m.fwActive = 0 then { m with fwB := x } else { m with fwA := x }

/-- The next blank floor word takes the version (R475, R718); without one, the floor part is logged as refused. -/
def State.raiseFloor (s : State) (v : Nat) : State :=
  match (List.range 8).find? (fun i => s.met.otpWord (6 + i) == 0) with
  | some i => { s with met := { s.met with otp := putD {} (6 + i) ⟨v, v, v, v⟩ s.met.otp } }
  | none => s.metEvent 0x05 0xFF [2, 3]

/-- An accepted image is activated: the journal names the bank, SWID is computed anew (R473, R475). -/
def State.activate (s : State) (b : Bytes) : State :=
  let img := b.take (b.length - 16)
  let old := s.met.swid
  let m1 := s.met.writeBank { version := beAt b 24 4, image := img, ok := true }
  let m2 := { m1 with fwActive := 1 - m1.fwActive, swid := swidOf img }.commit
  let s1 := { s with met := m2 }.metEvent 0x04 0xFF (beBytes 4 old ++ beBytes 4 m2.swid ++ beBytes 4 (beAt b 24 4))
  if (beAt b 6 2).testBit 0 then s1.raiseFloor (beAt b 24 4) else s1

/-- The last chunk has arrived: the load is checked, and accepted or refused (R474, R475). -/
def State.finishLoad (s : State) (kind : Nat) (b : Bytes) : State :=
  let s0 := { s with met := { s.met with load := none } }
  if kind = 1 then
    match s.met.judgeLrps b with
    | 0 => { s0 with met := { s0.met with nextLrps := some (lrpsOf b) } }.loadResultFrame 1 0
    | r => s0.loadRefuse 1 r
  else
    match s.met.judgeFw b with
    | 0 => (s0.activate b).loadResultFrame 2 0
    | r => { s0 with met := s0.met.writeBank { version := beAt b 24 4, image := b.take (b.length - 16), ok := false } }.loadRefuse 2 r

/-- A LOAD chunk (R474, R475, R492). The last chunk accepted, arriving again, is ignored where its data are equal and abandons the load
where they differ (R872); a chunk 0 of other data starts a new load (R492). -/
def State.takeLoad (s : State) (p : Bytes) : State :=
  let kind := beAt p 0 1
  let idx := beAt p 2 2
  let total := beAt p 4 4
  let data := p.drop 8
  let top := if kind = 1 then 336 else 262128
  let dup := match s.met.load with | some l => l.kind == kind && l.total == total && l.next == idx + 1 | none => false
  let same := match s.met.load with | some l => l.last == data | none => false
  if !s.met.sealOpen then s.loadRefuse kind 1
  else if !(kind == 1 || kind == 2) || beAt p 1 1 != 0 || decide (top < total) || data.isEmpty || decide (1024 < data.length) then s.loadRefuse kind 5
  else if dup && same then s
  else
    let go := fun (t : State) (l : MetLoad) =>
      let b := l.data ++ data
      if total < b.length then t.loadRefuse kind 5
      else if b.length = total then t.finishLoad kind b
      else { t with met := { t.met with load := some { l with next := idx + 1, data := b, last := data } } }
    match idx, s.met.load with
    | 0, some l => go (s.metEvent 0x05 0xFF (beBytes 1 l.kind ++ [6])) { kind := kind, total := total, next := 0, data := [] }
    | 0, none => go s { kind := kind, total := total, next := 0, data := [] }
    | _, some l => if l.kind = kind ∧ l.total = total ∧ l.next = idx then go s l else s.loadRefuse kind 5
    | _, none => s.loadRefuse kind 5

/-! ## The seal (R471, R472, R480, R492) -/

/-- One opening of the seal; `atStart` is bit 0 of the detail. -/
def State.openSeal (s : State) (atStart : Bool) : State :=
  let m := { s.met with sealOpen := true }
  if m.sealcnt < 0xFFFF then { s with met := { m with sealcnt := m.sealcnt + 1 } }.metEvent 0x01 0xFF (beBytes 1 (bitOf atStart 0))
  else { s with met := { m with sealExh := true } }.metEvent 0x13 0xFF []

/-- The seal is closed: SEAL_CLOSED; a load not finished is abandoned; read-out mode ends. -/
def State.closeSeal (s : State) : State :=
  let s1 := { s with met := { s.met with sealOpen := false, readout := false } }.metEvent 0x02 0xFF (beBytes 4 s.met.swid ++ beBytes 4 s.met.lrpsVersion)
  match s1.met.load with | some l => s1.loadRefuse l.kind 6 | none => s1

/-- A block as read-out mode sends it: 0x7E, its length, the block, its CRC-32 (R480). -/
def readoutFrame (b : Bytes) : Bytes := [0x7E] ++ beBytes 2 b.length ++ b ++ beBytes 4 (crc32 b)

/-- The extract blocks of read-out mode over [i, i + n) of an area, each with its own BSEQ (R469, R480). -/
def Met.readoutBlocks : (fuel : Nat) → Met → LArea → (i n : Nat) → List Bytes → Met × List Bytes
  | 0, m, _, _, _, l => (m, l)
  | f + 1, m, a, i, n, l =>
    if n = 0 then (m, l)
    else
      let k := min n a.perBlock
      let es := (List.range k).filterMap (fun j => m.entryAt a (i + j))
      let b := m.block 4 m.stateNow (extractPayload a i es)
      Met.readoutBlocks f { m with bseq := m.bseq + 1 } a (i + k) (n - k) (l ++ [readoutFrame b])

/-- One area goes out on MPULSE, oldest entry first. -/
def State.readArea (s : State) (a : LArea) : State :=
  let n := s.met.nextIdx a - s.met.oldest a
  let r := Met.readoutBlocks n s.met a (s.met.oldest a) n []
  { s with met := r.1 }.emit (.readout a r.2)

/-- No session has been live for 600 s (R480). In metrology hold the model counts no seconds, and a free choice says so (log 64). -/
def State.sessionsGone (s : State) : Bool :=
  !s.met.live && (if s.met.hold.isSome then Config.freeNat s.freeCount % 2 == 1 else decide (s.met.sessEnd + 600 ≤ s.met.sec))

/-- Read-out mode begins where no session has been live for 600 s: logged, and every area sent on MPULSE (R480). -/
def State.enterReadout (s : State) : State :=
  if !s.sessionsGone then s.tick1
  else
    let m := s.met
    let ends := fun (a : LArea) => beBytes 4 (m.oldest a) ++ beBytes 4 (m.nextIdx a - 1)
    let s1 := { s.tick1 with met := { m with readout := true } }.metEvent 0x12 0xFF (ends .interval ++ ends .daily ++ ends .event)
    ((s1.readArea .interval).readArea .daily).readArea .event

/-! ## The Ocnoix grade machine (R246–R249, R490) -/

/-- GRADE event (R466). -/
def State.metGrade (s : State) (g : Grade) (cause index : Nat) : State := s.metEvent 0x0E 0xFF (beBytes 1 g.code ++ beBytes 1 cause ++ beBytes 1 index)

/-- What the main die does when METFAULT is raised by a grade: SJM rings complete ABORT_PEER, and the Watch event carries the Ocnoix
cause (R248). -/
def State.peerGraded (s : State) (g : Grade) (cause index : Nat) : State :=
  let s1 := s.slipLost
  if !s1.rails.vao then s1
  else
    let body := tamperBody 1 g.code ⟨cause, index, s1.tick⟩ 0 0 s1.met.crazedAt.length s1.met.glitchAt.length
    (s1.logEv 0x0301 1 0 body false).report 0x06 body

/-- Ocnoix Shattered: a journal entry with KEYS_LOST, keys burned to ones, KEYS_ZEROIZED; metering goes on (R490). -/
def State.metShatter (s : State) (cause index : Nat) : State :=
  let s1 := (s.metGrade .shattered cause index).peerGraded .shattered cause index
  let ones := List.replicate 16 (0xFF : Byte)
  let m1 := { s1.met with grade := .shattered, ivCrazed := true, keysLost := true, selfCheck := false, load := none }.commit
  { s1 with met := { m1 with kv := ones, ka := ones, kp := ones } }.metEvent 0x11 0xFF []

/-- Ocnoix Crazed by a trip, counted once; the ninth entry within 24 h gives Shattered (R264, R490). -/
def State.metCraze (s : State) (cause index : Nat) : State :=
  if s.met.grade = .shattered then s
  else if s.met.grade = .crazed then
    { s with met := { s.met with quietFrom := s.met.sec, selfCheckTrip := s.met.selfCheck } }.metGrade .crazed cause index
  else
    let hist := s.met.sec :: s.met.crazedAt.filter (fun t => decide (s.met.sec < t + 86400))
    let s1 := { s with met := { s.met with crazedAt := hist } }
    if 9 ≤ hist.length then s1.metShatter 0x2B index
    else
      let s2 := { s1 with met := { s1.met with
        grade := .crazed, ivCrazed := true, quietFrom := s1.met.sec, selfCheck := false, selfCheckTrip := false, latches := [⟨cause, index, s1.met.sec⟩] } }
      (s2.metGrade .crazed cause index).peerGraded .crazed cause index

/-- An Ocnoix trip is graded (R246). -/
def State.metTrip (s : State) (cause index : Nat) (excused : Bool) : State :=
  if cause = 0x21 && excused then s.metGrade .watch cause index
  else if cause = 0x22 then
    let hist := s.met.sec :: s.met.glitchAt.filter (fun t => decide (s.met.sec < t + 10))
    let s1 := { s with met := { s.met with glitchAt := hist } }
    if decide (3 ≤ hist.length) && s1.met.grade != .shattered then s1.metShatter 0x2C index else s1.metCraze cause index
  else if cause = 0x28 ∨ cause = 0x2A ∨ (cause = 0x25 ∧ s.met.sealOpen = false) then
    (if s.met.grade = .shattered then s else s.metShatter cause index)
  else s.metCraze cause index

/-! ## The start of the die (R460, R464, R465, R487–R491) -/

/-- The firmware bank that starts: the preferred one, or once the other; with the keys zeroized, the journal's bank by its digest. -/
def Met.startBank (m : Met) : Option Nat :=
  let bank := fun (b : Nat) => if b = 0 then m.fwA else m.fwB
  if m.keysLost then
    match m.journal with
    | some j => if sha2 .sha256 (bank j.bank).image == j.digest then some j.bank else none
    | none => none
  else if (bank m.fwActive).ok then some m.fwActive
  else if (bank (1 - m.fwActive)).ok then some (1 - m.fwActive)
  else none

/-- The register journal is restored; BSEQ advances by 2²⁰ (R464, R465). -/
def Met.restore (m : Met) : Met :=
  match m.journal with
  | none => { m with bseq := m.bseq + 2 ^ 20 }
  | some j =>
    let m1 := m.eachMeter (fun c x =>
      let r := j.regs.getD c.val (0, 0, 0, 0)
      { x with eimp := r.1, eexp := r.2.1, aimp := r.2.2.1, aexp := r.2.2.2 })
    { m1 with mtime := j.mtime, mfrac := 0, sealOpen := j.sealOpen, sealcnt := j.sealcnt, bseq := j.bseq + 2 ^ 20, sessions := j.sessions
              ivPtr := j.ptrs.getD 0 0, dayPtr := j.ptrs.getD 1 0, evPtr := j.ptrs.getD 2 0 }

/-- The known-answer test with the chains it found bad, 16 being the spare: one live chain is replaced by the spare, a further one is
CHAIN_FAULT (R460). -/
def Met.knownAnswer (m : Met) (bad : List Nat) : Met :=
  let spareBad := bad.contains 16
  let live := (List.range 16).filter (fun c => bad.contains c)
  let sub := if spareBad then none else live.head?
  let m1 := m.eachMeter (fun c x => { x with chainFault := live.contains c.val && sub != some c.val })
  { m1 with spareFor := sub, spareFault := spareBad, substituted := sub.isSome, slot := 0, mism := none }

/-- The meters at a start: nothing measured yet in the interval and the day. -/
def Met.freshMeters (m : Met) : Met :=
  let m1 := m.eachMeter (fun _ x =>
    { ({} : Meter) with eimp := x.eimp, eexp := x.eexp, aimp := x.aimp, aexp := x.aexp, eimp0 := x.eimp, eexp0 := x.eexp
                        saturated := x.eimp == cntMax || x.eexp == cntMax })
  { m1 with ivStart := m.mtime / 900 * 900, dayStart := m.mtime / 86400 * 86400, ivCrazed := false, ivXom := false, dayCrazed := false, dayXom := false }

/-- Ocnoix OTP words with both copies marginal. -/
def Met.otpHeld (m : Met) : Bool := m.otp.any (fun e => !decide (4 ≤ e.1 ∧ e.1 ≤ 0x0D) && e.2.trim.isNone)

/-- One FUSE_MARGINAL event for each marginal copy (R177, R179). -/
def State.metMarginals (s : State) : State :=
  s.met.otp.foldl (fun t e => (List.range e.2.marginals).foldl (fun u _ =>
    u.metEvent 0x0F 0xFF (beBytes 2 e.1 ++ beBytes 4 e.2.pl ++ beBytes 4 e.2.ph ++ beBytes 4 e.2.rl ++ beBytes 4 e.2.rh)) t) s

/-- The die starts (R487). -/
def State.metStart (s : State) (sealHigh : Bool) (bad : List Nat) (xomOk : Bool) : State :=
  let had := s.met.journal.isSome
  let lost := s.met.commitLost
  let from_ := match s.met.journal with | some j => j.mtime | none => 0
  let hold := if s.met.otpHeld then some 1 else if s.met.startBank.isNone then some 2 else none
  let b := s.met.startBank.getD s.met.fwActive
  let m1 := s.met.restore.freshMeters.knownAnswer bad
  let m2 := { m1 with
    fwActive := b, swid := swidOf (if b = 0 then m1.fwA.image else m1.fwB.image), hold := hold, running := hold.isNone, xom := xomOk
    timeUnset := true, slew := 0, skipWin := false, commitLost := false, load := none, blocks := [], grade := .none, latches := []
    selfCheck := false, selfCheckTrip := false, surge := false, mpSel := .off, mpAcc := 0, mpBacklog := 0, readout := false
    sessEnd := m1.sec, sj := {} }
  let m3 := if lost then m2.eachMeter (fun _ x => { x with notFull := true }) else m2
  let s1 := { s with met := m3 }.metMarginals
  let s2 := if lost then s1.metEvent 0x08 0xFF (beBytes 4 from_ ++ beBytes 4 s.met.lossAt)
    else if had then s1.metEvent 0x06 0xFF (beBytes 4 s.met.lossAt) else s1
  let s3 := s2.metEvent 0x07 0xFF (beBytes 4 from_ ++ beBytes 4 (2 ^ 20))
  let s4 := if m3.spareFault then s3.metEvent 0x0D 0xFF [] else s3
  let s5 := match hold with | some r => s4.metEvent 0x10 0xFF (beBytes 1 r) | none => s4
  let s6 := if sealHigh && !s5.met.sealOpen then s5.openSeal true else if !sealHigh && s5.met.sealOpen then s5.closeSeal else s5
  s6.adoptLrps

end Sys2Proof.Machine
end

