-- ==== Sys2Proof/Machine/Metrology.lean ====
section
/-! DEFINITION. Commands of the Ocnoix die and the Slip Joint (12_metrology.md). -/

namespace Sys2Proof.Machine

open Sys2Proof

/-! ## Supply, seal and sensors -/

/-- VMET_VALID (R487): the die starts with the accepted SEAL_OPEN level, the chains its known-answer test found bad (16 the spare), and
whether XOM was adopted. -/
def execVmetValid (sealHigh : Bool) (badChains : List Nat) (xomOk : Bool) (s : State) : Out :=
  .next (if s.rails.vmet then s else { s with rails := { s.rails with vmet := true } }.metStart sealHigh badChains xomOk)

/-- The die stops at a VMET loss: one journal page from VMCAP where it completes; a bank being written is invalid (R464, R492). -/
def Met.stop (m : Met) (commitOk : Bool) : Met :=
  let m1 := match m.load with
    | some l => if l.kind = 2 then m.writeBank { (if m.fwActive = 0 then m.fwB else m.fwA) with ok := false } else m
    | none => m
  let m2 := if m.running && commitOk then m1.commit else { m1 with commitLost := m1.commitLost || m1.running }
  { m2 with lossAt := m.mtime, load := none, running := false, hold := none, surge := false, xom := false, sj := {}, readout := false }

/-- VMET_INVALID (R464, R140, R602): the session drops at both ends and the SJM rings complete ABORT_PEER. -/
def execVmetInvalid (commitOk : Bool) (s : State) : Out :=
  .next (if !s.rails.vmet then s else
    let s1 := { s with met := s.met.stop commitOk, rails := { s.rails with vmet := false } }
    let s2 := { s1 with sjm := { s1.sjm with sj := { s1.sjm.sj with up := false } } }
    ((s2.endSlip .main).abortPeer).reschedule)

/-- OCNOIX_SENSOR_TRIP (R246): `nearSurge` says that a SURGE of the die's own lies within the excuse window of a VMET dip. -/
def execOcnoixSensorTrip (cause index : Nat) (nearSurge : Bool) (s : State) : Out :=
  .next (if s.metPowered && decide (0x20 ≤ cause ∧ cause ≤ 0x2A) then s.metTrip cause index (nearSurge || s.met.surge) else s)

/-- SEAL_OPEN_CHANGE (R471): an accepted level, in metrology hold as well (R488); read-out mode may begin (R480). -/
def execSealOpenChange (isOpen : Bool) (s : State) : Out :=
  .next (if !s.metPowered || s.met.sealOpen == isOpen then s
    else if isOpen then (s.openSeal false).enterReadout else s.closeSeal)

/-! ## Measurement -/

/-- WINDOW_CLOSE (R456): the window's exact sums of each channel. -/
def execWindowClose (sums : List Sums) (s : State) : Out := .next (if s.metUp then s.windowClose sums else s)

/-- INTERVAL_CLOSE (R466). -/
def execIntervalClose (s : State) : Out :=
  .next (if s.metUp then { s with met := s.met.runTo (s.met.ivStart / 900 * 900 + 900) }.closeInterval else s)

/-- DAILY_CLOSE (R466). -/
def execDailyClose (s : State) : Out :=
  .next (if s.metUp then { s with met := s.met.runTo (s.met.dayStart + 86400) }.closeDay else s)

/-- A change of health the table of R454 has. -/
def healthMoves : Health → Health → Bool
  | .ok, .stuck => true | .ok, .overrange => true | .overrange, .stuck => true
  | .stuck, .ok => true | .overrange, .ok => true
  | _, _ => false

/-- Number of a health state. -/
def Health.num : Health → Nat
  | .ok => 0 | .stuck => 1 | .overrange => 2

/-- INPUT_HEALTH_CHANGE (R454). -/
def execInputHealthChange (voltage : Bool) (c : Fin 16) (h : Health) (s : State) : Out :=
  .next (if !s.metUp || !healthMoves (if voltage then (s.met.meter c).hv else (s.met.meter c).hi) h then s
    else
      let note := fun (x : Meter) => { x with stuckSeen := x.stuckSeen || h == .stuck, overSeen := x.overSeen || h == .overrange }
      let m := s.met.updMeter c (fun x => note (if voltage then { x with hv := h } else { x with hi := h }))
      { s with met := m }.metEvent 0x0A c.val [Config.inputIndex voltage c.val, Config.healthCode (Machine.Health.num h)])

/-- SURGE_ASSERT (R459): the wire is a reference event of the AO island and wakes the main island (R160, R255). -/
def execSurgeAssert (c : Fin 16) (s : State) : Out :=
  .next (if !s.metUp || !s.met.fitted.testBit c.val || s.met.surge then s
    else
      let s1 := { s with met := { s.met with surge := true } }
      if s1.rails.vao then (s1.reference .surge).wakeMain else s1)

/-- SURGE_RELEASE (R459). -/
def execSurgeRelease (s : State) : Out := .next (if s.met.surge then { s with met := { s.met with surge := false } } else s)

/-! ## Spare chain (R461, R462) -/

/-- The slot of a channel stays idle: not fitted, or fused retired (R461). -/
def Met.idleSlot (m : Met) (c : Fin 16) : Bool := !m.fitted.testBit c.val || (m.otpWord 5).testBit c.val

/-- A slot's comparison mismatched (R462). -/
def State.slotMismatch (s : State) (c sample : Nat) : State :=
  let m1 := s.met.updMeter (dom c) (fun x => { x with suspect := true })
  let s1 := { s with met := m1 }.metEvent 0x0B c (beBytes 2 sample)
  match s.met.mism with
  | none => { s1 with met := { s1.met with mism := some (c, true) } }
  | some (c0, next) =>
    if c0 = c then
      { s1 with met := { s1.met with spareFor := some c, substituted := true, mism := none } }.metEvent 0x0C c []
    else if next then { s1 with met := { s1.met with spareFault := true, mism := none } }.metEvent 0x0D 0xFF []
    else { s1 with met := { s1.met with mism := some (c, true) } }

/-- A slot's comparison matched. -/
def Met.slotMatch (m : Met) (c : Nat) : Met :=
  match m.mism with
  | some (c0, next) => if c0 = c then { m with mism := none } else if next then { m with mism := some (c0, false) } else m
  | none => m

/-- SPARE_SLOT (R461): the slot of the next channel ends with the index of its first differing sample, or with a match. -/
def execSpareSlot (mismatch : Option Nat) (s : State) : Out :=
  .next (if !s.metUp || s.met.spareFault || s.met.spareFor.isSome then s
    else
      let c := s.met.slot % 16
      let s0 := { s with met := { s.met with slot := (c + 1) % 16 } }
      if s0.met.idleSlot (dom c) then s0
      else match mismatch with
        | some k => s0.slotMismatch c k
        | none => { s0 with met := s0.met.slotMatch c })

/-! ## MPULSE (R477–R479) -/

/-- MPULSE_PULSE (R478): one pulse is emitted; `due` pulses have fallen due since the last, and those that must wait go to the backlog
of 1000, beyond which they are lost. -/
def execMpulsePulse (due : Nat) (s : State) : Out :=
  .next (match s.met.mpSel with
    | .ch _ =>
      let n := s.met.mpBacklog + due
      if !s.metUp || n == 0 || s.met.readout then s
      else
        let m := { s.met with mpAcc := s.met.mpAcc - (100 * mWh * due : Nat), mpCount := s.met.mpCount + 1, mpBacklog := min 1000 (n - 1) }
        let s1 := { s with met := m }.emit .mpulse
        if 1000 < n - 1 then s1.metEvent 0x14 0xFF (beBytes 4 (n - 1 - 1000)) else s1
    | _ => s)

/-- MPULSE_TIMEOUT (R477). -/
def execMpulseTimeout (s : State) : Out :=
  .next (if s.metUp && s.met.mpSel != .off then
    { s with met := { s.met with sec := max s.met.sec (s.met.mpAt + 86400), mpSel := .off, mpAcc := 0, mpBacklog := 0 } }
  else s)

/-- The selection after a PRESS: OFF, the fitted channels rising, SWID, OFF (R477). -/
def Met.nextSel (m : Met) : MpSel :=
  let after := fun (k : Nat) => match (List.range 16).find? (fun c => decide (k ≤ c) && m.fitted.testBit c) with
    | some c => MpSel.ch c | none => MpSel.swid
  match m.mpSel with
  | .off => after 0 | .ch c => after (c + 1) | .swid => .off

/-- PRESS (R477): ignored in read-out mode (R480). -/
def execPress (f : SjRx) (s : State) : Out :=
  .next (s.ackIdle .ocnoix <|
    let (s1, ok) := s.slipTake .ocnoix 0x03 false f
    if !ok || s1.met.readout then s1
    else
      let sel := s1.met.nextSel
      let s2 := { s1 with met := { s1.met with mpSel := sel, mpAt := s1.met.sec, mpAcc := 0, mpBacklog := 0 } }
      if sel == .off then s2 else s2.emit (.announce sel))

/-! ## XOM (R493) -/

/-- XOM_LOST (R493): every accumulator stops and cause 0x23 is graded. -/
def execXomLost (s : State) : Out :=
  .next (if !s.metUp || !s.met.xom then s
    else { s with met := { s.met with xom := false, ivXom := true } }.metTrip 0x23 0 false)

/-- XOM_RETAKEN (R493): accumulation restarts at the next window. -/
def execXomRetaken (s : State) : Out :=
  .next (if !s.metUp || s.met.xom then s else { s with met := { s.met with xom := true, skipWin := true } })

/-! ## Sessions (R482) -/

/-- The die answers a HELLO_M with HELLO_O, then with its CONFIRM (R482). -/
def State.answerHello (s : State) (nm : Bytes) : State :=
  let s1 := s.endSlip .ocnoix
  let m := { s1.met with sessions := s1.met.sessions + 1 }.commit
  let no := slipNo m.kp m.sessions
  let se : SjSess := { kTx := slipKey m.kp 2 nm no, kRx := slipKey m.kp 1 nm no }
  let s2 := { s1 with met := { m with sj := { m.sj with sess := some se, nm := nm } } }
  let p := no ++ m.mid ++ beBytes 4 m.swid ++ beBytes 2 m.sealcnt ++ beBytes 2 m.stateNow
  (s2.slipSend .ocnoix 0x02 p false).slipSend .ocnoix 0x10 [] true

/-- HELLO_M (R482): answered unless the keys are gone (R491) or sealed by Crazed (R249). -/
def execHelloM (f : SjRx) (s : State) : Out :=
  .next (s.ackIdle .ocnoix <|
    let (s1, ok) := s.slipTake .ocnoix 0x01 false f
    if ok && !s1.met.keysLost && !s1.met.crazed && decide (f.payload.length = 16) then s1.answerHello f.payload else s1)

/-- HELLO_O (R482): the main die derives both keys, keeps and measures what the die is (R185), and sends CONFIRM. -/
def execHelloO (f : SjRx) (s : State) : Out :=
  .next (s.ackIdle .main <|
    let (s1, ok) := s.slipTake .main 0x02 false f
    match s1.pairKey with
    | some kp =>
      if !ok || s1.sjm.sj.nm.isEmpty || s1.sjm.sj.sess.isSome || decide (f.payload.length ≠ 40) || !s1.wheelRuns || s1.crazed then s1
      else
        let p := f.payload
        let no := slice 0 16 p
        let nm := s1.sjm.sj.nm
        let se : SjSess := { kTx := slipKey kp 1 nm no, kRx := slipKey kp 2 nm no }
        let s2 := { s1 with sjm := { s1.sjm with
          mid := slice 16 16 p, swid := beAt p 32 4, sealcnt := beAt p 36 2, state := beAt p 38 2
          sj := { s1.sjm.sj with sess := some se, nm := [] } } }
        (s2.measure 9 1 0x0901 (slice 16 24 p)).slipSend .main 0x10 [] true
    | none => s1)

/-- CONFIRM (R482): the session is live at the end that accepts it; the die then hands over what is due (R483). -/
def execConfirm (side : SjSide) (f : SjRx) (s : State) : Out :=
  .next (s.ackIdle side <|
    let (s1, ok) := s.slipTake side 0x10 true f
    let e := s1.slipEnd side
    match ok, e.sess with
    | true, some x =>
      let s2 := s1.setSlip side { e with sess := some { x with live := true } }
      if side == .ocnoix then (if x.live then s2 else s2.catchUp) else s2.sendTime
    | _, _ => s1)

/-- TIME (R468): acted on only with TIME_Q 0x01 (R497). -/
def execTime (f : SjRx) (s : State) : Out :=
  .next (s.ackIdle .ocnoix <|
    let (s1, ok) := s.slipTakeLive .ocnoix 0x11 f
    if ok && decide (f.payload.length = 8) && beAt f.payload 6 1 == 1 then s1.metTime (beAt f.payload 0 4) (beAt f.payload 4 2) else s1)

/-- BLOCK (R483): carried verbatim in a LEGAL record; its HACK follows once that record is in the retention ring (R419). -/
def execBlock (f : SjRx) (s : State) : Out :=
  .next (s.ackIdle .main <|
    let (s1, ok) := s.slipTakeLive .main 0x12 f
    if !ok || !s1.wheelRuns || decide (f.payload.length < 80 ∨ 1024 < f.payload.length) then s1
    else
      let b := f.payload
      let body := beBytes 1 (beAt b 0 1) ++ [0] ++ beBytes 2 b.length ++ b
      let s2 := { s1 with sjm := { s1.sjm with hacks := s1.sjm.hacks ++ [beAt b 20 8] } }
      (s2.report 0x07 body).sendHacks)

/-- HACK (R483). -/
def execHack (f : SjRx) (s : State) : Out :=
  .next (s.ackIdle .ocnoix <|
    let (s1, ok) := s.slipTakeLive .ocnoix 0x13 f
    if ok && decide (f.payload.length = 16) then { s1 with met := s1.met.hack (beAt f.payload 0 8) (beAt f.payload 8 8) } else s1)

/-- Area of a code (R469). -/
def areaOf (n : Nat) : Option LArea := if n = 1 then some .interval else if n = 2 then some .daily else if n = 3 then some .event else none

/-- EXTRACT_REQ (R483): extract blocks of the entries asked for that the log still holds. -/
def execExtractReq (f : SjRx) (s : State) : Out :=
  .next (s.ackIdle .ocnoix <|
    let (s1, ok) := s.slipTakeLive .ocnoix 0x14 f
    match areaOf (beAt f.payload 0 1) with
    | some a =>
      if ok && decide (f.payload.length = 10) && zeroAt f.payload 1 3 && s1.handsOver then
        s1.sendExtracts (beAt f.payload 8 2) a (beAt f.payload 4 4) (beAt f.payload 8 2)
      else s1
    | none => s1)

/-- LOAD (R474, R475). -/
def execLoad (f : SjRx) (s : State) : Out :=
  .next (s.ackIdle .ocnoix <|
    let (s1, ok) := s.slipTakeLive .ocnoix 0x15 f
    if ok && decide (8 ≤ f.payload.length) then s1.takeLoad f.payload else s1)

/-- IDLE (R481): its ACK and CREDIT apply. -/
def execIdle (side : SjSide) (f : SjRx) (s : State) : Out := .next (s.ackIdle side (s.slipTake side 0x00 false f).1)

/-- SLIP_JOINT_RESEND (R481): every unacknowledged frame is resent; after 32 sends of one the link is down. -/
def execSlipJointResend (side : SjSide) (s : State) : Out :=
  .next (
    let e := s.slipEnd side
    if !s.slipPowered || e.unacked.isEmpty then s
    else if e.unacked.any (fun f => decide (32 ≤ f.sends)) then
      (s.setSlip .main { s.sjm.sj with up := false }).setSlip .ocnoix { s.met.sj with up := false }
    else
      let fs := e.unacked.map (fun f => { f with sends := f.sends + 1 })
      fs.foldl (fun t f => t.emit (.slip side f.type f.payload)) (s.setSlip side { e with unacked := fs }))

/-- SLIP_JOINT_DOWN (R481, R602): the link has been down for 1 ms. -/
def execSlipJointDown (s : State) : Out :=
  .next (if s.slipPowered && s.sjm.sj.up && s.met.sj.up then s else s.slipLost.reschedule)

/-! ## Event wires (R485) -/

/-- METFAULT_CHANGE (R485): an accepted level, reported by the main die. -/
def execMetfaultChange (asserted : Bool) (s : State) : Out :=
  .next (if !s.rails.vao || s.sjm.metfault == asserted then s
    else ({ s with irq := s.irq ||| 2 ^ 17, sjm := { s.sjm with metfault := asserted } }.wakeMain).wlog 0x0D01 0 (beBytes 1 1 ++ beBytes 1 (bitOf (!asserted) 0)) true)

/-- SEALSTATE_CHANGE (R485). -/
def execSealstateChange (isSealed : Bool) (s : State) : Out :=
  .next (if !s.rails.vao || s.sjm.sealstate == isSealed then s
    else ({ s with irq := s.irq ||| 2 ^ 17, sjm := { s.sjm with sealstate := isSealed } }.wakeMain).wlog 0x0D01 0 (beBytes 1 2 ++ beBytes 1 (bitOf isSealed 0)) true)

/-! ## The die's quiet interval and self-check (R261–R263, R490) -/

/-- OCNOIX_CRAZED_QUIET_EXPIRY (R490). -/
def execOcnoixCrazedQuietExpiry (s : State) : Out :=
  .next (if s.metPowered && s.met.grade == .crazed && !s.met.selfCheck then
    { s with met := { s.met with sec := max s.met.sec (s.met.quietFrom + 1), selfCheck := true, selfCheckTrip := false } }
  else s)

/-- OCNOIX_SELFCHECK_DONE (R490): a pass without a trip clears Ocnoix Crazed; else a new quiet interval starts. -/
def execOcnoixSelfcheckDone (pass : Bool) (s : State) : Out :=
  .next (if !s.metPowered || s.met.grade != .crazed || !s.met.selfCheck then s
    else
      let t : Trip := s.met.latches.headD ⟨0, 0, 0⟩
      if pass && !s.met.selfCheckTrip then
        { s with met := { s.met with grade := .none, selfCheck := false, latches := [] } }.metGrade .none t.cause t.index
      else { s with met := { s.met with quietFrom := s.met.sec, selfCheck := false, selfCheckTrip := false } }.metGrade .crazed t.cause t.index)

end Sys2Proof.Machine
end

