-- ==== Sys2Proof/Machine/Updates.lean ====
section
/-! DEFINITION. The end of a bundle's verification and of its install (22_kiln.md R814, R816, R817, R819, R822, R826, R827;
24_coincidences.md R860, R871; 06_lifecycle.md R217–R219, R229). -/

namespace Sys2Proof.Machine

open Sys2Proof

/-! ## The bundle checks (R816) -/

/-- KIND and SIGNER that a firing accepts (R210, R217; check 2). -/
def kindOk (f : Firing) (kind signer : Nat) : Bool :=
  match f, kind with
  | .bisque, 1 => signer == 1
  | .bisque, 2 => signer == 1
  | .bisque, 3 => signer == 2
  | .bisque, 5 => signer == 1
  | .glazed, 1 => signer == 1
  | .glazed, 2 => true
  | .glazed, 3 => signer == 2
  | .glazed, 4 => signer == 2
  | .glazed, 5 => signer == 2
  | .fired, 1 => signer == 1
  | .fired, 2 => true
  | .fired, 5 => signer == 2
  | _, _ => false

/-- Check 3: TARGET is the part, or zero where allowed. -/
def State.targetOk (s : State) (x : Bundle) : Bool := x.target == s.deviceId || (decide (x.kind ≤ 2) && x.target.all (· == 0))

/-- The hash that a bundle's signer keys must have: the vendor's, operator-root slot 0 for a first commissioning, or the current operator
root's (R814, R225). -/
def State.signerRoot (s : State) (x : Bundle) : Option Bytes :=
  if x.signer = 1 then some (s.fuseHash 0x08)
  else if x.kind = 3 ∧ s.life.firing = .bisque then some (s.fuseHash (rootWord 0))
  else s.rootSlot.map (fun i => s.fuseHash (rootWord i))

/-- Checks 4 and 5 together: bit 0 keys or typecodes, bit 1 LMS, bit 2 ECDSA. -/
def State.signatureBits (s : State) (x : Bundle) (lmsOk eccOk : Bool) : Nat :=
  bitOf (s.signerRoot x != some (signerHash x) || !typecodesOk x) 0 + bitOf (!lmsOk) 1 + bitOf (!eccOk) 2

/-- A RELEASE passes the anti-rollback rule over a floor (R817). -/
def releaseOk (floor : Nat) (x : Bundle) : Bool :=
  decide (floor ≤ x.serial) && !(x.flags.testBit 0 && decide (floor + 4096 < x.serial))

/-- Check 6: SERIAL (R229, R708, R817). -/
def State.serialOk (s : State) (x : Bundle) : Bool :=
  let gen := s.ksm.cntOf 4
  match x.kind with
  | 1 => releaseOk (s.ksm.cntOf 2) x
  | 2 => releaseOk (s.ksm.cntOf 3) x
  | 3 => decide (gen < x.serial ∧ x.serial ≤ gen + 4096 ∧ x.serial < 2 ^ 64 - 1)
  | 4 => x.serial == gen
  | _ => true

/-- Check 7: DETAIL of the body's failure, if any. -/
def State.bodyFail (s : State) (x : Bundle) (credSigOk : Bool) : Option Nat :=
  match x.kind with
  | 1 => if wheelFormed x.body then none else some 2
  | 2 =>
    let m := manifestBytes x.body
    if imageFormed x.body && decide (leAt m 0 1 ≤ 15) && leAt m 3 1 == x.signer then none else some 2
  | 3 => commissionFail { root := x.lmsPub ++ x.eccPub, device := s.deviceId, slot0 := s.pubOf 0 false, credSigOk := credSigOk } x.body
  | _ => none

/-- The first check that fails gives the result and its detail (R816). -/
def State.bundleFail (s : State) (total : Nat) (lmsOk eccOk credSigOk badPage : Bool) : Option (Nat × Nat) :=
  let b := s.bundleData
  let x := bundleOf b
  let bits := s.signatureBits x lmsOk eccOk
  if !(bundleFormed b && b.length == total) then some (8, 1)
  else if !kindOk s.life.firing x.kind x.signer then some (3, 0)
  else if !s.targetOk x then some (2, 0)
  else if bits != 0 then some (1, bits)
  else if !s.serialOk x then some (4, 0)
  else match s.bodyFail x credSigOk with
    | some t => some (8, t)
    | none => if badPage then some (5, 0) else none

/-! ## Staging -/

/-- A lifecycle bundle is staged and unapplied (R218). -/
def State.stagedOpen (s : State) : Bool := match s.life.staged with | some g => !g.applied | none => false

/-- The staged commit record of a lifecycle bundle (R219). -/
def State.stagedOf (s : State) (x : Bundle) : Staged :=
  let id := s.bundleKey.1
  let dg := sha2 .sha384 s.bundleData
  match x.kind with
  | 3 => { target := .glazed, bundleId := id, digest := dg, content := commissionContent x.serial x.body }
  | 4 => { target := .fired, bundleId := id, digest := dg, content := { generation := x.serial } }
  | _ => { target := .sherd, bundleId := id, digest := dg, sherd := some (if x.signer = 1 then .vendor else .operator) }

/-- A verified lifecycle bundle is staged, and its Burn step follows when it may (R219, R823). -/
def State.stage (s : State) (x : Bundle) : State :=
  if s.stagedOpen then s.bundleOutcome 8 0xFF01
  else (({ s with life := { s.life with staged := some (s.stagedOf x) } }).bundleOutcome 6 0).pursueStaged

/-- Domain of an image bundle; the Wheel has none. -/
def Bundle.domain (x : Bundle) : Nat := if x.kind = 1 then 0 else (manifestOf x.body).domain

/-- The image is installed already: same kind, domain, RELEASE and digest (R871). -/
def State.installedAlready (s : State) (x : Bundle) : Bool :=
  s.kiln.installed.any (fun i => i.wheel == (x.kind == 1) && i.domain == x.domain && i.release == x.serial && i.digest == sha2 .sha384 x.body
    && (i.bankA == .present || i.bankB == .present))

/-- An APPLET bundle finds an install-record entry: its domain's, or one of the 13 that is free (R822). -/
def State.entryFree (s : State) (x : Bundle) : Bool :=
  x.kind == 1 || s.kiln.installed.any (fun i => !i.wheel && i.domain == x.domain) || decide (s.kiln.installed.length < 13)

/-- A bundle that passes every check (R218, R822, R871). -/
def State.bundlePassed (s : State) (x : Bundle) : State :=
  if 3 ≤ x.kind then s.stage x
  else if s.installedAlready x then s.bundleOutcome 0 0
  else if !s.entryFree x then s.bundleOutcome 8 0xFF02
  else { s with kiln := { s.kiln with bundle := .installing } }

/-- VERIFICATION_DONE (R816): `lmsOk` and `eccOk` are what the two signatures verify to, `credSigOk` what the PART_CRED item's does under the
bundle's issuers, `badPage` that a page read uncorrectable. In Crazed verification has been abandoned (R826). -/
def execVerificationDone (lmsOk eccOk credSigOk badPage : Bool) (s : State) : Out :=
  .next (match s.kiln.bundle, s.kiln.verifying with
    | .verifying, some (_, total, _) =>
      if s.pwr.kiln != .running || s.crazed then s
      else
        let s1 := match s.bundleFail total lmsOk eccOk credSigOk badPage with
          | some (r, d) => s.bundleOutcome r d
          | none => s.bundlePassed (bundleOf s.bundleData)
        s1.wakeMain
    | _, _ => s)

/-! ## Install (R819, R822) -/

/-- Blocks of a bank that copies of images occupy, by first block and number; Wheel copies are left out for a Wheel (R819). -/
def State.copiesIn (s : State) (bank : Nat) (wheel : Bool) : List (Nat × Nat) :=
  (s.kiln.installs.filter (fun x => x.copy bank == .present && !(wheel && x.wheel))).map (fun x => (x.first bank, copyBlocks x.length))

/-- First free run of blocks of an image area for an image of `len` bytes. -/
def State.roomIn (s : State) (bank len : Nat) (wheel : Bool) : Option Nat :=
  let lo := if bank = 0 then 0 else 128
  firstFit lo (lo + 96) 1 (copyBlocks len) (s.copiesIn bank wheel)

/-- One bank of an entry takes a copy. -/
def Install.put (x : Install) (bank : Nat) (at_ : Option Nat) (img : Bytes) : Install :=
  match at_ with
  | none => x
  | some f => if bank = 0 then { x with bankA := .present, imgA := img, firstA := f } else { x with bankB := .present, imgB := img, firstB := f }

/-- An install entry of a bundle's image, with no copy yet. -/
def entryOf (x : Bundle) : Install :=
  { wheel := x.kind == 1, domain := x.domain, raiseFloor := x.flags.testBit 0, trial := x.kind == 1, release := x.serial
    version := if x.kind = 1 then wheelVersion x.body else (manifestOf x.body).version, length := x.body.length, digest := sha2 .sha384 x.body }

/-- An entry holds no copy in either bank. -/
def Install.empty (x : Install) : Bool := x.bankA == .absent && x.bankB == .absent

/-- INSTALL or BANK_DAMAGED for one copy (R808). -/
def State.logCopy (s : State) (code : Nat) (x : Install) (bank : Nat) : State := s.klog code (damagedDetail x bank)

/-- A Wheel copy is written and checked: on a match the receiving bank's record is written with TRIAL set; on a mismatch the copy is damaged
and the bundle refused with result 5 (R819). The other bank keeps its Wheel. -/
def State.installWheel (s : State) (x : Bundle) (ok : Bool) : State :=
  let b := s.recvBank
  let e := entryOf x
  let others := (s.kiln.installs.map (fun i => if i.wheel then i.drop b else i)).filter (fun i => !i.empty)
  if ok then
    let s1 := { s with kiln := { s.kiln with installs := e.put b (s.roomIn b e.length true) x.body :: others } }
    (s1.logCopy 0x0502 e b).bundleOutcome 6 0
  else
    let s1 := { s with kiln := { s.kiln with installs := (e.put b (some (if b = 0 then 0 else 128)) []).damage b :: others } }
    (s1.logCopy 0x0504 e b).bundleOutcome 5 0

/-- The applet floor rises to the RELEASE of an image with RAISE_FLOOR, at its install commit (R817). -/
def State.raiseApplet (s : State) (x : Bundle) : State :=
  let old := s.ksm.cntOf 3
  if x.flags.testBit 0 && decide (old < x.serial) then
    (s.cntAdvance 3 (x.serial - old)).klogRep 0x0505 (beBytes 2 3 ++ beBytes 8 old ++ beBytes 8 x.serial)
  else s

/-- The entry of a domain is replaced by the new one; the image it held keeps its blocks until the exchange ends (R822). -/
def replaceEntry (e : Install) (l : List Install) : List Install :=
  let mine := fun (i : Install) => !i.wheel && !i.stale && i.domain == e.domain
  if l.any mine then l.flatMap (fun i => if mine i then [e, { i with stale := true }] else [i]) else l ++ [e]

/-- An applet's copies are written and checked, in the bank that does not hold the running Wheel and then in the other: the record names the
new image, which is exchanged, or loaded at the next start (R822, R790). -/
def State.installApplet (s : State) (x : Bundle) (ok1 ok2 : Bool) : State :=
  let b := s.recvBank
  let e := entryOf x
  if !ok1 then (s.logCopy 0x0504 e b).bundleOutcome 5 0
  else if !ok2 then (s.logCopy 0x0504 e (1 - b)).bundleOutcome 5 0
  else
    let e1 := (e.put b (s.roomIn b e.length false) x.body).put (1 - b) (s.roomIn (1 - b) e.length false) x.body
    let s1 := { s with kiln := { s.kiln with installs := replaceEntry e1 s.kiln.installs } }
    let s2 := ((s1.logCopy 0x0502 e b).logCopy 0x0502 e (1 - b)).raiseApplet x
    let s3 := s2.bundleOutcome 6 0
    let d := dom x.domain
    if (s3.appOf d).man.isSome && (s3.appOf d).quar.isNone then
      (s3.updApp d (fun a => { a with incoming := some (manifestOf x.body) })).xNext
    else s3

/-- INSTALL_DONE (R819, R822): every copy has been written and read back; `ok1` and `ok2` say whether the digests of the first and second
copy match. Nothing is written during a provisional hold or in Crazed (R860). At a commit the Wheel, where it runs, extends MEAS8 with the
whole bundle (R650; assumption log 66). -/
def execInstallDone (ok1 ok2 : Bool) (s : State) : Out :=
  .next (if s.kiln.bundle != .installing || s.pwr.kiln != .running || s.crazed || s.provisional then s
    else
      let x := bundleOf s.bundleData
      let t := (if x.kind = 1 then s.installWheel x ok1 else s.installApplet x ok1 ok2).wakeMain
      if t.kiln.bundle == .staged && t.wheelRuns then t.measure 8 1 0x0801 s.bundleData else t)

end Sys2Proof.Machine
end

