-- ==== Sys2Proof/Machine/Observe.lean ====
section
/-! DEFINITION. Self-test runs and the Spyhole's periodic messages (23_test_observe.md R833–R854). -/

namespace Sys2Proof.Machine

open Sys2Proof

/-! ## Runs -/

/-- SCHED_INTERVAL in ticks and SCHED_WINDOW in ticks of the chosen option copy (R843). -/
def State.schedInterval (s : State) : Nat := leAt s.optBody 0 4 * 32768
def State.schedWindow (s : State) : Nat := leAt s.optBody 4 2 * 32768

/-- SCHEDULED_RUN (R834): SCHED_INTERVAL of powered time has passed since the last full run. -/
def execScheduledRun (s : State) : Out :=
  .next (if s.pwr.optCopy.isNone || s.schedInterval == 0 || !s.kilnReady || s.clk.tickSrc.isNone || s.life.firing == .sherd then s
    else
      let due := s.selft.lastFull + s.schedInterval
      ((s.advanceTo (s.tick + (due - s.powered))).closeWindows).triggerRun .schedule fullMask s.schedWindow)

/-- The test of partition `k` passes: it leaves no fault state and its signature is the golden value; the FLASH partition passes when no
page of its block reads uncorrectable (R833, R842). -/
def State.testPasses (s : State) (k : Nat) (sig : Bytes) (faulty : Bool) (bad : List Nat) : Bool :=
  !faulty && (if k = 61 then bad.isEmpty else sig == s.golden k)

/-- A run that has tested everything ends; a run of a start lets the start go on (R835, R847). -/
def State.runOn (s : State) (r : StRun) : State :=
  if !s.runDone then s
  else
    let pass := !s.selft.results.toList.contains 1
    let s1 := s.endRun
    if s1.pwr.phase = .selftest && r.trigger.whole then (s1.afterRun r.trigger pass).runStart else s1

/-- The Wheel opens the Slip Joint session again after the SJM test (R838). -/
def State.afterTest (s : State) (k : Nat) : State := if k = 10 ∧ s.wheelRuns then s.slipHello else s

/-- PARTITION_TEST_DONE (R842, R846): the test of an idle partition of the run has ended with signature `sig`, in a fault state where
`faulty`; `bad` lists the pages of the FLASH partition's block that read uncorrectable. No test begins during a provisional hold (R837). -/
def execPartitionTestDone (k : Nat) (sig : Bytes) (faulty : Bool) (bad : List Nat) (s : State) : Out :=
  .next (match s.selft.run with
    | some r =>
      if !r.todo.contains k || s.provisional || s.crazed || !s.kilnRuns || !(r.trigger.whole || s.partIdle k) then s
      else
        let pass := s.testPasses k sig faulty bad
        let s1 := if k = 61 then s.flashSweep bad else s.testEffect k
        ((s1.partResult r k pass).afterTest k).runOn r
    | none => s)

/-- RUN_WINDOW_CLOSE (R836). -/
def execRunWindowClose (s : State) : Out :=
  .next (match s.selft.run with
    | some r =>
      (match r.close with
      | some c => if s.clk.tickSrc.isNone then s else ((s.advanceTo c).closeWindows).endRun
      | none => s)
    | none => s)

/-! ## HEARTBEAT (R851) -/

/-- Reason of the hold that is in force, if any. -/
def State.heldNow (s : State) : Option HoldReason :=
  match s.pwr.main with
  | .hold r => some r
  | _ => if s.pwr.kiln == .rom then s.pwr.holdReason else none

/-- The 40 bytes of a HEARTBEAT. -/
def State.heartbeatBody (s : State) : Bytes :=
  let hold := s.heldNow
  s.deviceId ++ beBytes 1 (s.fuse 0x02) ++ beBytes 1 0xB0 ++ beBytes 1 s.life.firing.code ++ beBytes 1 s.gradeNow
    ++ beBytes 1 (match hold with | some r => r.code | none => 0) ++ beBytes 1 s.pwr.cause.code
    ++ beBytes 2 (match hold with | some .fuseMarginal => s.pwr.holdWord | _ => 0) ++ beBytes 2 s.straps.cabinet ++ beBytes 6 s.powered
    ++ beBytes 1 (match s.life.firing, s.life.sherdCause with | .sherd, some c => c.code | _, _ => 0) ++ beBytes 1 s.timeQ
    ++ beBytes 4 s.wheelVer ++ beBytes 2 s.spy.lost

/-- Ticks between HEARTBEATs. -/
def State.heartbeatPeriod (s : State) : Nat :=
  if s.heldNow.isSome || s.starting || s.pwr.crazedWait || s.selft.factory then 32768 else 327680

/-- HEARTBEAT (R851); in the rest of a factory-test power-up the FACTORY series follows it (R847). -/
def execHeartbeat (s : State) : Out :=
  .next (if !s.kilnReady || s.clk.tickSrc.isNone then s
    else
      let s1 := (match s.spy.hbAt with | some t => s.advanceTo (t + s.heartbeatPeriod) | none => s).closeWindows
      let s2 := (s1.spySend 1 s1.heartbeatBody).retryBurns
      let s3 := { s2 with spy := { s2.spy with hbAt := some s2.tick } }
      if s3.selft.factory && s3.life.firing == .bisque then s3.factorySeries else s3)

/-! ## OCC, RING, CNT and PC (R851, R854) -/

/-- A RING message for every ring with pending descriptors. -/
def State.ringMessages (s : State) : State :=
  allEngines.foldl (fun t e => (List.range (t.engOf e).rings.length).foldl (fun u k => if (u.ring e k).pending = 0 then u else u.ringMsg e k) t) s

/-- A CNT message. -/
def State.cntMsg (s : State) (group index : Nat) (l : List Nat) : State :=
  s.spySend 5 (beBytes 1 group ++ beBytes 1 index ++ l.flatMap (fun v => beBytes 2 v))

/-- The CNT messages of the group whose turn it is: channel statistics, uplink ports, engine counters. -/
def State.cntMessages (s : State) : State :=
  match s.spy.cntGroup with
  | 0 => (List.finRange 16).foldl (fun t c => t.cntMsg 1 c.val (t.lnk c).stats.toList) s
  | 1 => [(0, s.upl.a), (1, s.upl.b)].foldl (fun t e => t.cntMsg 2 e.1 [e.2.faultCount, e.2.excess, e.2.alarms]) s
  | _ => (((s.cntMsg 3 0 [s.aes.verdictFail, s.aes.expired]).cntMsg 3 2 [s.dig.compareFail]).cntMsg 3 3 [s.wmu.valueRefused, s.wmu.yields]).cntMsg
      3 4 [s.flc.starved, s.flc.corrected]

/-- The live counters go on by `window` FABCLK cycles, of which unit `i` was busy for `busy[i]`; they saturate (R854). -/
def Spy.count (x : Spy) (window : Nat) (busy : List Nat) : Spy :=
  let top := 2 ^ 32 - 1
  { x with liveWindow := satAdd top x.liveWindow window
           liveBusy := Vector.ofFn (fun (i : Fin 19) => satAdd top x.liveBusy[i] (busy.getD i.val 0)) }

/-- PAYLOAD of OCC: the window in FABCLK / 256 and each unit's busy part in 1/255 of it. -/
def occBody (window : Nat) (busy : List Nat) : Bytes :=
  beBytes 4 (window / 256) ++ (List.range 19).flatMap (fun i => beBytes 1 (min 255 (busy.getD i 0 * 255 / max 1 window)))

/-- OCC_PERIOD (R851): an OCC period ends, of `window` FABCLK cycles with unit `i` busy for `busy[i]` of them. -/
def execOccPeriod (window : Nat) (busy : List Nat) (s : State) : Out :=
  .next (if s.spy.occPeriod = 0 ∨ !s.mainUp ∨ s.clk.tickSrc.isNone ∨ !s.kilnReady then s
    else
      let s1 := (s.advanceTo (s.spy.occAt.getD s.tick + max 33 s.spy.occPeriod)).closeWindows
      let s2 := { s1 with spy := s1.spy.count window busy }.spySend 3 (occBody window busy)
      let s3 := if s2.spy.ringEn then s2.ringMessages else s2
      let s4 := if s3.spy.cntEn then s3.cntMessages else s3
      { s4 with spy := { s4.spy with occAt := some s4.tick, cntGroup := if s4.spy.cntEn then (s4.spy.cntGroup + 1) % 3 else s4.spy.cntGroup } })

/-- PC message of one core, when it runs an applet at P2. -/
def State.pcMsg (s : State) (k : Fin 2) : State :=
  let c := s.coreOf k
  match s.running k with
  | some d =>
    if c.level = .p2 && !c.wfi then
      s.spySend 6 (beBytes 1 k.val ++ beBytes 1 d.val ++ beBytes 4 (c.pc - (s.appOf d).imgAt))
    else s
  | none => s

/-- PC_SAMPLE (R851, R852): a PC period ends. -/
def execPcSample (s : State) : Out := .next (if s.spy.pcPeriod = 0 ∨ !s.mainRuns then s else (s.pcMsg 0).pcMsg 1)

/-- OCC_SNAP (R854): `window` and `busy` are the cycles since the last OCC period or SNAP. -/
def execOccSnap (window : Nat) (busy : List Nat) (s : State) : Out :=
  .next (if s.mainRuns then
    let x := s.spy.count window busy
    { s with spy := { x with occWindow := x.liveWindow, occBusy := x.liveBusy, liveWindow := 0, liveBusy := Vector.replicate 19 0 } }
  else s)

end Sys2Proof.Machine
end

