-- ==== Sys2Proof/Machine/ProtOps.lean ====
section
/-! DEFINITION. Changing protection: shadow registers, the validation of a commit, its instant, UPDATE and the release of held engine
accesses, the probe (14_protection.md R554–R562). -/

namespace Sys2Proof.Machine

open Sys2Proof

/-! ## Shadow registers (R554, R565, R566) -/

/-- Fields of a permission word: bits [29:18] and [11:9] read zero (R543). -/
def permFields (v : Nat) : Nat := v &&& 0xC003F1FF

/-- A write to a shadow region register; while the active copy has LOCK set it is ignored and WRITE_LOCKED is set. Gates 3 and 4 have no
regions (R554, R566). -/
def Prot.regionWrite (p : Prot) (r : RegionReg) (v : Nat) : Prot :=
  let lockedW := { p with writeLocked := true }
  let v := v % 2 ^ 32
  match r with
  | .iptStart n => if permLocked p.ipt[n].perm then lockedW else { p with iptS := p.iptS.set n { p.iptS[n] with start := v / 32 * 32 } }
  | .iptEnd n => if permLocked p.ipt[n].perm then lockedW else { p with iptS := p.iptS.set n { p.iptS[n] with stop := v / 32 * 32 } }
  | .iptPerm n => if permLocked p.ipt[n].perm then lockedW else { p with iptS := p.iptS.set n { p.iptS[n] with perm := permFields v } }
  | .gateBase g r =>
    let i := 8 * g.val + r.val
    if g = 3 ∨ g = 4 then p
    else if permLocked (p.gate.toList.getD i {}).perm then lockedW
    else { p with gateS := p.gateS.setIfInBounds i { p.gateS.toList.getD i {} with start := v / 256 * 256, stop := v % 32 } }
  | .gatePerm g r =>
    let i := 8 * g.val + r.val
    if g = 3 ∨ g = 4 then p
    else if permLocked (p.gate.toList.getD i {}).perm then lockedW
    else { p with gateS := p.gateS.setIfInBounds i { p.gateS.toList.getD i {} with perm := permFields v } }

/-- What a shadow region register reads as (R554). -/
def Prot.regionRead (p : Prot) (r : RegionReg) : Nat :=
  match r with
  | .iptStart n => p.iptS[n].start
  | .iptEnd n => p.iptS[n].stop
  | .iptPerm n => p.iptS[n].perm
  | .gateBase g r => let x := p.gateS.toList.getD (8 * g.val + r.val) {}; x.start + x.stop
  | .gatePerm g r => (p.gateS.toList.getD (8 * g.val + r.val) {}).perm

/-! ## Commit (R555–R557) -/

/-- REASON for which an IPT region is refused, 0 for none (R541, R543, R556). -/
def Region.iptFault (r : Region) : Nat :=
  if r.stop ≤ r.start then 1 else if 2 ≤ field r.perm 17 16 then 4 else 0

/-- REASON for which a gate region is refused, 0 for none (R542, R543, R556). -/
def Region.gateFault (r : Region) : Nat :=
  if r.start % 2 ^ r.stop ≠ 0 then 2 else if r.stop < 8 ∨ 26 < r.stop then 3 else if 2 ≤ field r.perm 17 16 then 4 else 0

/-- PROT_CSTAT of the first invalid region, IPT first, then gates and regions ascending; 0 where every one is valid. Enabled shadows are
judged, and those that LOCK has frozen (R556). -/
def Prot.commitFault (p : Prot) : Nat :=
  let judged (sh act : Region) : Bool := permEnabled sh.perm || permLocked act.perm
  let ipt := (List.finRange 64).findSome? (fun n =>
    if judged p.iptS[n] p.ipt[n] && p.iptS[n].iptFault != 0 then some (p.iptS[n].iptFault * 2 ^ 12 + n.val) else none)
  let gate := (List.finRange 208).findSome? (fun i =>
    if judged p.gateS[i] p.gate[i] && p.gateS[i].gateFault != 0 then
      some (p.gateS[i].gateFault * 2 ^ 12 + 2 ^ 11 + i.val / 8 * 64 + i.val % 8) else none)
  (ipt.orElse (fun _ => gate)).getD 0

/-- A commit write of core `k` is judged: a refused one is performed at once and changes no region; an accepted one waits for its
commit instant (R555, R556). -/
def Prot.judgeCommit (p : Prot) (k : Fin 2) : Prot :=
  if p.commitFault ≠ 0 then { p with commitRefused := true, cstat := p.commitFault } else { p with commits := [k] }

/-- A commit write while an earlier one waits is performed after it (R557). -/
def Prot.commitWrite (p : Prot) (k : Fin 2) : Prot :=
  match p.commits with
  | [] => p.judgeCommit k
  | l => { p with commits := l ++ [k] }

/-- The shadows become active and every unit leaves UPDATE (R555). The next commit write that waits is then judged (R557). -/
def Prot.apply (p : Prot) : Prot :=
  let q := { p with ipt := p.iptS, gate := p.gateS, gen := sat16 p.gen, update := 0, commits := [] }
  match p.commits with
  | _ :: k :: l =>
    let q1 := q.judgeCommit k
    l.foldl (fun x j => x.commitWrite j) q1
  | _ => q

/-! ## UPDATE (R558–R560) -/

/-- What a write to PROT_UPDATE leaves: bits 3 and 4 read zero (R565). -/
def updateFields (v : Nat) : Nat := v &&& 0x7FFFFE7

/-- The work of engine `e` on ring `k` goes on where an access held under UPDATE stopped it: a descriptor held at its fragment table is
checked, one in progress runs, else one is fetched; a flash job goes on by its own events; `tmo` ends the held access with KIND 8 (R559). -/
def State.rerun (s : State) (e : Eng) (k : Nat) (tmo : Bool) : State :=
  let t := s.dropDma e k
  match (s.ring e k).cur with
  | none => if tmo then (if s.fetchable e k then (s.fetchStep e k true).fetchNext e k else t) else t.fetchNext e k
  | some d =>
    let u := if tmo then s else t
    if d.raw then (t.formStep e k d tmo).fetchNext e k
    else match e with
    | .fae => u.runCipher .fae k d tmo
    | .sae => u.runCipher .sae k d tmo
    | .dig => u.runDig k d tmo
    | .wmu => if s.wmuBlocked k && !tmo then t else u.runWmu k d tmo
    | .flc => if tmo then u.runFlash k d tmo else t
    | .ksm => u.runKsm k d tmo
    | .kiln => u.runKiln d tmo
    | _ => t

/-- An engine access that is held no longer consults a unit in UPDATE: it is checked against the active set of this moment (R559). An
access whose job is still held is held again. -/
def State.releaseDma (s : State) : State :=
  s.prot.held.foldl (fun t h => match h with | .dma e k => t.rerun e k false | _ => t) s

/-! ## The probe (R562) -/

/-- Verdict of a probe of [base, base + len): KIND and the address named, none where every part passes. -/
def Prot.probeVerdict (p : Prot) (w : Who) (t : AccType) (base len : Nat) : Option (Nat × Nat) :=
  if len = 0 then some (3, base)
  else
    match p.check w t false base (min len (2 ^ 32 - base)) with
    | some x => some x
    | none => if 2 ^ 32 < base + len then some (3, 0) else none

/-- A write to PROT_PROBE_CTL of value `v` by core `k`: with GO set, PROT_PROBE_RES and _FADDR are ready (R562). -/
def Prot.probe (p : Prot) (k : Fin 2) (v : Nat) : Prot :=
  if !v.testBit 0 then p
  else
    let level := field v 5 4
    let type := field v 3 2
    let w : Who := ⟨level, field v 11 8, some k⟩
    let t : AccType := match type with | 0 => .read | 1 => .write | _ => .exec
    let verdict := if level = 3 ∨ type = 3 then some (4, p.probeBase) else p.probeVerdict w t p.probeBase p.probeLen
    let n := min p.probeLen (2 ^ 32 - p.probeBase)
    let heldBit := bitOf (p.inUpdate w p.probeBase n) 2
    match verdict with
    | none => { p with probeRes := p.gen * 2 ^ 16 + heldBit + 3, probeAddr := 0 }
    | some (kind, a) => { p with probeRes := p.gen * 2 ^ 16 + kind * 16 + heldBit + 1, probeAddr := a }

end Sys2Proof.Machine
end

