-- ==== Sys2Proof/Machine/Registers.lean ====
section
/-! DEFINITION. The register space (13_cores.md R508): what each register reads as, and what a write to it does. An offset that no chapter
documents reads zero and ignores writes. -/

namespace Sys2Proof.Machine

open Sys2Proof

/-- The engine whose ring registers a block holds (R508, R575). -/
def blockEng : (b : Nat) → Option Eng
  | 5 => some .fae | 6 => some .sae | 7 => some .dig | 8 => some .wmu | 9 => some .flc | 10 => some .ksm
  | 13 => some .lnk | 14 => some .upl | 15 => some .sjm | 16 => some .kiln | _ => none

/-- A number as an index below `n`. -/
def ix (n k : Nat) [NeZero n] : Fin n := Fin.ofNat n k

/-- Little-endian word `j` of a byte string. -/
def wordAt (b : Bytes) (j : Nat) : Nat := ofLe (slice (4 * j) 4 b)

/-! ## Reading (R18) -/

/-- Strap registers (R123). -/
def State.readStrap (s : State) (o : Nat) : Nat :=
  match o with
  | 0x00 => s.straps.levels % 2 ^ 32
  | 0x04 => s.straps.levels / 2 ^ 32
  | 0x08 => s.straps.statWord.toNat
  | 0x0C => s.straps.classWord.toNat
  | 0x10 => s.straps.configWord.toNat
  | 0x14 => s.codeBin.toNat
  | _ => 0

/-- A channel's registers (R321). -/
def Chan.readReg (x : Chan) (t o : Nat) : Nat :=
  match o with
  | 0x00 => x.stat.toNat
  | 0x10 => x.tconfLen
  | 0x14 => x.hbLen
  | 0x18 => x.holdLen
  | 0x1C => leftOf x.conf t
  | 0x20 => leftOf x.keep.close t
  | 0x24 => x.eventHead.toNat % 2 ^ 32
  | 0x28 => x.eventHead.toNat / 2 ^ 32
  | 0x30 => x.fbkGlitch * 2 ^ 16 + x.dmdGlitch
  | 0x34 => x.confLate * 2 ^ 16 + x.lost
  | 0x38 => x.ignored * 2 ^ 16 + x.mismatch
  | 0x3C => x.sticky.bits
  | _ => 0

/-- Channel registers, per channel and global (R321). -/
def State.readChan (s : State) (o : Nat) : Nat :=
  if o < 0x1000 then (s.chan (ix 16 (o / 0x100))).readReg s.tick (o % 0x100)
  else match o with
    | 0x1000 => s.tick % 2 ^ 32
    | 0x1004 => s.tickHi
    | 0x1008 => s.chPending.toNat
    | _ => 0

/-- The region register at an offset of the IPT block (R565) or of the gate block (R566). -/
def regionReg (block o : Nat) : Option RegionReg :=
  if block = 3 then
    if o < 0x400 then
      match o % 16 with
      | 0 => some (.iptStart (ix 64 (o / 16))) | 4 => some (.iptEnd (ix 64 (o / 16))) | 8 => some (.iptPerm (ix 64 (o / 16))) | _ => none
    else none
  else if block = 4 ∧ o < 0x1A00 ∧ o % 0x100 < 0x40 then
    match o % 8 with
    | 0 => some (.gateBase (ix 26 (o / 0x100)) (ix 8 (o % 0x100 / 8))) | 4 => some (.gatePerm (ix 26 (o / 0x100)) (ix 8 (o % 0x100 / 8))) | _ => none
  else none

/-- Registers of the IPT block beyond the regions (R565). Transfers are made at once, so STALE reads 0 (R561). -/
def Prot.readCtl (p : Prot) (o : Nat) : Nat :=
  match o with
  | 0x800 => p.update
  | 0x808 => p.gen * 2 ^ 16
  | 0x80C => p.cstat
  | 0x810 => bitOf p.writeLocked 1 + bitOf p.commitRefused 0
  | 0x820 => p.dfAddr
  | 0x824 => p.dfInfo + bitOf p.dfValid 0
  | 0x828 => p.dfLost
  | 0x840 => p.probeBase
  | 0x844 => p.probeLen
  | 0x84C => p.probeRes
  | 0x850 => p.probeAddr
  | _ => 0

/-- A ring's configuration page (R577). -/
def Ring.readCfg (r : Ring) (o : Nat) : Nat :=
  match o with
  | 0x00 => r.base
  | 0x04 => r.log2
  | 0x08 => bitOf r.enable 31 + bitOf r.haltPart 30 + bitOf r.notify 29 + r.ownerLevel * 16 + r.ownerDomain
  | _ => 0

/-- A ring's doorbell page (R577). -/
def Ring.readBell (r : Ring) (o : Nat) : Nat :=
  match o with
  | 0x00 => r.seen * 2 ^ 16 + r.prod
  | 0x04 => r.fetch * 2 ^ 16 + r.cons
  | 0x08 => ringStCode r.st * 2 ^ 29 + r.reason * 2 ^ 24 + bitOf r.wbLost 19 + bitOf r.configRefused 18 + bitOf r.seenRefused 17
      + bitOf r.doorbellRefused 16 + r.haltIndex
  | _ => 0

/-- FAE registers (R630). -/
def Aes.readReg (x : Aes) (o : Nat) : Nat :=
  match o with
  | 0x8000 => match x.saggar with | some (r, b) => 2 ^ 31 + r * 2 ^ 24 + b.length | none => 0
  | 0x8004 => x.verdictFail * 2 ^ 16 + x.expired
  | _ => 0

/-- DIG_CTX_STATn (R654). -/
def DigCtx.readStat (c : DigCtx) : Nat :=
  match c.st with
  | .free => 0
  | .open_ => 2 ^ 30 + bitOf c.hmac 29 + c.alg * 2 ^ 24 + c.ownerLevel * 2 ^ 20 + c.ownerDomain * 2 ^ 16
  | .final => 2 ^ 31 + bitOf c.hmac 29 + c.alg * 2 ^ 24 + c.ownerLevel * 2 ^ 20 + c.ownerDomain * 2 ^ 16

/-- DIG_MEAS_OWNERn: VALID in bit 7 and DOMAIN in bits [3:0] of each byte (R654). -/
def Dig.readOwner (x : Dig) (n : Nat) : Nat :=
  (List.range 4).foldl (fun a i => let e := x.owner.toList.getD (4 * n + i) (false, 0); a + (bitOf e.1 7 + e.2) * 256 ^ i) 0

/-- DIG registers (R654). -/
def Dig.readReg (x : Dig) (o : Nat) : Nat :=
  if 0x8000 ≤ o ∧ o < 0x8600 then (if o % 0x40 < 48 then wordAt (x.meas.toList.getD ((o - 0x8000) / 0x40) []) (o % 0x40 / 4) else 0)
  else if 0x8800 ≤ o ∧ o < 0x8E00 then (if o % 0x40 < 48 then wordAt (x.snap.toList.getD ((o - 0x8800) / 0x40) []) (o % 0x40 / 4) else 0)
  else if 0x9000 ≤ o ∧ o < 0x9060 then x.count.toList.getD ((o - 0x9000) / 4) 0 % 2 ^ 32
  else if 0x9100 ≤ o ∧ o < 0x9140 then (x.ctx.toList.getD ((o - 0x9100) / 4) {}).readStat
  else match o with
    | 0x9080 => x.readOwner 0
    | 0x9084 => x.readOwner 1
    | 0x9090 => bitOf x.lock 1
    | 0x9094 => bitOf x.bootLock 0
    | 0x9140 => bitOf x.early 0
    | 0x9144 => x.compareFail
    | _ => 0

/-- WMU_STAT: a bank is held by a job that is yielded or held at an access; any other job runs in one step. The bank that serves ring 0 is
shown as bank 1 (R673, R681; assumption log 58). -/
def State.wmuStat (s : State) : Nat :=
  (match s.wmu.yielded with | some (r, _) => 2 ^ 31 + r * 2 ^ 28 | none => 0) + bitOf (s.hasBank 0) 1 + bitOf ([1, 2, 3].any s.hasBank) 0

/-- WMU registers but WMU_STAT (R681). -/
def Wmu.readReg (x : Wmu) (o : Nat) : Nat :=
  if 0x8000 ≤ o ∧ o < 0x9000 then x.mods[ix 8 ((o - 0x8000) / 0x200)].value / 2 ^ (32 * (o % 0x200 / 4)) % 2 ^ 32
  else if 0x9000 ≤ o ∧ o < 0x9020 then
    let m : Modulus := x.mods[ix 8 ((o - 0x9000) / 4)]
    bitOf m.valid 31 + m.reason * 2 ^ 12 + m.size
  else match o with
    | 0x9024 => bitOf x.writeIgnored 1 + bitOf x.refused 0
    | 0x9028 => x.valueRefused * 2 ^ 16 + x.yields
    | _ => 0

/-- OPA or OPB of FLC_STAT for the bank of block `b` (R764). -/
def Flc.opBank (f : Flc) (b : Nat) : Nat :=
  match f.eraseOf b with
  | some j => if j.suspended then 3 else 2
  | none => if f.progs.any (fun j => match j.rest with | (p, _) :: _ => decide (p / 512 / 128 = b / 128) | [] => false) then 1 else 0

/-- FLC_POISON_ENT for the entry that FLC_POISON_IDX names (R764). -/
def Flc.poisonEnt (f : Flc) : Nat :=
  match f.poison[f.poisonIdx]? with | some p => 2 ^ 31 + p % 2 ^ 17 | none => 0

/-- FLC registers (R764). The scan of R763 is part of the main island's start, so READY reads 1. -/
def Flc.readReg (f : Flc) (o : Nat) : Nat :=
  match o with
  | 0x8000 => f.opBank 0 * 2 ^ 30 + f.opBank 128 * 2 ^ 28 + f.sparesA.length * 2 ^ 20 + f.sparesB.length * 2 ^ 16 + bitOf f.scrub.isSome 1 + 1
  | 0x8004 => f.weights[2] * 256 + f.weights[1] * 16 + f.weights[0]
  | 0x8008 => f.refresh.length * 2 ^ 16 + f.patrol
  | 0x800C => bitOf (decide (1024 ≤ f.poison.length)) 31 + f.poison.length
  | 0x8010 => f.poisonIdx
  | 0x8014 => f.poisonEnt
  | 0x8018 => f.starved * 2 ^ 16 + f.corrected
  | 0x801C => bitOf f.weightRefused 2 + bitOf f.poisonFull 1 + bitOf f.eraseStarved 0
  | _ => 0

/-- KSM registers (R719). -/
def Ksm.readReg (x : Ksm) (o : Nat) : Nat :=
  if 0x8000 ≤ o ∧ o < 0x8800 then
    let q := x.slot ((o - 0x8000) / 8)
    match o % 8 with
    | 0 => (match q.st with | .empty => 0 | .live => 1 | .lost => 2) * 2 ^ 30 + q.cls * 2 ^ 24 + q.usage
    | 4 => q.gen * 2 ^ 16 + bitOf q.persist 8 + q.owner
    | _ => 0
  else if o = 0x9000 then
    bitOf x.sealed 31 + bitOf x.kfaClean 30 + (x.slots.filter (fun e => e.2.st == .lost)).length
  else 0

/-- Counter registers (R719). -/
def Ksm.readCnt (x : Ksm) (ratchet o : Nat) : Nat :=
  if o < 0x2000 then (if o % 8 = 0 then x.cntOf (o / 8) % 2 ^ 32 else x.cntHi)
  else if o < 0x2080 then
    let j := (o - 0x2000) / 4
    (List.range 32).foldl (fun n i => n + bitOf (x.sync.contains (32 * j + i)) i) 0
  else if o = 0x2100 then ratchet * 2 ^ 16 + x.tail.length * 256 + bitOf x.skipped 0
  else 0

/-- TRNG and DRBG registers (R719). -/
def Ksm.readTrng (x : Ksm) (o : Nat) : Nat :=
  match o with
  | 0 => (match x.trng with | .startup => 0 | .ok => 1 | .failed => 2) * 2 ^ 30 + x.trngFails
  | 4 => bitOf x.drbgReady 31 + x.drbgReq
  | _ => 0

/-- Spyhole and occupancy registers (R854). -/
def Spy.readReg (x : Spy) (o : Nat) : Nat :=
  match o with
  | 0x00 => x.occPeriod * 2 ^ 16 + x.pcPeriod * 16 + bitOf x.ringEn 2 + bitOf x.cntEn 1
  | 0x04 => x.fill * 2 ^ 16 + x.lost
  | 0x0C => x.occWindow
  | _ => if 0x40 ≤ o ∧ o < 0x8C then x.occBusy.toList.getD ((o - 0x40) / 4) 0 else 0

/-- An engine's own registers, from offset 0x8000 on. -/
def State.readOwn (s : State) (e : Eng) (o : Nat) : Nat :=
  match e with
  | .fae => s.aes.readReg o
  | .dig => s.dig.readReg o
  | .wmu => if o = 0x9020 then s.wmuStat else s.wmu.readReg o
  | .flc => s.flc.readReg o
  | .ksm => s.ksm.readReg o
  | _ => 0

/-- Registers of an engine's block (R575). -/
def State.readEngReg (s : State) (e : Eng) (o : Nat) : Nat :=
  let n := (s.engOf e).rings.length
  if o < 0x4000 then (if o / 0x100 < n then (s.ring e (o / 0x100)).readCfg (o % 0x100) else 0)
  else if o < 0x7000 then (if (o - 0x4000) / 0x100 < n then (s.ring e ((o - 0x4000) / 0x100)).readBell (o % 0x100) else 0)
  else if o = 0x7004 then bitOf (s.engOf e).busy 1 + bitOf (s.engOf e).resetting 0
  else if 0x8000 ≤ o then s.readOwn e o
  else 0

/-- The register at offset `o`, a multiple of 4, of register block `b` (R508). -/
def State.regValue (s : State) (b o : Nat) : Nat :=
  match blockEng b with
  | some e => s.readEngReg e o
  | none =>
    match b with
    | 1 => s.readStrap o
    | 2 => s.readChan o
    | 3 => match regionReg 3 o with | some r => s.prot.regionRead r | none => s.prot.readCtl o
    | 4 => match regionReg 4 o with | some r => s.prot.regionRead r | none => 0
    | 11 => s.ksm.readCnt s.ratchet o
    | 12 => s.ksm.readTrng o
    | 17 => s.spy.readReg o
    | _ => 0

/-- The two reads that capture: CH_TICK_LO (R321) and CNT_LOk (R719). -/
def State.regCapture (s : State) (b o : Nat) : State :=
  if b = 2 ∧ o = 0x1000 then { s with tickHi := s.tick / 2 ^ 32 % 2 ^ 16 }
  else if b = 11 ∧ o < 0x2000 ∧ o % 8 = 0 then { s with ksm := { s.ksm with cntHi := s.ksm.cntOf (o / 8) / 2 ^ 32 % 2 ^ 32 } }
  else s

/-- A read of the register word that holds address `a`: its value, and the state after what the read captures. -/
def State.regRead (s : State) (a : Nat) : Nat × State :=
  let b := a % 0x10000000 / 0x10000
  let o := a % 0x10000 / 4 * 4
  (s.regValue b o % 2 ^ 32, s.regCapture b o)

/-! ## Writing (R18) -/

/-- The state a meaning answers, where it answers one. -/
def landed (s : State) (o : Out) : State := match o with | .next t => t | _ => s

/-- Bits of a register that a store to some of its bytes leaves as they are: those of RW fields; WO, W1C and RO bits read as not
written (R18). -/
def rwBits (b o : Nat) : Nat :=
  match b with
  | 2 => if o < 0x1000 ∧ 0x10 ≤ o % 0x100 ∧ o % 0x100 < 0x1C then 0xFFFFFF else 0
  | 3 => if o < 0x804 ∨ o = 0x840 ∨ o = 0x844 then 0xFFFFFFFF else 0
  | 4 => 0xFFFFFFFF
  | 7 => if o = 0x9080 ∨ o = 0x9084 then 0xFFFFFFFF else 0
  | 8 => if 0x8000 ≤ o ∧ o < 0x9000 then 0xFFFFFFFF else if 0x9000 ≤ o ∧ o < 0x9020 then 3 else 0
  | 9 => if o = 0x8004 then 0xFFF else if o = 0x8010 then 0x3FF else 0
  | 17 => if o = 0 then 0xFFFFFFFF else 0
  | _ => 0

/-- A write to a channel's register (R321). CH_SERVICE takes ENTER, then XFREEZE, of one write (R299, R314). -/
def State.writeChan (s : State) (c : Fin 16) (o v : Nat) : State :=
  let w := BitVec.ofNat 32 v
  match o with
  | 0x04 => s.chOp c (fun x => x.guardWrite (v.testBit 0) s.tick)
  | 0x08 => match v % 4 with
    | 1 => s.chOp c (fun x => x.keepWrite .heartbeat s.tick)
    | 2 => s.chOp c (fun x => x.keepWrite .hold s.tick)
    | 3 => s.chOp c (fun x => x.keepWrite .stop s.tick)
    | _ => s
  | 0x0C =>
    let k := v.testBit 1
    let s1 := if v.testBit 0 then landed s (execServiceEnter c k s)
      else if (s.chan c).service then s.chOp c (fun x => x.loadContracted k s.tick) else s
    if v.testBit 2 then s1.chOp c (fun x => x.xfreeze k s1.tick) else s1
  | 0x10 => s.chOp c (fun x => x.lengthWrite .tconf v)
  | 0x14 => s.chOp c (fun x => x.lengthWrite .hb v)
  | 0x18 => s.chOp c (fun x => x.lengthWrite .hold v)
  | 0x2C => if v.testBit 0 then landed s (execEventPop c s) else s
  | 0x3C => s.updCh c (fun x => { x with sticky := x.sticky.clear w })
  | _ => s

/-- A write to the IPT block beyond the regions, by core `k` (R565). -/
def State.writeProt (s : State) (k : Fin 2) (o v : Nat) : State :=
  let p := s.prot
  match o with
  | 0x800 => { s with prot := { p with update := updateFields v } }.releaseDma
  | 0x804 => if v.testBit 0 then { s with prot := p.commitWrite k } else s
  | 0x810 => { s with prot := { p with writeLocked := p.writeLocked && !v.testBit 1, commitRefused := p.commitRefused && !v.testBit 0 } }
  | 0x824 => { s with prot := { p with dfValid := p.dfValid && !v.testBit 0 } }
  | 0x840 => { s with prot := { p with probeBase := v } }
  | 0x844 => { s with prot := { p with probeLen := v } }
  | 0x848 => { s with prot := p.probe k v }
  | _ => s

/-- A write to a ring's STEM_RING_STAT: the W1C flags (R577). -/
def Ring.clearFlags (r : Ring) (v : Nat) : Ring :=
  { r with wbLost := r.wbLost && !v.testBit 19, configRefused := r.configRefused && !v.testBit 18
           seenRefused := r.seenRefused && !v.testBit 17, doorbellRefused := r.doorbellRefused && !v.testBit 16 }

/-- A write to an engine's own registers (R654, R681, R764). -/
def State.writeOwn (s : State) (e : Eng) (o v : Nat) : State :=
  let w := BitVec.ofNat 32 v
  match e with
  | .dig =>
    match o with
    | 0x9080 => { s with dig := s.dig.ownerWrite 0 v }
    | 0x9084 => { s with dig := s.dig.ownerWrite 1 v }
    | 0x9090 =>
      let x := if v.testBit 0 then s.dig.takeSnap else s.dig
      { s with dig := { x with lock := x.lock || v.testBit 1 } }
    | 0x9140 => { s with dig := { s.dig with early := s.dig.early && !v.testBit 0 } }
    | _ => s
  | .wmu =>
    if 0x8000 ≤ o ∧ o < 0x9000 then { s with wmu := s.wmu.valueWrite (ix 8 ((o - 0x8000) / 0x200)) (o % 0x200 / 4) v }
    else if 0x9000 ≤ o ∧ o < 0x9020 then { s with wmu := s.wmu.cfgWrite (ix 8 ((o - 0x9000) / 4)) v }
    else if o = 0x9024 then
      { s with wmu := { s.wmu with writeIgnored := s.wmu.writeIgnored && !v.testBit 1, refused := s.wmu.refused && !v.testBit 0 } }
    else s
  | .flc =>
    match o with
    | 0x8004 => landed s (execFlcWeightWrite w s)
    | 0x8010 => { s with flc := { s.flc with poisonIdx := v % 1024 } }
    | 0x801C => { s with flc := { s.flc with
        weightRefused := s.flc.weightRefused && !v.testBit 2, poisonFull := s.flc.poisonFull && !v.testBit 1
        eraseStarved := s.flc.eraseStarved && !v.testBit 0 } }
    | _ => s
  | _ => s

/-- A write to an engine's block (R575, R577). -/
def State.writeEngReg (s : State) (e : Eng) (o v : Nat) : State :=
  let n := (s.engOf e).rings.length
  let w := BitVec.ofNat 32 v
  if o < 0x4000 then
    let k := o / 0x100
    if n ≤ k then s
    else match o % 0x100 with
      | 0x00 => landed s (execRingConfigWrite e k .base w s)
      | 0x04 => landed s (execRingConfigWrite e k .size w s)
      | 0x08 => landed s (execRingConfigWrite e k .policy w s)
      | _ => s
  else if o < 0x7000 then
    let k := (o - 0x4000) / 0x100
    if n ≤ k then s
    else match o % 0x100 with
      | 0x00 => landed s (execDoorbell e k w s)
      | 0x08 => s.updRing e k (fun r => r.clearFlags v)
      | _ => s
  else if o = 0x7000 then (if v.testBit 0 then landed s (execEngineReset e s) else s)
  else if 0x8000 ≤ o then s.writeOwn e o v
  else s

/-- A write to SPY_CTL or OCC_CTL (R854). -/
def State.writeSpy (s : State) (o v : Nat) : State :=
  match o with
  | 0x00 =>
    let n := v / 2 ^ 16 % 2 ^ 16
    { s with spy := { s.spy with
        occPeriod := n, pcPeriod := v / 16 % 2 ^ 12, ringEn := v.testBit 2, cntEn := v.testBit 1
        occAt := if n = 0 then none else if s.spy.occPeriod = n then s.spy.occAt else some s.tick } }
  | 0x08 => if v.testBit 0 then landed s (execOccSnap 0 [] s) else s
  | _ => s

/-- A write of the word `v` to the register at offset `o` of block `b`, by core `k` (R508). -/
def State.regStore (s : State) (k : Fin 2) (b o v : Nat) : State :=
  match blockEng b with
  | some e => s.writeEngReg e o v
  | none =>
    match b with
    | 2 => if o < 0x1000 then s.writeChan (ix 16 (o / 0x100)) (o % 0x100) v else s
    | 3 => match regionReg 3 o with | some r => { s with prot := s.prot.regionWrite r v } | none => s.writeProt k o v
    | 4 => match regionReg 4 o with | some r => { s with prot := s.prot.regionWrite r v } | none => s
    | 17 => s.writeSpy o v
    | _ => s

/-- A store of `n` bytes, `v`, to the register space. A store of fewer than 32 bits to a ring register or a common register is ignored
(R577); elsewhere it writes its own bytes, and RW fields keep the others (R18). -/
def State.regWrite (s : State) (k : Fin 2) (a n v : Nat) : State :=
  let b := a % 0x10000000 / 0x10000
  let o := a % 0x10000 / 4 * 4
  if n = 4 then s.regStore k b o (v % 2 ^ 32)
  else if (blockEng b).isSome && decide (o < 0x8000) then s
  else
    let lanes := (2 ^ (8 * n) - 1) * 256 ^ (a % 4)
    s.regStore k b o ((v * 256 ^ (a % 4)) &&& lanes ||| (s.regValue b o &&& rwBits b o &&& (0xFFFFFFFF ^^^ lanes)))

end Sys2Proof.Machine
end

