-- ==== Sys2Proof/Machine/CoreOps.lean ====
section
/-! DEFINITION. Accesses and traps of the application cores: levels, loads, stores, the store buffers, held accesses, exceptions and
interrupts (chapter 13). -/

namespace Sys2Proof.Machine

open Sys2Proof

/-- Bytes of an access. -/
def accBytes : AccSize → Nat
  | .byte => 1 | .half => 2 | .word => 4

/-! ## Who runs (R500–R504) -/

/-- A core has an access that waits under UPDATE. -/
def HeldAcc.ofCore (h : HeldAcc) (k : Fin 2) : Bool :=
  match h with
  | .load c _ _ _ _ => c == k
  | .store c _ _ _ => c == k
  | .dma _ _ => false

/-- Core `k` executes instructions: the main island runs, the core is not in WFI, core 1 has been released by core 0's Wheel, and nothing
that the core waits for is outstanding (R504, R516, R517, R555, R558). -/
def State.coreActive (s : State) (k : Fin 2) : Bool :=
  let c := s.coreOf k
  s.mainRuns && !c.wfi && !c.fence && c.stalled.isNone && (k == 0 || c.pLevel) && !s.prot.commits.contains k
    && !s.prot.held.any (fun h => h.ofCore k)

/-- Core `k` is in M mode. -/
def Core.machine (c : Core) : Bool := c.level != .p2

/-- Who an M-mode or U-mode load or store of core `k` belongs to: with MPRV set and MPP U it is checked as P2 (R501, R502). -/
def State.accWho (s : State) (k : Fin 2) : Who :=
  let c := s.coreOf k
  let level := if c.level = .p2 then 2 else if c.mprv && !c.mppM then 2 else if c.pLevel then 1 else 0
  ⟨level, c.domain, some k⟩

/-- Writes register `rd` of core `k`; x0 reads zero and ignores writes (R498). -/
def State.setReg (s : State) (k : Fin 2) (rd : Fin 32) (v : Nat) : State :=
  if rd = 0 then s else s.updCore k (fun c => { c with regs := c.regs.set rd (BitVec.ofNat 32 v) })

/-- Register `r` of core `k` as a number. -/
def State.getReg (s : State) (k : Fin 2) (r : Fin 32) : Nat :=
  let c : Core := s.coreOf k
  if r = 0 then 0 else c.regs[r].toNat

/-- Length of the instruction at the core's pc: 4 bytes where its two lowest bits are set, else a compressed one (R498; log 21). -/
def State.instrLen (s : State) (k : Fin 2) : Nat :=
  if (s.memByte (s.accWho k) (s.coreOf k).pc).toNat % 4 = 3 then 4 else 2

/-- The cache holds the 32-byte line of address `a`: fetches from ROM, flash and SRAM are cached, four lines to each of 512 sets, the newest
kept (R509). -/
def touchLine (l : List Nat) (a : Nat) : List Nat :=
  let x := a / 32 * 32
  if a < 0x20000 ∨ (0x10000000 ≤ a ∧ a < 0x14000000) ∨ (0x20000000 ≤ a ∧ a < 0x20C00000) then
    let rest := l.filter (fun y => y != x)
    let same := (rest.filter (fun y => y / 32 % 512 == x / 32 % 512)).take 3
    x :: rest.filter (fun y => y / 32 % 512 != x / 32 % 512 || same.contains y)
  else l

/-- The instruction of `n` bytes at the core's pc retires; its line has been fetched (R500, R509). -/
def State.retire (s : State) (k : Fin 2) (n : Nat) : State :=
  s.updCore k (fun c => { c with
    pc := (c.pc + n) % 2 ^ 32, minstret := if c.inhibitIr then c.minstret else (c.minstret + 1) % 2 ^ 64, icache := touchLine c.icache c.pc })

/-! ## Traps (R525–R528, R563) -/

/-- The core's own part of taking a trap: mepc, mcause, mtval, mstatus, M mode, pc at mtvec; an interrupt with vectored mtvec goes to its
own entry (R498, R500; log 22). -/
def Core.trap (c : Core) (interrupt : Bool) (cause tval : Nat) : Core :=
  let base := c.mtvec / 4 * 4
  { c with
    mepc := c.pc, mcause := (if interrupt then 2 ^ 31 else 0) + cause, mtval := tval
    mpie := c.mie, mie := false, mppM := c.machine, level := if c.pLevel then .p1 else .p0
    pc := if interrupt ∧ c.mtvec % 4 = 1 then base + 4 * cause else base }

/-- The return from a trap, MRET: mstatus and level restored, pc at mepc (log 22). -/
def Core.mret (c : Core) : Core :=
  { c with
    mie := c.mpie, mpie := true, mppM := false, mprv := c.mprv && c.mppM
    level := if c.mppM then (if c.pLevel then .p1 else .p0) else .p2, pc := c.mepc }

/-- An exception of core `k`. From U mode the Wheel handles it as an applet fault, with mepc, mtval and P_FAULT as the core gives them
(R525, R526). -/
def State.exception (s : State) (k : Fin 2) (cause tval : Nat) : State :=
  let c := s.coreOf k
  let t := s.updCore k (fun c => c.trap false cause tval)
  match s.running k with
  | some d => if c.level = .p2 then (t.appletFault d cause c.pc tval c.pFault).reschedule else t
  | none => t

/-- Cause of an access fault by type. -/
def faultCause : AccType → Nat
  | .read => 5 | .write => 7 | .exec => 1

/-- An access fault: P_FAULT with the exception (R503, R563). -/
def State.accessFault (s : State) (k : Fin 2) (w : Who) (t : AccType) (kind addr : Nat) : State :=
  (s.updCore k (fun c => { c with pFault := pFaultWord w t kind })).exception k (faultCause t) addr

/-! ## Store buffers (R515–R518) -/

/-- Byte of the newest buffered store that covers address `a`, if any (R515). -/
def fwdByte (l : List StoreEnt) (a : Nat) : Option Byte :=
  l.foldl (fun b e => if e.addr = a / 4 * 4 ∧ e.mask.testBit (a % 4) then some (BitVec.ofNat 8 (e.data / 256 ^ (a % 4))) else b) none

/-- A shared-SRAM error that the code cannot correct is recorded and asserts source 16 (R513, R534). -/
def State.sramBad (s : State) (a : Nat) : State :=
  { s with memBad := if s.memBad.contains (a / 4 * 4) then s.memBad else a / 4 * 4 :: s.memBad, memError := true }

/-- The same in the local data memory of core `k`. -/
def State.ldmSpoil (s : State) (k : Fin 2) (a : Nat) : State :=
  let l : List Nat := s.ldmBad[k]
  { s with ldmBad := s.ldmBad.set k (if l.contains (a / 4 * 4) then l else a / 4 * 4 :: l), memError := true }

/-- One store-buffer entry becomes visible in shared SRAM: a whole word is written; fewer bytes by read-modify-write, in which an
uncorrectable word takes the bytes and stays marked (R516, R534). `ecc` is what that read finds. -/
def State.sramStore (s : State) (e : StoreEnt) (ecc : Ecc) : State :=
  let s1 := { s with mem := storeWrite s.mem e }
  if e.mask % 16 = 15 then { s1 with memBad := s1.memBad.filter (fun x => x != e.addr) }
  else if ecc = .uncorrectable || s.memBad.contains e.addr then s1.sramBad e.addr
  else if ecc = .corrected then { s1 with memCorrected := sat16 s1.memCorrected } else s1

/-- The oldest entry of core `k` drains (R516). A FENCE that waited retires with the last (R517). -/
def State.drainOne (s : State) (k : Fin 2) (ecc : Ecc) : State :=
  match (s.coreOf k).sbuf with
  | [] => s
  | e :: l =>
    let s1 := (s.sramStore e ecc).updCore k (fun c => { c with sbuf := l })
    if (s.coreOf k).fence && l.isEmpty then (s1.updCore k (fun c => { c with fence := false })).retire k 4 else s1

/-- Every entry of core `k` drains, oldest first. -/
def State.drainAll (s : State) (k : Fin 2) : State :=
  (List.range (s.coreOf k).sbuf.length).foldl (fun t _ => t.drainOne k .clean) s

/-- Stores may enter the buffer of core `k`: it has room, and no commit write waits (R516, R555). -/
def State.storeEnters (s : State) (k : Fin 2) : Bool := decide ((s.coreOf k).sbuf.length < 4) && s.prot.commits.isEmpty

/-! ## Loads (R505, R511–R515, R518) -/

/-- Sign- or zero-extension of a loaded value of `n` bytes. -/
def extend (v n : Nat) (signed : Bool) : Nat :=
  if signed ∧ 2 ^ (8 * n - 1) ≤ v then v + 2 ^ 32 - 2 ^ (8 * n) else v

/-- The load has its value: `rd` is written and the instruction retires. -/
def State.loaded (s : State) (k : Fin 2) (v n : Nat) (signed : Bool) (rd : Fin 32) : State :=
  (s.setReg k rd (extend v n signed)).retire k (s.instrLen k)

/-- A load of shared SRAM: the core's buffered stores first, other bytes from memory; a byte of an uncorrectable word faults (R513, R515). -/
def State.loadSram (s : State) (k : Fin 2) (w : Who) (a n : Nat) (signed : Bool) (rd : Fin 32) (ecc : Ecc) : State :=
  let buf := (s.coreOf k).sbuf
  let all := (List.range n).all (fun i => (fwdByte buf (a + i)).isSome)
  let s1 := if ecc = .uncorrectable then s.sramBad a else if ecc = .corrected then { s with memCorrected := sat16 s.memCorrected } else s
  if !all && s1.badWord a then { s1 with memError := true }.accessFault k w .read 6 a
  else s1.loaded k (ofLe ((List.range n).map (fun i => (fwdByte buf (a + i)).getD (readByte s.mem (a + i))))) n signed rd

/-- A load of main flash: it suspends an erase in its bank; a page in the poison map, or found uncorrectable, faults (R746, R758). -/
def State.loadFlash (s : State) (k : Fin 2) (w : Who) (a n : Nat) (signed : Bool) (rd : Fin 32) (ecc : Ecc) : State :=
  let p := a % 0x10000000 / 512
  let s1 := s.suspendErase (p / 512)
  let s2 := if ecc = .uncorrectable then s1.poisonPage p 0 else s1
  if ecc = .uncorrectable || s2.flc.poisoned p then s2.accessFault k w .read 7 a
  else s2.loaded k (ofLe (s2.memRead w a n)) n signed rd

/-- A load of the core's own local data memory. -/
def State.loadLdm (s : State) (k : Fin 2) (w : Who) (a n : Nat) (signed : Bool) (rd : Fin 32) (ecc : Ecc) : State :=
  let s1 := if ecc = .uncorrectable then s.ldmSpoil k a else if ecc = .corrected then { s with memCorrected := sat16 s.memCorrected } else s
  let l : List Nat := s1.ldmBad[k]
  if l.contains (a / 4 * 4) then { s1 with memError := true }.accessFault k w .read 6 a
  else s1.loaded k (ofLe (s1.memRead w a n)) n signed rd

/-- A load of the register space: the store buffer drains first (R518). -/
def State.loadReg (s : State) (k : Fin 2) (a n : Nat) (signed : Bool) (rd : Fin 32) : State :=
  let s1 := s.drainAll k
  let (v, s2) := s1.regRead a
  s2.loaded k (v / 256 ^ (a % 4) % 256 ^ n) n signed rd

/-- A load that is not held: checked, and performed or refused (R505, R550). -/
def State.performLoad (s : State) (k : Fin 2) (w : Who) (a n : Nat) (signed : Bool) (rd : Fin 32) (ecc : Ecc) : State :=
  match s.prot.check w .read false a n with
  | some (kind, addr) => s.accessFault k w .read kind addr
  | none =>
    match targetOf w a with
    | some 20 => s.loadFlash k w a n signed rd ecc
    | some 21 => s.loadFlash k w a n signed rd ecc
    | some 22 => s.loadSram k w a n signed rd ecc
    | some 24 => s.loadLdm k w a n signed rd ecc
    | some 25 => s.loadLdm k w a n signed rd ecc
    | some g => if g ≤ 18 then s.loadReg k a n signed rd else s.loaded k (ofLe (s.memRead w a n)) n signed rd
    | none => s

/-- A load of core `k`: misaligned, held under UPDATE, or performed (R498, R558). -/
def State.coreLoad (s : State) (k : Fin 2) (a n : Nat) (signed : Bool) (rd : Fin 32) (ecc : Ecc) : State :=
  let w := s.accWho k
  if a % n ≠ 0 then s.exception k 4 a
  else if s.prot.holds w a n then { s with prot := { s.prot with held := s.prot.held ++ [.load k a n signed rd] } }
  else s.performLoad k w a n signed rd ecc

/-! ## Stores (R516, R518, R524, R534) -/

/-- A store to the core's own local data memory, which does not enter the buffer (R516). -/
def State.storeLdm (s : State) (k : Fin 2) (a n v : Nat) (ecc : Ecc) : State :=
  let m : Mem := s.ldm[k]
  let l : List Nat := s.ldmBad[k]
  let s1 := { s with ldm := s.ldm.set k (writeBytes m a (leBytes n v)) }
  if n = 4 then { s1 with ldmBad := s1.ldmBad.set k (l.filter (fun x => x != a)) }
  else if ecc = .uncorrectable || l.contains (a / 4 * 4) then s1.ldmSpoil k a
  else if ecc = .corrected then { s1 with memCorrected := sat16 s1.memCorrected } else s1

/-- A store that is not held: checked; to SRAM it enters the buffer, or stalls the core until it can (R516, R524, R555). -/
def State.performStore (s : State) (k : Fin 2) (w : Who) (a n v : Nat) (ecc : Ecc) : State :=
  match s.prot.check w .write false a n with
  | some (kind, addr) => s.accessFault k w .write kind addr
  | none =>
    match targetOf w a with
    | some 22 =>
      if s.storeEnters k then
        (s.updCore k (fun c => { c with sbuf := c.sbuf ++ [{ addr := a / 4 * 4, mask := (2 ^ n - 1) * 2 ^ (a % 4), data := v % 256 ^ n * 256 ^ (a % 4) }] })).retire k
          (s.instrLen k)
      else s.updCore k (fun c => { c with stalled := some (a, n, v) })
    | some 24 => (s.storeLdm k a n v ecc).retire k (s.instrLen k)
    | some 25 => (s.storeLdm k a n v ecc).retire k (s.instrLen k)
    | some _ =>
      let s1 := (s.drainAll k).retire k (s.instrLen k)
      s1.regWrite k a n v
    | none => s

/-- A stalled store tries again (R516, R555). -/
def State.unstall (s : State) (k : Fin 2) : State :=
  match (s.coreOf k).stalled with
  | some (a, n, v) =>
    if s.storeEnters k then (s.updCore k (fun c => { c with stalled := none })).performStore k (s.accWho k) a n v .clean else s
  | none => s

/-- A store of core `k`: misaligned, held under UPDATE, or performed. -/
def State.coreStore (s : State) (k : Fin 2) (a n v : Nat) (ecc : Ecc) : State :=
  let w := s.accWho k
  if a % n ≠ 0 then s.exception k 6 a
  else if s.prot.holds w a n then { s with prot := { s.prot with held := s.prot.held ++ [.store k a n v] } }
  else s.performStore k w a n v ecc

/-! ## Held accesses (R559, R560) -/

/-- Address and length of a held core access. -/
def HeldAcc.span : HeldAcc → Option (Fin 2 × Nat × Nat)
  | .load k a n _ _ => some (k, a, n)
  | .store k a n _ => some (k, a, n)
  | .dma _ _ => none

/-- Removes one held access. -/
def State.dropHeld (s : State) (h : HeldAcc) : State := { s with prot := { s.prot with held := s.prot.held.erase h } }

/-- A core access resumes once no unit it consults is in UPDATE, and is checked against the active set of that moment (R559). -/
def State.resume (s : State) (h : HeldAcc) : State :=
  match h with
  | .load k a n signed rd =>
    if s.prot.holds (s.accWho k) a n then s else (s.dropHeld h).performLoad k (s.accWho k) a n signed rd .clean
  | .store k a n v =>
    if s.prot.holds (s.accWho k) a n then s else (s.dropHeld h).performStore k (s.accWho k) a n v .clean
  | .dma _ _ => s

/-- Every held core access that may go on does. -/
def State.resumeCores (s : State) : State := s.prot.held.foldl (fun t h => t.resume h) s

/-- A held access reaches its limit and faults with KIND 8 (R559). -/
def State.timeoutHeld (s : State) (h : HeldAcc) : State :=
  match h with
  | .load k a _ _ _ => (s.dropHeld h).accessFault k (s.accWho k) .read 8 a
  | .store k a _ _ => (s.dropHeld h).accessFault k (s.accWho k) .write 8 a
  | .dma e r => s.rerun e r true

/-! ## Interrupts (R527) -/

/-- P_IPEND: bit k while source k is asserted (R503, R527). -/
def State.ipend (s : State) : Nat :=
  bitOf (s.irq.testBit 0) 0 + bitOf (s.chPending != 0) 1
    + (allEngines.foldl (fun n e => n + bitOf (s.engOf e).notifies ((engIx e).val + 2)) 0)
    + bitOf (allEngines.any (fun e => (s.engOf e).rings.any (fun r => r.st == .halted))) 12
    + bitOf s.prot.dfValid 13 + bitOf (s.irq.testBit 14) 14 + bitOf s.bins.pfailLow 15 + bitOf s.memError 16 + bitOf (s.irq.testBit 17) 17

/-- An enabled source is asserted on core `k`. -/
def State.meipOf (s : State) (k : Fin 2) : Bool := s.ipend &&& (s.coreOf k).ienable != 0

/-- The Wheel serves the enabled sources that mark an event, at the source: the periodic tick, a grade change, a recorded memory error, a
change of the Ocnoix wires (R527). -/
def State.serveIrq (s : State) (en : Nat) : State :=
  let m := en &&& 0x24001
  { s with irq := s.irq - (s.irq &&& m), memError := s.memError && !en.testBit 16 }

/-- Core `k` takes an interrupt: from U mode always, in M mode with mstatus.MIE; the Wheel's handler serves the sources and returns. Core 1
in its boot WFI takes none, and a core that waits for its own access takes it afterwards (R527, R536, R539). -/
def State.takeInterrupt (s : State) (k : Fin 2) : State :=
  let c := s.coreOf k
  let s1 := s.updCore k (fun x => { x with meip := s.meipOf k })
  let boot := k == 1 && c.wfi && !c.pLevel
  let waits := c.fence || c.stalled.isSome || s.prot.commits.contains k || s.prot.held.any (fun h => h.ofCore k)
  if boot || waits || !s.mainRuns || !s.meipOf k || !c.meie then s1
  else
    let awake := s1.updCore k (fun x => { x with wfi := false })
    if c.level != .p2 && !c.mie then awake
    else
      let t := (awake.updCore k (fun x => x.trap true 11 0)).serveIrq c.ienable
      (t.updCore k (fun x => { x.mret with meip := t.meipOf k })).reschedule

end Sys2Proof.Machine
end

