-- ==== Sys2Proof/Machine/Access.lean ====
section
/-! DEFINITION. Commands of the application cores and of access protection (13_cores.md; 14_protection.md; 00_scope.md R18). -/

namespace Sys2Proof.Machine

open Sys2Proof

/-- CORE_LOAD (R515): core `k` loads from `addr` into `rd`; `ecc` is what the memory's code finds. -/
def execCoreLoad (k : Fin 2) (addr : Word) (size : AccSize) (signed : Bool) (rd : Fin 32) (ecc : Ecc) (s : State) : Out :=
  .next (if s.coreActive k then s.coreLoad k addr.toNat (accBytes size) signed rd ecc else s)

/-- A store of core `k`, and whatever a release of UPDATE lets go on after it. -/
def State.doStore (s : State) (k : Fin 2) (a n v : Nat) (ecc : Ecc) : State :=
  if s.coreActive k then (s.coreStore k a n v ecc).resumeCores else s

/-- CORE_STORE (R516): core `k` stores the low bytes of `v`; `ecc` is what a read-modify-write of local data memory finds. -/
def execCoreStore (k : Fin 2) (addr : Word) (size : AccSize) (v : Word) (ecc : Ecc) (s : State) : Out :=
  .next (s.doStore k addr.toNat (accBytes size) v.toNat ecc)

/-- STORE_DRAIN (R516): the oldest entry of core `k`'s store buffer becomes visible; a stalled store then enters. -/
def execStoreDrain (k : Fin 2) (ecc : Ecc) (s : State) : Out :=
  .next (if s.mainRuns then (s.drainOne k ecc).unstall k else s)

/-- FENCE (R517): `w` says that its predecessor set includes W, `r` that its successor set includes R. -/
def execFence (k : Fin 2) (w r : Bool) (s : State) : Out :=
  .next (if s.coreActive k then
    (if w && r && !(s.coreOf k).sbuf.isEmpty then s.updCore k (fun c => { c with fence := true }) else s.retire k 4)
  else s)

/-- FENCE_I (R510): the core's cache is invalidated and its store buffer drains; the next fetch misses. -/
def execFenceI (k : Fin 2) (s : State) : Out :=
  .next (if s.coreActive k then ((s.drainAll k).retire k 4).updCore k (fun c => { c with icache := [] }) else s)

/-- EXCEPTION (R525): core `k` at P2 takes exception `cause`, 1 to 7, with `mtval`; `kind` is the KIND of an access fault. -/
def execException (k : Fin 2) (cause : Fin 8) (mtval : Word) (kind : Fin 9) (s : State) : Out :=
  .next (if s.coreActive k && (s.coreOf k).level == .p2 && cause != 0 then
      let w := s.accWho k
      match cause.val with
      | 1 => s.accessFault k w .exec kind.val mtval.toNat
      | 5 => s.accessFault k w .read kind.val mtval.toNat
      | 7 => s.accessFault k w .write kind.val mtval.toNat
      | n => s.exception k n mtval.toNat
    else s)

/-- INTERRUPT (R527): the interrupt sources of core `k` are looked at, and an enabled one is taken. -/
def execInterrupt (k : Fin 2) (s : State) : Out := .next (s.takeInterrupt k)

/-- CACHE_PARITY_ERROR (R511): a hit on the line of `addr` finds a parity error: counted, invalidated and refetched. -/
def execCacheParityError (k : Fin 2) (addr : Word) (s : State) : Out :=
  .next (let l := addr.toNat / 32 * 32
    if s.coreActive k && (s.coreOf k).icache.contains l then
      s.updCore k (fun c => { c with parity := sat16 c.parity, icache := touchLine (c.icache.filter (fun x => x != l)) l })
    else s)

/-- A CSR access of core `k`: in U mode it is an illegal instruction, whose word `mtval` then holds (R500, R525). -/
def State.csrAccess (s : State) (k : Fin 2) (f : State → State) : State :=
  if !s.coreActive k then s
  else if (s.coreOf k).machine then (f s).retire k 4
  else s.exception k 2 (ofLe (s.memRead (s.accWho k) (s.coreOf k).pc 4))

/-- P_HANDOVER (R501, R503): GO at P0 sets P_LEVEL; core 0's locks MEAS0–MEAS3. At P1 it changes nothing. -/
def State.handover (s : State) (k : Fin 2) : State :=
  let s1 := s.updCore k (fun c => { c with pLevel := true, level := .p1 })
  if k = 0 then { s1 with dig := { s1.dig with bootLock := true } } else s1

/-- P_HANDOVER (R501). -/
def execPHandover (k : Fin 2) (s : State) : Out :=
  .next (s.csrAccess k (fun t => if (t.coreOf k).pLevel then t else t.handover k))

/-- The other core. -/
def otherCore (k : Fin 2) : Fin 2 := if k = 0 then 1 else 0

/-- RAISE of P_IPI (R503): the other core's mip.MSIP is set. It wakes from WFI; core 1 in its boot WFI then hands over and runs the Wheel
(R504, R539). -/
def State.ipiRaise (s : State) (k : Fin 2) : State :=
  let o := otherCore k
  let c := s.coreOf o
  if c.msip then s
  else
    let s1 := s.updCore o (fun x => { x with msip := true, wfi := if x.pLevel && !x.msie then x.wfi else false })
    if o = 1 && !c.pLevel then (s1.updCore o (fun x => { x with wfi := false, pLevel := true, level := .p1 })).reschedule else s1

/-- IPI_RAISE (R503). -/
def execIpiRaise (k : Fin 2) (s : State) : Out := .next (s.csrAccess k (fun t => t.ipiRaise k))

/-- IPI_CLEAR (R503): this core's mip.MSIP is cleared. -/
def execIpiClear (k : Fin 2) (s : State) : Out := .next (s.csrAccess k (fun t => t.updCore k (fun c => { c with msip := false })))

/-- PROT_COMMIT (R555, R568): core `k` writes GO = 1 to PROT_COMMIT. -/
def execProtCommit (k : Fin 2) (s : State) : Out := .next (s.doStore k 0x30030804 4 1 .clean)

/-- The commit instant: both store buffers have drained, every shadow becomes active, the instruction caches are invalidated, and what
waited goes on under the new set (R555). -/
def State.commitInstant (s : State) : State :=
  let s1 := (s.drainAll 0).drainAll 1
  let s2 := { s1 with prot := s1.prot.apply, core := s1.core.map (fun (c : Core) => { c with icache := [] }) }
  (((s2.unstall 0).unstall 1).releaseDma).resumeCores

/-- COMMIT_INSTANT (R555). -/
def execCommitInstant (s : State) : Out := .next (if s.prot.commits.isEmpty then s else s.commitInstant)

/-- PROT_UPDATE (R558, R568): core `k` writes PROT_UPDATE. -/
def execProtUpdate (k : Fin 2) (v : Word) (s : State) : Out := .next (s.doStore k 0x30030800 4 v.toNat .clean)

/-- HELD_ACCESS_TIMEOUT (R559): the access held longest reaches 2048 FABCLK cycles. -/
def execHeldAccessTimeout (s : State) : Out :=
  .next (match s.prot.held with
    | h :: _ => s.timeoutHeld h
    | [] => s)

/-- PROT_PROBE (R562, R568): core `k` writes `v`, with GO set, to PROT_PROBE_CTL. -/
def execProtProbe (k : Fin 2) (v : Word) (s : State) : Out := .next (s.doStore k 0x30030848 4 (v.toNat ||| 1) .clean)

/-- Address of a region register (R565, R566). -/
def regionAddr : RegionReg → Nat
  | .iptStart n => 0x30030000 + n.val * 0x10
  | .iptEnd n => 0x30030004 + n.val * 0x10
  | .iptPerm n => 0x30030008 + n.val * 0x10
  | .gateBase g r => 0x30040000 + g.val * 0x100 + r.val * 8
  | .gatePerm g r => 0x30040004 + g.val * 0x100 + r.val * 8

/-- REGION_WRITE (R554, R568): core `k` writes an IPT or gate region register. -/
def execRegionWrite (k : Fin 2) (r : RegionReg) (v : Word) (s : State) : Out := .next (s.doStore k (regionAddr r) 4 v.toNat .clean)

/-! ## Registers with no command of their own (R18, R500) -/

/-- A write of mstatus: MIE, MPIE, MPP (0b11, else 0b00), MPRV, TW (R500). -/
def Core.writeMstatus (c : Core) (v : Nat) : Core :=
  { c with mie := v.testBit 3, mpie := v.testBit 7, mppM := v / 2 ^ 11 % 4 == 3, mprv := v.testBit 17, tw := v.testBit 21 }

/-- A write of a CSR that the table of CSRs makes writable; none for a CSR that is not there, or whose number is read-only (R498, R500,
R503; log 22). -/
def Core.csrWrite (c : Core) (a v : Nat) : Option Core :=
  match a with
  | 0x300 => some (c.writeMstatus v)
  | 0x304 => some { c with msie := v.testBit 3, meie := v.testBit 11 }
  | 0x305 => some { c with mtvec := v / 4 * 4 + (if v % 4 = 1 then 1 else 0) }
  | 0x320 => some { c with inhibitCy := v.testBit 0, inhibitIr := v.testBit 2 }
  | 0x340 => some { c with mscratch := v }
  | 0x341 => some { c with mepc := v / 2 * 2 }
  | 0x342 => some { c with mcause := v }
  | 0x343 => some { c with mtval := v }
  | 0xB00 => some { c with mcycle := c.mcycle / 2 ^ 32 * 2 ^ 32 + v }
  | 0xB80 => some { c with mcycle := v * 2 ^ 32 + c.mcycle % 2 ^ 32 }
  | 0xB02 => some { c with minstret := c.minstret / 2 ^ 32 * 2 ^ 32 + v }
  | 0xB82 => some { c with minstret := v * 2 ^ 32 + c.minstret % 2 ^ 32 }
  | 0x7C0 => some { c with domain := v % 16 }
  | 0x7C2 => some { c with ienable := v % 2 ^ 18 }
  | _ =>
    if a = 0x301 ∨ a = 0x306 ∨ a = 0x310 ∨ a = 0x344 ∨ (0x3A0 ≤ a ∧ a < 0x3F0) then some c else none

/-- A CSR write of core `k` in M mode. -/
def State.csrStore (s : State) (k : Fin 2) (a v : Nat) : State :=
  match a with
  | 0x7C1 => if v.testBit 0 && !(s.coreOf k).pLevel then s.handover k else s
  | 0x7C3 =>
    let s1 := if v.testBit 1 then s.updCore k (fun c => { c with msip := false }) else s
    if v.testBit 0 then s1.ipiRaise k else s1
  | _ =>
    match (s.coreOf k).csrWrite a v with
    | some c => s.updCore k (fun _ => c)
    | none => s

/-- A CSR that a write reaches. -/
def State.csrThere (s : State) (k : Fin 2) (a : Nat) : Bool := a == 0x7C1 || a == 0x7C3 || ((s.coreOf k).csrWrite a 0).isSome

/-- REGISTER_WRITE (R18): a write of `v` to a register, each field as its access code says: a register of the register space, where the
write has passed its checks, or a CSR of core `k`. -/
def execRegisterWrite (k : Fin 2) (r : RegTarget) (v : Word) (s : State) : Out :=
  .next (match r with
    | .space a =>
      if s.mainRuns && decide (0x30000000 ≤ a ∧ a < 0x30130000) then (s.regWrite k (a / 4 * 4) 4 v.toNat).resumeCores else s
    | .csr a =>
      if s.coreActive k && !((s.coreOf k).machine && s.csrThere k a) then s.exception k 2 (ofLe (s.memRead (s.accWho k) (s.coreOf k).pc 4))
      else s.csrAccess k (fun t => t.csrStore k a v.toNat))

end Sys2Proof.Machine
end

