-- ==== Sys2Proof/Machine/Calls.lean ====
section
/-! DEFINITION. Kernel calls (13_cores.md R528–R531; 21_applets.md R783–R787, R791, R799): the call's entry, its checks, its return, and
what each call does. -/

namespace Sys2Proof.Machine

open Sys2Proof

/-- A call in progress: the core, the domain that runs on it, and its arguments a0 to a5. -/
structure KCall where
  core : Fin 2
  dom : Fin 16
  args : List Nat
deriving DecidableEq, Repr

/-- Argument `i` of a call. -/
def KCall.a (c : KCall) (i : Nat) : Nat := c.args.getD i 0

/-- The rights under which the Wheel checks a buffer of the caller (R530). -/
def KCall.who (c : KCall) : Who := ⟨2, c.dom.val, some c.core⟩

/-! ## Returning (R528) -/

/-- The running caller goes on with a0 and a1. -/
def State.callReturn (s : State) (c : KCall) (code a1 : Nat) : State := (s.setReg c.core 10 code).setReg c.core 11 a1

/-- A call that the Wheel refuses: its code, with a detail that the spec does not state (a free value). -/
def State.callRefuse (s : State) (c : KCall) (code : Code) : State :=
  s.tick1.callReturn c (codeNum code) (Config.freeNat s.freeCount % 2 ^ 32)

/-- A call that waits: the caller leaves the core with the call noted, and the core is scheduled (R780, R783). -/
def State.callWaits (s : State) (c : KCall) (n : Nat) : State :=
  ((s.updCpu c.dom c.core (fun x => { x with call := some (n, c.args), runSince := s.tick })).takeOff c.core .waiting).schedule c.core

/-- A waiting call that returns at once still counts as one (R782). -/
def State.callNoted (s : State) (c : KCall) : State := s.updCpu c.dom c.core (fun x => { x with runSince := s.tick })

/-! ## Checks (R529, R530, R783) -/

/-- One buffer of a call: type of access, address, length. -/
abbrev CallBuf := AccType × Nat × Nat

/-- Every buffer passes as one access of the caller. -/
def State.bufsOk (s : State) (c : KCall) (l : List CallBuf) : Bool :=
  l.all (fun b => (s.prot.check c.who b.1 false b.2.1 b.2.2).isNone)

/-- Buffers are checked, length 0 first, and the call goes on (R530). -/
def State.withBufs (s : State) (c : KCall) (l : List CallBuf) (f : State → State) : State :=
  if l.any (fun b => b.2.2 == 0) then s.callRefuse c .malformed
  else if s.bufsOk c l then f s else s.callRefuse c .access

/-- A channel argument lies in CHANNELS (R783). -/
def State.callChan (s : State) (c : KCall) (n : Nat) (f : Fin 16 → State) : State :=
  if n < 16 ∧ (s.governed c.dom).contains (dom n) then f (dom n) else s.callRefuse c .access

/-- A slot argument is owned by the caller's domain (R783). -/
def State.ownsSlot (s : State) (c : KCall) (n : Nat) : Bool :=
  let x := s.ksm.slot n
  decide (n < 256) && x.st != .empty && x.owner == c.dom.val

/-- A counter argument lies in the caller's block (R778, R783). -/
def State.ownsCnt (s : State) (c : KCall) (n : Nat) : Bool :=
  match (s.appOf c.dom).man with
  | some m => let a := s.appOf c.dom; decide (a.cntFrom ≤ n ∧ n < a.cntFrom + 8 * m.counters)
  | none => false

/-- A flash range lies in the caller's data blocks (R778, R783). -/
def State.ownsFlash (s : State) (c : KCall) (fa n : Nat) : Bool :=
  match (s.appOf c.dom).man with
  | some m =>
    let a := s.appOf c.dom
    decide (0x10000000 + a.blockFrom * 0x40000 ≤ fa ∧ fa + n ≤ 0x10000000 + (a.blockFrom + m.dataBlocks) * 0x40000)
  | none => false

/-- Bytes of a buffer of the caller. -/
def State.callRead (s : State) (c : KCall) (a n : Nat) : Bytes := s.memRead c.who a n

/-! ## Plain calls -/

/-- WAIT (R785). -/
def State.callWait (s : State) (c : KCall) : State :=
  if 127 < c.a 0 then s.callRefuse c .malformed
  else
    let ev := s.waitEvents c.dom
    if c.a 0 &&& ev ≠ 0 then
      ((s.callNoted c).callReturn c 0 ev).updApp c.dom (fun a => { a with events := if a.events.testBit 6 then a.events - 64 else a.events })
    else s.callWaits c 0x01

/-- TIME. -/
def State.callTime (s : State) (c : KCall) : State :=
  s.withBufs c [(.write, c.a 0, 16)] (fun t => (t.tick1.appStore c.core (c.a 0) t.timeBytes).callReturn c 0 0)

/-- QUIESCE: the caller's quiescent point, and step X3; with no exchange requested the applet runs on (R790, R791, R799). -/
def State.callQuiesce (s : State) (c : KCall) : State :=
  if (s.appOf c.dom).xstep = .requested then
    let s1 := (s.xFreeze c.dom).updApp c.dom (fun a => { a with xstep := .draining })
    (s1.xFinish c.dom).reschedule
  else (s.callNoted c).callReturn c 0 0

/-- CH_STATUS. -/
def State.callChStatus (s : State) (c : KCall) : State :=
  s.callChan c (c.a 0) (fun n => s.callReturn c 0 (s.chan n).stat.toNat)

/-- CH_EVENT: the head entry, little-endian, leaves the FIFO; what was taken is reported (R291, R418). -/
def State.callChEvent (s : State) (c : KCall) : State :=
  s.callChan c (c.a 0) (fun n => s.withBufs c [(.write, c.a 1, 8)] (fun t =>
    match (t.chan n).fifo with
    | [] => t.callReturn c 0 0
    | e :: _ =>
      let t1 := (t.appStore c.core (c.a 1) (leBytes 8 e.word.toNat)).chOp n (fun x => { x with fifo := x.fifo.drop 1 })
      let t2 := t1.updLnk n (fun l => { l with taken := l.taken ++ [e] })
      (if (t2.lnk n).taken.length < 64 then t2 else t2.eventRecord n).callReturn c 0 1))

/-- A GRANT or WITHDRAW that reaches the channel: it is the applet's decision where one is due, or the channel is not frozen (R793). -/
def State.callDecides (s : State) (d n : Fin 16) : State :=
  let x := s.chan n
  if x.awaiting || !x.frozen then s.noteDecision d n else s

/-- GRANT: CH_GUARD is written; a grant that R295 refuses returns VALUE with CH_STAT (R784). -/
def State.callGrant (s : State) (c : KCall) : State :=
  s.callChan c (c.a 0) (fun n =>
    let s0 := s.callDecides c.dom n
    let refused := (({ s0.chan n with sticky := { (s0.chan n).sticky with grantRefused := false } }).guardWrite true s0.tick).sticky.grantRefused
    let s1 := s0.chOp n (fun x => x.guardWrite true s0.tick)
    if refused then s1.callReturn c (codeNum .value) (s1.chan n).stat.toNat else s1.callReturn c 0 0)

/-- R42: on class A a grant is withdrawn only while demand is low, or with the partner Faulty or Hostile. -/
def State.mayWithdraw (s : State) (n : Fin 16) : Bool :=
  let x := s.chan n
  x.eclass != .a || !x.dmd || (s.lnk n).pstate == .faulty || (s.lnk n).pstate == .hostile

/-- WITHDRAW: CH_GUARD is written, or the withdrawal refused and logged (R42, R784). -/
def State.callWithdraw (s : State) (c : KCall) : State :=
  s.callChan c (c.a 0) (fun n =>
    if s.mayWithdraw n then
      let s1 := (s.callDecides c.dom n).chOp n (fun x => x.guardWrite false s.tick)
      s1.callReturn c 0 0
    else (s.wlog 0x0A05 0 (faultDetail c.dom n.val 0 0 0 0) false).callReturn c (codeNum .value) 0)

/-! ## The field link -/

/-- LINK_REQ: a REQ with the request's bytes; the call waits for its reply (R784). -/
def State.callLinkReq (s : State) (c : KCall) : State :=
  s.callChan c (c.a 0) (fun n =>
    if 240 < c.a 2 then s.callRefuse c .malformed
    else
      let req := if c.a 2 = 0 then [] else [(AccType.read, c.a 1, c.a 2)]
      s.withBufs c (req ++ [(.write, c.a 3, 240)]) (fun t =>
        if (t.lnk n).sess.isNone then t.callReturn c (codeNum .abortPeer) 0
        else (t.callWaits c 0x20).ask n 0x21 (t.callRead c (c.a 1) (c.a 2)) true))

/-- LINK_ATN: the oldest held ATN payload. -/
def State.callLinkAtn (s : State) (c : KCall) : State :=
  s.callChan c (c.a 0) (fun n => s.withBufs c [(.write, c.a 1, 240)] (fun t =>
    match (t.lnk n).atn with
    | [] => t.callReturn c 0 0
    | b :: l => ((t.appStore c.core (c.a 1) b).updLnk n (fun x => { x with atn := l })).callReturn c 0 b.length))

/-- LINK_STATE: partner state and session; wait event 3 ends (R785). -/
def State.callLinkState (s : State) (c : KCall) : State :=
  s.callChan c (c.a 0) (fun n =>
    let l := s.lnk n
    (s.updApp c.dom (fun a => { a with events := if a.events.testBit 3 then a.events - 8 else a.events })).callReturn c 0
      (l.pstate.code + bitOf l.sess.isSome 3))

/-- REPORT: an APPLET record (R418). A record built in Crazed, or one that cannot be signed yet, has no SEQ: a1 is then a free value. -/
def State.callReport (s : State) (c : KCall) : State :=
  if c.a 2 = 0 ∨ 1024 < c.a 2 then s.callRefuse c .malformed
  else
    let go := fun (t : State) => t.withBufs c [(.read, c.a 1, c.a 2)] (fun t =>
      let t1 := t.report 0x0D (beBytes 1 c.dom.val ++ beBytes 1 (c.a 0) ++ beBytes 2 (c.a 2) ++ t.callRead c (c.a 1) (c.a 2))
      if t1.ksm.cntOf 1 = t.ksm.cntOf 1 then t1.tick1.callReturn c 0 (Config.freeNat t1.freeCount % 2 ^ 32)
      else t1.callReturn c 0 (t1.ksm.cntOf 1 % 2 ^ 32))
    if c.a 0 = 0xFF then go s else s.callChan c (c.a 0) (fun _ => go s)

/-! ## Keys and counters on the KSM (R784) -/

/-- Work of the KSM for a call: ABORT_TAMPER in Crazed (R253); during a provisional hold, or while a counter opcode waits for a compaction,
the call waits (R713, R720). -/
def State.onKsm (s0 : State) (c : KCall) (n : Nat) (counter : Bool) (f : State → State) : State :=
  let s := if s0.ksm.compWait then s0.compactDue else s0
  if s.crazed then (s.callNoted c).callReturn c (codeNum .abortTamper) 0
  else if s.provisional || (counter && s.ksm.compWait) then s.callWaits c n
  else f (s.callNoted c)

/-- The Wheel's ring, as far as the KSM's checks look at it: P1 with the caller's domain. -/
def KCall.ring (c : KCall) : Ring := { ownerLevel := 1, ownerDomain := c.dom.val }

/-- A KSM descriptor with these PARAM fields. -/
def ksmDesc (op slot gen dst dgen cls persist usage owner klen saltlen length : Nat) : Desc :=
  { opcode := op, flags := 0, zero02 := 0, length := length, inA := 0, inCount := 0, zero0D := 0, outA := 0, outCount := 0, zero15 := 0
    param := leBytes 2 slot ++ leBytes 2 gen ++ leBytes 2 dst ++ leBytes 2 dgen ++ beBytes 1 cls ++ beBytes 1 persist ++ leBytes 2 usage
      ++ beBytes 1 owner ++ beBytes 1 klen ++ beBytes 1 saltlen ++ zeros 9 }

/-- Slots of the caller's domain in use. -/
def State.slotsUsed (s : State) (d : Fin 16) : Nat := (s.ksm.slots.filter (fun e => 16 ≤ e.1 && e.2.st != .empty && e.2.owner == d.val)).length

/-- A slot for a new key: EMPTY, 16 to 255, not exhausted; which of them the Wheel takes is not stated (a free choice). -/
def State.freeSlot (s : State) : Option Nat :=
  let l := (List.range 240).map (· + 16) |>.filter (fun n => (s.ksm.slot n).st == .empty && (s.ksm.slot n).gen != 0xFFFF)
  if l.isEmpty then none else l[Config.freeNat s.freeCount % l.length]?

/-- A slot within the caller's budget (R784). -/
def State.budgetSlot (s : State) (d : Fin 16) : Option Nat :=
  match (s.appOf d).man with
  | some m => if s.slotsUsed d < m.slots then s.freeSlot else none
  | none => none

/-- Writes a new key by descriptor `d` with the input bytes `b`; a1 is its slot and GEN. -/
def State.newCallKey (s : State) (c : KCall) (d : Desc) (b : Bytes) : State :=
  match s.ksmCheck c.ring d with
  | some (code, x) => s.callReturn c (codeNum code) x
  | none =>
    let (s1, done) := if d.opcode = 1 then s.ksmGenerate d else s.ksmDerive d b
    let n := d.p 0x1C 2
    if done.code = .done then s1.callReturn c 0 (n * 2 ^ 16 + (s1.ksm.slot n).gen) else s1.callReturn c (codeNum done.code) done.detail

/-- KEY_GEN. -/
def State.callKeyGen (s : State) (c : KCall) : State :=
  s.onKsm c 0x40 false (fun t =>
    match t.budgetSlot c.dom with
    | none => t.callReturn c (codeNum .slot) 0
    | some n =>
      let t1 := t.tick1
      if 255 < c.a 0 ∨ 65535 < c.a 1 ∨ 255 < c.a 2 ∨ 255 < c.a 3 then t1.callReturn c (codeNum .value) 1
      else t1.newCallKey c (ksmDesc 1 0 0 n (t1.ksm.slot n).gen (c.a 0) (c.a 2) (c.a 1) c.dom.val (c.a 3) 0 0) [])

/-- KEY_DERIVE: a0 holds the source slot and its GEN as KEY_GEN returns them; a4 holds CLASS, USAGE and KLEN from its top byte down. -/
def State.callKeyDerive (s : State) (c : KCall) : State :=
  let slot := c.a 0 / 2 ^ 16
  if !s.ownsSlot c slot then s.callRefuse c .access
  else s.withBufs c [(.read, c.a 1, c.a 2)] (fun t0 => t0.onKsm c 0x41 false (fun t =>
    if 64 < c.a 3 ∨ c.a 2 < c.a 3 then t.callReturn c (codeNum .malformed) 9
    else match t.budgetSlot c.dom with
      | none => t.callReturn c (codeNum .slot) 0
      | some n =>
        let t1 := t.tick1
        t1.newCallKey c (ksmDesc 5 slot (c.a 0 % 2 ^ 16) n (t1.ksm.slot n).gen (c.a 4 / 2 ^ 24 % 256) 0 (c.a 4 / 2 ^ 8 % 2 ^ 16) c.dom.val
          (c.a 4 % 256) (c.a 3) (c.a 2)) (t1.callRead c (c.a 1) (c.a 2))))

/-- KEY_DELETE. -/
def State.callKeyDelete (s : State) (c : KCall) : State :=
  if !s.ownsSlot c (c.a 0) then s.callRefuse c .access
  else s.onKsm c 0x42 false (fun t =>
    match t.ksmCheck c.ring (ksmDesc 8 (c.a 0) (c.a 1 % 2 ^ 16) 0 0 0 0 0 0 0 0 0) with
    | some (code, x) => t.callReturn c (codeNum code) x
    | none => (t.deleteSlot (c.a 0)).callReturn c 0 0)

/-- KEY_SIGN: a digest of 32 bytes for a P-256 key, 48 for a P-384 key; the signature goes to the output buffer. -/
def State.callKeySign (s : State) (c : KCall) : State :=
  if !s.ownsSlot c (c.a 0) then s.callRefuse c .access
  else
    let x := s.ksm.slot (c.a 0)
    let n := if x.cls = 6 then 48 else 32
    s.withBufs c [(.read, c.a 2, n), (.write, c.a 3, 2 * n)] (fun t0 => t0.onKsm c 0x43 false (fun t =>
      let d := ksmDesc 6 (c.a 0) (c.a 1 % 2 ^ 16) 0 0 0 0 0 0 0 0 n
      match t.ksmCheck c.ring d with
      | some (code, y) => t.callReturn c (codeNum code) y
      | none => (t.drbg.appStore c.core (c.a 3) (t.ksmOut d (t.callRead c (c.a 2) n))).callReturn c 0 0))

/-- CNT_READ: the counter's value, little-endian. -/
def State.callCntRead (s : State) (c : KCall) : State :=
  if !s.ownsCnt c (c.a 0) then s.callRefuse c .access
  else s.withBufs c [(.write, c.a 1, 8)] (fun t => (t.appStore c.core (c.a 1) (leBytes 8 (t.ksm.cntOf (c.a 0)))).callReturn c 0 0)

/-- CNT_INC: the counter goes up by one (R708). -/
def State.callCntInc (s : State) (c : KCall) : State :=
  if !s.ownsCnt c (c.a 0) then s.callRefuse c .access
  else s.withBufs c [(.write, c.a 1, 8)] (fun t0 => t0.onKsm c 0x51 true (fun t =>
    if cntMax ≤ t.ksm.cntOf (c.a 0) then (t.exhausted (c.a 0) none).callReturn c (codeNum .counterExhausted) 0
    else
      let t1 := t.cntInc (c.a 0)
      (t1.appStore c.core (c.a 1) (leBytes 8 (t1.ksm.cntOf (c.a 0)))).callReturn c 0 0))

/-! ## Metrology and flash -/

/-- MEASURE: the last payload held; wait event 4 ends (R785, R870). Before the first payload the buffer takes free bytes. -/
def State.callMeasure (s : State) (c : KCall) : State :=
  s.withBufs c [(.write, c.a 0, 196)] (fun t =>
    let b := if t.sjm.measure.isEmpty then Config.freeBytes t.freeCount 196 else t.sjm.measure
    ((t.tick1.appStore c.core (c.a 0) b).updApp c.dom (fun a => { a with events := if a.events.testBit 4 then a.events - 16 else a.events })).callReturn
      c 0 0)

/-- Payload of a LOAD frame (R482). -/
def loadPayload (kind index total : Nat) (b : Bytes) : Bytes := beBytes 1 kind ++ [0] ++ beBytes 2 index ++ beBytes 4 total ++ b

/-- METRO_LOAD: one LOAD frame; the last chunk waits for the die's LOAD_RESULT (R786). With no live session it returns ABORT_PEER, in Crazed
ABORT_TAMPER (R861). -/
def State.callMetroLoad (s : State) (c : KCall) : State :=
  if c.a 4 = 0 ∨ 1024 < c.a 4 then s.callRefuse c .malformed
  else if s.sjm.loadOwner.isSome && s.sjm.loadOwner != some c.dom.val then s.callRefuse c .access
  else s.withBufs c [(.read, c.a 3, c.a 4)] (fun t =>
    let live := match t.sjm.sj.sess with | some x => x.live | none => false
    if t.crazed then (t.callNoted c).callReturn c (codeNum .abortTamper) 0
    else if !live then (t.callNoted c).callReturn c (codeNum .abortPeer) 0
    else
      let t1 := ({ t with sjm := { t.sjm with loadOwner := some c.dom.val, loadResult := none } }).slipSend .main 0x15
        (loadPayload (c.a 0) (c.a 1) (c.a 2) (t.callRead c (c.a 3) (c.a 4))) true
      if c.a 1 + 1 < ceilDiv (c.a 2) 1024 then t1.callReturn c 0 0 else t1.callWaits c 0x61)

/-- The caller owns FLC ring 2, and so makes no flash calls (R787). -/
def State.ownsFlcRing (s : State) (c : KCall) : Bool := match (s.appOf c.dom).man with | some m => m.flcRing | none => false

/-- FLASH_PROG: a PROGRAM on FLC ring 1 at P1; the call waits for its completion (R787). A form that the FLC would find malformed is not
put on the Wheel's ring. -/
def State.callFlashProg (s : State) (c : KCall) : State :=
  if s.ownsFlcRing c || !s.ownsFlash c (c.a 0) (c.a 2) then s.callRefuse c .access
  else if c.a 0 % 512 ≠ 0 ∨ c.a 2 % 512 ≠ 0 then s.callRefuse c .malformed
  else s.withBufs c [(.read, c.a 1, c.a 2)] (fun t => (t.callWaits c 0x70).pollFlash c.dom c.core)

/-- FLASH_ERASE: an ERASE on FLC ring 1 at P1 (R787). -/
def State.callFlashErase (s : State) (c : KCall) : State :=
  if s.ownsFlcRing c || !s.ownsFlash c (c.a 0) 1 then s.callRefuse c .access
  else if c.a 0 % 0x40000 ≠ 0 ∨ 2 < c.a 1 then s.callRefuse c .malformed
  else (s.callWaits c 0x71).pollFlash c.dom c.core

/-! ## The call's entry (R525, R528, R529) -/

/-- What the Wheel does for a call number, where Applets defines it (R783). -/
def callTable (n : Nat) : Option (State → KCall → State) :=
  match n with
  | 0x01 => some State.callWait | 0x02 => some State.callTime | 0x03 => some State.callQuiesce
  | 0x10 => some State.callChStatus | 0x11 => some State.callChEvent | 0x12 => some State.callGrant | 0x13 => some State.callWithdraw
  | 0x20 => some State.callLinkReq | 0x21 => some State.callLinkAtn | 0x22 => some State.callLinkState
  | 0x30 => some State.callReport
  | 0x40 => some State.callKeyGen | 0x41 => some State.callKeyDerive | 0x42 => some State.callKeyDelete | 0x43 => some State.callKeySign
  | 0x50 => some State.callCntRead | 0x51 => some State.callCntInc
  | 0x60 => some State.callMeasure | 0x61 => some State.callMetroLoad
  | 0x70 => some State.callFlashProg | 0x71 => some State.callFlashErase
  | _ => none

/-- CALLS of the caller's manifest allows the call. -/
def State.callAllowed (s : State) (d : Fin 16) (n : Nat) : Bool := match (s.appOf d).man with | some m => m.calls.testBit n | none => false

/-- The applet's ECALL on core `k`: cause 8, the pc past the ECALL, the caller's own stores visible to the Wheel (R515, R525, R528). -/
def State.ecallEntry (s : State) (k : Fin 2) : State :=
  ((s.drainAll k).updCore k (fun c => { c with mepc := c.pc, mcause := 8, mtval := 0 })).retire k 4

/-- The running applet on core `k` that makes a call, with its number and arguments. -/
def State.caller (s : State) (k : Fin 2) : Option (Nat × KCall) :=
  match s.running k with
  | some d =>
    if s.coreActive k && (s.coreOf k).level == .p2 then
      some (s.getReg k 17, { core := k, dom := d, args := [10, 11, 12, 13, 14, 15].map (fun r => s.getReg k r) })
    else none
  | none => none

/-- A call waiting on the KSM is tried again when what it waited for has gone (R720). -/
def State.kernelCall (s : State) (n : Nat) (c : KCall) : State :=
  let s1 := s.ecallEntry c.core
  if 0x100 ≤ n then s1.callRefuse c .malformed
  else match callTable n with
    | some f => if s1.callAllowed c.dom n then f s1 c else s1.callRefuse c .access
    | none => s1.callRefuse c .access

/-- The call with number `n` that core `k`'s applet makes, if it makes that one. -/
def State.callNo (s : State) (k : Fin 2) (n : Nat) : State :=
  match s.caller k with
  | some (m, c) => if m = n then s.kernelCall n c else s
  | none => s

/-! ## Calls that waited for the KSM -/

/-- A call that waits on core `k` for the KSM, once it can go on: it is made again as if from the start. -/
def State.retryCall (s : State) (d : Fin 16) (k : Fin 2) : State :=
  match (s.cpuOf d k).call with
  | some (n, args) =>
    if [0x40, 0x41, 0x42, 0x43, 0x51].contains n && !s.provisional && (n != 0x51 || !s.ksm.compWait) && (s.running k).isNone && s.coreUp k then
      match callTable n with
      | some f =>
        let s1 := (s.updCpu d k (fun x => { x with call := none, st := .ready })).putOn k d
        f s1 { core := k, dom := d, args := args }
      | none => s
    else s
  | none => s

/-- Every call that waits for the KSM is tried again. -/
def State.retryCalls (s : State) : State :=
  if s.wheelRuns then ((List.finRange 16).foldl (fun t d => (t.retryCall d 0).retryCall d 1) s).reschedule else s

end Sys2Proof.Machine
end

