-- ==== Sys2Proof/Machine/Applets.lean ====
section
/-! DEFINITION. Commands of applets: kernel calls, scheduling, exchanges that time out, and the Slip Joint frames that calls wait for
(13_cores.md R528; 21_applets.md R781–R793; 12_metrology.md R482). -/

namespace Sys2Proof.Machine

open Sys2Proof

/-- ECALL (R528): the applet on core `k` makes the kernel call that a7 names. -/
def execEcall (k : Fin 2) (s : State) : Out :=
  .next (match s.caller k with
    | some (n, c) => s.kernelCall n c
    | none => s)

/-- WAIT (R785). -/
def execWait (k : Fin 2) (s : State) : Out := .next (s.callNo k 0x01)

/-- WAIT_RETURN (R785): a WAIT of domain `d` on core `k` returns for an event that is present, or when its deadline passes. -/
def execWaitReturn (d : Fin 16) (k : Fin 2) (s : State) : Out :=
  .next (match s.waitingOn d k with
    | some (mask, dl) =>
      if !s.wheelRuns then s
      else if mask &&& s.waitEvents d ≠ 0 then (s.waitReturns d k).reschedule
      else match dl with
        | some t => if s.clk.tickSrc.isSome then ((s.advanceTo t).closeWindows).pollWaits else s
        | none => s
    | none => s)

/-- CALL_TIME (R783). -/
def execCallTime (k : Fin 2) (s : State) : Out := .next (s.callNo k 0x02)

/-- QUIESCE (R791). -/
def execQuiesce (k : Fin 2) (s : State) : Out := .next (s.callNo k 0x03)

/-- CH_STATUS (R783). -/
def execChStatus (k : Fin 2) (s : State) : Out := .next (s.callNo k 0x10)

/-- CH_EVENT (R783). -/
def execChEvent (k : Fin 2) (s : State) : Out := .next (s.callNo k 0x11)

/-- CALL_GRANT (R784). -/
def execCallGrant (k : Fin 2) (s : State) : Out := .next (s.callNo k 0x12)

/-- CALL_WITHDRAW (R784). -/
def execCallWithdraw (k : Fin 2) (s : State) : Out := .next (s.callNo k 0x13)

/-- LINK_REQ (R783). -/
def execLinkReq (k : Fin 2) (s : State) : Out := .next (s.callNo k 0x20)

/-- LINK_ATN (R783). -/
def execLinkAtn (k : Fin 2) (s : State) : Out := .next (s.callNo k 0x21)

/-- LINK_STATE (R783). -/
def execLinkState (k : Fin 2) (s : State) : Out := .next (s.callNo k 0x22)

/-- REPORT (R783). -/
def execReport (k : Fin 2) (s : State) : Out := .next (s.callNo k 0x30)

/-- KEY_GEN (R783). -/
def execKeyGen (k : Fin 2) (s : State) : Out := .next (s.callNo k 0x40)

/-- KEY_DERIVE (R783). -/
def execKeyDerive (k : Fin 2) (s : State) : Out := .next (s.callNo k 0x41)

/-- KEY_DELETE (R783). -/
def execKeyDelete (k : Fin 2) (s : State) : Out := .next (s.callNo k 0x42)

/-- KEY_SIGN (R783). -/
def execKeySign (k : Fin 2) (s : State) : Out := .next (s.callNo k 0x43)

/-- CALL_CNT_READ (R783). -/
def execCallCntRead (k : Fin 2) (s : State) : Out := .next (s.callNo k 0x50)

/-- CALL_CNT_INC (R783). -/
def execCallCntInc (k : Fin 2) (s : State) : Out := .next (s.callNo k 0x51)

/-- CALL_MEASURE (R870). -/
def execCallMeasure (k : Fin 2) (s : State) : Out := .next (s.callNo k 0x60)

/-- METRO_LOAD (R786). -/
def execMetroLoad (k : Fin 2) (s : State) : Out := .next (s.callNo k 0x61)

/-- FLASH_PROG (R787). -/
def execFlashProg (k : Fin 2) (s : State) : Out := .next (s.callNo k 0x70)

/-- FLASH_ERASE (R787). -/
def execFlashErase (k : Fin 2) (s : State) : Out := .next (s.callNo k 0x71)

/-! ## Scheduling (R781, R782) -/

/-- An applet that is stuck: an applet fault with the core's mtval and P_FAULT as they stand; its mcause is not stated (a free value). -/
def State.stuck (s : State) (d : Fin 16) (k : Fin 2) : State :=
  let c := s.coreOf k
  (s.tick1.appletFault d (Config.freeNat s.freeCount % 256) c.pc c.mtval c.pFault).reschedule

/-- APPLET_STUCK (R782): the applet on core `k` has run 1639 ticks without a waiting call. -/
def execAppletStuck (k : Fin 2) (s : State) : Out :=
  .next (match s.running k with
    | some d =>
      if s.wheelRuns && s.clk.tickSrc.isSome then
        let t := (s.advanceTo ((s.cpuOf d k).runSince + 1639)).closeWindows
        if t.running k = some d then t.stuck d k else t
      else s
    | none => s)

/-- CPU_WINDOW (R781): a window of 32 768 ticks, aligned to the periodic kernel tick, ends. -/
def execCpuWindow (s : State) : Out :=
  .next (if s.wheelRuns && s.clk.tickSrc.isSome then ((s.advanceTo ((s.tick / 32768 + 1) * 32768)).closeWindows).cpuWindow else s)

/-- CPU_BUDGET_USED (R781): the applet on core `k` reaches its CPU_US in the window. -/
def execCpuBudgetUsed (k : Fin 2) (s : State) : Out :=
  .next (match s.running k, s.wheelRuns with
    | some d, true =>
      let us := match (s.appOf d).man with | some m => m.cpuUs | none => 0
      let s1 := (s.updCpu d k (fun x => { x with used := us })).updApp d (fun a => { a with overruns := sat16 a.overruns })
      (s1.takeOff k .throttled).schedule k
    | _, _ => s)

/-- TIME_SLICE (R781): the slice of the applet on core `k` ends; the core passes to the next READY applet of equal priority. -/
def execTimeSlice (k : Fin 2) (s : State) : Out :=
  .next (match s.running k, s.wheelRuns with
    | some _, true => (s.takeOff k .ready).schedule k
    | _, _ => s)

/-! ## Exchanges that time out (R792, R793) -/

/-- An exchange is abandoned before step X3: logged and reported; the applet runs on, and the image stays installed (R792). -/
def State.abandonExchange (s : State) (d : Fin 16) : State :=
  (s.updApp d (fun a => { a with xstep := .none, incoming := none })).wlog 0x0A03 0 (faultDetail d 0 0 0 0 0) true

/-- QUIESCE_TIMEOUT (R792): QUIESCE_MAX ticks since step X2 of domain `d`'s exchange. -/
def execQuiesceTimeout (d : Fin 16) (s : State) : Out :=
  .next (match (s.appOf d).xstep, (s.appOf d).man with
    | .requested, some m =>
      if s.wheelRuns && s.clk.tickSrc.isSome then
        (((s.advanceTo ((s.appOf d).xTick + m.quiesceMax)).closeWindows).abandonExchange d).xNext
      else s
    | _, _ => s)

/-- The Wheel decides in the applet's place on the channels of domain `d` still to be decided, and logs and reports each (R793). -/
def State.decideFor (s : State) (d : Fin 16) : State :=
  let late := (s.guardedBy d).filter (fun c => !(s.appOf d).decided.contains c.val)
  let s1 := late.foldl (fun t c => (t.wheelDecide c).wlog 0x0A04 0 (faultDetail d c.val 0 0 0 0) true) s
  s1.updApp d (fun a => { a with startedAt := none })

/-- DECIDE_TIMEOUT (R793): DECIDE_MAX ticks since step X6 for domain `d`. -/
def execDecideTimeout (d : Fin 16) (s : State) : Out :=
  .next (match (s.appOf d).startedAt, (s.appOf d).man with
    | some t, some m =>
      if s.wheelRuns && s.clk.tickSrc.isSome then ((s.advanceTo (t + m.decideMax)).closeWindows).decideFor d else s
    | _, _ => s)

/-! ## Frames that calls wait for (R482, R785, R786) -/

/-- LOAD_RESULT (R786): the METRO_LOAD that waits for it returns DONE with the die's result; the load is over. -/
def execLoadResult (f : SjRx) (s : State) : Out :=
  .next (s.ackIdle .main <|
    let (s1, ok) := s.slipTakeLive .main 0x16 f
    if ok && decide (f.payload.length = 8) && s1.wheelRuns then
      let res := beAt f.payload 1 1
      let s2 := { s1 with
        sjm := { s1.sjm with loadOwner := none, loadResult := some f.payload }
        app := s1.app.map (fun (a : App) => a.returnCalls 0x61 0 res) }
      s2.reschedule
    else s1)

/-- MEASURE (R482): the once-per-second live values; wait event 4 of every applet (R785). -/
def execMeasure (f : SjRx) (s : State) : Out :=
  .next (s.ackIdle .main <|
    let (s1, ok) := s.slipTakeLive .main 0x17 f
    if ok && decide (f.payload.length = 196) && s1.wheelRuns then
      State.pollWaits { s1 with
        sjm := { s1.sjm with measure := f.payload }
        app := s1.app.map (fun (a : App) => { a with events := a.events ||| 16 }) }
    else s1)

end Sys2Proof.Machine
end

