-- ==== Sys2Proof/Machine/Straps.lean ====
section
/-! DEFINITION. Commands of the resistor-coded pins and the binary straps (03_straps.md). -/

namespace Sys2Proof.Machine

open Sys2Proof

/-! ## Levels (R98, R103, R107, R111, R112) -/

/-- Acceptance windows of levels 0 to 14, in ohms, half-open (R98). -/
def codeWindows : List (Nat × Nat) :=
  [(0, 200), (1989, 2112), (4093, 4347), (6295, 6685), (8817, 9363), (11737, 12463), (15326, 16274), (19885, 21115),
   (25317, 26883), (32204, 34196), (40934, 43466), (51992, 55208), (66057, 70143), (86039, 91361), (117370, 124630)]

/-- Level whose window holds a measured resistance; level 15 from 180 kΩ on (R98). -/
def codeLevel (r : Nat) : Option Nat :=
  if 180000 ≤ r then some 15 else (List.range 15).find? (fun k =>
    let w := codeWindows.getD k (0, 0)
    decide (w.1 ≤ r ∧ r < w.2))

/-- Level of one sample; a sample the pre-check of R99 refuses is out of window. -/
def sampleLevel (x : Option Nat) : Option Nat := x.bind codeLevel

/-- What the converter reads: it saturates at 200 kΩ (R99). -/
def converted (x : Option Nat) : Option Nat := x.map (fun r => min r 200000)

/-- The twelve samples of a pass; a pin not given reads out of window. -/
def passSample (l : List (Option Nat)) (k : Nat) : Option Nat := converted (l.getD k none)

/-- Class a level gives the even or odd channel of its pin (R107). -/
def classAt (level c : Nat) : EClass :=
  match level / 4 ^ (c % 2) % 4 with
  | 0 => .u | 1 => .l | 2 => .h | _ => .a

/-- A CODE11 level with a reserved encoding (R112). -/
def code11Reserved (v : Nat) : Bool := v == 3 || v == 7 || decide (8 ≤ v)

/-- CODE pin that carries the class of channel `c`. -/
def codePinOf (c : Fin 16) : Fin 12 := Fin.ofNat 12 (c.val / 2)

/-- One CODE pin. -/
def Straps.pin (x : Straps) (k : Fin 12) : CodePin := x.code[k]

/-! ## The first pass (R104, R906, R907) -/

/-- Sets the strap class of a channel. -/
def State.setClass (s : State) (c : Fin 16) (k : EClass) (marginal : Bool) : State :=
  { s with straps := { s.straps with cls := s.straps.cls.set c k, clsMarginal := s.straps.clsMarginal.set c marginal } }

/-- The class L passthrough is connected, whatever the retirement record holds; a channel retired for its pads is on probation
(R104, R845). -/
def State.connectLamp (s : State) (c : Fin 16) (marginal : Bool) : State :=
  (s.setClass c .l marginal).chOp c (fun x =>
    { x with known := true, eclass := .l, fenPad := x.fenPad.connect .p, lnkPad := x.lnkPad.connect .t
             padRetired := s.kiln.retired.testBit c.val }.settle s.tick)

/-- The pins of a fused-retired channel park with the keeper low (R906). -/
def State.parkFused (s : State) (c : Fin 16) : State :=
  s.updCh c (fun x => { x with known := true, eclass := .u, fenPad := x.fenPad.setParked true true, lnkPad := x.lnkPad.setParked true true })

/-- End of the first pass for one channel. -/
def State.firstPassCh (s : State) (c : Fin 16) : State :=
  if (s.chan c).fused then s.parkFused c
  else match sampleLevel (s.straps.pin (codePinOf c)).resA with
    | none => s.connectLamp c false
    | some v => if classAt v c.val == .l then s.connectLamp c false else s

/-- CODE_FIRST_PASS (R104): the samples of CODE0 to CODE11 in ohms, none where the pre-check found a voltage. -/
def execCodeFirstPass (samples : List (Option Nat)) (s : State) : Out :=
  .next (if !s.rails.vao || s.clk.tickSrc.isNone || s.straps.phase != .none then s
    else
      let s1 := { s with straps := { s.straps with
        firstPassTick := s.tick, testEnStart := s.bins.testEn, phase := .first
        code := Vector.ofFn (fun k => { (s.straps.pin k) with resA := passSample samples k.val }) } }
      let s2 := s1.eachCh (fun c t => t.firstPassCh c)
      (if s2.rails.vio then s2 else s2.lnkPadsDown).runStart)

/-! ## The second pass (R103, R105, R108–R114) -/

/-- A pin judged by its two samples (R103, R112). -/
def judgePin (k : Nat) (p : CodePin) : CodePin :=
  match sampleLevel p.resA, sampleLevel p.resB with
  | some a, some b => if a = b ∧ !(k == 11 && code11Reserved a) then { p with level := a, marginal := false } else { p with level := 0, marginal := true }
  | _, _ => { p with level := 0, marginal := true }

/-- The settled fields of CODE8 to CODE11 with their fallbacks (R109, R111, R114). -/
def Straps.fields (x : Straps) : Straps :=
  let cab := if (x.pin 8).marginal || (x.pin 9).marginal || (x.pin 10).marginal then 0xFFF
    else (x.pin 10).level * 256 + (x.pin 9).level * 16 + (x.pin 8).level
  let c11 := x.pin 11
  { x with cabinet := cab, rate := if c11.marginal then 1 else c11.level % 4, amp := if c11.marginal then 0 else c11.level / 4 }

/-- An H or A channel passes through the parked state to function G and its field link (R105); one the Kiln's record holds retired stays
parked (R53, R94). -/
def Chan.toGuarded (c : Chan) (k : EClass) (isRetired : Bool) (t : Nat) : Chan :=
  let c0 := { c with known := true }
  if isRetired then
    { c0 with eclass := .u, retired := true, fenPad := c0.fenPad.setParked true true, lnkPad := c0.lnkPad.setParked true true }
  else { c0 with eclass := k, fenPad := c0.fenPad.begin_ (some .g) true t, lnkPad := c0.lnkPad.begin_ (some .t) true t }

/-- End of the second pass for one channel: those not connected by the first take their settled class together (R105, R108, R126). -/
def State.secondPassCh (s : State) (c : Fin 16) : State :=
  let p := s.straps.pin (codePinOf c)
  if (s.chan c).fused then s.setClass c .u false
  else if (s.chan c).known then s.setClass c .l p.marginal
  else if p.marginal then s.connectLamp c true
  else match classAt p.level c.val with
    | .u => (s.setClass c .u false).updCh c (fun x =>
        { x with known := true, eclass := .u, fenPad := x.fenPad.setParked true true, lnkPad := x.lnkPad.setParked true true })
    | k => (s.setClass c k false).chOp c (fun x => x.toGuarded k (s.kiln.retired.testBit c.val) s.tick)

/-- In Sherd the channels take the form of R905 once their classes are known. -/
def State.settleSherd (s : State) : State :=
  if s.life.firing = .sherd && s.pwr.phase == .done then s.channelsToSherd else s

/-- CODE_SECOND_PASS (R105): every pin 262 ticks after its first sample; the reading has settled. -/
def execCodeSecondPass (samples : List (Option Nat)) (s : State) : Out :=
  .next (if !s.rails.vao || s.clk.tickSrc.isNone || s.straps.phase != .first then s
    else
      let s1 := (s.advanceTo (s.straps.firstPassTick + 262)).closeWindows
      let s2 := { s1 with straps := Straps.fields { s1.straps with
        phase := .settled, settledActed := true
        code := Vector.ofFn (fun k => judgePin k.val { (s1.straps.pin k) with resB := passSample samples k.val }) } }
      let s2a := s2.eachCh (fun c t => t.secondPassCh c)
      let s3 := (if s2a.rails.vio then s2a else s2a.lnkPadsDown).settleSherd
      (if s3.kilnRuns then s3.recordStraps else s3).runStart)

/-! ## Re-reads (R121, R122) -/

/-- A re-read finds a pin changed against its power-up state (R121, R122). -/
def CodePin.differs (p : CodePin) (k : Nat) (a b : Option Nat) : Bool :=
  let q := judgePin k { p with resA := a, resB := b }
  if q.marginal then !p.marginal else p.marginal || q.level != p.level

/-- Level byte of a re-read: 0xFF where it is marginal. -/
def rereadLevel (k : Nat) (p : CodePin) (a b : Option Nat) : Nat :=
  let q := judgePin k { p with resA := a, resB := b }
  if q.marginal then 0xFF else q.level

/-- One pin's judgement at the end of a re-read pass. -/
def State.rereadPin (s : State) (k : Fin 12) (a b : Option Nat) : State :=
  let p := s.straps.pin k
  let now := p.differs k.val a b
  if now = p.changed then s
  else
    let s1 := { s with straps := { s.straps with code := s.straps.code.set k { p with changed := now } } }
    let d := beBytes 1 k.val ++ beBytes 1 (rereadLevel k.val p a b)
    if now && !s.pinFused k.val then s1.watch 0x0202 d else s1.klog 0x0202 d

/-- Tick in which the next re-read pass begins. -/
def State.nextReread (s : State) : Nat := s.straps.firstPassTick + ((s.tick - s.straps.firstPassTick) / 1966080 + 1) * 1966080

/-- CODE_REREAD_PASS (R121): both samples of each pin; every pin is judged when the pass ends. -/
def execCodeRereadPass (first second : List (Option Nat)) (s : State) : Out :=
  .next (if !s.rails.vao || s.clk.tickSrc.isNone || s.straps.phase != .settled then s
    else
      let s1 := (s.advanceTo (s.nextReread + 262)).closeWindows
      (List.finRange 12).foldl (fun t k => t.rereadPin k (passSample first k.val) (passSample second k.val)) s1)

/-! ## Binary straps (R115–R118) -/

/-- TEST_EN_HIGH (R116): a Watch event after the first CODE pass. -/
def execTestEnHigh (s : State) : Out :=
  .next (if !s.rails.vao || s.bins.testEn then s
    else
      let s1 := { s with bins := { s.bins with testEn := true } }
      if s1.straps.phase == .none then s1 else s1.watch 0x0207 (beBytes 1 1 ++ beBytes 1 s1.life.firing.code))

/-- SVC_ACCEPTED_LOW (R117): the held duration starts; the Kiln wakes (R160). -/
def execSvcAcceptedLow (s : State) : Out :=
  .next (if !s.rails.vao || s.bins.svcLow then s
    else { s with bins := { s.bins with svcLow := true, svcSince := if s.bins.svcIgnored then none else some s.tick, svcLongDone := false } }.wakeKiln)

/-- The held time reaches 163 840 ticks: a long press is logged and triggers a run (R117, R834). -/
def State.svcLong (s : State) (since_ : Nat) : State :=
  let s1 := (s.advanceTo (since_ + 163840)).closeWindows
  ({ s1 with bins := { s1.bins with svcLongDone := true } }.klog 0x0205 [2]).triggerRun .svc fullMask 1966080

/-- SVC_LONG_PRESS (R117). -/
def execSvcLongPress (s : State) : Out :=
  .next (match s.bins.svcSince with
    | some t => if s.bins.svcLow && !s.bins.svcIgnored && !s.bins.svcLongDone && s.clk.tickSrc.isSome then s.svcLong t else s
    | none => s)

/-- SVC_STUCK (R117): a Watch event; SVC is ignored until accepted high. -/
def execSvcStuck (s : State) : Out :=
  .next (match s.bins.svcSince with
    | some t =>
      if s.bins.svcLow && !s.bins.svcIgnored && s.clk.tickSrc.isSome then
        let s0 := if s.bins.svcLongDone then s else s.svcLong t
        let s1 := (s0.advanceTo (t + 1966080)).closeWindows
        { s1 with bins := { s1.bins with svcIgnored := true, svcSince := none } }.watch 0x0205 [3]
      else s
    | none => s)

/-- SVC_PRESS (R117): SVC is accepted high; a short press advances the MPULSE selection. -/
def execSvcPress (s : State) : Out :=
  .next (if !s.rails.vao || !s.bins.svcLow then s
    else
      let s1 := { s with bins := { s.bins with svcLow := false, svcIgnored := false, svcSince := none, svcLongDone := false } }.wakeKiln
      match s.bins.svcSince with
      | none => s1
      | some t =>
        let held := s.tick - t
        if held < 65536 then (s1.klog 0x0205 [0]).sendPress
        else if held < 163840 then s1.klog 0x0205 [1]
        else if s.bins.svcLongDone then s1
        else
          let s2 := s.svcLong t
          { s2 with bins := { s2.bins with svcLow := false, svcIgnored := false, svcSince := none, svcLongDone := false } }.wakeKiln)

/-- DOOR_OPEN (R118): a Watch event (cause 0x12 of R240). -/
def execDoorOpen (s : State) : Out :=
  .next (if !s.rails.vao || s.bins.doorOpen then s
    else ({ s with bins := { s.bins with doorOpen := true } }.wakeKiln.gradeWatch ⟨0x12, 0, s.tick⟩).watch 0x0206 [1])

/-- DOOR_CLOSE (R118). -/
def execDoorClose (s : State) : Out :=
  .next (if !s.rails.vao || !s.bins.doorOpen then s
    else ({ s with bins := { s.bins with doorOpen := false } }.wakeKiln).klog 0x0206 [0])

end Sys2Proof.Machine
end

