-- ==== Sys2Proof/Machine/Dispatch.lean ====
section
/-! DEFINITION. Which meaning a command has: one arm for each constructor of `Instr`, each one direct call. -/

namespace Sys2Proof.Machine

/-- The effect of a command on everything but the queue. -/
def exec (i : Instr) (s : State) : Host.Outcome State Fault Refusal :=
  match i with
  | .vaoValid testEn svcLow doorOpen pfailLow nrstLow probe => Sys2Proof.Machine.execVaoValid testEn svcLow doorOpen pfailLow nrstLow probe s
  | .vmetValid sealHigh badChains xomOk => Sys2Proof.Machine.execVmetValid sealHigh badChains xomOk s
  | .vmetInvalid commitOk => Sys2Proof.Machine.execVmetInvalid commitOk s
  | .codeFirstPass samples => Sys2Proof.Machine.execCodeFirstPass samples s
  | .codeSecondPass samples => Sys2Proof.Machine.execCodeSecondPass samples s
  | .codeRereadPass first second => Sys2Proof.Machine.execCodeRereadPass first second s
  | .qualificationComplete r => Sys2Proof.Machine.execQualificationComplete r s
  | .referenceSwitchComplete k => Sys2Proof.Machine.execReferenceSwitchComplete k s
  | .tickSourceReturn src => Sys2Proof.Machine.execTickSourceReturn src s
  | .fpllLockFail retryFails => Sys2Proof.Machine.execFpllLockFail retryFails s
  | .wake src => Sys2Proof.Machine.execWake src s
  | .sensorTrip cause index => Sys2Proof.Machine.execSensorTrip cause index s
  | .discriminableAnomaly cause index => Sys2Proof.Machine.execDiscriminableAnomaly cause index s
  | .referenceEvent k => Sys2Proof.Machine.execReferenceEvent k s
  | .kilnSelfcheckDone pass front => Sys2Proof.Machine.execKilnSelfcheckDone pass front s
  | .temperatureSample samples => Sys2Proof.Machine.execTemperatureSample samples s
  | .ocnoixSensorTrip cause index nearSurge => Sys2Proof.Machine.execOcnoixSensorTrip cause index nearSurge s
  | .dmdRise c => Sys2Proof.Machine.execDmdRise c s
  | .dmdFall c => Sys2Proof.Machine.execDmdFall c s
  | .fbkRise c => Sys2Proof.Machine.execFbkRise c s
  | .fbkFall c => Sys2Proof.Machine.execFbkFall c s
  | .glitch c feedback => Sys2Proof.Machine.execGlitch c feedback s
  | .bypassEdge c rise => Sys2Proof.Machine.execBypassEdge c rise s
  | .confLate c => Sys2Proof.Machine.execConfLate c s
  | .hbExpired c => Sys2Proof.Machine.execHbExpired c s
  | .holdExpired c => Sys2Proof.Machine.execHoldExpired c s
  | .grantSet c => Sys2Proof.Machine.execGrantSet c s
  | .grantClear c => Sys2Proof.Machine.execGrantClear c s
  | .keepHeartbeat c => Sys2Proof.Machine.execKeepHeartbeat c s
  | .keepHold c => Sys2Proof.Machine.execKeepHold c s
  | .keepStop c => Sys2Proof.Machine.execKeepStop c s
  | .serviceEnter c contracted => Sys2Proof.Machine.execServiceEnter c contracted s
  | .xfreeze c contracted => Sys2Proof.Machine.execXfreeze c contracted s
  | .windowLengthWrite c w v => Sys2Proof.Machine.execWindowLengthWrite c w v s
  | .eventPop c => Sys2Proof.Machine.execEventPop c s
  | .functionSwitchBegin c p => Sys2Proof.Machine.execFunctionSwitchBegin c p s
  | .functionConnect c p => Sys2Proof.Machine.execFunctionConnect c p s
  | .fenReadbackFail c => Sys2Proof.Machine.execFenReadbackFail c s
  | .burstDecoded c b sigOk => Sys2Proof.Machine.execBurstDecoded c b sigOk s
  | .jabber c => Sys2Proof.Machine.execJabber c s
  | .replyTimeout c => Sys2Proof.Machine.execReplyTimeout c s
  | .probeRsp c b sigOk => Sys2Proof.Machine.execProbeRsp c b sigOk s
  | .crp c b sigOk => Sys2Proof.Machine.execCrp c b sigOk s
  | .krp c b sigOk => Sys2Proof.Machine.execKrp c b sigOk s
  | .frp c b => Sys2Proof.Machine.execFrp c b s
  | .busy c b => Sys2Proof.Machine.execBusy c b s
  | .hsErr c b => Sys2Proof.Machine.execHsErr c b s
  | .rsp c b => Sys2Proof.Machine.execRsp c b s
  | .atn c b => Sys2Proof.Machine.execAtn c b s
  | .cla c b => Sys2Proof.Machine.execCla c b s
  | .handshakeAttempt c => Sys2Proof.Machine.execHandshakeAttempt c s
  | .handshakeTimeout c => Sys2Proof.Machine.execHandshakeTimeout c s
  | .busyResend c => Sys2Proof.Machine.execBusyResend c s
  | .rekeyDue c => Sys2Proof.Machine.execRekeyDue c s
  | .rekeyTimeout c => Sys2Proof.Machine.execRekeyTimeout c s
  | .fingerprintDue c => Sys2Proof.Machine.execFingerprintDue c s
  | .fingerprintDone c cap => Sys2Proof.Machine.execFingerprintDone c cap s
  | .fingerprintRetry c => Sys2Proof.Machine.execFingerprintRetry c s
  | .linkUp p => Sys2Proof.Machine.execLinkUp p s
  | .linkDown p => Sys2Proof.Machine.execLinkDown p s
  | .commonModeAlarm p => Sys2Proof.Machine.execCommonModeAlarm p s
  | .ack p msg sigOk => Sys2Proof.Machine.execAck p msg sigOk s
  | .beacon p msg sigOk mac ip => Sys2Proof.Machine.execBeacon p msg sigOk mac ip s
  | .chunk p msg => Sys2Proof.Machine.execChunk p msg s
  | .concentratorAddressTimeout p => Sys2Proof.Machine.execConcentratorAddressTimeout p s
  | .quarantineEnd p => Sys2Proof.Machine.execQuarantineEnd p s
  | .recordSend p => Sys2Proof.Machine.execRecordSend p s
  | .announcement p => Sys2Proof.Machine.execAnnouncement p s
  | .sealOpenChange isOpen => Sys2Proof.Machine.execSealOpenChange isOpen s
  | .windowClose sums => Sys2Proof.Machine.execWindowClose sums s
  | .inputHealthChange voltage c h => Sys2Proof.Machine.execInputHealthChange voltage c h s
  | .surgeAssert c => Sys2Proof.Machine.execSurgeAssert c s
  | .spareSlot mismatch => Sys2Proof.Machine.execSpareSlot mismatch s
  | .mpulsePulse due => Sys2Proof.Machine.execMpulsePulse due s
  | .helloM f => Sys2Proof.Machine.execHelloM f s
  | .helloO f => Sys2Proof.Machine.execHelloO f s
  | .confirm side f => Sys2Proof.Machine.execConfirm side f s
  | .press f => Sys2Proof.Machine.execPress f s
  | .time f => Sys2Proof.Machine.execTime f s
  | .block f => Sys2Proof.Machine.execBlock f s
  | .hack f => Sys2Proof.Machine.execHack f s
  | .extractReq f => Sys2Proof.Machine.execExtractReq f s
  | .load f => Sys2Proof.Machine.execLoad f s
  | .loadResult f => Sys2Proof.Machine.execLoadResult f s
  | .measure f => Sys2Proof.Machine.execMeasure f s
  | .slipJointResend side => Sys2Proof.Machine.execSlipJointResend side s
  | .metfaultChange asserted => Sys2Proof.Machine.execMetfaultChange asserted s
  | .sealstateChange isSealed => Sys2Proof.Machine.execSealstateChange isSealed s
  | .coreLoad k addr size signed rd ecc => Sys2Proof.Machine.execCoreLoad k addr size signed rd ecc s
  | .coreStore k addr size v ecc => Sys2Proof.Machine.execCoreStore k addr size v ecc s
  | .storeDrain k ecc => Sys2Proof.Machine.execStoreDrain k ecc s
  | .fence k w r => Sys2Proof.Machine.execFence k w r s
  | .fenceI k => Sys2Proof.Machine.execFenceI k s
  | .ecall k => Sys2Proof.Machine.execEcall k s
  | .exception k cause mtval kind => Sys2Proof.Machine.execException k cause mtval kind s
  | .interrupt k => Sys2Proof.Machine.execInterrupt k s
  | .cacheParityError k addr => Sys2Proof.Machine.execCacheParityError k addr s
  | .pHandover k => Sys2Proof.Machine.execPHandover k s
  | .ipiRaise k => Sys2Proof.Machine.execIpiRaise k s
  | .ipiClear k => Sys2Proof.Machine.execIpiClear k s
  | .protCommit k => Sys2Proof.Machine.execProtCommit k s
  | .protUpdate k v => Sys2Proof.Machine.execProtUpdate k v s
  | .protProbe k v => Sys2Proof.Machine.execProtProbe k v s
  | .regionWrite k r v => Sys2Proof.Machine.execRegionWrite k r v s
  | .doorbell e k v => Sys2Proof.Machine.execDoorbell e k v s
  | .ringEnable e k v => Sys2Proof.Machine.execRingEnable e k v s
  | .ringDisable e k v => Sys2Proof.Machine.execRingDisable e k v s
  | .ringConfigWrite e k g v => Sys2Proof.Machine.execRingConfigWrite e k g v s
  | .engineReset e => Sys2Proof.Machine.execEngineReset e s
  | .enc e k => Sys2Proof.Machine.execEnc e k s
  | .dec e k => Sys2Proof.Machine.execDec e k s
  | .encXin e k => Sys2Proof.Machine.execEncXin e k s
  | .encXout e k => Sys2Proof.Machine.execEncXout e k s
  | .decXout e k => Sys2Proof.Machine.execDecXout e k s
  | .verdict e k => Sys2Proof.Machine.execVerdict e k s
  | .saggarExpiry k => Sys2Proof.Machine.execSaggarExpiry k s
  | .hash k => Sys2Proof.Machine.execHash k s
  | .hmac k => Sys2Proof.Machine.execHmac k s
  | .result k => Sys2Proof.Machine.execResult k s
  | .compare k => Sys2Proof.Machine.execCompare k s
  | .free k => Sys2Proof.Machine.execFree k s
  | .extend k => Sys2Proof.Machine.execExtend k s
  | .extendCtx k => Sys2Proof.Machine.execExtendCtx k s
  | .measOwnerWrite n v => Sys2Proof.Machine.execMeasOwnerWrite n v s
  | .mul k => Sys2Proof.Machine.execMul k s
  | .mac k => Sys2Proof.Machine.execMac k s
  | .rowmac k => Sys2Proof.Machine.execRowmac k s
  | .wmuYield k => Sys2Proof.Machine.execWmuYield k s
  | .modSet k v => Sys2Proof.Machine.execModSet k v s
  | .modClear k v => Sys2Proof.Machine.execModClear k v s
  | .modValueWrite k j v => Sys2Proof.Machine.execModValueWrite k j v s
  | .generate k => Sys2Proof.Machine.execGenerate k s
  | .importPublic k => Sys2Proof.Machine.execImportPublic k s
  | .unwrap k => Sys2Proof.Machine.execUnwrap k s
  | .agree k => Sys2Proof.Machine.execAgree k s
  | .derive k => Sys2Proof.Machine.execDerive k s
  | .sign k => Sys2Proof.Machine.execSign k s
  | .publicKey k => Sys2Proof.Machine.execPublic k s
  | .delete k => Sys2Proof.Machine.execDelete k s
  | .random k => Sys2Proof.Machine.execRandom k s
  | .wakeLoad k => Sys2Proof.Machine.execWakeLoad k s
  | .cntRead k => Sys2Proof.Machine.execCntRead k s
  | .cntInc k => Sys2Proof.Machine.execCntInc k s
  | .cntAdvance k => Sys2Proof.Machine.execCntAdvance k s
  | .cntSync k => Sys2Proof.Machine.execCntSync k s
  | .cntMode k => Sys2Proof.Machine.execCntMode k s
  | .trngHealthFail startup bit => Sys2Proof.Machine.execTrngHealthFail startup bit s
  | .program k ev weak pulses => Sys2Proof.Machine.execProgram k ev weak pulses s
  | .erase k ev => Sys2Proof.Machine.execErase k ev s
  | .eraseResume bank => Sys2Proof.Machine.execEraseResume bank s
  | .blank k weak => Sys2Proof.Machine.execBlank k weak s
  | .margin k reads => Sys2Proof.Machine.execMargin k reads s
  | .info k => Sys2Proof.Machine.execInfo k s
  | .flcWeightWrite v => Sys2Proof.Machine.execFlcWeightWrite v s
  | .scrubSession reads done => Sys2Proof.Machine.execScrubSession reads done s
  | .wait k => Sys2Proof.Machine.execWait k s
  | .waitReturn d k => Sys2Proof.Machine.execWaitReturn d k s
  | .callTime k => Sys2Proof.Machine.execCallTime k s
  | .quiesce k => Sys2Proof.Machine.execQuiesce k s
  | .chStatus k => Sys2Proof.Machine.execChStatus k s
  | .chEvent k => Sys2Proof.Machine.execChEvent k s
  | .callGrant k => Sys2Proof.Machine.execCallGrant k s
  | .callWithdraw k => Sys2Proof.Machine.execCallWithdraw k s
  | .linkReq k => Sys2Proof.Machine.execLinkReq k s
  | .linkAtn k => Sys2Proof.Machine.execLinkAtn k s
  | .linkState k => Sys2Proof.Machine.execLinkState k s
  | .report k => Sys2Proof.Machine.execReport k s
  | .keyGen k => Sys2Proof.Machine.execKeyGen k s
  | .keyDerive k => Sys2Proof.Machine.execKeyDerive k s
  | .keyDelete k => Sys2Proof.Machine.execKeyDelete k s
  | .keySign k => Sys2Proof.Machine.execKeySign k s
  | .callCntRead k => Sys2Proof.Machine.execCallCntRead k s
  | .callCntInc k => Sys2Proof.Machine.execCallCntInc k s
  | .callMeasure k => Sys2Proof.Machine.execCallMeasure k s
  | .metroLoad k => Sys2Proof.Machine.execMetroLoad k s
  | .flashProg k => Sys2Proof.Machine.execFlashProg k s
  | .flashErase k => Sys2Proof.Machine.execFlashErase k s
  | .appletStuck k => Sys2Proof.Machine.execAppletStuck k s
  | .cpuBudgetUsed k => Sys2Proof.Machine.execCpuBudgetUsed k s
  | .timeSlice k => Sys2Proof.Machine.execTimeSlice k s
  | .quiesceTimeout d => Sys2Proof.Machine.execQuiesceTimeout d s
  | .decideTimeout d => Sys2Proof.Machine.execDecideTimeout d s
  | .verificationDone lmsOk eccOk credSigOk badPage => Sys2Proof.Machine.execVerificationDone lmsOk eccOk credSigOk badPage s
  | .installDone ok1 ok2 => Sys2Proof.Machine.execInstallDone ok1 ok2 s
  | .partitionTestDone k sig faulty bad => Sys2Proof.Machine.execPartitionTestDone k sig faulty bad s
  | .occPeriod window busy => Sys2Proof.Machine.execOccPeriod window busy s
  | .occSnap window busy => Sys2Proof.Machine.execOccSnap window busy s
  | .registerWrite k r v => Sys2Proof.Machine.execRegisterWrite k r v s
  | .lineIdle c => Sys2Proof.Machine.execLineIdle c s
  | .inboundFrame p fcsOk frame => Sys2Proof.Machine.execInboundFrame p fcsOk frame s
  | .ocnoixSelfcheckDone pass => Sys2Proof.Machine.execOcnoixSelfcheckDone pass s
  | .passthroughPadReturn c => Sys2Proof.Machine.execPassthroughPadReturn c s
  | .idle side f => Sys2Proof.Machine.execIdle side f s
  | .vaoInvalid => Sys2Proof.Machine.execVaoInvalid s
  | .vioValid => Sys2Proof.Machine.execVioValid s
  | .vioInvalid => Sys2Proof.Machine.execVioInvalid s
  | .vcoreValid => Sys2Proof.Machine.execVcoreValid s
  | .vcoreInvalid => Sys2Proof.Machine.execVcoreInvalid s
  | .testEnHigh => Sys2Proof.Machine.execTestEnHigh s
  | .svcPress => Sys2Proof.Machine.execSvcPress s
  | .svcLongPress => Sys2Proof.Machine.execSvcLongPress s
  | .svcStuck => Sys2Proof.Machine.execSvcStuck s
  | .doorOpen => Sys2Proof.Machine.execDoorOpen s
  | .doorClose => Sys2Proof.Machine.execDoorClose s
  | .pfailFall => Sys2Proof.Machine.execPfailFall s
  | .pfailRise => Sys2Proof.Machine.execPfailRise s
  | .powerFailRestart => Sys2Proof.Machine.execPowerFailRestart s
  | .pfailGlitch => Sys2Proof.Machine.execPfailGlitch s
  | .nrstLow => Sys2Proof.Machine.execNrstLow s
  | .nrstHigh => Sys2Proof.Machine.execNrstHigh s
  | .mainWatchdogExpiry => Sys2Proof.Machine.execMainWatchdogExpiry s
  | .kilnWatchdogExpiry => Sys2Proof.Machine.execKilnWatchdogExpiry s
  | .xo32StartCheck => Sys2Proof.Machine.execXo32StartCheck s
  | .xo25StartCheck => Sys2Proof.Machine.execXo25StartCheck s
  | .xo32Lost => Sys2Proof.Machine.execXo32Lost s
  | .xo25Lost => Sys2Proof.Machine.execXo25Lost s
  | .beaconReferenceLost => Sys2Proof.Machine.execBeaconReferenceLost s
  | .tickSourcesLost => Sys2Proof.Machine.execTickSourcesLost s
  | .fpllRetry => Sys2Proof.Machine.execFpllRetry s
  | .periodicKernelTick => Sys2Proof.Machine.execPeriodicKernelTick s
  | .kilnWakeTimer => Sys2Proof.Machine.execKilnWakeTimer s
  | .retentionEntry => Sys2Proof.Machine.execRetentionEntry s
  | .kilnSwitchOff => Sys2Proof.Machine.execKilnSwitchOff s
  | .suspensionEnd => Sys2Proof.Machine.execSuspensionEnd s
  | .provisionalHoldExpiry => Sys2Proof.Machine.execProvisionalHoldExpiry s
  | .crazedQuietExpiry => Sys2Proof.Machine.execCrazedQuietExpiry s
  | .tickCounterRead => Sys2Proof.Machine.execTickCounterRead s
  | .intakeAbandon => Sys2Proof.Machine.execIntakeAbandon s
  | .sherdIdentity => Sys2Proof.Machine.execSherdIdentity s
  | .status => Sys2Proof.Machine.execStatus s
  | .intervalClose => Sys2Proof.Machine.execIntervalClose s
  | .dailyClose => Sys2Proof.Machine.execDailyClose s
  | .surgeRelease => Sys2Proof.Machine.execSurgeRelease s
  | .mpulseTimeout => Sys2Proof.Machine.execMpulseTimeout s
  | .xomLost => Sys2Proof.Machine.execXomLost s
  | .xomRetaken => Sys2Proof.Machine.execXomRetaken s
  | .slipJointDown => Sys2Proof.Machine.execSlipJointDown s
  | .commitInstant => Sys2Proof.Machine.execCommitInstant s
  | .heldAccessTimeout => Sys2Proof.Machine.execHeldAccessTimeout s
  | .measSnap => Sys2Proof.Machine.execMeasSnap s
  | .measLock => Sys2Proof.Machine.execMeasLock s
  | .wmuResume => Sys2Proof.Machine.execWmuResume s
  | .scrubStarvation => Sys2Proof.Machine.execScrubStarvation s
  | .cpuWindow => Sys2Proof.Machine.execCpuWindow s
  | .logWrite => Sys2Proof.Machine.execLogWrite s
  | .logRead => Sys2Proof.Machine.execLogRead s
  | .timeGet => Sys2Proof.Machine.execTimeGet s
  | .beaconHandover => Sys2Proof.Machine.execBeaconHandover s
  | .bundleVerify => Sys2Proof.Machine.execBundleVerify s
  | .bundleStatus => Sys2Proof.Machine.execBundleStatus s
  | .bundleApplied => Sys2Proof.Machine.execBundleApplied s
  | .recordRead => Sys2Proof.Machine.execRecordRead s
  | .restart => Sys2Proof.Machine.execRestart s
  | .selftestRequest => Sys2Proof.Machine.execSelftestRequest s
  | .selftestPrepared => Sys2Proof.Machine.execSelftestPrepared s
  | .selftestResult => Sys2Proof.Machine.execSelftestResult s
  | .scheduledRun => Sys2Proof.Machine.execScheduledRun s
  | .runWindowClose => Sys2Proof.Machine.execRunWindowClose s
  | .heartbeat => Sys2Proof.Machine.execHeartbeat s
  | .pcSample => Sys2Proof.Machine.execPcSample s
  | .svcAcceptedLow => Sys2Proof.Machine.execSvcAcceptedLow s
  | .nrstGlitch => Sys2Proof.Machine.execNrstGlitch s
  | .chunkAck => Sys2Proof.Machine.execChunkAck s
  | .ocnoixCrazedQuietExpiry => Sys2Proof.Machine.execOcnoixCrazedQuietExpiry s

end Sys2Proof.Machine
end

