-- ==== Sys2Proof/Machine/Idle.lean ====
section
/-! DEFINITION. What one tick of the always-on clock does when no command waits (04_power_clocks.md R144, R146; 08_channels.md R290;
07_tamper.md R258; 23_test_observe.md R850). The table has no row for a tick, so an empty queue lets one pass (DESIGN CHOICE, assumption
log 10). -/

namespace Sys2Proof.Machine

open Sys2Proof

/-- A tick passes on this part: VAO stands and a tick source runs (R146, R155). -/
def State.ticks (s : State) : Bool := s.rails.vao && s.clk.tickSrc.isSome

/-- The Spyhole drains its FIFO, 1525 bytes in a tick at 50 Mbyte/s (R850). -/
def State.spyDrain (s : State) : State := { s with spy := { s.spy with fill := s.spy.fill - 1525 } }

/-- A held request to sleep is carried out once its conditions hold (R144). -/
def State.sleepIfDue (s : State) : State := if s.pwr.sleepReq && s.mayRetain then s.enterRetention else s

/-- Windows and holds that end at this tick end; then the Wheel and the Kiln take up what waits. -/
def State.idle (s : State) : State :=
  if s.ticks then
    let s1 := (((s.advanceTo (s.tick + 1)).closeWindows).expireHolds).settleGrade
    let s2 := (List.finRange 16).foldl (fun t c => t.hbNotice c) s1.dueWork
    (s2.pollWaits.retryCalls.sleepIfDue).spyDrain
  else s

end Sys2Proof.Machine
end

