-- ==== Sys2Proof/WellFormed.lean ====
section
/-! DEFINITION. Which commands can come from outside: operands within the widths and counts the spec gives them. Every meaning is total;
an operand out of range is an event that does not occur. -/

namespace Sys2Proof

/-- Rings of an engine (spec/15_rings.md R574). -/
def Eng.rings : Eng → Nat
  | .fae => 8 | .sae => 2 | .dig => 8 | .wmu => 4 | .flc => 4 | .ksm => 2 | .lnk => 32 | .upl => 2 | .sjm => 2 | .kiln => 1

/-- Rings of an AES engine. -/
def CipherEng.rings : CipherEng → Nat
  | .fae => 8 | .sae => 2

/-- A burst as the receiver hands it over: at most 288 body bytes (spec/09_link_line.md R334, R336); a longer one is a line error. -/
def Burst.wf (b : Burst) : Bool := decide (b.body.length ≤ 288) || b.err.isSome

/-- A Slip Joint frame's link fields fit their widths (spec/12_metrology.md R481). -/
def SjRx.wf (f : SjRx) : Bool :=
  decide (f.lseq < 2 ^ 16) && decide (f.ack < 2 ^ 16) && decide (f.credit ≤ 8) && decide (f.ctr < 2 ^ 32) && decide (f.payload.length ≤ 1056)

/-- The samples of a pass over CODE0 to CODE11 (spec/03_straps.md R104). -/
def samplesWf (l : List (Option Nat)) : Bool := l.length == 12

/-- Operands within the ranges the rule of each row gives them. -/
def Instr.wf : Instr → Bool
  | .codeFirstPass samples => samplesWf samples
  | .codeSecondPass samples => samplesWf samples
  | .codeRereadPass first second => samplesWf first && samplesWf second
  | .temperatureSample samples => samples.length == 4
  | .burstDecoded _ b _ => b.wf
  | .probeRsp _ b _ => b.wf
  | .crp _ b _ => b.wf
  | .krp _ b _ => b.wf
  | .frp _ b => b.wf
  | .busy _ b => b.wf
  | .hsErr _ b => b.wf
  | .rsp _ b => b.wf
  | .atn _ b => b.wf
  | .cla _ b => b.wf
  | .beacon _ _ _ hw ip => decide (hw < 2 ^ 48) && decide (ip < 2 ^ 32)
  | .windowClose sums => sums.length == 16
  | .spareSlot mismatch => mismatch.all (fun m => decide (m < 16))
  | .helloM f => f.wf
  | .helloO f => f.wf
  | .confirm _ f => f.wf
  | .press f => f.wf
  | .time f => f.wf
  | .block f => f.wf
  | .hack f => f.wf
  | .extractReq f => f.wf
  | .load f => f.wf
  | .loadResult f => f.wf
  | .measure f => f.wf
  | .doorbell e k _ => decide (k < e.rings)
  | .ringEnable e k _ => decide (k < e.rings)
  | .ringDisable e k _ => decide (k < e.rings)
  | .ringConfigWrite e k _ _ => decide (k < e.rings)
  | .enc e k => decide (k < e.rings)
  | .dec e k => decide (k < e.rings)
  | .encXin e k => decide (k < e.rings)
  | .encXout e k => decide (k < e.rings)
  | .decXout e k => decide (k < e.rings)
  | .verdict e k => decide (k < e.rings)
  | .saggarExpiry k => decide (k < 8)
  | .hash k => decide (k < 8)
  | .hmac k => decide (k < 8)
  | .result k => decide (k < 8)
  | .compare k => decide (k < 8)
  | .free k => decide (k < 8)
  | .extend k => decide (k < 8)
  | .extendCtx k => decide (k < 8)
  | .mul k => decide (k < 4)
  | .mac k => decide (k < 4)
  | .rowmac k => decide (k < 4)
  | .wmuYield k => decide (k < 4)
  | .generate k => decide (k < 2)
  | .importPublic k => decide (k < 2)
  | .unwrap k => decide (k < 2)
  | .agree k => decide (k < 2)
  | .derive k => decide (k < 2)
  | .sign k => decide (k < 2)
  | .publicKey k => decide (k < 2)
  | .delete k => decide (k < 2)
  | .random k => decide (k < 2)
  | .wakeLoad k => decide (k < 2)
  | .cntRead k => decide (k < 2)
  | .cntInc k => decide (k < 2)
  | .cntAdvance k => decide (k < 2)
  | .cntSync k => decide (k < 2)
  | .cntMode k => decide (k < 2)
  | .program k _ _ _ => decide (k < 4)
  | .erase k _ => decide (k < 4)
  | .blank k _ => decide (k < 4)
  | .margin k _ => decide (k < 4)
  | .info k => decide (k < 4)
  | .partitionTestDone k _ _ _ => decide (k < 64)
  | .idle _ f => f.wf
  | .vaoValid _ _ _ _ _ _ | .vmetValid _ _ _ | .vmetInvalid _ | .qualificationComplete _ | .referenceSwitchComplete _ | .tickSourceReturn _
  | .fpllLockFail _ | .wake _ | .sensorTrip _ _ | .discriminableAnomaly _ _ | .referenceEvent _ | .kilnSelfcheckDone _ _ | .ocnoixSensorTrip _ _ _
  | .dmdRise _ | .dmdFall _ | .fbkRise _ | .fbkFall _ | .glitch _ _ | .bypassEdge _ _ | .confLate _ | .hbExpired _ | .holdExpired _ | .grantSet _
  | .grantClear _ | .keepHeartbeat _ | .keepHold _ | .keepStop _ | .serviceEnter _ _ | .xfreeze _ _ | .windowLengthWrite _ _ _ | .eventPop _
  | .functionSwitchBegin _ _ | .functionConnect _ _ | .fenReadbackFail _ | .jabber _ | .replyTimeout _ | .handshakeAttempt _ | .handshakeTimeout _
  | .busyResend _ | .rekeyDue _ | .rekeyTimeout _ | .fingerprintDue _ | .fingerprintDone _ _ | .fingerprintRetry _ | .linkUp _ | .linkDown _
  | .commonModeAlarm _ | .ack _ _ _ | .chunk _ _ | .concentratorAddressTimeout _ | .quarantineEnd _ | .recordSend _ | .announcement _
  | .sealOpenChange _ | .inputHealthChange _ _ _ | .surgeAssert _ | .mpulsePulse _ | .slipJointResend _ | .metfaultChange _ | .sealstateChange _
  | .coreLoad _ _ _ _ _ _ | .coreStore _ _ _ _ _ | .storeDrain _ _ | .fence _ _ _ | .fenceI _ | .ecall _ | .exception _ _ _ _ | .interrupt _
  | .cacheParityError _ _ | .pHandover _ | .ipiRaise _ | .ipiClear _ | .protCommit _ | .protUpdate _ _ | .protProbe _ _ | .regionWrite _ _ _
  | .engineReset _ | .measOwnerWrite _ _ | .modSet _ _ | .modClear _ _ | .modValueWrite _ _ _ | .trngHealthFail _ _ | .eraseResume _
  | .flcWeightWrite _ | .scrubSession _ _ | .wait _ | .waitReturn _ _ | .callTime _ | .quiesce _ | .chStatus _ | .chEvent _ | .callGrant _
  | .callWithdraw _ | .linkReq _ | .linkAtn _ | .linkState _ | .report _ | .keyGen _ | .keyDerive _ | .keyDelete _ | .keySign _ | .callCntRead _
  | .callCntInc _ | .callMeasure _ | .metroLoad _ | .flashProg _ | .flashErase _ | .appletStuck _ | .cpuBudgetUsed _ | .timeSlice _
  | .quiesceTimeout _ | .decideTimeout _ | .verificationDone _ _ _ _ | .installDone _ _ | .occPeriod _ _ | .occSnap _ _ | .registerWrite _ _ _
  | .lineIdle _ | .inboundFrame _ _ _ | .ocnoixSelfcheckDone _ | .passthroughPadReturn _ | .vaoInvalid | .vioValid | .vioInvalid | .vcoreValid
  | .vcoreInvalid | .testEnHigh | .svcPress | .svcLongPress | .svcStuck | .doorOpen | .doorClose | .pfailFall | .pfailRise | .powerFailRestart
  | .pfailGlitch | .nrstLow | .nrstHigh | .mainWatchdogExpiry | .kilnWatchdogExpiry | .xo32StartCheck | .xo25StartCheck | .xo32Lost | .xo25Lost
  | .beaconReferenceLost | .tickSourcesLost | .fpllRetry | .periodicKernelTick | .kilnWakeTimer | .retentionEntry | .kilnSwitchOff | .suspensionEnd
  | .provisionalHoldExpiry | .crazedQuietExpiry | .tickCounterRead | .intakeAbandon | .sherdIdentity | .status | .intervalClose | .dailyClose
  | .surgeRelease | .mpulseTimeout | .xomLost | .xomRetaken | .slipJointDown | .commitInstant | .heldAccessTimeout | .measSnap | .measLock
  | .wmuResume | .scrubStarvation | .cpuWindow | .logWrite | .logRead | .timeGet | .beaconHandover | .bundleVerify | .bundleStatus | .bundleApplied
  | .recordRead | .restart | .selftestRequest | .selftestPrepared | .selftestResult | .scheduledRun | .runWindowClose | .heartbeat | .pcSample
  | .svcAcceptedLow | .nrstGlitch | .chunkAck | .ocnoixCrazedQuietExpiry => true

end Sys2Proof
end

