-- ==== Sys2Proof/Safety.lean ====
section
/-! DEFINITION. What holds of every state the machine can be in: the bounds and conditions the spec puts on its parts, one by one. -/

namespace Sys2Proof.Machine

open Sys2Proof

/-- A channel: the event FIFO holds at most 16 entries (spec/08_channels.md R290), and a continuity hold runs only while the latch is
set (spec/08_channels.md R308, R309). -/
def Chan.Ok (c : Chan) : Prop := c.fifo.length ≤ 16 ∧ ∀ k, c.keep = .hold k → c.latch = true

/-- A core: the store buffer holds at most 4 entries (spec/13_cores.md R516). -/
def Core.Ok (c : Core) : Prop := c.sbuf.length ≤ 4

/-- The safe states: memory in its canonical form, the tick counter within its 48 bits (spec/08_channels.md R286), every
core and every channel as above. -/
def State.Inv (s : State) : Prop :=
  Mem.wf s.mem = true ∧ (∀ k : Fin 2, Mem.wf s.ldm[k] = true) ∧ s.tick < 2 ^ 48 ∧ (∀ k : Fin 2, s.core[k].Ok) ∧ ∀ c : Fin 16, s.ch[c].Ok

/-! ## What statements speak of -/

/-- Command `c` in state `s` answers a next state of which `P` holds. -/
def Does (c : Instr) (s : State) (P : State → Prop) : Prop := ∃ t, exec c s = .next t ∧ P t

/-- Channel `c` as the command finds it: the windows that are due by now have closed first (spec/08_channels.md R289). -/
def State.due (s : State) (c : Fin 16) : Chan := (s.chan c).closeDue s.tick

/-- From `s` to `t` only channel `c` has changed, and the main island may have been woken (spec/08_channels.md R292). -/
def OnlyChan (s t : State) (c : Fin 16) : Prop :=
  t = { s with ch := t.ch, pwr := t.pwr } ∧ (∀ d, d ≠ c → t.chan d = s.chan d) ∧ (t.pwr = s.pwr ∨ t.pwr = s.wakeMain.pwr)

/-- From `s` to `t` the part has at most written down what happened: entries of the Kiln Log, records with their counter, journal and
signatures, and messages of the Spyhole (spec/22_kiln.md R806, spec/11_uplink.md R417, spec/19_keys_counters.md R711, R713,
spec/23_test_observe.md R850). A sleeping island may have been woken for it; the Spyhole, the trace and the number of free values move on. -/
def Logged (s t : State) : Prop :=
  t = { s with
    freeCount := t.freeCount, out := t.out, spy := t.spy
    fuses := { s.fuses with words := t.fuses.words, res := t.fuses.res }
    pwr := { s.pwr with main := t.pwr.main, kiln := t.pwr.kiln, mainWdogFrom := t.pwr.mainWdogFrom }
    kiln := { s.kiln with
      log := t.kiln.log, tail := t.kiln.tail, logPages := t.kiln.logPages, chain := t.kiln.chain, todo := t.kiln.todo, nextLseq := t.kiln.nextLseq }
    upl := { s.upl with ring := t.upl.ring, wptr := t.upl.wptr, held := t.upl.held, dropped := t.upl.dropped, todo := t.upl.todo }
    ksm := { s.ksm with
      drbgReq := t.ksm.drbgReq, reseedDue := t.ksm.reseedDue, cnt := t.ksm.cnt, tail := t.ksm.tail, comp := t.ksm.comp, entries := t.ksm.entries
      entryPages := t.ksm.entryPages, badPage := t.ksm.badPage, sinceRatchet := t.ksm.sinceRatchet, compWait := t.ksm.compWait } } ∧
  (t.pwr.main = s.pwr.main ∨ (s.pwr.main = .retention ∧ t.pwr.main = .running)) ∧
  (t.pwr.kiln = s.pwr.kiln ∨ (s.pwr.kiln = .off ∧ t.pwr.kiln = .running))

/-! ## Received bursts (chapters 09, 10) -/

/-- The link engine of channel `c` takes a burst: the pair is in function T, the main island runs, the Wheel supervises the link, and no
grade above Watch is in force (spec/09_link_line.md R336, R359; spec/10_link_sessions.md R389, R390). -/
def State.Listens (s : State) (c : Fin 16) : Prop := s.hears c = true ∧ s.mainRuns = true ∧ s.linkServed c = true ∧ s.crazed = false

/-- The burst begins in the reply window of the outstanding request of type `q` and before it is late (spec/09_link_line.md R339;
spec/10_link_sessions.md R382, R383). -/
def Link.Awaits (l : Link) (b : Burst) (q : Nat) : Prop :=
  ∃ x k, l.txn = some x ∧ x.sent = true ∧ x.type = q ∧ b.start = some k ∧ 8 ≤ k ∧ k < 1024

/-- Statistic counter `k` of channel `c`. -/
def State.stat (s : State) (c : Fin 16) (k : LStat) : Nat := (s.lnk c).stats[k.ix]

/-! ## Descriptors in progress (chapter 15) -/

/-- Descriptor `d` with OPCODE `op` is in progress on ring `k` of engine `e`: fetched and formed, check 11 to come, the one pending on a
RUNNING ring (spec/15_rings.md R577, R586, R595). -/
def State.InHand (s : State) (e : Eng) (k op : Nat) (d : Desc) : Prop :=
  s.curOp e k op = some d ∧ d.copy = none ∧ (s.ring e k).st = .running ∧ (s.ring e k).prod = ((s.ring e k).cons + 1) % 65536

/-- Every access to the buffers of `l` by the owner of ring `k` is allowed, held by no update and free of errors
(spec/15_rings.md R598, R605). -/
def State.Clears (s : State) (e : Eng) (k : Nat) (l : List Buf) : Prop := s.jobEnd (s.ring e k).who false l = .clear

/-- Address of the completion bytes of the descriptor in progress on ring `k` (spec/15_rings.md R592). -/
def State.wbAt (s : State) (e : Eng) (k : Nat) : Nat := (s.ring e k).slot (s.ring e k).cons + 0x30

/-- From `s` to `t` the descriptor `d` of ring `k` has completed as `x`: its 16 bytes stand in its slot, CONS is one on, nothing is in
progress, and every byte of memory outside these and the output fragments is as it was (spec/15_rings.md R592). -/
def Completes (s t : State) (e : Eng) (k : Nat) (d : Desc) (x : Done) : Prop :=
  (t.ring e k).cons = ((s.ring e k).cons + 1) % 65536 ∧ (t.ring e k).cur = none ∧ readBytes t.mem (s.wbAt e k) 16 = x.wb ∧
  ∀ b, (b < s.wbAt e k ∨ s.wbAt e k + 16 ≤ b) → (∀ f ∈ d.outFr, b < f.1 ∨ f.1 + f.2 ≤ b) → readByte t.mem b = readByte s.mem b

/-- The output of `d`, where it is one fragment clear of the completion bytes, stands in memory as `out` (spec/15_rings.md R590, R605). -/
def Puts (s t : State) (e : Eng) (k : Nat) (d : Desc) (out : Bytes) : Prop :=
  ∀ a n, d.outFr = [(a, n)] → n ≤ out.length → (a + n ≤ s.wbAt e k ∨ s.wbAt e k + 16 ≤ a) → readBytes t.mem a n = out.take n

/-- The input of `d`, as the owner of its ring reads it. -/
def State.input (s : State) (e : Eng) (k : Nat) (d : Desc) : Bytes := s.gather (s.ring e k).who d.inFr

/-! ## The Slip Joint and the Ocnoix die (chapter 12) -/

/-- From `s` to `t` only the Ocnoix die, the frames it sends, and the main end of the joint have changed. -/
def OnlyMet (s t : State) : Prop :=
  t = { s with met := t.met, out := t.out, freeCount := t.freeCount, sjm := { s.sjm with sj := t.sjm.sj } }

/-- The event area has one entry more, of this code, channel and detail (spec/12_metrology.md R466). -/
def Notes (s t : State) (code ch : Nat) (detail : Bytes) : Prop :=
  t.met.evIdx = s.met.evIdx + 1 ∧ ∃ e, t.met.evLog.head? = some e ∧ beAt e 0 1 = code ∧ beAt e 1 1 = ch ∧ slice 16 40 e = padTo 40 detail

/-- End `d` accepts the frame: the joint is up, the CRC is right and the LSEQ follows the last accepted (spec/12_metrology.md R481). -/
def State.Receives (s : State) (d : SjSide) (f : SjRx) : Prop :=
  s.slipPowered = true ∧ s.sjm.sj.up = true ∧ s.met.sj.up = true ∧ f.crcOk = true ∧ f.lseq % 65536 = (s.slipEnd d).expect

/-- End `d` accepts the session frame of type `type` in its session `x`: counter and MAC are right (spec/12_metrology.md R482). -/
def State.Authentic (s : State) (d : SjSide) (type : Nat) (f : SjRx) (x : SjSess) : Prop :=
  s.Receives d f ∧ (s.slipEnd d).sess = some x ∧ f.ctr = x.ctrRx ∧ f.mac = slipMac x.kRx type f.ctr f.payload

/-- The frames end `d` has sent and not seen acknowledged, then those that wait for credit, end with `fs`. -/
def State.Queues (s : State) (d : SjSide) (fs : List (Nat × Bytes)) : Prop :=
  ∃ l, ((s.slipEnd d).unacked ++ (s.slipEnd d).waiting).map (fun x => (x.type, x.payload)) = l ++ fs

/-! ## The cores (chapters 13, 14) -/

/-- From `s` to `t` only core `k` has changed. -/
def OnlyCore (s t : State) (k : Fin 2) : Prop := t = { s with core := t.core } ∧ ∀ j : Fin 2, j ≠ k → t.core[j] = s.core[j]

/-- `d` is core `c` after it has taken an exception (spec/13_cores.md R500, R525; log 22). -/
def Core.Trapped (c d : Core) (cause tval : Nat) : Prop :=
  d = { c with
    mepc := c.pc, mcause := cause, mtval := tval, mpie := c.mie, mie := false, mppM := c.level != .p2
    level := if c.pLevel then .p1 else .p0, pc := c.mtvec / 4 * 4 }

/-- The access [a, a + n) of core `k` is aligned, held by no unit in UPDATE, and passes every check (spec/14_protection.md R550, R558). -/
def State.Allows (s : State) (k : Fin 2) (type : AccType) (a n : Nat) : Prop :=
  a % n = 0 ∧ s.prot.holds (s.accWho k) a n = false ∧ s.prot.check (s.accWho k) type false a n = none

/-! ## Kernel calls (chapters 13, 21) -/

/-- The applet that runs on core `c.core` makes call `n`, which its manifest allows (spec/13_cores.md R528, spec/21_applets.md R783). -/
def State.Calls (s : State) (n : Nat) (c : KCall) : Prop := s.caller c.core = some (n, c) ∧ s.callAllowed c.dom n = true

/-- The call has returned `code` in a0 and `x` in a1, with every other register as it was and the pc past the ECALL. -/
def Returned (s t : State) (c : KCall) (code x : Nat) : Prop :=
  let q := t.core[c.core]
  q.regs[10] = BitVec.ofNat 32 code ∧ q.regs[11] = BitVec.ofNat 32 x ∧ q.level = .p2 ∧ q.pc = (s.core[c.core].pc + 4) % 2 ^ 32 ∧
    ∀ r : Fin 32, r ≠ 10 → r ≠ 11 → q.regs[r] = s.core[c.core].regs[r]

/-- A buffer of a call in shared SRAM or local data memory, of some length, that the caller may access so (spec/13_cores.md R530). -/
def State.Buf (s : State) (c : KCall) (type : AccType) (a n : Nat) : Prop :=
  0 < n ∧ s.prot.check c.who type false a n = none ∧
    ((0x20000000 ≤ a ∧ a + n ≤ 0x20C00000) ∨ (0x04000000 ≤ a ∧ a + n ≤ 0x04040000))

/-- The call has written `b` at `a`, and no other byte of shared memory than the caller's own buffered stores. -/
def Writes (s t : State) (c : KCall) (a : Nat) (b : Bytes) : Prop :=
  t.memRead c.who a b.length = b ∧ ∀ x, (x < a ∨ a + b.length ≤ x) → readByte t.mem x = readByte (s.drainAll c.core).mem x

/-- The call has taken its core from the caller, and waits. -/
def Waits (t : State) (c : KCall) (n : Nat) : Prop := (t.cpuOf c.dom c.core).st = .waiting ∧ (t.cpuOf c.dom c.core).call = some (n, c.args)

/-! ## The Spyhole (chapter 23) -/

/-- A message of this type with `n` bytes of payload may enter the Spyhole's buffer (spec/23_test_observe.md R850, R851, R858). -/
def State.MaySend (s : State) (type n : Nat) : Prop :=
  spyAllowed s.life.firing type false s.pcInGlazed = true ∧ s.kilnReady = true ∧ (s.pwr.kiln ≠ .rom ∨ type ≤ 2) ∧ s.spy.fill + n + 10 ≤ 3072

/-- The message stands in the part's output. -/
def Sent (t : State) (type : Nat) (payload : Bytes) : Prop := ∃ q, Emit.spy type (spyFrame type q payload) ∈ t.out

end Sys2Proof.Machine

namespace Sys2Proof

open Sys2Proof.Machine

/-- A burst whose body is a whole frame of type `t` with `n` payload bytes: decoded, not inverted, CRC right, version 1, its length that of
its type (spec/10_link_sessions.md R363, R364, R366 checks 1 to 5). -/
def Burst.Holds (b : Burst) (t n : Nat) : Prop :=
  b.err = none ∧ b.inverted = false ∧ crcOk b.body = true ∧ fVersion b.body = 1 ∧ fType b.body = t ∧ fLen b.body = n ∧ n ≤ 240 ∧
    b.body.length = n + (if fProtected t then 38 else 22)

/-- An unprotected frame's session fields are zero and its content is allowed (spec/10_link_sessions.md R365, R366 check 6). -/
def Burst.Plain (b : Burst) : Prop := slice 4 14 b.body = zeros 14 ∧ contentOk (fType b.body) (fPayload b.body) = true

/-- Payload of a protected frame of session `y`, deciphered (spec/10_link_sessions.md R378). -/
def Burst.clear (b : Burst) (y : Sess) : Bytes := aesCtr y.encEp (linkBlock 0x45 y.sid (fCtr b.body)) (fPayload b.body)

/-- A protected frame of session `y` that passes the checks of its SID, WTAG, MAC, CTR and content (spec/10_link_sessions.md R366
checks 7 to 10, R379). -/
def Burst.Genuine (b : Burst) (y : Sess) : Prop :=
  fSid b.body = y.sid ∧ fCtr b.body ≠ 2 ^ 48 - 1 ∧
    fWtag b.body = linkWtag y.wake 0x45 y.sid (fCtr b.body) (fLen b.body) (fType b.body) ∧
    fMac b.body = cmac y.macEp (b.body.take (18 + fLen b.body)) ∧ (∀ k, y.ctrRx = some k → k < fCtr b.body) ∧
    contentOk (fType b.body) (b.clear y) = true

/-- What comes from a link partner, from a concentrator, from the other die or from an applet's call (spec/01_cabinet.md R47). -/
def Instr.outside : Instr → Bool
  | .burstDecoded .. | .probeRsp .. | .crp .. | .krp .. | .frp .. | .busy .. | .hsErr .. | .rsp .. | .atn .. | .cla .. => true
  | .inboundFrame .. | .ack .. | .beacon .. | .chunk .. => true
  | .helloO .. | .confirm .. | .block .. | .loadResult .. | .measure .. | .extractReq .. | .load .. | .hack .. | .press .. | .time .. => true
  | .wait _ | .callTime _ | .quiesce _ | .chStatus _ | .chEvent _ | .callGrant _ | .callWithdraw _ | .linkReq _ | .linkAtn _ | .linkState _ => true
  | .report _ | .callCntRead _ | .callCntInc _ | .callMeasure _ | .metroLoad _ | .flashProg _ | .flashErase _ => true
  | _ => false

end Sys2Proof
end

