-- ==== Sys2Proof/Certificates/Slice0/Obligations.lean ====
section
/-! DEFINITION. The statements for the provers. -/

section

open Sys2Proof Sys2Proof.Machine

/-! ## The queue, the step and the invariant -/

/-- O1. A step with command `c` in front of its queue is `exec c` on the state with the queue's rest. Rests on 00_scope.md R13,
00_scope.md R26. -/
def Obligations.StepTakesTheFront : Prop :=
  ∀ (c : Instr) (rest : List Instr) (s : State), step { s with pending := c :: rest } = exec c { s with pending := rest }

/-- O2. On an empty queue one tick passes (the model's choice, assumption log 10): the step answers a next state, and where VAO is down or
no tick source runs it is the same state. Rests on 08_channels.md R286, 04_power_clocks.md R155. -/
def Obligations.EmptyQueueIdles : Prop :=
  ∀ s : State, s.pending = [] → ∃ t, step s = .next t ∧ t.pending = [] ∧ (s.rails.vao = false ∨ s.clk.tickSrc = none → t = s)

/-- O3. Every command, on every state, answers a next state with the queue as it was: none stops the machine, and none touches what waits.
Rests on 00_scope.md R26. -/
def Obligations.EveryCommandAnswers : Prop := ∀ (c : Instr) (s : State), Does c s (fun t => t.pending = s.pending)

/-- O4. Every step from a safe state leads to a safe state: memory keeps its canonical form, the tick counter its 48 bits, each store
buffer at most 4 stores, each event FIFO at most 16 events, and a continuity hold keeps its latch. Rests on 08_channels.md R286,
08_channels.md R290, 08_channels.md R308, 13_cores.md R516. -/
def Obligations.StepKeepsInv : Prop := ∀ s t : State, s.Inv → step s = .next t → t.Inv

/-- O5. The state at reset is safe. Rests on 08_channels.md R286, 08_channels.md R321. -/
def Obligations.ResetIsSafe : Prop := State.reset.Inv

/-- O6. After reset every channel's registers read as R321 says: no demand, feedback, FEN, latch, service, contract, retirement or freeze,
class U, keep timer idle, TCONF 0x148, heartbeat and hold 0xFFFFFF, an empty FIFO and all counters 0; and the tick counter is 0. Rests on
08_channels.md R286, 08_channels.md R321. -/
def Obligations.ResetChannels : Prop :=
  State.reset.tick = 0 ∧ State.reset.tickHi = 0 ∧ ∀ c : Fin 16,
    let x := State.reset.chan c
    x.dmd = false ∧ x.fbk = false ∧ x.eclass = .u ∧ x.fen = false ∧ x.latch = false ∧ x.service = false ∧ x.contracted = false ∧
    x.retired = false ∧ x.supLost = false ∧ x.frozen = false ∧ x.awaiting = false ∧ x.conf = none ∧ x.keep = .idle ∧
    x.tconfLen = 0x148 ∧ x.hbLen = 0xFFFFFF ∧ x.holdLen = 0xFFFFFF ∧ x.fifo = [] ∧
    x.fbkGlitch = 0 ∧ x.dmdGlitch = 0 ∧ x.confLate = 0 ∧ x.lost = 0 ∧ x.ignored = 0 ∧ x.mismatch = 0

/-- O7. Nothing that a partner, a concentrator, the other die or an applet's call sends changes the firing, a contract, the disposition
record or a commissioned key: only a verified bundle, a zeroization or a start does. Rests on 01_cabinet.md R47, 06_lifecycle.md R209. -/
def Obligations.OutsideLeavesLifecycle : Prop :=
  ∀ (c : Instr) (s t : State), c.outside = true → exec c s = .next t →
    t.life.firing = s.life.firing ∧ t.life.lastApplied = s.life.lastApplied ∧ t.life.contracts = s.life.contracts ∧
    t.life.disposition = s.life.disposition ∧ t.life.issuers = s.life.issuers ∧ t.life.partCred = s.life.partCred ∧ t.life.concKeys = s.life.concKeys

/-! ## Channels -/

/-- O8. An accepted edge of an input in function takes the filtered level: DMD_FALL clears the latch and FEN falls; a feedback edge that
agrees with FEN closes an open confirm window; a glitch adds one to its counter; with no tick a demand edge comes through the bypass. A
window closes at its closing tick: the confirm window late, with CONF_LATE counted; the heartbeat window to idle with the latch as it was;
the continuity hold to idle with the latch cleared. The tick counter stands at the closing tick or, if that is past, where it was. Rests
on 08_channels.md R282, 08_channels.md R283, 08_channels.md R285, 08_channels.md R287, 08_channels.md R296, 08_channels.md R302,
08_channels.md R305, 08_channels.md R306, 08_channels.md R309, 08_channels.md R315. -/
def Obligations.EdgesAndWindows : Prop :=
  (∀ (c : Fin 16) (s : State), (s.due c).inputs = true →
      (s.aoTicks = true →
        ((s.due c).dmd = false → Does (.dmdRise c) s (fun t => (t.chan c).dmd = true ∧ OnlyChan s t c)) ∧
        ((s.due c).dmd = true → Does (.dmdFall c) s (fun t =>
          (t.chan c).dmd = false ∧ (t.chan c).latch = false ∧ (t.chan c).fen = false ∧ OnlyChan s t c)) ∧
        ((s.due c).fbk = false → Does (.fbkRise c) s (fun t =>
          (t.chan c).fbk = true ∧ ((s.due c).fen = true → (t.chan c).conf = none) ∧ OnlyChan s t c)) ∧
        ((s.due c).fbk = true → Does (.fbkFall c) s (fun t =>
          (t.chan c).fbk = false ∧ ((s.due c).fen = false → (t.chan c).conf = none) ∧ OnlyChan s t c)) ∧
        ((s.due c).known = true →
          Does (.glitch c true) s (fun t => t.chan c = { s.due c with fbkGlitch := sat16 (s.due c).fbkGlitch } ∧ OnlyChan s t c) ∧
          Does (.glitch c false) s (fun t => t.chan c = { s.due c with dmdGlitch := sat16 (s.due c).dmdGlitch } ∧ OnlyChan s t c))) ∧
      (s.rails.vao = true → s.clk.tickSrc = none → ∀ rise : Bool, (s.due c).dmd = !rise →
        Does (.bypassEdge c rise) s (fun t => (t.chan c).dmd = rise ∧
          ((s.due c).stamps = true → (s.due c).fifo.length < 16 → ∃ l, (t.chan c).fifo = (s.due c).fifo ++
            { code := if rise then 0x01 else 0x02, bypass := true, frozen := (s.due c).frozen, tick := s.tick } :: l) ∧ OnlyChan s t c))) ∧
  (∀ (c : Fin 16) (s : State) (k : Nat), s.aoTicks = true → k < 2 ^ 48 →
      ((s.chan c).conf = some k → (s.chan c).keep = .idle → Does (.confLate c) s (fun t =>
        (t.chan c).conf = none ∧ (t.chan c).confLate = sat16 (s.chan c).confLate ∧ t.tick = max s.tick k)) ∧
      ((s.chan c).keep = .heartbeat k → (s.lnk c).sess = none → Does (.hbExpired c) s (fun t =>
        (t.chan c).keep = .idle ∧ (t.chan c).latch = (s.chan c).latch ∧ t.tick = max s.tick k)) ∧
      ((s.chan c).keep = .hold k → Does (.holdExpired c) s (fun t =>
        (t.chan c).keep = .idle ∧ (t.chan c).latch = false ∧ t.tick = max s.tick k)))

/-- O9. Writes of the Wheel to a guarded channel that is neither fused retired nor frozen: GRANT = 1 sets the latch when service, contract
and demand hold, and FEN rises in function G; GRANT = 0 clears the latch, ends a hold, and FEN falls; HEARTBEAT starts the heartbeat
window; HOLD starts the hold of a class A channel that is latched under demand; STOP ends the heartbeat mode. Rests on 08_channels.md
R294, 08_channels.md R295, 08_channels.md R296, 08_channels.md R306, 08_channels.md R308, 08_channels.md R310. -/
def Obligations.GuardAndKeepWrites : Prop :=
  ∀ (c : Fin 16) (s : State), s.wheelWrites = true → (s.due c).eclass.guarded = true → (s.due c).fused = false → (s.due c).frozen = false →
    ((s.due c).grantable = true → (s.due c).retired = false → Does (.grantSet c) s (fun t =>
      (t.chan c).latch = true ∧ ((s.due c).fenPad.cur = .conn .g → (t.chan c).fen = true) ∧ OnlyChan s t c)) ∧
    Does (.grantClear c) s (fun t => (t.chan c).latch = false ∧ (∀ k, (t.chan c).keep ≠ .hold k) ∧
      ((s.due c).fenPad.cur = .conn .g → (t.chan c).fen = false) ∧ OnlyChan s t c) ∧
    Does (.keepHeartbeat c) s (fun t => t.chan c = { s.due c with keep := .heartbeat (s.tick + (s.due c).hbLen) } ∧ OnlyChan s t c) ∧
    ((s.due c).eclass = .a → (s.due c).latch = true → (s.due c).dmd = true → (∀ k, (s.due c).keep ≠ .hold k) →
      Does (.keepHold c) s (fun t => t.chan c = { s.due c with keep := .hold (s.tick + (s.due c).holdLen) } ∧ OnlyChan s t c)) ∧
    ((∀ k, (s.due c).keep ≠ .hold k) → Does (.keepStop c) s (fun t => t.chan c = { s.due c with keep := .idle } ∧ OnlyChan s t c))

/-- O10. What the guard refuses: on a channel of class U or L a write of GRANT sets GRANT_REFUSED and a keep command KEEP_REFUSED, nothing
else; on a fused-retired channel nothing changes; and while the channel is frozen and no decision is awaited, a write is counted as
ignored with WRITE_IGNORED, unless PROVISIONAL alone freezes it. Rests on 08_channels.md R295, 08_channels.md R312, 08_channels.md R319,
08_channels.md R321. -/
def Obligations.GuardRefusals : Prop :=
  ∀ (c : Fin 16) (g : Bool) (s : State), s.wheelWrites = true →
    let cmd : Instr := if g then .grantSet c else .grantClear c
    ((s.due c).fused = true → Does cmd s (fun t => t.chan c = s.due c ∧ OnlyChan s t c)) ∧
    ((s.due c).fused = false → (s.due c).eclass.guarded = false →
      Does cmd s (fun t => t.chan c = { s.due c with sticky := { (s.due c).sticky with grantRefused := true } } ∧ OnlyChan s t c) ∧
      Does (.keepHold c) s (fun t => t.chan c = { s.due c with sticky := { (s.due c).sticky with keepRefused := true } } ∧ OnlyChan s t c)) ∧
    ((s.due c).fused = false → (s.due c).eclass.guarded = true → (s.due c).frozen = true → (s.due c).awaiting = false →
      (s.due c).frz.provisionalAlone = false →
      Does cmd s (fun t => t.chan c = { s.due c with
        ignored := sat16 (s.due c).ignored, sticky := { (s.due c).sticky with writeIgnored := true } } ∧ OnlyChan s t c))

/-- O11. Service and window lengths: SERVICE_ENTER on a guarded channel, neither fused nor retired, sets the service flag and loads
CONTRACTED, and the partner starts at Absent; XFREEZE sets the freeze source EXCHANGE; a window length of 1 to 2²⁴ − 1 is loaded, 0 is
refused with LOAD_REFUSED; EVENT_POP takes the head entry away; a read of CH_TICK_LO captures the high bits of the tick counter. Rests on
08_channels.md R291, 08_channels.md R299, 08_channels.md R300, 08_channels.md R314, 08_channels.md R321. -/
def Obligations.ServiceAndLengths : Prop :=
  ∀ (c : Fin 16) (s : State) (v : Bool) (n : Word), s.wheelWrites = true →
    ((s.due c).fused = false →
      ((s.due c).eclass.guarded = true → (s.due c).retired = false → (s.due c).service = false →
        Does (.serviceEnter c v) s (fun t => (t.chan c).service = true ∧ (t.chan c).contracted = v ∧ (t.lnk c).pstate = .absent)) ∧
      ((s.due c).eclass.guarded = true → (s.due c).service = true →
        Does (.xfreeze c v) s (fun t => (t.chan c).frz.exchange = true ∧ (t.chan c).contracted = v ∧ OnlyChan s t c)) ∧
      (n.toNat % 2 ^ 24 ≠ 0 →
        Does (.windowLengthWrite c .tconf n) s (fun t => t.chan c = { s.due c with tconfLen := n.toNat % 2 ^ 24 } ∧ OnlyChan s t c) ∧
        Does (.windowLengthWrite c .hb n) s (fun t => t.chan c = { s.due c with hbLen := n.toNat % 2 ^ 24 } ∧ OnlyChan s t c) ∧
        Does (.windowLengthWrite c .hold n) s (fun t => t.chan c = { s.due c with holdLen := n.toNat % 2 ^ 24 } ∧ OnlyChan s t c)) ∧
      (n.toNat % 2 ^ 24 = 0 → ∀ w, Does (.windowLengthWrite c w n) s (fun t =>
        t.chan c = { s.due c with sticky := { (s.due c).sticky with loadRefused := true } } ∧ OnlyChan s t c)) ∧
      Does (.eventPop c) s (fun t => t.chan c = { s.due c with fifo := (s.due c).fifo.drop 1 } ∧ OnlyChan s t c)) ∧
    Does .tickCounterRead s (fun t => t = { s with tickHi := s.tick / 2 ^ 32 % 2 ^ 16 })

/-- O12. Pads: a requested switch begins at the tick after its request and parks the pad; two ticks later the incoming function is
connected; eight ticks of FEN readback disagreement retire the channel, and a class L channel retired for its pads that reads back well
for 328 ticks is on probation no more. Rests on 02_package.md R86, 02_package.md R87, 02_package.md R88, 02_package.md R89,
23_test_observe.md R845. -/
def Obligations.Pads : Prop :=
  ∀ (c : Fin 16) (s : State), s.aoTicks = true →
    (∀ f k, (s.chan c).fenPad.startable = some (some f, k) → k + 1 < 2 ^ 48 → Does (.functionSwitchBegin c .fen) s (fun t =>
      (t.chan c).fenPad.cur = .switching (max s.tick (k + 1)) (some f) ∧ (t.chan c).fen = false)) ∧
    (∀ f k, (s.chan c).lnkPad.startable = some (some f, k) → (s.lnk c).txn = none → k + 1 < 2 ^ 48 →
      Does (.functionSwitchBegin c .lnk) s (fun t => (t.chan c).lnkPad.cur = .switching (max s.tick (k + 1)) (some f))) ∧
    (∀ f k, (s.chan c).fenPad.cur = .switching k (some f) → Does (.functionConnect c .fen) s (fun t => (t.chan c).fenPad.cur = .conn f)) ∧
    (∀ f k, (s.chan c).lnkPad.cur = .switching k (some f) → Does (.functionConnect c .lnk) s (fun t => (t.chan c).lnkPad.cur = .conn f)) ∧
    (s.drives c = true → (s.lnk c).sess = none → Does (.fenReadbackFail c) s (fun t =>
      (t.chan c).retired = true ∧ (t.chan c).fen = false ∧ (t.chan c).latch = false)) ∧
    (s.drives c = true → (s.chan c).padRetired = true → Does (.passthroughPadReturn c) s (fun t => (t.chan c).padRetired = false))

/-! ## Field link -/

/-- O13. Replies of a handshake: a CRP whose credential passes every check leads to the stage that awaits KRP, holding the reply; a KRP
with a valid key and signature derives the session and awaits FRP; a genuine FRP makes the session live and the partner Present. A failed
check of the credential in its place fails the attempt, and a Hostile one makes the partner Hostile. BUSY holds the request for the
milliseconds it names, in ticks, and is counted; BUSY_RESEND ends the hold, and the request goes out where the line is free; HS_ERR and
the time limit of 262 144 ticks fail the attempt. Rests on 10_link_sessions.md R366, 10_link_sessions.md R371, 10_link_sessions.md R374,
10_link_sessions.md R375, 10_link_sessions.md R384, 10_link_sessions.md R392. -/
def Obligations.Handshakes : Prop :=
  (∀ (c : Fin 16) (b : Burst) (ok : Bool) (h : Hs) (s : State), s.Listens c → (s.lnk c).hs = some h →
      let p := fPayload b.body
      (b.Holds 0x12 208 → b.Plain → (s.lnk c).Awaits b 0x11 →
        let allow := match s.linkContract c with | some k => k.allow | none => []
        let r := s.checkCred (some allow) ok (p.drop 16)
        (r.1 = .ok → Does (.crp c b ok) s (fun t => (t.lnk c).cred = p.drop 16 ∧ (t.lnk c).credFlags = r.2 ∧
          ∃ g, (t.lnk c).hs = some g ∧ g.stage = .krp ∧ g.crp = p ∧ g.cred = p.drop 16 ∧ g.ep = Config.publicKey false h.priv)) ∧
        (r.1 = .hostile → Does (.crp c b ok) s (fun t => (t.lnk c).pstate = .hostile ∧ (t.lnk c).hs = none)) ∧
        (r.1 = .faulty → Does (.crp c b ok) s (fun t => (t.lnk c).hs = none ∧ t.stat c .hsFail = sat16 (s.stat c .hsFail)))) ∧
      (b.Holds 0x14 128 → b.Plain → (s.lnk c).Awaits b 0x13 →
        (p256Valid (p.take 64) = true → ok = true → Does (.krp c b ok) s (fun t =>
          let x := h.session (p.take 64)
          (x.sid ≠ 0 → ∃ g y, (t.lnk c).hs = some g ∧ g.stage = .frp ∧ g.ee = p.take 64 ∧ g.sess = some y ∧ y.sid = x.sid) ∧
          (x.sid = 0 → ∀ g, (t.lnk c).hs = some g → g.stage = .crp))) ∧
        ((p256Valid (p.take 64) && ok) = false → Does (.krp c b ok) s (fun t => (t.lnk c).pstate = .hostile ∧ (t.lnk c).hs = none))) ∧
      (∀ y, h.sess = some y → b.Holds 0x16 0 → b.Genuine y → (s.lnk c).Awaits b 0x15 → Does (.frp c b) s (fun t =>
        (t.lnk c).hs = none ∧ (t.lnk c).pstate = .present ∧ t.stat c .opened = sat16 (s.stat c .opened) ∧
        ∃ z, (t.lnk c).sess = some z ∧ z.sid = y.sid ∧ z.ctrRx = some (fCtr b.body) ∧ z.openedAt = s.tick))) ∧
  (∀ (c : Fin 16) (b : Burst) (h : Hs) (q : Nat) (s : State), (s.lnk c).hs = some h →
      (s.Listens c → isHs q = true → (s.lnk c).Awaits b q → b.Plain →
        (b.Holds 0x1E 2 → Does (.busy c b) s (fun t => t.stat c .busy = sat16 (s.stat c .busy) ∧
          ∃ g, (t.lnk c).hs = some g ∧ g.stage = h.stage ∧ g.busyUntil = some (s.tick + ceilDiv (ofBe (fPayload b.body) * 32768) 1000))) ∧
        (b.Holds 0x1F 1 → Does (.hsErr c b) s (fun t => (t.lnk c).hs = none ∧ t.stat c .hsFail = sat16 (s.stat c .hsFail)))) ∧
      (∀ k, h.busyUntil = some k → s.mainUp = true → Does (.busyResend c) s (fun t => ∃ g, (t.lnk c).hs = some g ∧ g.busyUntil = none ∧
        ∀ x, (s.lnk c).txn = some x → s.lineFree c = true → ∃ y, (t.lnk c).txn = some y ∧ y.sent = true ∧ y.frame = x.frame)) ∧
      (s.mainUp = true → s.crazed = false → Does (.handshakeTimeout c) s (fun t =>
        (t.lnk c).hs = none ∧ t.stat c .hsFail = sat16 (s.stat c .hsFail))))

/-- O14. In a live session a genuine RSP answers the outstanding REQ, whose payload it gives, and a genuine ATN is held for the applet;
each moves the receive counter. A PROBE's credential is kept with its flags, makes the partner Present if every check passes, and Hostile
if one says so. A CLA of the session closed last, with nothing outstanding, changes nothing but the line; any other is unexpected. Rests
on 10_link_sessions.md R366, 10_link_sessions.md R371, 10_link_sessions.md R379, 10_link_sessions.md R385, 10_link_sessions.md R387. -/
def Obligations.SessionTraffic : Prop :=
  ∀ (c : Fin 16) (b : Burst) (ok : Bool) (n : Nat) (s : State), s.Listens c →
    (∀ y, (s.lnk c).sess = some y → b.Genuine y →
      (b.Holds 0x22 n → (s.lnk c).Awaits b 0x21 → Does (.rsp c b) s (fun t => (t.lnk c).rsp = some (b.clear y) ∧
        (t.lnk c).unanswered = 0 ∧ ∃ z, (t.lnk c).sess = some z ∧ z.sid = y.sid ∧ z.ctrRx = some (fCtr b.body))) ∧
      (b.Holds 0x23 n → (∀ x, (s.lnk c).txn = some x → x.sent = false) → Does (.atn c b) s (fun t =>
        (t.lnk c).atn = (s.lnk c).atn ++ [b.clear y] ∧ ∃ z, (t.lnk c).sess = some z ∧ z.sid = y.sid ∧ z.ctrRx = some (fCtr b.body)))) ∧
    (b.Holds 0x02 192 → b.Plain → (s.lnk c).Awaits b 0x01 → Does (.probeRsp c b ok) s (fun t =>
      let r := s.checkCred none ok (fPayload b.body)
      (t.lnk c).cred = fPayload b.body ∧ (t.lnk c).credFlags = r.2 ∧ (r.1 = .ok → (t.lnk c).pstate = .present) ∧
        (r.1 = .hostile → (t.lnk c).pstate = .hostile))) ∧
    (b.Holds 0x32 n → (s.lnk c).txn = none → (s.lnk c).hs = none →
      ((s.lnk c).closedSid = some (fSid b.body) → Does (.cla c b) s (fun t => t = s.updLnk c (fun l => { l with lineBusy := true }))) ∧
      ((s.lnk c).closedSid ≠ some (fSid b.body) → Does (.cla c b) s (fun t => t.stat c .unexpected = sat16 (s.stat c .unexpected))))

/-- O15. The line: a burst of a wrong CRC is a fault counted under its statistic, as is a jabber; in Crazed either counts as filtered; an
idle line is busy no more, and the request that waited for it goes out. A request unanswered in time goes out again up to N_retry times,
then the transaction is over and counted as unanswered. Rests on 09_link_line.md R337, 09_link_line.md R338, 10_link_sessions.md R366,
10_link_sessions.md R382, 10_link_sessions.md R390. -/
def Obligations.LineEvents : Prop :=
  ∀ (c : Fin 16) (b : Burst) (ok : Bool) (s : State),
    (s.Listens c →
      (b.err = none → b.inverted = false → b.body ≠ [] → b.body.length ≤ 288 → crcOk b.body = false → b.start = none →
        Does (.burstDecoded c b ok) s (fun t => t.stat c .crc = sat16 (s.stat c .crc) ∧ s.tick ∈ (t.lnk c).faultAt)) ∧
      Does (.jabber c) s (fun t => t.stat c .jabber = sat16 (s.stat c .jabber) ∧ s.tick ∈ (t.lnk c).faultAt)) ∧
    (s.hears c = true → s.crazed = true →
      Does (.burstDecoded c b ok) s (fun t => t.stat c .filtered = sat16 (s.stat c .filtered)) ∧
      Does (.jabber c) s (fun t => t.stat c .filtered = sat16 (s.stat c .filtered))) ∧
    (s.mainUp = true →
      ((s.lnk c).txn = none → (s.lnk c).waiting = [] → Does (.lineIdle c) s (fun t => t = s.updLnk c (fun l => { l with lineBusy := false }))) ∧
      (∀ x, (s.lnk c).txn = some x →
        ((s.chan c).lnkPad.cur = .conn .t → (s.chan c).lnkPad.req = none → (s.lnk c).busyWait = false → x.sent = false →
          Does (.lineIdle c) s (fun t => (t.lnk c).txn = some { x with sent := true } ∧ t.out = .burst c.val x.frame :: s.out)) ∧
        (x.sent = true →
          (x.retries < nRetryOf (s.linkContract c) → Does (.replyTimeout c) s (fun t =>
            ∃ y, (t.lnk c).txn = some y ∧ y.retries = x.retries + 1 ∧ y.frame = x.frame)) ∧
          (nRetryOf (s.linkContract c) ≤ x.retries → Does (.replyTimeout c) s (fun t =>
            t.stat c .unanswered = sat16 (s.stat c .unanswered))))))

/-- O16. Attempts and re-keying: an attempt that may be made begins with a fingerprint; a re-key falls due once, at its interval or with
an exhausted counter; 60 s after that without a new session the old one ends. Fingerprints: a due one takes the pair to function E; a
disturbed capture is tried again 32 768 ticks later, up to eight times; a completed one ends the occasion, and where the contract's
reference is missed by more than its limit the cable is changed, withholding if the contract says so. Rests on 09_link_line.md R348,
09_link_line.md R350, 09_link_line.md R351, 09_link_line.md R353, 10_link_sessions.md R377, 10_link_sessions.md R395. -/
def Obligations.AttemptsAndFingerprints : Prop :=
  (∀ (c : Fin 16) (s : State),
      (s.mayAttempt c = true → Does (.handshakeAttempt c) s (fun t =>
        (t.lnk c).fp.occ = some .beforeHandshake ∧ (t.lnk c).fp.running = true ∧ s.tick ≤ t.tick)) ∧
      (∀ x k, (s.lnk c).sess = some x → s.linkContract c = some k → s.linkServed c = true → (s.lnk c).rekeyDue = none →
        Does (.rekeyDue c) s (fun t => (t.lnk c).rekeyDue = some t.tick)) ∧
      (∀ x k, (s.lnk c).sess = some x → (s.lnk c).rekeyDue = some k → s.mainUp = true →
        Does (.rekeyTimeout c) s (fun t => (t.lnk c).sess = none ∧ (t.lnk c).hs = none ∧ (t.lnk c).rekeyDue = none))) ∧
  (∀ (c : Fin 16) (o : FpOccasion) (p : List Int) (s : State), s.linkServed c = true → s.crazed = false →
      ((s.lnk c).fp.occ = none → ∀ k, s.fpDue c = some (o, k) → Does (.fingerprintDue c) s (fun t =>
        (t.lnk c).fp.occ = some o ∧ (t.lnk c).fp.running = true ∧ (t.lnk c).fp.attempts = 0 ∧
          ((s.chan c).lnkPad.locked = false → ∃ m, (t.chan c).lnkPad.req = some (some .e, m)))) ∧
      ((s.lnk c).fp.occ = some o →
        (∀ k, (s.lnk c).fp.retryFrom = some k → Does (.fingerprintRetry c) s (fun t =>
          (t.lnk c).fp.running = true ∧ (t.lnk c).fp.retryFrom = none ∧ (k + 32768 < 2 ^ 48 → k + 32768 ≤ t.tick))) ∧
        (s.measuring c = true →
          ((s.lnk c).fp.attempts + 1 < 8 → Does (.fingerprintDone c .disturbed) s (fun t =>
            (t.lnk c).fp.occ = some o ∧ (t.lnk c).fp.retryFrom = some s.tick ∧ (t.lnk c).fp.attempts = (s.lnk c).fp.attempts + 1)) ∧
          Does (.fingerprintDone c (.profile p)) s (fun t => (t.lnk c).fp.occ = none ∧ (t.lnk c).fp.lastDone = some s.tick ∧
            ∀ k m ts, s.linkContract c = some k → fpCompare ((p ++ List.replicate 256 0).take 256) k.refPoints = some (m, ts) →
              k.fpLimit < m → (t.lnk c).fp.changed = true ∧ (t.lnk c).fp.withholding = k.withhold))))

/-! ## Uplink -/

/-- O17. Ports: a link comes up with announcements to start anew; it goes down with its concentrator address; a common-mode alarm is a
reference event, counted for STATUS; a frame that fails a check is counted, the 64th within its time putting the port into quarantine; an
address and a quarantine each end after their time. Rests on 11_uplink.md R408, 11_uplink.md R409, 11_uplink.md R413, 11_uplink.md R444,
07_tamper.md R255. -/
def Obligations.Ports : Prop :=
  ∀ (p : Port) (frame : Bytes) (fcs : Bool) (s : State),
    (s.phyUp = true → (s.port p).linked = false → Does (.linkUp p) s (fun t =>
      t = s.updPort p (fun x => { x with linked := true, annAt := none }))) ∧
    ((s.port p).linked = true → Does (.linkDown p) s (fun t => t = s.updPort p (fun x => { x with linked := false, addr := none }))) ∧
    (s.phyUp = true → s.clk.tickSrc.isSome = true → s.crazed = false → Does (.commonModeAlarm p) s (fun t =>
      (t.port p).alarms = sat16 (s.port p).alarms ∧ (p = .a → t.tamp.refA = some s.tick) ∧ (p = .b → t.tamp.refB = some s.tick))) ∧
    (s.inboundOpen p = true → (s.frameOk fcs frame && envelopeOk (framePayload frame) && lengthOk (framePayload frame)) = false →
      Does (.inboundFrame p fcs frame) s (fun t => (t.port p).faultCount = sat16 (s.port p).faultCount ∧
        let n := ((s.port p).faults.filter (fun k => decide (s.tick < k + 1966080))).length
        (n < 63 → s.tick ∈ (t.port p).faults ∧ (t.port p).quarantine = none) ∧
        (63 ≤ n → (t.port p).quarantine = some s.tick ∧ (t.port p).faults = [] ∧ (t.port p).addr = none))) ∧
    ((s.port p).addr.isSome = true → s.phyUp = true → s.clk.tickSrc.isSome = true → Does (.concentratorAddressTimeout p) s (fun t =>
      (t.port p).addr = none ∧ (t.port p).linked = (s.port p).linked ∧ t.tick = max s.tick (min ((s.port p).addrAt + 19660800) (2 ^ 48 - 1)))) ∧
    (∀ k, (s.port p).quarantine = some k → s.rails.vao = true → s.clk.tickSrc.isSome = true → Does (.quarantineEnd p) s (fun t =>
      (t.port p).quarantine = none ∧ (t.port p).linked = (s.port p).linked ∧ t.tick = max s.tick (min (k + 1966080) (2 ^ 48 - 1))))

/-- O18. A formed ACK of an accepted key, verified within the port's limit, acknowledges every record of its ranges and no other; a formed
BEACON of an accepted key, verified, new and not behind, gives the port its address, sets the floors of its key, and is the last one
heard; the same bytes again only set the address. Either is held in Crazed. Rests on 11_uplink.md R424, 11_uplink.md R426, 11_uplink.md
R428, 11_uplink.md R429, 11_uplink.md R436. -/
def Obligations.AcksAndBeacons : Prop :=
  ∀ (p : Port) (m : Bytes) (ok : Bool) (mac ip : Nat) (s : State), s.inboundOpen p = true →
    let key := beAt m 4 1
    let room := (key = 0 ∨ ((s.port p).verWindow s.tick).verAcks < 10)
    let room1 := (key = 0 ∨ ((s.port p).verWindow s.tick).verBeacons < 1)
    (s.ackFormed m = true → s.keyAccepted key = true → room →
      (s.crazed = false → (key = 0 ∨ ok = true) → Does (.ack p m ok) s (fun t =>
        t.upl.ring = s.upl.ring.map (fun r =>
          if (ackRanges m).any (fun e => decide (e.1 ≤ r.seq ∧ r.seq ≤ e.2)) then { r with acked := true } else r))) ∧
      (s.crazed = true → Does (.ack p m ok) s (fun t => t.upl.ring = s.upl.ring ∧ t.upl.msgs = s.upl.msgs ++ [.ack p m ok]))) ∧
    (s.life.firing ≠ .sherd → s.beaconFormed m = true →
      (m ∈ s.upl.seen → Does (.beacon p m ok mac ip) s (fun t =>
        (t.port p).addr = some (mac, ip) ∧ (t.port p).addrAt = s.tick ∧ t.upl.floors = s.upl.floors)) ∧
      (m ∉ s.upl.seen → room1 →
        (s.crazed = false → (key = 0 ∨ ok = true) → ((s.upl.floors[key]?).getD {}).bseq < beAt m 24 8 →
          ((s.upl.floors[key]?).getD {}).time ≤ beAt m 32 4 → Does (.beacon p m ok mac ip) s (fun t =>
            (t.port p).addr = some (mac, ip) ∧ (t.port p).addrAt = s.tick ∧ t.clk.lastBeacon = some s.tick ∧ m ∈ t.upl.seen ∧
            t.upl.floors[key]? = some ⟨beAt m 24 8, beAt m 32 4⟩)) ∧
        (s.crazed = false → key ≠ 0 → ok = false → Does (.beacon p m ok mac ip) s (fun t =>
          t.upl.floors = s.upl.floors ∧ t.clk.beaconRun = 0 ∧ (t.port p).faultCount = sat16 (s.port p).faultCount)) ∧
        (s.crazed = true → Does (.beacon p m ok mac ip) s (fun t => t.upl.floors = s.upl.floors ∧
          t.upl.msgs = s.upl.msgs ++ [.beacon p m ok (mac, ip) s.tick]))))

/-- O19. Chunks: with no bundle held, a chunk of a bundle that takes several, and that the window has room for, opens the intake and is
stored; with the intake open for its bundle, a chunk not yet stored and within the window joins those stored. An intake that stores
nothing for its time is abandoned; a paced CHUNK_ACK goes out when its interval ends. Rests on 11_uplink.md R430, 11_uplink.md R431,
11_uplink.md R432, 11_uplink.md R433. -/
def Obligations.Chunks : Prop :=
  ∀ (p : Port) (m : Bytes) (s : State), 
    let id := slice 4 16 m
    let total := beAt m 20 4
    let i := beAt m 24 2
    let d := m.drop 28
    (s.inboundOpen p = true → s.life.firing ≠ .sherd → envelopeOk m = true → beAt m 3 1 = 4 → lengthOk m = true → zeroAt m 26 2 = true →
      total ≤ 25165824 → i < chunkCount total → d.length = min 1024 (total - 1024 * i) → s.upl.complete = none →
      (s.upl.intake = none → 1024 < total → i < 64 - s.upl.buf.length → Does (.chunk p m) s (fun t =>
        ∃ x, t.upl.intake = some x ∧ x.id = id ∧ x.total = total ∧ x.chunks = [(i, d)])) ∧
      (∀ x, s.upl.intake = some x → x.id = id → x.total = total → x.chunks.length + 1 < chunkCount total → (∀ e ∈ x.chunks, e.1 ≠ i) →
        x.next ≤ i → i < x.next + (64 - s.upl.buf.length) → Does (.chunk p m) s (fun t =>
          t.upl.intake = some { x with chunks := putChunk i d x.chunks, lastStored := s.tick }))) ∧
    (∀ x, s.upl.intake = some x → s.wheelUp = true → s.clk.tickSrc.isSome = true → x.chunks.length < chunkCount x.total →
      Does .intakeAbandon s (fun t => t.upl.intake = none ∧ t.upl.buf = [] ∧ t.tick = max s.tick (min (x.lastStored + 19660800) (2 ^ 48 - 1)))) ∧
    (∀ x k, s.upl.ackPending = some x → s.upl.chunkAckAt = some k → s.mainUp = true → s.clk.tickSrc.isSome = true →
      Does .chunkAck s (fun t => t.upl.ackPending = none ∧ t.upl.chunkAckAt = some t.tick ∧ t.tick = max s.tick (min (k + 655) (2 ^ 48 - 1))))

/-- O20. Sending: RECORD_SEND puts the records that are due on the port, at most 100 in a second, and marks them sent; an announcement is
a record of type 2 that takes no SEQ; a Sherd part sends an unsigned one on each linked port; STATUS starts every count it reports from
zero. Rests on 11_uplink.md R412, 11_uplink.md R418, 11_uplink.md R435, 06_lifecycle.md R211. -/
def Obligations.Sending : Prop :=
  ∀ (p : Port) (s : State),
    (s.wheelUp = true → s.linkedTo p = true → (s.port p).addr.isSome = true →
      let used := if (s.port p).paceFrom = s.tick / 32768 * 32768 then (s.port p).paceSent else 0
      let l := s.sendList p (100 - used)
      Does (.recordSend p) s (fun t => t.out = (l.map (Emit.record p)).reverse ++ s.out ∧ (t.port p).paceSent = used + l.length ∧
        l.length ≤ 100 - used ∧
        t.upl.ring = s.upl.ring.map (fun r => if l.any (fun e => e.seq == r.seq) then r.sentNow p s.tick else r))) ∧
    (s.wheelUp = true → s.linkedTo p = true → (s.port p).addr = none → announces s.life.firing = true → s.clk.tickSrc.isSome = true →
      Does (.announcement p) s (fun t => (t.port p).annAt = some t.tick ∧ t.upl.ring = s.upl.ring ∧
        (s.canSign (s.buildRec 0x02 s.identityBody false) = true → ∃ r rest, t.out = .record p r :: rest ∧ r.type = 0x02 ∧ r.seq = 0))) ∧
    (s.life.firing = .sherd → s.mainUp = true → s.clk.tickSrc.isSome = true → s.linkedTo p = true → Does .sherdIdentity s (fun t =>
      ∃ r, .record p r ∈ t.out ∧ r.type = 0x02 ∧ r.sigalg = 0 ∧ r.sig = [])) ∧
    (s.wheelUp = true → s.clk.tickSrc.isSome = true → Does .status s (fun t =>
      (∀ c k, t.stat c k = 0) ∧ t.upl.dropped = 0 ∧ t.tamp.excused = 0 ∧ t.upl.a.alarms = 0 ∧ t.upl.b.alarms = 0 ∧
        t.upl.statusAt = some t.tick))

/-- O21. Bundles: a failed check refuses the bundle with its result and detail; an image that passes is installed next, and a lifecycle
bundle is staged; a copy whose digest does not match is refused with result 5, and one that matches is recorded with result 6. Rests on
22_kiln.md R813, 22_kiln.md R816, 22_kiln.md R817, 22_kiln.md R819, 22_kiln.md R822. -/
def Obligations.Bundles : Prop :=
  ∀ (lms ecc cred bad : Bool) (total faddr : Nat) (id : Bytes) (s : State), s.pwr.kiln = .running → s.crazed = false →
    let x := bundleOf s.bundleData
    (s.kiln.bundle = .verifying → s.kiln.verifying = some (faddr, total, id) →
      (∀ r d, s.bundleFail total lms ecc cred bad = some (r, d) → Does (.verificationDone lms ecc cred bad) s (fun t =>
        t.kiln.result = r ∧ t.kiln.resultDetail = d ∧ t.kiln.verifying = none ∧ t.kiln.bundle = .refused)) ∧
      (s.bundleFail total lms ecc cred bad = none →
        (x.kind ≤ 2 → s.installedAlready x = false → s.entryFree x = true → Does (.verificationDone lms ecc cred bad) s (fun t =>
          t.kiln.bundle = .installing)) ∧
        (3 < x.kind → s.stagedOpen = false → s.burnOk = false → Does (.verificationDone lms ecc cred bad) s (fun t =>
          t.life.staged = some (s.stagedOf x) ∧ t.kiln.result = 6 ∧ t.kiln.bundle = .staged)))) ∧
    (s.kiln.bundle = .installing → s.provisional = false → 
      (x.kind = 1 → Does (.installDone true bad) s (fun t => t.kiln.result = 6 ∧ t.kiln.bundle = .staged ∧
        ∃ e ∈ t.kiln.installs, e.wheel = true ∧ e.trial = true ∧ e.release = x.serial ∧ e.digest = sha2 .sha384 x.body)) ∧
      Does (.installDone false bad) s (fun t => t.kiln.result = 5 ∧ t.kiln.bundle = .refused) ∧
      (x.kind ≠ 1 → (s.appOf (dom x.domain)).man = none → Does (.installDone true true) s (fun t => t.kiln.result = 6 ∧ t.kiln.bundle = .staged ∧
        ∃ e ∈ t.kiln.installs, e.wheel = false ∧ e.domain = x.domain ∧ e.release = x.serial ∧ e.digest = sha2 .sha384 x.body)))

/-! ## Rings -/

/-- O22. Ring registers: an accepted doorbell moves PROD and SEEN, a refused one sets its sticky flag; ENABLE = 1 on a legal OFF or HALTED
ring with nothing pending runs it; ENABLE = 0 on an idle RUNNING ring takes it OFF; BASE and SIZE are taken while OFF or HALTED and
refused while RUNNING; an engine reset completes what is pending. Writes to FLC ring 3, which is the FLC's own, change nothing. Rests on
15_rings.md R578, 15_rings.md R579, 15_rings.md R580, 15_rings.md R581, 15_rings.md R582, 15_rings.md R583, 15_rings.md R601. -/
def Obligations.RingRegisters : Prop :=
  ∀ (e : Eng) (k : Nat) (v : Word) (s : State), s.mainRuns = true →
    let r := s.ring e k
    let i := v.toNat % 65536
    let n := v.toNat / 65536
    (ringOwn e k = true → ∀ g, Does (.doorbell e k v) s (fun t => t = s) ∧ Does (.ringEnable e k v) s (fun t => t = s) ∧
      Does (.ringDisable e k v) s (fun t => t = s) ∧ Does (.ringConfigWrite e k g v) s (fun t => t = s)) ∧
    (ringOwn e k = false → k < (s.engOf e).rings.length →
      ((r.st ≠ .running ∨ r.cur.isSome = true) →
        (r.indexOk i = true → Does (.doorbell e k v) s (fun t => (t.ring e k).prod = i)) ∧
        (r.indexOk i = false → Does (.doorbell e k v) s (fun t => (t.ring e k).prod = r.prod ∧ (t.ring e k).doorbellRefused = true)) ∧
        (r.seenOk n = true → Does (.doorbell e k v) s (fun t => (t.ring e k).seen = n)) ∧
        (r.seenOk n = false → Does (.doorbell e k v) s (fun t => (t.ring e k).seen = r.seen ∧ (t.ring e k).seenRefused = true))) ∧
      (r.configurable = true → r.prod = r.cons →
        ((r.policyWrite e (v.toNat % 2 ^ 31 + 2 ^ 31)).enableOk e = true → Does (.ringEnable e k v) s (fun t =>
          (t.ring e k).st = .running ∧ (t.ring e k).enable = true ∧ (t.ring e k).reason = 0 ∧ (t.ring e k).fetch = r.cons)) ∧
        ((r.policyWrite e (v.toNat % 2 ^ 31 + 2 ^ 31)).enableOk e = false → Does (.ringEnable e k v) s (fun t =>
          (t.ring e k).st = r.st ∧ (t.ring e k).configRefused = true)) ∧
        Does (.ringConfigWrite e k .base v) s (fun t => (t.ring e k).base = v.toNat / 64 * 64 ∧ (t.ring e k).prod = 0 ∧ (t.ring e k).seen = 0 ∧
          (t.ring e k).cons = 0 ∧ (t.ring e k).fetch = 0 ∧ (t.ring e k).haltIndex = 0 ∧ (t.ring e k).st = .off) ∧
        Does (.ringConfigWrite e k .size v) s (fun t => (t.ring e k).log2 = v.toNat % 16 ∧ (t.ring e k).st = r.st)) ∧
      (r.st = .running → r.cur = none → Does (.ringDisable e k v) s (fun t => (t.ring e k).st = .off ∧ (t.ring e k).enable = false)) ∧
      (r.st = .running → ∀ g, g ≠ .policy → Does (.ringConfigWrite e k g v) s (fun t => t.ring e k = { r with configRefused := true }))) ∧
    ((∀ j, (s.ring e j).held = [] ∧ ((s.ring e j).cur.isSome = true → (s.ring e j).pending ≠ 0)) → Does (.engineReset e) s (fun t => ∀ j, (t.ring e j).pending = 0 ∧ (t.ring e j).cur = none))

/-- O23. Reading commands of the Kiln ring: LOG_WRITE writes the Wheel's entry and answers its LSEQ; LOG_READ answers the newest LSEQ with
the entries asked for; TIME_GET, RECORD_READ and SELFTEST RESULT give their bytes; BUNDLE_STATUS answers the bundle machine's state.
Acting commands of the Kiln ring: BEACON sets the last time held; BUNDLE_VERIFY starts a verification unless one runs; BUNDLE_APPLIED of a
staged image makes it applied; RESTART is a main-watchdog expiry; SELFTEST REQUEST begins a run where one may begin, and PREPARED marks
the partition that is waited for. Rests on 22_kiln.md R802, 22_kiln.md R803, 22_kiln.md R804, 22_kiln.md R810, 22_kiln.md R812, 22_kiln.md
R820, 23_test_observe.md R838. -/
def Obligations.KilnRing : Prop :=
  (∀ (d : Desc) (s : State), s.Clears .kiln 0 (d.inBufs d.length ++ d.outBufs 1 0) →
      let b := s.input .kiln 0 d
      (s.InHand .kiln 0 1 d → wheelCode (beAt b 0 2) = true → beAt b 2 1 ≤ 1 → Does .logWrite s (fun t =>
        Completes s t .kiln 0 d { code := .done, bytes := 24, result := leBytes 8 s.kiln.nextLseq } ∧ t.kiln.nextLseq = s.kiln.nextLseq + 1)) ∧
      (s.InHand .kiln 0 1 d → (wheelCode (beAt b 0 2) = false ∨ 1 < beAt b 2 1) → Does .logWrite s (fun t =>
        Completes s t .kiln 0 d { code := .value, detail := 2 } ∧ t.kiln = s.kiln)) ∧
      (s.InHand .kiln 0 2 d → Does .logRead s (fun t =>
        Completes s t .kiln 0 d { code := .done, result := leBytes 8 (s.kiln.nextLseq - 1) } ∧ Puts s t .kiln 0 d (s.kilnOut d))) ∧
      (s.InHand .kiln 0 3 d → Does .timeGet s (fun t => Completes s t .kiln 0 d { code := .done } ∧ Puts s t .kiln 0 d s.timeBytes)) ∧
      (s.InHand .kiln 0 6 d → Does .bundleStatus s (fun t =>
        let x := leBytes 1 s.kiln.bundle.code ++ leBytes 1 s.kiln.result ++ leBytes 2 s.kiln.resultDetail
        Completes s t .kiln 0 d { code := .done, result := x })) ∧
      (s.InHand .kiln 0 8 d → Does .recordRead s (fun t => Completes s t .kiln 0 d { code := .done } ∧
        Puts s t .kiln 0 d (s.kilnRecord (d.p 0x18 1)))) ∧
      (s.InHand .kiln 0 10 d → d.p 0x18 1 = 3 → Does .selftestResult s (fun t => Completes s t .kiln 0 d { code := .done } ∧
        Puts s t .kiln 0 d s.selfResult))) ∧
  (∀ (d : Desc) (s : State), s.Clears .kiln 0 (d.inBufs d.length ++ d.outBufs 1 0) →
      let b := s.input .kiln 0 d
      (s.InHand .kiln 0 4 d → s.life.firing ≠ .sherd → Does .beaconHandover s (fun t =>
        Completes s t .kiln 0 d { code := .done, bytes := 24 } ∧ t.kiln.lastTime = leAt b 10 4 ∧ t.kiln.timeSt ≠ .unset)) ∧
      (s.InHand .kiln 0 5 d → s.life.firing ≠ .sherd →
        (s.bundleBusy = false → Does .bundleVerify s (fun t => Completes s t .kiln 0 d { code := .done } ∧ t.kiln.bundle = .verifying ∧
          t.kiln.verifying = some (d.p 0x18 4, d.p 0x1C 4, slice 8 16 d.param))) ∧
        (s.bundleBusy = true → Does .bundleVerify s (fun t => Completes s t .kiln 0 d { code := .value, detail := 1 } ∧ t.kiln = s.kiln))) ∧
      (s.InHand .kiln 0 7 d → slice 0 16 d.param = padTo 16 s.bundleKey.1 → s.kiln.bundle = .staged → leAt s.bundleData 6 1 < 3 →
        Does .bundleApplied s (fun t => Completes s t .kiln 0 d { code := .done } ∧ t.kiln.bundle = .applied ∧ t.kiln.result = 0)) ∧
      (s.InHand .kiln 0 9 d → s.recentExpiries < 2 → s.noExchange = true → Does .restart s (fun t =>
        t.pwr.mainWdogAt = wdogHistory s.tick s.pwr.mainWdogAt)) ∧
      (s.InHand .kiln 0 10 d → d.p 0x18 1 = 1 → (maskParts (d.p 0x20 8)).all partReserved = false → s.mayTest = true → s.selft.run = none →
        s.life.firing ≠ .sherd → Does .selftestRequest s (fun t =>
          Completes s t .kiln 0 d { code := .done, result := leBytes 2 ((s.selft.number + 1) % 65536) } ∧
          t.selft.number = (s.selft.number + 1) % 65536 ∧ t.selft.trigger = some .request ∧ t.selft.run.isSome = true)) ∧
      (s.InHand .kiln 0 10 d → d.p 0x18 1 = 2 → s.noExchange = true → s.requested = some (d.p 0x19 1) → Does .selftestPrepared s (fun t =>
        t.selft.prepared = some (d.p 0x19 1))))

/-! ## Cipher, digest and multiplier -/

/-- O24. A cipher job outside Saggar mode whose key reference is good and whose buffers are clear completes DONE over its whole length,
with the output of its opcode (ENC, DEC, ENC_XIN, ENC_XOUT, DEC_XOUT) in its output buffer; in Saggar mode, with the saggar free or its
ring's, the output joins the saggar and memory keeps its bytes; a bad reference completes SLOT with its DETAIL. Rests on 16_cipher.md
R612, 16_cipher.md R613, 16_cipher.md R614, 16_cipher.md R619, 16_cipher.md R620. -/
def Obligations.CipherJobs : Prop :=
  ∀ (e : CipherEng) (k op : Nat) (c : Instr) (d : Desc) (s : State),
    (op, c) ∈ [(0x01, Instr.enc e k), (0x02, .dec e k), (0x03, .encXin e k), (0x04, .encXout e k), (0x05, .decXout e k)] →
    s.InHand e.eng k op d → (d.saggar = true → s.saggarBusy k = false) →
    let ref := (d.p 0x18 2, d.p 0x1A 2)
    let bad := s.keyCheck (s.ring e.eng k) ref.1 ref.2 (fun x => x == 1 || (x == 2 && e == .fae)) (cipherUsage op) (!d.saggar)
    let out := cipherOut op (s.ksm.slot ref.1).mat (s.input e.eng k d) (s.memRead (s.ring e.eng k).who d.xbuf.addr d.xbuf.len)
    (∀ x, bad = some x → Does c s (fun t => Completes s t e.eng k d { code := .slot, detail := x })) ∧
    (bad = none → (s.provisional = false ∨ s.keyCtx e k = some ref) → s.Clears e.eng k (d.inBufs 16 ++ [d.xbuf] ++ d.outBufs 0 16) →
      (d.saggar = false → Does c s (fun t => Completes s t e.eng k d { code := .done, bytes := d.length } ∧ Puts s t e.eng k d out ∧
        t.aes.saggar = s.aes.saggar)) ∧
      (d.saggar = true → d.outFr = [] →
        let old := match s.aes.saggar with | some (_, b) => b | none => []
        Does c s (fun t => t.aes.saggar = some (k, old ++ out) ∧
          Completes s t e.eng k d { code := .done, bytes := d.length, result := leBytes 4 (old ++ out).length })))

/-- O25. VERDICT without Saggar mode: equal inputs complete DONE, others complete VERDICT, which FAE counts, and in Zero mode the named
range reads as zeros. In Saggar mode the saggar the ring holds goes to the output when the inputs are equal, and is freed either way; the
longest wait for it ends with it empty and the waiting ring's. Rests on 16_cipher.md R622, 16_cipher.md R623, 16_cipher.md R624,
16_cipher.md R625, 16_cipher.md R626. -/
def Obligations.Verdicts : Prop :=
  ∀ (e : CipherEng) (k : Nat) (d : Desc) (s : State),
    let xb := s.memRead (s.ring e.eng k).who (d.p 0x1C 4) d.length
    let buf : Buf := { addr := d.p 0x1C 4, len := d.length, type := .read, detail := 0x300, pos := 0, unit := d.length }
    let zero : Buf := { addr := d.p 0x20 4, len := d.p 0x24 4, type := .write, detail := 0x301, pos := 0, unit := 0 }
    (s.InHand e.eng k 0x10 d → d.saggar = false → s.Clears e.eng k (if d.zeroMode then d.inBufs d.length ++ [buf, zero] else d.inBufs d.length ++ [buf]) →
      (s.input e.eng k d = xb → Does (.verdict e k) s (fun t => Completes s t e.eng k d { code := .done, bytes := d.length })) ∧
      (s.input e.eng k d ≠ xb →
        (d.zeroMode = false → Does (.verdict e k) s (fun t => Completes s t e.eng k d { code := .verdict, bytes := d.length } ∧
          (e = .fae → t.aes.verdictFail = sat16 s.aes.verdictFail))) ∧
        (d.zeroMode = true → (zero.addr + zero.len ≤ s.wbAt e.eng k ∨ s.wbAt e.eng k + 16 ≤ zero.addr) →
          Does (.verdict e k) s (fun t => readBytes t.mem zero.addr zero.len = zeros zero.len)))) ∧
    (s.InHand e.eng k 0x10 d → d.saggar = true → s.Clears e.eng k (d.outBufs 0 0 ++ d.inBufs d.length ++ [buf]) →
      ∀ b, s.aes.saggar = some (k, b) → b.length = d.p 0x24 4 →
        (s.input e.eng k d = xb → Does (.verdict e k) s (fun t => t.aes.saggar = none ∧ Puts s t e.eng k d b ∧
          Completes s t e.eng k d { code := .done, bytes := d.length, result := leBytes 4 b.length })) ∧
        (s.input e.eng k d ≠ xb → Does (.verdict e k) s (fun t => t.aes.saggar = none ∧ 
          Completes s t e.eng k d { code := .verdict, bytes := d.length }))) ∧
    (∀ h b, s.aes.saggar = some (h, b) → k ∈ s.aes.waiting → (s.ring .fae k).cur.isSome = true → (s.ring .fae h).cur = none → Does (.saggarExpiry k) s (fun t =>
      t.aes.saggar = some (k, []) ∧ t.aes.expired = sat16 s.aes.expired ∧ k ∉ t.aes.waiting ∧ t = { s with aes := t.aes }))

/-- O26. HASH and HMAC: after check 11, with clear buffers, the input joins the context's data; LAST finishes it, the digest staying in a
FINAL context without an output, or written to the output with the context freed. RESULT gives the digest of a FINAL context and frees it,
or zeros with EARLY where it is not FINAL; COMPARE frees a FINAL one, DONE when the digest matches and VERDICT counted when not, and
answers VERDICT with EARLY where it is not FINAL; FREE frees it. Formalises R645. -/
def Obligations.DigestJobs : Prop :=
  ∀ (k op : Nat) (cmd : Instr) (d : Desc) (s : State), s.digCheck (s.ring .dig k) d = none → d.ctx < 16 →
    let c := s.dig.ctxOf d.ctx
    let c0 := s.startCtx (s.ring .dig k) d
    let c1 := { c0 with data := c0.data ++ s.input .dig k d }
    let b := algBlock d.alg
    ((op, cmd) ∈ [(0x01, Instr.hash k), (0x02, .hmac k)] → s.InHand .dig k op d → s.Clears .dig k (d.inBufs b ++ d.outBufs (d.length / b) 0) →
      (op = 0x01 ∨ d.first = false ∨ s.provisional = false) →
      Does cmd s (fun t => Completes s t .dig k d { code := .done, bytes := d.length } ∧
        (d.last = false → t.dig.ctxOf d.ctx = c1) ∧
        (d.last = true → d.outFr = [] → t.dig.ctxOf d.ctx = { c1 with st := .final, digest := c1.finish, data := [] }) ∧
        (d.last = true → d.outFr ≠ [] → t.dig.ctxOf d.ctx = {} ∧ Puts s t .dig k d c1.finish))) ∧
    (s.InHand .dig k 0x03 d → s.Clears .dig k (d.outBufs 0 0) →
      (c.st = .final → Does (.result k) s (fun t => Completes s t .dig k d { code := .done } ∧ t.dig.ctxOf d.ctx = {} ∧ Puts s t .dig k d c.digest)) ∧
      (c.st ≠ .final → Does (.result k) s (fun t => Completes s t .dig k d { code := .done, detail := 1 } ∧ t.dig.early = true ∧
        t.dig.ctxOf d.ctx = c ∧ Puts s t .dig k d (zeros (algLen d.alg))))) ∧
    (s.InHand .dig k 0x04 d → s.Clears .dig k (d.inBufs d.length) → c.st = .final →
      (s.input .dig k d = c.digest.take d.length → Does (.compare k) s (fun t =>
        Completes s t .dig k d { code := .done, bytes := d.length } ∧ t.dig.ctxOf d.ctx = {})) ∧
      (s.input .dig k d ≠ c.digest.take d.length → Does (.compare k) s (fun t =>
        Completes s t .dig k d { code := .verdict, bytes := d.length } ∧ t.dig.ctxOf d.ctx = {} ∧
        t.dig.compareFail = sat16 s.dig.compareFail))) ∧
    (s.InHand .dig k 0x04 d → s.Clears .dig k (d.inBufs d.length) → c.st ≠ .final → Does (.compare k) s (fun t =>
      Completes s t .dig k d { code := .verdict, detail := 2 } ∧ t.dig.early = true ∧ t.dig.ctxOf d.ctx = c)) ∧
    (s.InHand .dig k 0x05 d → Does (.free k) s (fun t => Completes s t .dig k d { code := .done } ∧ t.dig.ctxOf d.ctx = {}))

/-- O27. Measurements: EXTEND takes a digest from memory, and EXTEND_CTX the one of a FINAL context, which is freed: the register becomes
SHA-384 of itself and the tagged digest, its count one higher, and no other register changes; SNAP copies the registers; LOCK locks; a
write of DIG_MEAS_OWNERn gives each of its four bytes that is not VALID its VALID and DOMAIN, and keeps those that are. Rests on
17_digest.md R647, 17_digest.md R648, 17_digest.md R649, 17_digest.md R651. -/
def Obligations.Measurements : Prop :=
  ∀ (k : Nat) (d : Desc) (r : Fin 24) (s : State),
    (s.digCheck (s.ring .dig k) d = none → d.ctx < 16 → d.reg = r →
      let q := s.ring .dig k
      let new := fun x : Bytes => sha2 .sha384 (s.dig.meas[r] ++ measTag r d.alg q.ownerLevel q.ownerDomain (d.p 0x20 2) s.dig.count[r] x)
      let rest := fun t : State => ∀ i : Fin 24, i ≠ r → t.dig.meas[i] = s.dig.meas[i] ∧ t.dig.count[i] = s.dig.count[i]
      (s.InHand .dig k 0x20 d → s.Clears .dig k (d.inBufs d.length) → Does (.extend k) s (fun t =>
        Completes s t .dig k d { code := .done, bytes := d.length } ∧ t.dig.meas[r] = new (s.input .dig k d) ∧
        t.dig.count[r] = s.dig.count[r] + 1 ∧ rest t)) ∧
      (s.InHand .dig k 0x21 d → Does (.extendCtx k) s (fun t => Completes s t .dig k d { code := .done } ∧
        t.dig.meas[r] = new (s.dig.ctxOf d.ctx).digest ∧ t.dig.count[r] = s.dig.count[r] + 1 ∧ t.dig.ctxOf d.ctx = {} ∧ rest t))) ∧
    (s.mainRuns = true →
      Does .measSnap s (fun t => t = { s with dig := { s.dig with snap := s.dig.meas } }) ∧
      Does .measLock s (fun t => t = { s with dig := { s.dig with lock := true } }) ∧
      ∀ (n : Fin 2) (v : Word), Does (.measOwnerWrite n v) s (fun t => t = { s with dig := { s.dig with owner := t.dig.owner } } ∧
        ∀ i : Fin 8, (i.val / 4 ≠ n ∨ s.dig.owner[i].1 = true → t.dig.owner[i] = s.dig.owner[i]) ∧
          (i.val / 4 = n → s.dig.owner[i].1 = false → t.dig.owner[i] =
            (v.getLsbD (8 * (i.val % 4) + 7), v.toNat / 2 ^ (8 * (i.val % 4)) % 16))))

/-- O28. The multiplier: MUL, MAC and ROWMAC without a refused modulus or operand and with clear buffers write the low bytes of the exact
sum, the carry in RESULT; a refused FIELD operand completes VALUE and is counted. A job of rings 1 to 3 that has passed check 11 yields to one of ring 0 that has, keeping its bank,
and resumes when ring 0 has none or 32 have completed. Modulus registers: a write of SET makes a register VALID exactly if its value is
odd, has the top bit of its size and no bit above it; CLEAR makes it not VALID; a value word and SIZE are taken while it is not VALID, and
refused with the sticky flag while it is. Rests on 18_bignum.md R662, 18_bignum.md R664, 18_bignum.md R665, 18_bignum.md R668,
18_bignum.md R675, 18_bignum.md R679, 18_bignum.md R680. -/
def Obligations.WideProductsAndModuli : Prop :=
  (∀ (k op : Nat) (cmd : Instr) (d : Desc) (s : State),
      let z := d.p 0x18 1
      let b := s.input .wmu k d
      let sum := wmuSum op z (d.p 0x1A 1) b
      let fault := if d.field then wmuFieldFault op z (s.wmu.modOf (d.p 0x19 1)).value b else none
      ((op, cmd) ∈ [(1, Instr.mul k), (2, .mac k), (3, .rowmac k)] → s.InHand .wmu k op d → s.wmuBlocked k = false →
        (∀ x, s.modFault d = some x → Does cmd s (fun t => Completes s t .wmu k d { code := .value, detail := x } ∧
          t.wmu.valueRefused = sat16 s.wmu.valueRefused)) ∧
        (s.modFault d = none → s.Clears .wmu k (d.inBufs 1) →
          (∀ x, fault = some x → Does cmd s (fun t => Completes s t .wmu k d { code := .value, detail := x } ∧
            t.wmu.valueRefused = sat16 s.wmu.valueRefused)) ∧
          (fault = none → s.Clears .wmu k (d.outBufs 0 0) → Does cmd s (fun t => Puts s t .wmu k d (leBytes (wmuAcc z) sum) ∧
            Completes s t .wmu k d { code := .done, bytes := d.length, result := leBytes 1 (sum / 2 ^ (8 * wmuAcc z)) })))) ∧
      (∀ d0, s.mainRuns = true → (s.ring .wmu 0).cur = some d0 → (s.ring .wmu k).cur = some d → 1 ≤ k → s.wmuBlocked k = false →
        s.passes11 d0 = true → s.passes11 d = true → Does (.wmuYield k) s (fun t =>
          (∃ b, t = { s with wmu := { s.wmu with yielded := some (k, 0), yields := sat16 s.wmu.yields } }.takeDesc .wmu k
            { d with copy := some b }) ∧ t.mem = s.mem ∧ ∃ x, (t.ring .wmu k).cur = some x ∧ x.copy.isSome = true)) ∧
      (∀ q n, s.wmu.yielded = some (q, n) → (s.ring0Idle = true ∨ 32 ≤ n) → Does .wmuResume s (fun t =>
        t = { s with wmu := { s.wmu with yielded := none } }))) ∧
  (∀ (k : Fin 8) (j : Fin 128) (v : Word) (s : State), s.mainRuns = true →
      let m := s.wmu.mods[k]
      let n := if m.valid then m.size else v.toNat % 4
      (v.getLsbD 9 = false → m.valid = false → Does (.modSet k v) s (fun t => t.wmu.mods[k].size = n ∧ t.wmu.mods[k].value = m.value ∧
        (t.wmu.mods[k].valid = true ↔ m.value % 2 = 1 ∧ m.value.testBit (8 * wmuBytes n - 1) = true ∧ m.value < 2 ^ (8 * wmuBytes n)) ∧
        (t.wmu.mods[k].valid = false → t.wmu.refused = true))) ∧
      (v.getLsbD 8 = false → Does (.modClear k v) s (fun t => t.wmu.mods[k].valid = false ∧ t.wmu.mods[k].value = m.value)) ∧
      (m.valid = false →
        Does (.modValueWrite k (some j) v) s (fun t => t.wmu.mods[k].value / 2 ^ (32 * j.val) % 2 ^ 32 = v.toNat ∧
          ∀ i, i ≠ j.val → t.wmu.mods[k].value / 2 ^ (32 * i) % 2 ^ 32 = m.value / 2 ^ (32 * i) % 2 ^ 32) ∧
        Does (.modValueWrite k none v) s (fun t => t.wmu.mods[k] = { m with size := v.toNat % 4 })) ∧
      (m.valid = true →
        Does (.modValueWrite k (some j) v) s (fun t => t = { s with wmu := { s.wmu with writeIgnored := true } }) ∧
        Does (.modValueWrite k none v) s (fun t => t.wmu.mods[k] = m ∧ (v.toNat % 4 ≠ m.size → t.wmu.writeIgnored = true))) ∧
      ∀ i : Fin 8, i ≠ k → ∀ c, (c = Instr.modSet k v ∨ c = .modClear k v ∨ c = .modValueWrite k (some j) v) →
        Does c s (fun t => t.wmu.mods[i] = s.wmu.mods[i]))

/-! ## Keys, counters and flash -/

/-- O29. A key-store descriptor that passes check 11, with clear buffers and no hold or waiting compaction, writes its target slot LIVE
with its attributes, the generation one higher, and the material of its opcode: GENERATE fresh random bytes, IMPORT_PUBLIC the key, UNWRAP
the unwrapped material, AGREE the shared secret with USAGE DERIVE, DERIVE the HKDF output; the RESULT is the new generation. DELETE
empties it. Rests on 19_keys_counters.md R690, 19_keys_counters.md R692, 19_keys_counters.md R693, 19_keys_counters.md R694,
19_keys_counters.md R697. -/
def Obligations.NewKeys : Prop :=
  ∀ (k : Nat) (d : Desc) (s : State), s.ksm.compWait = false → s.provisional = false → s.ksmCheck (s.ring .ksm k) d = none →
    s.Clears .ksm k (d.inBufs d.length ++ d.outBufs 1 0) →
    let n := d.p 0x1C 2
    let src := s.ksm.slot (d.p 0x18 2)
    let b := s.input .ksm k d
    let g := (s.ksm.slot n).gen + 1
    let key (cls usage : Nat) (mat : Bytes) : Slot :=
      { st := .live, cls := cls, usage := usage, owner := d.p 0x24 1, persist := d.p 0x21 1 == 1, gen := g, mat := mat }
    let made (t : State) (x : Slot) (len : Nat) : Prop := t.ksm.slot n = x ∧ (∀ i, i ≠ n → t.ksm.slot i = s.ksm.slot i) ∧
      Completes s t .ksm k d { code := .done, bytes := len, result := leBytes 2 x.gen }
    (s.InHand .ksm k 0x01 d → Does (.generate k) s (fun t =>
      made t (key (d.p 0x20 1) (d.p 0x22 2) (Config.freeBytes s.freeCount (genLen (d.p 0x20 1) (d.p 0x25 1)))) 0)) ∧
    (s.InHand .ksm k 0x02 d → p256Valid b = true → Does (.importPublic k) s (fun t => made t (key 7 (d.p 0x22 2) b) d.length)) ∧
    (s.InHand .ksm k 0x02 d → p256Valid b = false → Does (.importPublic k) s (fun t =>
      Completes s t .ksm k d { code := .value, detail := 2 } ∧ t.ksm = s.ksm)) ∧
    (s.InHand .ksm k 0x03 d → ∀ attr mat, s.unwrap n b = .ok (attr, mat) → Does (.unwrap k) s (fun t =>
      made t { st := .live, cls := beAt attr 1 1, usage := beAt attr 2 2, owner := beAt attr 4 1, persist := beAt attr 5 1 == 1, gen := g, mat := mat }
        d.length)) ∧
    (s.InHand .ksm k 0x04 d → p256Valid b = true → Does (.agree k) s (fun t => made t (key 4 0x10 (Config.ecdh src.mat b)) d.length)) ∧
    (s.InHand .ksm k 0x05 d → d.outFr = [] → Does (.derive k) s (fun t =>
      made t (key (d.p 0x20 1) (d.p 0x22 2) (hkdf (b.take (d.p 0x26 1)) src.mat (b.drop (d.p 0x26 1)) (d.p 0x25 1))) d.length)) ∧
    (s.InHand .ksm k 0x08 d → Does (.delete k) s (fun t => t.ksm.slot (d.p 0x18 2) = { gen := src.gen + 1 } ∧
      (∀ i, i ≠ d.p 0x18 2 → t.ksm.slot i = s.ksm.slot i) ∧
      Completes s t .ksm k d { code := .done, result := leBytes 2 (src.gen + 1) }))

/-- O30. Uses of keys: DERIVE to memory, SIGN, PUBLIC and RANDOM give their bytes and change no slot; WAKE_LOAD puts the slot's key into
the channel's wake filter. A TRNG health failure is counted, and a failed start-up test, or the third failure within 2²⁰ bits, makes the
TRNG FAILED. Rests on 19_keys_counters.md R692, 19_keys_counters.md R695, 19_keys_counters.md R699, 19_keys_counters.md R700. -/
def Obligations.KeyUses : Prop :=
  ∀ (k : Nat) (d : Desc) (bit : Nat) (startup : Bool) (s : State),
    (s.ksm.compWait = false → s.provisional = false → s.ksmCheck (s.ring .ksm k) d = none →
      s.Clears .ksm k (if d.opcode = 9 then d.outBufs 0 0 else d.inBufs d.length ++ d.outBufs 1 0) →
      let src := s.ksm.slot (d.p 0x18 2)
      let b := s.input .ksm k d
      (s.InHand .ksm k 0x05 d → d.outFr ≠ [] → Does (.derive k) s (fun t => t.ksm = s.ksm ∧ Completes s t .ksm k d { code := .done, bytes := d.length } ∧
        Puts s t .ksm k d (hkdf (b.take (d.p 0x26 1)) src.mat (b.drop (d.p 0x26 1)) (d.p 0x25 1)))) ∧
      (s.InHand .ksm k 0x06 d → Does (.sign k) s (fun t => t.ksm.slots = s.ksm.slots ∧ Completes s t .ksm k d { code := .done, bytes := d.length } ∧
        Puts s t .ksm k d (Config.ecdsa (src.cls == 6) src.mat b s.freeCount))) ∧
      (s.InHand .ksm k 0x07 d → Does (.publicKey k) s (fun t => t.ksm = s.ksm ∧ Completes s t .ksm k d { code := .done } ∧
        Puts s t .ksm k d (if src.cls = 7 then src.mat else Config.publicKey (src.cls == 6) src.mat))) ∧
      (s.InHand .ksm k 0x09 d → Does (.random k) s (fun t => t.ksm.slots = s.ksm.slots ∧ Completes s t .ksm k d { code := .done, bytes := d.length } ∧
        Puts s t .ksm k d (Config.freeBytes s.freeCount d.length))) ∧
      (s.InHand .ksm k 0x0A d → ∀ c : Fin 16, c.val = d.p 0x28 2 % 16 → Does (.wakeLoad k) s (fun t =>
        Completes s t .ksm k d { code := .done } ∧ ∃ w, (t.lnk c).wf = some w ∧ w.key = src.mat ∧ w.slot = some (d.p 0x18 2)))) ∧
    (s.mainRuns = true → Does (.trngHealthFail startup bit) s (fun t => t.ksm.trngFails = sat16 s.ksm.trngFails ∧
      let n := (s.ksm.trngFailAt.filter (fun b => decide (bit < b + 1048576))).length
      (t.ksm.trng = .failed ↔ s.ksm.trng = .failed ∨ startup = true ∨ 2 ≤ n)))

/-- O31. Counters: CNT_READ gives the value; CNT_INC adds one and CNT_ADVANCE its DELTA, unless the sum passes 2⁶⁴ − 1, which completes
COUNTER_EXHAUSTED and leaves the counter; CNT_SYNC leaves no entry of the journal unprogrammed; CNT_MODE sets the mode. Formalises R707.
-/
def Obligations.Counters : Prop :=
  ∀ (k : Nat) (d : Desc) (s : State), s.ksm.compWait = false → s.provisional = false → s.ksmCheck (s.ring .ksm k) d = none →
    s.Clears .ksm k (d.inBufs d.length ++ d.outBufs 1 0) →
    let i := d.p 0x28 2
    let n := d.p 0x2A 2
    let v := s.ksm.cntOf i
    let others (t : State) : Prop := ∀ j, j ≠ i → t.ksm.cntOf j = s.ksm.cntOf j
    (s.InHand .ksm k 0x20 d → Does (.cntRead k) s (fun t => Completes s t .ksm k d { code := .done, result := leBytes 8 v } ∧ t.ksm = s.ksm)) ∧
    (s.InHand .ksm k 0x21 d →
      (v < cntMax → Does (.cntInc k) s (fun t => t.ksm.cntOf i = v + 1 ∧ others t ∧
        Completes s t .ksm k d { code := .done, result := leBytes 8 (v + 1) })) ∧
      (cntMax ≤ v → Does (.cntInc k) s (fun t => t.ksm.cntOf i = v ∧ Completes s t .ksm k d { code := .counterExhausted }))) ∧
    (s.InHand .ksm k 0x22 d →
      (v + n ≤ cntMax → Does (.cntAdvance k) s (fun t => t.ksm.cntOf i = v + n ∧ others t ∧ t.ksm.tail = [] ∧
        Completes s t .ksm k d { code := .done, result := leBytes 8 (v + n) })) ∧
      (cntMax < v + n → Does (.cntAdvance k) s (fun t => t.ksm.cntOf i = v ∧ Completes s t .ksm k d { code := .counterExhausted }))) ∧
    (s.InHand .ksm k 0x23 d → Does (.cntSync k) s (fun t => t.ksm.tail = [] ∧ t.ksm.cnt = s.ksm.cnt ∧ Completes s t .ksm k d { code := .done })) ∧
    (s.InHand .ksm k 0x24 d → Does (.cntMode k) s (fun t => (t.ksm.isSync i = true ↔ n = 1) ∧ t.ksm.cnt = s.ksm.cnt ∧ t.ksm.tail = [] ∧
      Completes s t .ksm k d { code := .done, result := leBytes 8 v }))

/-- O32. PROGRAM: with the page check passed and no error, every page to program takes its bytes and its flag, and the completion says
DONE, or DONE_SAME where each was the same already; a page out of order or not erased refuses it. ERASE: a blank block completes
DONE_SAME; its pulses begin; a verified end leaves the block blank with its erase count one higher, in memory and in RESULT. Rests on
20_flash.md R733, 20_flash.md R736, 20_flash.md R738, 20_flash.md R740, 20_flash.md R744, 20_flash.md R771. -/
def Obligations.FlashWrites : Prop :=
  ∀ (k pulses : Nat) (weak : List Nat) (d : Desc) (s : State), s.flashBusy k d = false → s.targetEnd (s.ring .flc k).who false d = .clear →
    let b := d.fpage / 512
    let v := s.flc.eraseView b k
    let blk := s.flc.blk b
    (s.InHand .flc k 0x01 d → s.flc.progOf k = none → s.Clears .flc k (d.inBufs 512) → d.length ≤ (s.input .flc k d).length →
      (∀ same rest, s.pageCheck weak d.fpages d.fpage (s.input .flc k d) 0 = .ok (same, rest) →
        Does (.program k .ends weak pulses) s (fun t => (∀ e ∈ rest, t.flc.flagged e.1 = true ∧ t.flc.page e.1 = e.2) ∧
          ∃ x, Completes s t .flc k d { code := if rest = [] then .doneSame else .done, bytes := d.length, result := x })) ∧
      (∀ code x, s.pageCheck weak d.fpages d.fpage (s.input .flc k d) 0 = .error (code, x) →
        Does (.program k .ends weak pulses) s (fun t => t.flc = s.flc ∧ Completes s t .flc k d { code := code, detail := x }))) ∧
    (s.InHand .flc k 0x02 d → s.provisional = false → v.own = false → v.stuck = false →
      (s.flc.blockBlank b = true → Does (.erase k (.ends true)) s (fun t =>
        Completes s t .flc k d { code := .doneSame, result := eraseResult blk.eraseCount v.sus false (decide (256 ≤ v.sus)) false })) ∧
      (s.flc.blockBlank b = false → blk.worn = false →
        Does (.erase k .starts) s (fun t => t.flc.eraseOf b = some { ring := k, block := b, mode := d.p 0x1C 1 }) ∧
        Does (.erase k (.ends true)) s (fun t => t.flc.blockBlank b = true ∧ (t.flc.blk b).eraseCount = blk.eraseCount + 1 ∧
          Completes s t .flc k d { code := .done, result := eraseResult (blk.eraseCount + 1) v.sus false (decide (256 ≤ v.sus)) false })))

/-- O33. Flash queries and control: BLANK answers how many pages are not blank and the first, MARGIN the worst correctable read and how
many are weak, INFO the block's pointer, count and state; a suspended erase resumes; a weight of 0 is refused, field by field; a session
opens once due, ends with its patrol moved on, and starves after its time. Rests on 20_flash.md R732, 20_flash.md R733, 20_flash.md R754,
20_flash.md R755. -/
def Obligations.FlashQueries : Prop :=
  ∀ (k : Nat) (weak : List Nat) (reads : List (Nat × Nat)) (bank : Fin 2) (w : Word) (d : Desc) (s : State),
    (s.flashBusy k d = false → s.targetEnd (s.ring .flc k).who false d = .clear →
      (s.InHand .flc k 0x03 d →
        let l := d.queryPages.filter (fun p => !s.flc.blank p || weak.contains (p % 512))
        Does (.blank k weak) s (fun t => t.flc = s.flc ∧ Completes s t .flc k d
          { code := .done, result := leBytes 2 l.length ++ leBytes 2 (match l with | p :: _ => p % 512 | [] => 0xFFFF) })) ∧
      (s.InHand .flc k 0x04 d →
        let bits (p : Nat) : Nat := lookupD 0 (p % 512) reads
        (∀ p ∈ d.queryPages, s.flc.poisoned p = false ∧ bits p ≤ 8) →
        Does (.margin k reads) s (fun t => Completes s t .flc k d
          { code := .done, result := leBytes 2 0 ++ leBytes 1 (d.queryPages.foldl (fun a p => max a (bits p)) 0) ++ [0]
              ++ leBytes 2 (d.queryPages.filter (fun p => decide (4 ≤ bits p))).length })) ∧
      (s.InHand .flc k 0x05 d →
        let b := d.fpage / 512
        Does (.info k) s (fun t => t.flc = s.flc ∧ ∃ x, Completes s t .flc k d
          { code := .done, result := leBytes 2 (s.flc.blk b).wp ++ leBytes 4 (s.flc.blk b).eraseCount ++ x }))) ∧
    (∀ j, s.flc.eraseOf (128 * bank.val) = some j → j.suspended = true → s.provisional = false → Does (.eraseResume bank) s (fun t =>
      t.flc.eraseOf (128 * bank.val) = some { j with suspended := false })) ∧
    (s.mainRuns = true → Does (.flcWeightWrite w) s (fun t => ∀ i : Fin 3,
      let x := w.toNat / 16 ^ i.val % 16
      (x = 0 → t.flc.weights[i] = s.flc.weights[i] ∧ t.flc.weightRefused = true) ∧ (x ≠ 0 → t.flc.weights[i] = x))) ∧
    (s.kilnReady = true → s.wheelRuns = true → s.crazed = false → s.flc.scrub = none →
      Does (.scrubSession reads false) s (fun t => t.flc.scrub = some t.tick ∧ t.flc.missed = 0) ∧
      (s.provisional = false → Does (.scrubSession reads true) s (fun t => t.flc.scrub = none ∧ t.flc.patrol = (s.flc.patrol + 10) % 259))) ∧
    (∀ k, s.flc.scrub = some k → s.mainRuns = true → Does .scrubStarvation s (fun t => t.flc.scrubStarved = true ∧
      t.tick = max s.tick (min (k + 1966080) (2 ^ 48 - 1))))

/-! ## The Ocnoix die and the Slip Joint -/

/-- O34. The joint: an accepted frame moves the expected LSEQ on, takes its ACK and CREDIT, and lets new frames out as far as the credit
goes, an IDLE frame where none waits; one with a wrong CRC or LSEQ changes nothing; a resend keeps every frame and counts its sends, and
after 32 sends of one the link is down; a link that is down drops the sessions, and so does a session frame with a wrong counter or MAC.
Rests on 12_metrology.md R481, 12_metrology.md R482. -/
def Obligations.SlipJoint : Prop :=
  ∀ (d : SjSide) (f : SjRx) (s : State), s.slipPowered = true →
    let e := s.slipEnd d
    (∀ a x b, s.Receives d f → e.unacked = a ++ x :: b → x.lseq = f.ack → (∀ y ∈ a, y.lseq ≠ f.ack) →
      Does (.idle d f) s (fun t =>
        let w := if e.waiting.isEmpty then [{ lseq := 0, type := 0x00, payload := [] }] else e.waiting
        let fs := numberFrames e.lseq (w.take (min 8 f.credit - b.length))
        (t.slipEnd d).expect = (e.expect + 1) % 65536 ∧ (t.slipEnd d).credit = min 8 f.credit ∧ (t.slipEnd d).unacked = b ++ fs ∧
        (t.slipEnd d).waiting = w.drop fs.length)) ∧
    (s.sjm.sj.up = true → s.met.sj.up = true → (f.crcOk = false ∨ f.lseq % 65536 ≠ e.expect) →
      Does (.idle d f) s (fun t => t = s ∨ t = s.wakeMain)) ∧
    (e.unacked ≠ [] →
      ((∀ x ∈ e.unacked, x.sends < 32) → Does (.slipJointResend d) s (fun t => t.out.length = s.out.length + e.unacked.length ∧
        t.slipEnd d = { e with unacked := e.unacked.map (fun (x : SjFrame) => { x with sends := x.sends + 1 }) })) ∧
      ((∃ x ∈ e.unacked, 32 ≤ x.sends) → Does (.slipJointResend d) s (fun t => t.sjm.sj.up = false ∧ t.met.sj.up = false))) ∧
    ((s.sjm.sj.up = false ∨ s.met.sj.up = false) → Does .slipJointDown s (fun t => t.sjm.sj.sess = none ∧ t.met.sj.sess = none)) ∧
    (∀ x, s.Receives d f → e.sess = some x → (f.ctr ≠ x.ctrRx ∨ f.mac ≠ slipMac x.kRx 0x10 f.ctr f.payload) →
      Does (.confirm d f) s (fun t => (t.slipEnd d).sess = none))

/-- O35. Sessions: the die answers HELLO_M with HELLO_O and CONFIRM under new keys, its session count one higher and committed first; the
main die answers HELLO_O with its CONFIRM, keeps what the die says of itself and measures it; an accepted CONFIRM makes the session live.
What the main die does with the frames of a live session: a BLOCK goes verbatim into a LEGAL record, and its HACK is sent once the record
is in the retention ring; LOAD_RESULT and MEASURE are kept. Rests on 12_metrology.md R482, 12_metrology.md R483, 11_uplink.md R419,
24_coincidences.md R870. -/
def Obligations.SlipSessionsAndReports : Prop :=
  (∀ (d : SjSide) (f : SjRx) (x : SjSess) (kp : Bytes) (s : State),
      (s.Receives .ocnoix f → s.met.keysLost = false → s.met.crazed = false → f.payload.length = 16 → Does (.helloM f) s (fun t =>
        let no := slipNo s.met.kp (s.met.sessions + 1)
        t.met.sessions = s.met.sessions + 1 ∧ t.met.journal.map (fun j => j.sessions) = some (s.met.sessions + 1) ∧
        t.met.sj.sess = some { kTx := slipKey s.met.kp 2 f.payload no, kRx := slipKey s.met.kp 1 f.payload no, ctrTx := 1 } ∧
        t.Queues .ocnoix [(0x02, no ++ s.met.mid ++ beBytes 4 s.met.swid ++ beBytes 2 s.met.sealcnt ++ beBytes 2 s.met.stateNow), (0x10, [])] ∧
        OnlyMet s t)) ∧
      (s.Receives .main f → s.wheelRuns = true → s.crazed = false → s.pairKey = some kp → s.sjm.sj.nm ≠ [] → s.sjm.sj.sess = none →
        f.payload.length = 40 → s.dig.count[9] < 2 ^ 32 - 1 → Does (.helloO f) s (fun t =>
          let no := slice 0 16 f.payload
          t.sjm.sj.sess = some { kTx := slipKey kp 1 s.sjm.sj.nm no, kRx := slipKey kp 2 s.sjm.sj.nm no, ctrTx := 1 } ∧
          t.sjm.mid = slice 16 16 f.payload ∧ t.sjm.swid = beAt f.payload 32 4 ∧ t.sjm.sealcnt = beAt f.payload 36 2 ∧
          t.sjm.state = beAt f.payload 38 2 ∧ t.dig.count[9] = s.dig.count[9] + 1 ∧ t.Queues .main [(0x10, [])])) ∧
      (s.Authentic d 0x10 f x → Does (.confirm d f) s (fun t =>
        ∃ n, (t.slipEnd d).sess = some { x with live := true, ctrRx := x.ctrRx + 1, ctrTx := n }))) ∧
  (∀ (f : SjRx) (x : SjSess) (s : State), x.live = true → s.wheelRuns = true →
      let p := f.payload
      let body := beBytes 1 (beAt p 0 1) ++ [0] ++ beBytes 2 p.length ++ p
      (s.Authentic .main 0x12 f x → 80 ≤ p.length → p.length ≤ 1024 → s.canSign (s.buildRec 0x07 body false) = true → s.ksm.cntOf 1 < cntMax →
        Does (.block f) s (fun t => (∃ r ∈ t.upl.ring, r.type = 0x07 ∧ r.body = body ∧ r.seq = s.ksm.cntOf 1 + 1) ∧
          (s.upl.todo = [] → s.upl.held = [] → t.sjm.hacks = [] ∧ t.Queues .main [(0x13, beBytes 8 (beAt p 20 8) ++ beBytes 8 (beAt p 20 8))]))) ∧
      (s.Authentic .main 0x16 f x → p.length = 8 → Does (.loadResult f) s (fun t => t.sjm.loadResult = some p ∧ t.sjm.loadOwner = none)) ∧
      (s.Authentic .main 0x17 f x → p.length = 196 → Does (.measure f) s (fun t => t.sjm.measure = p)))

/-- O36. What the die does with the frames of a live session: TIME of the right quality slews a difference under 2 s, and steps and logs a
larger one, closing the interval where it passes its end; HACK moves the pointer past a block; EXTRACT_REQ gets the entries it names; a
LOAD is refused while the seal is closed, kept chunk by chunk, and a whole parameter set or image that passes its checks is taken. A PRESS
moves the selection of MPULSE. Rests on 12_metrology.md R472, 12_metrology.md R474, 12_metrology.md R475, 12_metrology.md R477,
12_metrology.md R483, 12_metrology.md R480, 12_metrology.md R492, 12_metrology.md R497. -/
def Obligations.DieCommands : Prop :=
  ∀ (f : SjRx) (x : SjSess) (a : LArea) (s : State),
    let p := f.payload
    let m := s.met
    (s.Authentic .ocnoix 0x11 f x → x.live = true → p.length = 8 →
      let new := beAt p 0 4 * 1000 + beAt p 4 2 * 1000 / 65536
      let gap := (new : Int) - (m.mtime * 1000 + m.mfrac : Nat)
      (beAt p 6 1 ≠ 1 → Does (.time f) s (fun t => t.met = { m with sj := t.met.sj })) ∧
      (beAt p 6 1 = 1 → gap.natAbs < 2000 → Does (.time f) s (fun t =>
        t.met = { m with sj := t.met.sj, timeUnset := false, slew := gap } ∧ OnlyMet s t)) ∧
      (beAt p 6 1 = 1 → 2000 ≤ gap.natAbs → Does (.time f) s (fun t => t.met.mtime = beAt p 0 4 ∧ t.met.timeUnset = false ∧
        Notes s t 0x09 0xFF (beBytes 4 m.mtime ++ beBytes 4 (beAt p 0 4)) ∧ OnlyMet s t ∧
        t.met.ivIdx = m.ivIdx + (if m.ivStart / 900 * 900 + 900 ≤ beAt p 0 4 then 1 else 0)))) ∧
    (s.Authentic .ocnoix 0x13 f x → x.live = true → p.length = 16 →
      (∀ n first count old, (n, a, first, count, old) ∈ m.blocks → beAt p 0 8 ≤ n → n ≤ beAt p 8 8 → m.ptr a = first → 0 < count →
        Does (.hack f) s (fun t => first + count ≤ t.met.ptr a ∧ OnlyMet s t)) ∧
      ((∀ b ∈ m.blocks, (b.1 < beAt p 0 8 ∨ beAt p 8 8 < b.1) ∧ b.2.2.2.2 = false) → Does (.hack f) s (fun t => t.met.ptr a = m.ptr a))) ∧
    (s.Authentic .ocnoix 0x14 f x → x.live = true → p.length = 10 → m.crazed = false → m.keysLost = false →
      beAt p 0 1 = a.code → zeroAt p 1 3 = true → 0 < beAt p 8 2 → beAt p 8 2 ≤ a.perBlock →
      ∀ es : List Bytes, es.length = beAt p 8 2 → (∀ j, j < es.length → m.entryAt a (beAt p 4 4 + j) = es[j]?) →
        Does (.extractReq f) s (fun t => t.met.bseq = m.bseq + 1 ∧ OnlyMet s t ∧ t.Queues .ocnoix [(0x12,
          m.block 4 m.stateNow (beBytes 1 a.code ++ beBytes 1 es.length ++ [0, 0] ++ beBytes 4 (beAt p 4 4) ++ es.flatten))])) ∧
    (s.Authentic .ocnoix 0x15 f x → x.live = true → 8 ≤ p.length →
      let data := p.drop 8
      (m.sealOpen = false → Does (.load f) s (fun t => t.met.load = none ∧ Notes s t 0x05 0xFF (beBytes 1 (beAt p 0 1) ++ [1]) ∧ OnlyMet s t)) ∧
      (m.sealOpen = true → beAt p 1 1 = 0 → 1 ≤ data.length → data.length ≤ 1024 →
        (∀ l, m.load = some l → (l.kind = 1 ∨ l.kind = 2) → l.kind = beAt p 0 1 → l.total = beAt p 4 4 →
          l.next = beAt p 2 2 → 1 ≤ l.next → l.data.length + data.length < l.total → l.total ≤ (if l.kind = 1 then 336 else 262128) →
          Does (.load f) s (fun t => t.met.load = some { l with next := l.next + 1, data := l.data ++ data, last := data } ∧ OnlyMet s t)) ∧
        (m.load = none → beAt p 2 2 = 0 → beAt p 4 4 = data.length →
          (beAt p 0 1 = 1 → data.length = 336 → beAt data 0 4 = 0x4F4C5250 → beAt data 4 4 = 1 → slice 8 16 data = m.mid → beAt data 30 2 = 0 →
            m.lrpsVersion < beAt data 24 4 → m.keysLost = false → cmac m.ka (data.take 320) = slice 320 16 data →
            Does (.load f) s (fun t => t.met.nextLrps = some (lrpsOf data) ∧ t.met.evIdx = m.evIdx ∧ t.met.load = none ∧ OnlyMet s t)) ∧
          (beAt p 0 1 = 2 → m.judgeFw data = 0 → Does (.load f) s (fun t => t.met.fwActive = 1 - m.fwActive ∧
            t.met.swid = swidOf (data.take (data.length - 16)) ∧ t.met.load = none ∧
            t.met.journal.map (fun j => (j.bank, j.digest)) = some (1 - m.fwActive, sha2 .sha256 (data.take (data.length - 16))) ∧ OnlyMet s t))))) ∧
    (s.Receives .ocnoix f →
      let low := match m.mpSel with | .off => 0 | .ch n => n + 1 | .swid => 16
      (m.readout = true → Does (.press f) s (fun t => t.met.mpSel = m.mpSel)) ∧
      (m.readout = false → m.mpSel ≠ .swid →
        (∀ c, low ≤ c → c < 16 → m.fitted.testBit c = true → (∀ j, low ≤ j → j < c → m.fitted.testBit j = false) →
          Does (.press f) s (fun t => t.met.mpSel = .ch c ∧ t.met.mpAcc = 0 ∧ OnlyMet s t)) ∧
        ((∀ j, low ≤ j → j < 16 → m.fitted.testBit j = false) → Does (.press f) s (fun t => t.met.mpSel = .swid))) ∧
      (m.readout = false → m.mpSel = .swid → Does (.press f) s (fun t => t.met.mpSel = .off)))

/-- O37. A window adds a measured channel's net energy exactly to EIMP or EEXP, by its sign, up to 2⁶⁴ − 1, and nothing to a channel that
is not measured; a metrology second passes, and a parameter set accepted comes into force. Interval and day close into an entry with its
chain tag; the interval's registers are committed. MPULSE emits a pulse and keeps a backlog of 1000, and returns to OFF. Rests on
12_metrology.md R456, 12_metrology.md R457, 12_metrology.md R458, 12_metrology.md R463, 12_metrology.md R464, 12_metrology.md R466,
12_metrology.md R478, 12_metrology.md R479. -/
def Obligations.Metering : Prop :=
  ∀ (sums : List Sums) (c : Fin 16) (due : Nat) (s : State), s.metUp = true →
    let m := s.met
    let y := m.m[c]
    (∀ l, m.lrps = some l →
      let q := sums.getD c.val ⟨0, 0, 0⟩
      let e : Int := q.s * (l.gain.getD (16 + c.val) 0 : Nat) * (l.gain.getD c.val 0 : Nat)
      let u : Nat := 28800000000000000 * 4294967296
      let runs := l.fitted.testBit c.val = true ∧ y.hi ≠ .stuck ∧ y.hv ≠ .stuck ∧ y.chainFault = false ∧ m.xom = true ∧ m.skipWin = false
      Does (.windowClose sums) s (fun t =>
        let z := t.met.m[c]
        (runs → 0 < e → z.eimp = min (2 ^ 64 - 1) (y.eimp + (y.aimp + e.toNat) / u) ∧ z.aimp = (y.aimp + e.toNat) % u ∧
          z.eexp = y.eexp ∧ z.aexp = y.aexp) ∧
        (runs → e < 0 → z.eexp = min (2 ^ 64 - 1) (y.eexp + (y.aexp + (-e).toNat) / u) ∧ z.aexp = (y.aexp + (-e).toNat) % u ∧
          z.eimp = y.eimp ∧ z.aimp = y.aimp) ∧
        (¬ runs → (z.eimp, z.aimp, z.eexp, z.aexp, z.secs) = (y.eimp, y.aimp, y.eexp, y.aexp, y.secs)) ∧
        (runs → z.secs = y.secs + 1) ∧ OnlyMet s t)) ∧
    Does (.windowClose sums) s (fun t => t.met.sec = m.sec + 1 ∧ t.met.nextLrps = none ∧
      (m.slew = 0 → m.mfrac < 1000 → m.mtime + 1 < 2 ^ 32 → t.met.mtime = m.mtime + 1) ∧
      ∀ l, m.nextLrps = some l → t.met.lrps = some l ∧ t.met.prevLrps = m.lrps) ∧
    (let tag (key body : Bytes) (last : List Bytes) : Bytes :=
      if m.keysLost then zeros 8 else (cmac key (body ++ (match last with | [] => zeros 8 | b :: _ => b.drop (body.length)))).take 8
     Does .intervalClose s (fun t => OnlyMet s t ∧ t.met.ivIdx = m.ivIdx + 1 ∧ t.met.ivStart = t.met.mtime / 900 * 900 ∧ t.met.m[c].secs = 0 ∧
      (t.met.m[c].eimp0, t.met.m[c].eexp0) = (y.eimp, y.eexp) ∧
      (t.met.journal.map (fun j => j.regs) = some (m.m.toList.map (fun w => (w.eimp, w.eexp, w.aimp, w.aexp)))) ∧
      ∃ b, t.met.ivLog.head? = some (b ++ tag m.kl b m.ivLog) ∧ b.length = 248 ∧ beAt b 0 4 = m.ivStart % 2 ^ 32 ∧ beAt b 4 4 = m.ivIdx % 2 ^ 32 ∧
        beAt b (16 + 14 * c.val) 4 = (y.eimp - y.eimp0) % 2 ^ 32 ∧ beAt b (20 + 14 * c.val) 4 = (y.eexp - y.eexp0) % 2 ^ 32 ∧
        beAt b (24 + 14 * c.val) 2 = y.secs % 2 ^ 16) ∧
     Does .dailyClose s (fun t => OnlyMet s t ∧ t.met.dayIdx = m.dayIdx + 1 ∧ t.met.m[c].daySecs = 0 ∧ t.met.m[c].dayFlags = 0 ∧
      ∃ b, t.met.dayLog.head? = some (b ++ tag m.kl b m.dayLog) ∧ b.length = 504 ∧ beAt b 0 2 = m.dayStart / 86400 % 2 ^ 16 ∧
        beAt b (24 + 24 * c.val) 8 = y.eimp % 2 ^ 64 ∧ beAt b (32 + 24 * c.val) 8 = y.eexp % 2 ^ 64)) ∧
    (∀ n, m.mpSel = .ch n → m.readout = false → 0 < m.mpBacklog + due → Does (.mpulsePulse due) s (fun t =>
      t.met.mpCount = m.mpCount + 1 ∧ t.met.mpBacklog = min 1000 (m.mpBacklog + due - 1) ∧ OnlyMet s t ∧
      (m.mpBacklog + due ≤ 1001 → t.out = .mpulse :: s.out ∧ t.met.evIdx = m.evIdx) ∧
      (1001 < m.mpBacklog + due → Notes s t 0x14 0xFF (beBytes 4 (m.mpBacklog + due - 1001))))) ∧
    (m.mpSel ≠ .off → Does .mpulseTimeout s (fun t => OnlyMet s t ∧ t.met.mpSel = .off ∧ t.met.sec = max m.sec (m.mpAt + 86400)))

/-- O38. Self-check of the die: a slot of the spare chain that mismatches is logged and flags its channel, and the next slot judges it: a
second mismatch there is the spare's fault, one of the same channel in the next cycle puts the spare in its place. A change of an input's
health that the table has is taken and logged. SURGE, and XOM lost and retaken, act as they should. Rests on 12_metrology.md R454,
12_metrology.md R461, 12_metrology.md R462, 12_metrology.md R493, 12_metrology.md R496. -/
def Obligations.DieChecks : Prop :=
  ∀ (k : Nat) (c : Fin 16) (voltage : Bool) (h : Health) (s : State), s.metUp = true →
    let m := s.met
    (m.spareFault = false → m.spareFor = none → m.slot = c.val → m.fitted.testBit c.val = true → (m.otpWord 5).testBit c.val = false →
      Does (.spareSlot (some k)) s (fun t => OnlyMet s t ∧ t.met.m[c].suspect = true ∧ t.met.slot = (c.val + 1) % 16 ∧
        (m.mism = none → Notes s t 0x0B c.val (beBytes 2 k) ∧ t.met.mism = some (c.val, true)) ∧
        (∀ b, m.mism = some (c.val, b) → t.met.spareFor = some c.val ∧ t.met.substituted = true ∧ t.met.evIdx = m.evIdx + 2) ∧
        (∀ j, j ≠ c.val → m.mism = some (j, true) → t.met.spareFault = true ∧ t.met.evIdx = m.evIdx + 2)) ∧
      Does (.spareSlot none) s (fun t => OnlyMet s t ∧ t.met.evIdx = m.evIdx ∧ t.met.slot = (c.val + 1) % 16 ∧
        (∀ b, m.mism = some (c.val, b) → t.met.mism = none) ∧ (∀ j, j ≠ c.val → m.mism = some (j, true) → t.met.mism = some (j, false)))) ∧
    ((if voltage then m.m[c].hv else m.m[c].hi, h) ∈ [(Health.ok, Health.stuck), (.ok, .overrange), (.overrange, .stuck), (.stuck, .ok), (.overrange, .ok)] →
      Does (.inputHealthChange voltage c h) s (fun t => OnlyMet s t ∧ (if voltage then t.met.m[c].hv else t.met.m[c].hi) = h ∧
        (h = .stuck → t.met.m[c].stuckSeen = true) ∧ ∃ d, Notes s t 0x0A c.val d)) ∧
    (m.fitted.testBit c.val = true → m.surge = false → s.rails.vao = true → Does (.surgeAssert c) s (fun t =>
      t.met = { m with surge := true } ∧ t.tamp.refSurge = some s.tick)) ∧
    Does .surgeRelease s (fun t => t = { s with met := { m with surge := false } }) ∧
    (m.xom = true → m.grade = .none → m.crazedAt.length < 8 → Does .xomLost s (fun t => t.met.xom = false ∧ t.met.ivXom = true ∧
      t.met.grade = .crazed)) ∧
    (m.xom = false → Does .xomRetaken s (fun t => t = { s with met := { m with xom := true, skipWin := true } }))

/-- O39. The die's start and end: it restores the registers and the time of the journal, BSEQ 2²⁰ further, and runs or is in metrology
hold; a loss commits the registers. An opening of the seal counts in SEALCNT; the closing is logged with SWID and the parameter version.
Rests on 12_metrology.md R464, 12_metrology.md R465, 12_metrology.md R487, 12_metrology.md R488. -/
def Obligations.DieSupply : Prop :=
  ∀ (high commitOk xomOk : Bool) (bad : List Nat) (c : Fin 16) (s : State),
    let m := s.met
    (s.rails.vmet = false → ∀ j, m.journal = some j →
      Does (.vmetValid high bad xomOk) s (fun t => t.rails.vmet = true ∧ t.met.mtime = j.mtime ∧ t.met.bseq = j.bseq + 2 ^ 20 ∧
        t.met.timeUnset = true ∧ t.met.mpSel = .off ∧ t.met.sealOpen = high ∧ t.met.xom = xomOk ∧
        (t.met.m[c].eimp, t.met.m[c].eexp, t.met.m[c].aimp, t.met.m[c].aexp) = j.regs.getD c.val (0, 0, 0, 0) ∧
        t.met.sealcnt = (if high = true ∧ j.sealOpen = false ∧ j.sealcnt < 0xFFFF then j.sealcnt + 1 else j.sealcnt) ∧
        (m.otpHeld = true → t.met.hold = some 1 ∧ t.met.running = false) ∧
        (m.otpHeld = false → m.startBank = none → t.met.hold = some 2 ∧ t.met.running = false) ∧
        (∀ b, m.otpHeld = false → m.startBank = some b → t.met.hold = none ∧ t.met.running = true ∧ t.met.fwActive = b ∧
          t.met.swid = swidOf (if b = 0 then m.fwA.image else m.fwB.image)) ∧ OnlyMet { s with rails := t.rails } t)) ∧
    (s.rails.vmet = true → m.running = true → Does (.vmetInvalid commitOk) s (fun t => t.rails.vmet = false ∧ t.met.running = false ∧
      t.met.sj = {} ∧ t.sjm.sj.sess = none ∧ t.sjm.sj.up = false ∧ t.met.lossAt = m.mtime ∧
      (commitOk = true → ∃ j, t.met.journal = some j ∧ j.mtime = m.mtime ∧ j.regs = m.m.toList.map (fun w => (w.eimp, w.eexp, w.aimp, w.aexp))) ∧
      (commitOk = false → t.met.journal = m.journal ∧ t.met.commitLost = true))) ∧
    (s.metPowered = true → m.sealOpen = false → Does (.sealOpenChange true) s (fun t => t.met.sealOpen = true ∧ OnlyMet s t ∧
      t.met.sealcnt = (if m.sealcnt < 0xFFFF then m.sealcnt + 1 else m.sealcnt) ∧
      (m.live = true ∨ (m.hold = none ∧ m.sec < m.sessEnd + 600) →
        Notes s t (if m.sealcnt < 0xFFFF then 0x01 else 0x13) 0xFF [] ∧ t.met.readout = m.readout) ∧
      (m.live = false → m.hold = none → m.sessEnd + 600 ≤ m.sec → t.met.readout = true))) ∧
    (s.metPowered = true → m.sealOpen = true → m.load = none → Does (.sealOpenChange false) s (fun t => t.met.sealOpen = false ∧ OnlyMet s t ∧
      t.met.readout = false ∧ t.met.sealcnt = m.sealcnt ∧ Notes s t 0x02 0xFF (beBytes 4 m.swid ++ beBytes 4 m.lrpsVersion)))

/-- O40. The die's grades: a dip beside a SURGE gives Watch and is logged; a light trip with the seal closed, or cause 0x28 or 0x2A, burns
its keys; the other causes give Crazed, from which a passed self-check after the quiet interval leads back. The main die takes and reports
each change of the two wires. Rests on 07_tamper.md R246, 07_tamper.md R248, 07_tamper.md R249, 07_tamper.md R255, 12_metrology.md R470,
12_metrology.md R471, 12_metrology.md R485, 12_metrology.md R490. -/
def Obligations.DieGrades : Prop :=
  ∀ (cause index : Nat) (near level : Bool) (s : State),
    let m := s.met
    (s.metPowered = true → m.grade = .none →
      ((near = true ∨ m.surge = true) → Does (.ocnoixSensorTrip 0x21 index near) s (fun t => t.met.grade = .none ∧ OnlyMet s t ∧
        Notes s t 0x0E 0xFF ([1, 0x21] ++ beBytes 1 index))) ∧
      ((cause ∈ [0x28, 0x2A] ∨ (cause = 0x25 ∧ m.sealOpen = false)) → Does (.ocnoixSensorTrip cause index near) s (fun t =>
        t.met.grade = .shattered ∧ t.met.keysLost = true ∧ t.met.kv = List.replicate 16 0xFF ∧ t.met.ka = List.replicate 16 0xFF ∧
        t.met.kp = List.replicate 16 0xFF ∧ t.met.running = m.running)) ∧
      ((cause ∈ [0x20, 0x23, 0x24, 0x26, 0x27, 0x29] ∨ (cause = 0x21 ∧ near = false ∧ m.surge = false) ∨ (cause = 0x25 ∧ m.sealOpen = true)) →
        m.crazedAt.length < 8 → Does (.ocnoixSensorTrip cause index near) s (fun t => t.met.grade = .crazed ∧ t.met.quietFrom = m.sec ∧
          t.met.keysLost = m.keysLost ∧ t.met.sj.sess = none))) ∧
    (s.metPowered = true → m.grade = .crazed →
      (m.selfCheck = false → Does .ocnoixCrazedQuietExpiry s (fun t => t.met.selfCheck = true ∧ t.met.grade = .crazed ∧ t = { s with met := t.met })) ∧
      (m.selfCheck = true → Does (.ocnoixSelfcheckDone level) s (fun t => OnlyMet s t ∧ t.met.selfCheck = false ∧
        (level = true → m.selfCheckTrip = false → t.met.grade = .none ∧ t.met.latches = []) ∧
        ((level = false ∨ m.selfCheckTrip = true) → t.met.grade = .crazed ∧ t.met.quietFrom = m.sec)))) ∧
    (s.rails.vao = true →
      (s.sjm.metfault ≠ level → Does (.metfaultChange level) s (fun t =>
        Logged { s with irq := s.irq ||| 2 ^ 17, sjm := { s.sjm with metfault := level } } t)) ∧
      (s.sjm.sealstate ≠ level → Does (.sealstateChange level) s (fun t =>
        Logged { s with irq := s.irq ||| 2 ^ 17, sjm := { s.sjm with sealstate := level } } t)))

/-! ## Cores and access protection -/

/-- O41. Loads of a core: a misaligned or refused one traps, with P_FAULT and the address named; one that consults a unit in UPDATE is
held; one of shared SRAM takes each byte from the newest buffered store that covers it, else from memory; one of local data memory reads
it; an uncorrectable word traps with KIND 6 and a poisoned flash page with KIND 7. Register x0 stays, the pc moves on, and nothing else
changes. Rests on 13_cores.md R503, 13_cores.md R515, 14_protection.md R549, 14_protection.md R550, 14_protection.md R558,
14_protection.md R563. -/
def Obligations.CoreLoads : Prop :=
  ∀ (k : Fin 2) (addr : Word) (size : AccSize) (signed : Bool) (rd : Fin 32) (s : State), s.coreActive k = true →
    let a := addr.toNat
    let n := accBytes size
    let w := s.accWho k
    let c := s.core[k]
    let load (e : Ecc) := Instr.coreLoad k addr size signed rd e
    let faults (t : State) (kind f : Nat) : Prop := Core.Trapped { c with pFault := pFaultWord w .read kind } t.core[k] 5 f
    let takes (t : State) (l : Bytes) : Prop := OnlyCore s t k ∧ t.core[k].pc = (c.pc + s.instrLen k) % 2 ^ 32 ∧
      (∀ r : Fin 32, (r ≠ rd ∨ rd = 0) → t.core[k].regs[r] = c.regs[r]) ∧
      (rd ≠ 0 → signed = true → t.core[k].regs[rd].toInt = (BitVec.ofNat (8 * n) (ofLe l)).toInt) ∧
      (rd ≠ 0 → signed = false → t.core[k].regs[rd].toNat = ofLe l)
    (∀ e, c.level ≠ .p2 → a % n ≠ 0 → Does (load e) s (fun t => OnlyCore s t k ∧ c.Trapped t.core[k] 4 a)) ∧
    (∀ e, a % n = 0 → s.prot.holds w a n = true → Does (load e) s (fun t =>
      t = { s with prot := { s.prot with held := s.prot.held ++ [.load k a n signed rd] } })) ∧
    (∀ e kind f, c.level ≠ .p2 → a % n = 0 → s.prot.holds w a n = false → s.prot.check w .read false a n = some (kind, f) →
      Does (load e) s (fun t => OnlyCore s t k ∧ faults t kind f)) ∧
    (s.Allows k .read a n →
      (0x20000000 ≤ a → a < 0x20C00000 →
        (s.badWord a = false → Does (load .clean) s (fun t => ∃ l, l.length = n ∧ takes t l ∧ ∀ i, i < n →
          let hit (e : StoreEnt) := e.addr = (a + i) / 4 * 4 ∧ e.mask.testBit ((a + i) % 4) = true
          ((∀ e ∈ c.sbuf, ¬ hit e) → l[i]? = some (readByte s.mem (a + i))) ∧
          (∀ p e q, c.sbuf = p ++ e :: q → hit e → (∀ x ∈ q, ¬ hit x) → l[i]? = some (BitVec.ofNat 8 (e.data / 256 ^ ((a + i) % 4)))))) ∧
        (c.sbuf = [] → c.level ≠ .p2 → Does (load .uncorrectable) s (fun t => t.memError = true ∧ t.badWord a = true ∧ faults t 6 a))) ∧
      (0x04000000 ≤ a → a < 0x04040000 → a / 4 * 4 ∉ (s.ldmBad[k] : List Nat) → Does (load .clean) s (fun t => takes t (readBytes s.ldm[k] a n))) ∧
      (0x10000000 ≤ a → a < 0x14000000 → c.level ≠ .p2 → s.flc.poisoned (a % 0x10000000 / 512) = true →
        Does (load .clean) s (fun t => faults t 7 a)))

/-- O42. Stores of a core: to shared SRAM they enter the buffer while it has room and no commit waits, else the core stalls, and memory is
as it was; to local data memory they write their bytes and no other; misaligned or refused they trap. A drain writes the masked bytes of
the oldest entry and no other; FENCE from writes to reads waits for the buffer, and FENCE.I empties buffer and cache. Rests on 13_cores.md
R510, 13_cores.md R516, 13_cores.md R517, 13_cores.md R518, 14_protection.md R558, 14_protection.md R563. -/
def Obligations.CoreStores : Prop :=
  ∀ (k : Fin 2) (addr : Word) (size : AccSize) (v : Word) (ecc : Ecc) (s : State),
    let a := addr.toNat
    let n := accBytes size
    let c := s.core[k]
    let store := Instr.coreStore k addr size v ecc
    (s.coreActive k = true → s.prot.held = [] →
      (c.level ≠ .p2 → a % n ≠ 0 → Does store s (fun t => OnlyCore s t k ∧ c.Trapped t.core[k] 6 a)) ∧
      (∀ kind f, c.level ≠ .p2 → a % n = 0 → s.prot.holds (s.accWho k) a n = false → s.prot.check (s.accWho k) .write false a n = some (kind, f) →
        Does store s (fun t => OnlyCore s t k ∧ Core.Trapped { c with pFault := pFaultWord (s.accWho k) .write kind } t.core[k] 7 f)) ∧
      (s.Allows k .write a n → 0x20000000 ≤ a → a < 0x20C00000 → Does store s (fun t => OnlyCore s t k ∧
        (c.sbuf.length < 4 → s.prot.commits = [] → t.core[k].pc = (c.pc + s.instrLen k) % 2 ^ 32 ∧ t.core[k].regs = c.regs ∧
          t.core[k].sbuf = c.sbuf ++ [{ addr := a / 4 * 4, mask := (2 ^ n - 1) * 2 ^ (a % 4), data := v.toNat % 256 ^ n * 256 ^ (a % 4) }]) ∧
        (4 ≤ c.sbuf.length ∨ s.prot.commits ≠ [] → t.core[k] = { c with stalled := some (a, n, v.toNat) }))) ∧
      (s.Allows k .write a n → 0x04000000 ≤ a → a < 0x04040000 → Does store s (fun t => t.mem = s.mem ∧
        t.core[k].pc = (c.pc + s.instrLen k) % 2 ^ 32 ∧ t.core[k].regs = c.regs ∧ readBytes t.ldm[k] a n = leBytes n v.toNat ∧
        (∀ b, (b < a ∨ a + n ≤ b) → readByte t.ldm[k] b = readByte s.ldm[k] b) ∧ ∀ j : Fin 2, j ≠ k → t.ldm[j] = s.ldm[j]))) ∧
    (s.mainRuns = true → c.stalled = none → ∀ e l, c.sbuf = e :: l → Does (.storeDrain k ecc) s (fun t => t.core[k].sbuf = l ∧
      (∀ i, i < 4 → e.mask.testBit i = true → readByte t.mem (e.addr + i) = BitVec.ofNat 8 (e.data / 256 ^ i)) ∧
      (∀ b, (∀ i, i < 4 → e.mask.testBit i = true → b ≠ e.addr + i) → readByte t.mem b = readByte s.mem b) ∧
      t.core[k].regs = c.regs ∧ (c.fence = true → l = [] → t.core[k].fence = false ∧ t.core[k].pc = (c.pc + 4) % 2 ^ 32) ∧
      (c.fence = false ∨ l ≠ [] → t.core[k] = { c with sbuf := l }))) ∧
    (s.coreActive k = true →
      (∀ w r, Does (.fence k w r) s (fun t => OnlyCore s t k ∧
        (w = true → r = true → c.sbuf ≠ [] → t.core[k] = { c with fence := true }) ∧
        (w = false ∨ r = false ∨ c.sbuf = [] → t.core[k].pc = (c.pc + 4) % 2 ^ 32 ∧ t.core[k].sbuf = c.sbuf))) ∧
      Does (.fenceI k) s (fun t => t.core[k].sbuf = [] ∧ t.core[k].icache = [] ∧ t.core[k].pc = (c.pc + 4) % 2 ^ 32 ∧
        t.core[k].regs = c.regs))

/-- O43. Exceptions and interrupts: in U mode an exception saves the pc and the value in the machine's registers; where an applet runs it
counts as a fault of it, the third within 24 h quarantines it, and the first of a fresh image bars it. An enabled interrupt is taken, its
event sources served, and the core goes on. Cache parity errors are counted. Rests on 13_cores.md R500, 13_cores.md R509, 13_cores.md
R525, 13_cores.md R526, 13_cores.md R527. -/
def Obligations.CoreTraps : Prop :=
  ∀ (k : Fin 2) (cause : Fin 8) (mtval addr : Word) (kind : Fin 9) (s : State),
    let c := s.core[k]
    let type : Option AccType := match cause.val with | 1 => some .exec | 5 => some .read | 7 => some .write | _ => none
    let c1 := match type with | some x => { c with pFault := pFaultWord (s.accWho k) x kind.val } | none => c
    (s.coreActive k = true → c.level = .p2 → cause ≠ 0 →
      (s.running k = none → Does (.exception k cause mtval kind) s (fun t => OnlyCore s t k ∧ c1.Trapped t.core[k] cause.val mtval.toNat)) ∧
      (∀ d, s.running k = some d → Does (.exception k cause mtval kind) s (fun t =>
        (s.app[d].fresh = false → t.app[d].faults.head? = some s.powered ∧
          (2 ≤ s.app[d].faults.length → (∀ x ∈ s.app[d].faults, s.powered < x + 2831155200) → t.app[d].quar = some 7)) ∧
        (s.app[d].fresh = true → t.app[d].quar = some 8 ∧ t.app[d].barred = (s.installOf d).map (fun x => x.digest))))) ∧
    (s.meipOf k = false → Does (.interrupt k) s (fun t => OnlyCore s t k ∧ t.core[k] = { c with meip := false })) ∧
    (s.coreActive k = true → s.meipOf k = true → c.meie = true → (c.level = .p2 ∨ c.mie = true) → Does (.interrupt k) s (fun t =>
      t.irq = s.irq - (s.irq &&& (c.ienable &&& 0x24001)) ∧ t.memError = (s.memError && !c.ienable.testBit 16) ∧
      t.core[k].mepc = c.pc ∧ t.core[k].mcause = 2 ^ 31 + 11)) ∧
    (s.coreActive k = true → addr.toNat / 32 * 32 ∈ c.icache → Does (.cacheParityError k addr) s (fun t => OnlyCore s t k ∧
      t.core[k].parity = sat16 c.parity ∧ t.core[k].pc = c.pc ∧ t.core[k].regs = c.regs))

/-- O44. Machine-mode registers: the handover sets P_LEVEL for good and core 0's locks the boot measurements; IPI RAISE and CLEAR set and
clear MSIP, and release core 1 from its boot wait; a CSR takes what it is written; in U mode each of these is an illegal instruction. A
write to the register space acts by its fields. Rests on 13_cores.md R501, 13_cores.md R504, 13_cores.md R503, 13_cores.md R510,
17_digest.md R648. -/
def Obligations.MachineRegisters : Prop :=
  ∀ (k : Fin 2) (v : Word) (s : State),
    let c := s.core[k]
    let o : Fin 2 := if k = 0 then 1 else 0
    let next (t : State) : Prop := t.core[k].pc = (c.pc + 4) % 2 ^ 32
    let csr (n : Nat) (P : State → Prop) : Prop := Does (.registerWrite k (.csr n) v) s (fun t => OnlyCore s t k ∧ next t ∧ P t)
    (s.coreActive k = true → c.level ≠ .p2 →
      (c.pLevel = false → Does (.pHandover k) s (fun t => next t ∧ t.core[k].pLevel = true ∧ t.core[k].level = .p1 ∧
        t.dig.bootLock = (s.dig.bootLock || decide (k = 0)) ∧ t.dig.meas = s.dig.meas)) ∧
      (c.pLevel = true → Does (.pHandover k) s (fun t => OnlyCore s t k ∧ next t ∧ t.core[k].pLevel = true)) ∧
      (s.core[o].pLevel = true → Does (.ipiRaise k) s (fun t => next t ∧ t.core[o].msip = true ∧ t.core[o].pc = s.core[o].pc)) ∧
      (k = 0 → s.core[o].msip = false → s.core[o].pLevel = false → Does (.ipiRaise k) s (fun t =>
        t.core[o].msip = true ∧ t.core[o].pLevel = true ∧ t.core[o].wfi = false)) ∧
      Does (.ipiClear k) s (fun t => OnlyCore s t k ∧ next t ∧ t.core[k].msip = false) ∧
      csr 0x300 (fun t => t.core[k].mie = v.getLsbD 3 ∧ t.core[k].mprv = v.getLsbD 17 ∧ t.core[k].tw = v.getLsbD 21) ∧
      csr 0x304 (fun t => t.core[k].msie = v.getLsbD 3 ∧ t.core[k].meie = v.getLsbD 11) ∧
      csr 0x305 (fun t => t.core[k].mtvec = v.toNat / 4 * 4 + (if v.toNat % 4 = 1 then 1 else 0)) ∧
      csr 0x340 (fun t => t.core[k].mscratch = v.toNat) ∧
      csr 0x341 (fun t => t.core[k].mepc = v.toNat / 2 * 2) ∧
      csr 0x7C0 (fun t => t.core[k].domain = v.toNat % 16) ∧
      csr 0x7C2 (fun t => t.core[k].ienable = v.toNat % 2 ^ 18)) ∧
    (s.coreActive k = true → c.level = .p2 → s.running k = none →
      ∀ i ∈ [Instr.pHandover k, .ipiRaise k, .ipiClear k, .registerWrite k (.csr 0x340) v], Does i s (fun t => OnlyCore s t k ∧
        ∃ x, c.Trapped t.core[k] 2 x)) ∧
    (s.mainRuns = true → s.prot.held = [] →
      Does (.registerWrite k (.space 0x30030840) v) s (fun t => t = { s with prot := { s.prot with probeBase := v.toNat } }) ∧
      Does (.registerWrite k (.space 0x30030810) v) s (fun t => t.prot.writeLocked = (s.prot.writeLocked && !v.getLsbD 1) ∧
        t.prot.commitRefused = (s.prot.commitRefused && !v.getLsbD 0) ∧ t = { s with prot := t.prot }))

/-- O45. Region registers: a write changes its field of the shadow alone, or under LOCK of the active copy nothing but WRITE_LOCKED; the
active regions stay. Rests on 14_protection.md R541, 14_protection.md R554, 14_protection.md R565, 14_protection.md R566, 14_protection.md
R568. -/
def Obligations.RegionWrites : Prop :=
  ∀ (k : Fin 2) (n : Fin 64) (g : Fin 26) (r : Fin 8) (v : Word) (s : State), s.coreActive k = true → s.prot.held = [] → g ≠ 3 → g ≠ 4 →
    let p := s.prot
    let i := 8 * g.val + r.val
    let does (x : RegionReg) (P : Prot → Prop) : Prop := s.Allows k .write (regionAddr x) 4 → Does (.regionWrite k x v) s (fun t =>
      t.prot.ipt = p.ipt ∧ t.prot.gate = p.gate ∧ t.prot.commits = p.commits ∧ P t.prot)
    let others (q : Prot) : Prop := q.gateS = p.gateS ∧ ∀ m : Fin 64, m ≠ n → q.iptS[m] = p.iptS[m]
    (p.ipt[n].perm / 2 ^ 30 % 2 = 0 →
      does (.iptStart n) (fun q => q.iptS[n] = { p.iptS[n] with start := v.toNat / 32 * 32 } ∧ others q) ∧
      does (.iptEnd n) (fun q => q.iptS[n] = { p.iptS[n] with stop := v.toNat / 32 * 32 } ∧ others q) ∧
      does (.iptPerm n) (fun q => q.iptS[n] = { p.iptS[n] with perm := v.toNat &&& 0xC003F1FF } ∧ others q)) ∧
    (p.ipt[n].perm / 2 ^ 30 % 2 = 1 → ∀ x ∈ [RegionReg.iptStart n, .iptEnd n, .iptPerm n], does x (fun q => q = { p with writeLocked := true })) ∧
    ((p.gate.toList.getD i {}).perm / 2 ^ 30 % 2 = 0 →
      does (.gateBase g r) (fun q => q.iptS = p.iptS ∧ q.gateS.toList.getD i {} =
        { p.gateS.toList.getD i {} with start := v.toNat / 256 * 256, stop := v.toNat % 32 }) ∧
      does (.gatePerm g r) (fun q => q.iptS = p.iptS ∧ q.gateS.toList.getD i {} = { p.gateS.toList.getD i {} with perm := v.toNat &&& 0xC003F1FF })) ∧
    ((p.gate.toList.getD i {}).perm / 2 ^ 30 % 2 = 1 →
      ∀ x ∈ [RegionReg.gateBase g r, .gatePerm g r], does x (fun q => q = { p with writeLocked := true }))

/-- O46. Changing protection: a commit write with an invalid region is refused with the region it names; a valid one waits for its
instant, at which every shadow becomes active, UPDATE ends, GEN counts and the caches are empty; PROT_UPDATE takes its bits; the probe
answers as the check would and makes no access; a held access that reaches its limit faults with KIND 8. Rests on 14_protection.md R555,
14_protection.md R556, 14_protection.md R557, 14_protection.md R558, 14_protection.md R559, 14_protection.md R572. -/
def Obligations.ProtectionChanges : Prop :=
  ∀ (k : Fin 2) (v : Word) (s : State),
    let p := s.prot
    (s.coreActive k = true → p.held = [] → s.Allows k .write 0x30030804 4 →
      (p.commits = [] → p.commitFault = 0 → Does (.protCommit k) s (fun t => t.prot = { p with commits := [k] })) ∧
      (p.commits ≠ [] → Does (.protCommit k) s (fun t => t.prot = { p with commits := p.commits ++ [k] })) ∧
      (∀ n : Fin 64, p.commits = [] → p.iptS[n].perm / 2 ^ 31 % 2 = 1 → p.iptS[n].stop ≤ p.iptS[n].start →
        (∀ m : Fin 64, m < n → p.iptS[m].perm / 2 ^ 31 % 2 = 0 ∧ p.ipt[m].perm / 2 ^ 30 % 2 = 0) →
        Does (.protCommit k) s (fun t => t.prot = { p with commitRefused := true, cstat := 2 ^ 12 + n.val }))) ∧
    (p.commits = [k] → p.held = [] → (∀ j : Fin 2, s.core[j].stalled = none) → Does .commitInstant s (fun t =>
      t.prot = { p with ipt := p.iptS, gate := p.gateS, gen := sat16 p.gen, update := 0, commits := [] } ∧
      ∀ j : Fin 2, t.core[j].icache = [] ∧ t.core[j].sbuf = [])) ∧
    (s.coreActive k = true → p.held = [] → s.Allows k .write 0x30030800 4 → Does (.protUpdate k v) s (fun t =>
      t.prot = { p with update := v.toNat &&& 0x7FFFFE7 })) ∧
    (s.coreActive k = true → p.held = [] → s.Allows k .write 0x30030848 4 →
      let level := v.toNat / 16 % 4
      let type := v.toNat / 4 % 4
      let w : Who := ⟨level, v.toNat / 256 % 16, some k⟩
      let x : AccType := if type = 0 then .read else if type = 1 then .write else .exec
      let held := if p.inUpdate w p.probeBase p.probeLen then 4 else 0
      level < 3 → type < 3 → 0 < p.probeLen → p.probeBase + p.probeLen ≤ 2 ^ 32 → Does (.protProbe k v) s (fun t =>
        (p.check w x false p.probeBase p.probeLen = none → t.prot = { p with probeRes := p.gen * 2 ^ 16 + held + 3, probeAddr := 0 }) ∧
        (∀ kind f, p.check w x false p.probeBase p.probeLen = some (kind, f) →
          t.prot = { p with probeRes := p.gen * 2 ^ 16 + kind * 16 + held + 1, probeAddr := f }))) ∧
    (∀ a n signed rd rest, p.held = .load k a n signed rd :: rest → s.running k = none → Does .heldAccessTimeout s (fun t =>
      t.prot = { p with held := rest } ∧ Core.Trapped { s.core[k] with pFault := pFaultWord (s.accWho k) .read 8 } t.core[k] 5 a))

/-! ## Kernel calls and applets -/

/-- O47. An ECALL is the call its number names, with the pc saved and cause 8; a number not defined or not allowed returns ACCESS, one
above 0xFF MALFORMED. WAIT returns the events of its mask, or waits; TIME writes the time; CH_STATUS and CH_EVENT give status and head
entry; GRANT and WITHDRAW act on the guard, and are refused with VALUE where they must be. Rests on 21_applets.md R783, 21_applets.md
R784, 01_cabinet.md R42, 13_cores.md R528. -/
def Obligations.ChannelCalls : Prop :=
  ∀ (n : Nat) (c : KCall) (ch : Fin 16) (s : State), s.Calls n c →
    let k := c.core
    let x := s.due ch
    let mine := c.a 0 = ch.val ∧ ch ∈ s.governed c.dom
    (∀ i, (n, i) ∈ [(0x01, Instr.wait k), (0x02, .callTime k), (0x03, .quiesce k), (0x10, .chStatus k), (0x11, .chEvent k), (0x12, .callGrant k),
        (0x13, .callWithdraw k), (0x20, .linkReq k), (0x21, .linkAtn k), (0x22, .linkState k), (0x30, .report k), (0x40, .keyGen k),
        (0x41, .keyDerive k), (0x42, .keyDelete k), (0x43, .keySign k), (0x50, .callCntRead k), (0x51, .callCntInc k), (0x60, .callMeasure k),
        (0x61, .metroLoad k), (0x70, .flashProg k), (0x71, .flashErase k)] → exec (.ecall k) s = exec i s) ∧
    (n = 0x01 → c.a 0 ≤ 127 →
      (c.a 0 &&& s.waitEvents c.dom ≠ 0 → Does (.wait k) s (fun t => Returned s t c 0 (s.waitEvents c.dom) ∧ t.ch = s.ch)) ∧
      (c.a 0 &&& s.waitEvents c.dom = 0 → Does (.wait k) s (fun t => Waits t c 1 ∧ t.ch = s.ch))) ∧
    (n = 0x02 → s.Buf c .write (c.a 0) 16 → Does (.callTime k) s (fun t => Returned s t c 0 0 ∧ Writes s t c (c.a 0) s.timeBytes ∧ t.ch = s.ch)) ∧
    (n = 0x10 → mine → Does (.chStatus k) s (fun t => Returned s t c 0 (s.chan ch).stat.toNat ∧ t.ch = s.ch)) ∧
    (n = 0x11 → mine → s.Buf c .write (c.a 1) 8 →
      ((s.chan ch).fifo = [] → Does (.chEvent k) s (fun t => Returned s t c 0 0 ∧ t.ch = s.ch)) ∧
      (∀ e l, (s.chan ch).fifo = e :: l → Does (.chEvent k) s (fun t => Returned s t c 0 1 ∧ (t.chan ch).fifo = x.fifo.drop 1 ∧
        Writes s t c (c.a 1) (leBytes 8 e.word.toNat) ∧ ∀ d, d ≠ ch → t.chan d = s.chan d))) ∧
    (n = 0x12 → mine → x.fused = false → x.frozen = false →
      (x.eclass.guarded = true → x.grantable = true → Does (.callGrant k) s (fun t => Returned s t c 0 0 ∧ (t.chan ch).latch = true)) ∧
      (x.eclass.guarded = false ∨ x.grantable = false → Does (.callGrant k) s (fun t =>
        Returned s t c 0x14 (t.chan ch).stat.toNat ∧ (t.chan ch).sticky.grantRefused = true))) ∧
    (n = 0x13 → mine → x.fused = false → x.frozen = false → x.eclass.guarded = true →
      (s.mayWithdraw ch = true → Does (.callWithdraw k) s (fun t => Returned s t c 0 0 ∧ (t.chan ch).latch = false)) ∧
      (s.mayWithdraw ch = false → Does (.callWithdraw k) s (fun t => Returned s t c 0x14 0 ∧ t.ch = s.ch)))

/-- O48. Calls that name no call, or one the manifest does not allow: ACCESS; a number above 0xFF: MALFORMED. LINK_REQ puts a request on
the link and waits; LINK_ATN gives the oldest payload held; LINK_STATE the partner's state and the session; REPORT builds an APPLET
record. Formalises R529. -/
def Obligations.LinkCalls : Prop :=
  ∀ (n : Nat) (c : KCall) (ch : Fin 16) (s : State),
    let k := c.core
    let mine := c.a 0 = ch.val ∧ ch ∈ s.governed c.dom
    (s.caller k = some (n, c) →
      (0x100 ≤ n → Does (.ecall k) s (fun t => (∃ y, Returned s t c 0x10 y) ∧ t.core[k].mcause = 8 ∧ t.core[k].mepc = s.core[k].pc)) ∧
      (n < 0x100 → callTable n = none ∨ s.callAllowed c.dom n = false → Does (.ecall k) s (fun t =>
        (∃ y, Returned s t c 0x12 y) ∧ t.core[k].mcause = 8 ∧ t.core[k].mepc = s.core[k].pc))) ∧
    (s.Calls n c → mine →
      (n = 0x20 → c.a 2 ≤ 240 → s.Buf c .write (c.a 3) 240 → (c.a 2 = 0 ∨ s.Buf c .read (c.a 1) (c.a 2)) →
        ((s.lnk ch).sess = none → Does (.linkReq k) s (fun t => Returned s t c 0x22 0 ∧ t.lnk ch = s.lnk ch)) ∧
        ((s.lnk ch).sess ≠ none → Does (.linkReq k) s (fun t => Waits t c 0x20 ∧ (t.lnk ch).has 0x21 = true))) ∧
      (n = 0x21 → s.Buf c .write (c.a 1) 240 →
        ((s.lnk ch).atn = [] → Does (.linkAtn k) s (fun t => Returned s t c 0 0 ∧ t.lnk ch = s.lnk ch)) ∧
        (∀ b l, (s.lnk ch).atn = b :: l → b.length ≤ 240 → Does (.linkAtn k) s (fun t => Returned s t c 0 b.length ∧ Writes s t c (c.a 1) b ∧
          t.lnk ch = { s.lnk ch with atn := l }))) ∧
      (n = 0x22 → Does (.linkState k) s (fun t => Returned s t c 0 ((s.lnk ch).pstate.code + (if (s.lnk ch).sess = none then 0 else 8)) ∧
        t.lnk ch = s.lnk ch))) ∧
    (s.Calls n c → n = 0x30 → c.a 0 = 0xFF → c.a 2 ≤ 1024 → s.Buf c .read (c.a 1) (c.a 2) → s.wheelRuns = true → s.ksm.cntOf 1 < cntMax →
      let body := beBytes 1 c.dom.val ++ [0xFF] ++ beBytes 2 (c.a 2) ++ (s.drainAll k).memRead c.who (c.a 1) (c.a 2)
      s.canSign (s.buildRec 0x0D body false) = true → Does (.report k) s (fun t => Returned s t c 0 ((s.ksm.cntOf 1 + 1) % 2 ^ 32) ∧
        ∃ r ∈ t.upl.ring, r.type = 0x0D ∧ r.body = body ∧ r.seq = s.ksm.cntOf 1 + 1))

/-- O49. Calls on keys and counters, outside Crazed, a hold and a compaction: KEY_GEN and KEY_DERIVE write a new key of the caller into a
free slot and return slot and GEN; KEY_DELETE empties one; KEY_SIGN writes the signature; CNT_READ and CNT_INC give and raise a counter.
KEY_GEN in Crazed returns ABORT_TAMPER, and during a hold waits. Rests on 21_applets.md R783, 21_applets.md R784, 19_keys_counters.md
R690, 19_keys_counters.md R707. -/
def Obligations.KeyCalls : Prop :=
  ∀ (n : Nat) (c : KCall) (s : State), s.Calls n c → s.ksm.compWait = false →
    let k := c.core
    let src := c.a 0 / 2 ^ 16
    let input := (s.drainAll k).memRead c.who
    let ring : Ring := { ownerLevel := 1, ownerDomain := c.dom.val }
    let made (t : State) (i : Nat) (x : Slot) : Prop := t.ksm.slot i = { x with st := .live, owner := c.dom.val, gen := (s.ksm.slot i).gen + 1 } ∧
      (∀ j, j ≠ i → t.ksm.slot j = s.ksm.slot j) ∧ Returned s t c 0 (i * 2 ^ 16 + ((s.ksm.slot i).gen + 1))
    (s.crazed = true → ∀ i, (n, i) ∈ [(0x40, Instr.keyGen k)] → Does i s (fun t => Returned s t c 0x21 0 ∧ t.ksm = s.ksm)) ∧
    (s.crazed = false → s.provisional = true → n = 0x40 → Does (.keyGen k) s (fun t => Waits t c 0x40 ∧ t.ksm = s.ksm)) ∧
    (s.crazed = false → s.provisional = false →
      (n = 0x40 → c.a 0 < 256 → c.a 1 < 65536 → c.a 2 < 2 → c.a 3 < 256 → ∀ i, s.budgetSlot c.dom = some i →
        s.ksmCheck ring (ksmDesc 1 0 0 i (s.ksm.slot i).gen (c.a 0) (c.a 2) (c.a 1) c.dom.val (c.a 3) 0 0) = none →
        let mat := Config.freeBytes (s.freeCount + 1) (genLen (c.a 0) (c.a 3))
        Does (.keyGen k) s (fun t => made t i { cls := c.a 0, usage := c.a 1, persist := c.a 2 == 1, mat := mat })) ∧
      (n = 0x41 → s.ownsSlot c src = true → s.Buf c .read (c.a 1) (c.a 2) → c.a 3 ≤ 64 → c.a 3 ≤ c.a 2 → ∀ i, s.budgetSlot c.dom = some i →
        s.ksmCheck ring (ksmDesc 5 src (c.a 0 % 2 ^ 16) i (s.ksm.slot i).gen (c.a 4 / 2 ^ 24 % 256) 0 (c.a 4 / 2 ^ 8 % 2 ^ 16) c.dom.val
          (c.a 4 % 256) (c.a 3) (c.a 2)) = none →
        let b := input (c.a 1) (c.a 2)
        let mat := hkdf (b.take (c.a 3)) (s.ksm.slot src).mat (b.drop (c.a 3)) (c.a 4 % 256)
        Does (.keyDerive k) s (fun t => made t i { cls := c.a 4 / 2 ^ 24 % 256, usage := c.a 4 / 2 ^ 8 % 2 ^ 16, mat := mat })) ∧
      (n = 0x42 → s.ownsSlot c (c.a 0) = true → s.ksmCheck ring (ksmDesc 8 (c.a 0) (c.a 1 % 2 ^ 16) 0 0 0 0 0 0 0 0 0) = none →
        Does (.keyDelete k) s (fun t => t.ksm.slot (c.a 0) = { gen := (s.ksm.slot (c.a 0)).gen + 1 } ∧ Returned s t c 0 0 ∧
          ∀ j, j ≠ c.a 0 → t.ksm.slot j = s.ksm.slot j)) ∧
      (n = 0x43 → s.ownsSlot c (c.a 0) = true →
        let p384 := (s.ksm.slot (c.a 0)).cls == 6
        let m := if p384 then 48 else 32
        s.Buf c .read (c.a 2) m → s.Buf c .write (c.a 3) (2 * m) →
        s.ksmCheck ring (ksmDesc 6 (c.a 0) (c.a 1 % 2 ^ 16) 0 0 0 0 0 0 0 0 m) = none →
        Does (.keySign k) s (fun t => Returned s t c 0 0 ∧ t.ksm.slots = s.ksm.slots ∧
          Writes s t c (c.a 3) (Config.ecdsa p384 (s.ksm.slot (c.a 0)).mat (input (c.a 2) m) s.freeCount))) ∧
      (n = 0x50 → s.ownsCnt c (c.a 0) = true → s.Buf c .write (c.a 1) 8 → Does (.callCntRead k) s (fun t => Returned s t c 0 0 ∧
        t.ksm = s.ksm ∧ Writes s t c (c.a 1) (leBytes 8 (s.ksm.cntOf (c.a 0))))) ∧
      (n = 0x51 → s.ownsCnt c (c.a 0) = true → s.Buf c .write (c.a 1) 8 →
        (s.ksm.cntOf (c.a 0) < cntMax → Does (.callCntInc k) s (fun t => Returned s t c 0 0 ∧ t.ksm.cntOf (c.a 0) = s.ksm.cntOf (c.a 0) + 1 ∧
          Writes s t c (c.a 1) (leBytes 8 (s.ksm.cntOf (c.a 0) + 1)))) ∧
        (cntMax ≤ s.ksm.cntOf (c.a 0) → Does (.callCntInc k) s (fun t => Returned s t c 0x1A 0 ∧
          t.ksm.cntOf (c.a 0) = s.ksm.cntOf (c.a 0)))))

/-- O50. MEASURE gives the last payload held and ends its event; METRO_LOAD sends one LOAD frame, the last of which waits for the die's
result, and without a live session returns ABORT_PEER; the flash calls put their descriptor on FLC ring 1 and wait. Rests on 21_applets.md
R786, 21_applets.md R787, 24_coincidences.md R870. -/
def Obligations.DeviceCalls : Prop :=
  ∀ (n : Nat) (c : KCall) (s : State), s.Calls n c →
    let k := c.core
    let r := s.ring .flc 1
    let room := r.st = .running ∧ r.pending < 2 ^ r.log2
    let queued (t : State) : Prop := (∃ l, (t.cpuOf c.dom k).call = some (n, l)) ∧ (t.ring .flc 1).prod = (r.prod + 1) % 65536
    (n = 0x60 → s.Buf c .write (c.a 0) 196 → s.sjm.measure.length = 196 → Does (.callMeasure k) s (fun t => Returned s t c 0 0 ∧
      Writes s t c (c.a 0) s.sjm.measure ∧ t.app[c.dom].events.testBit 4 = false ∧ t.sjm = s.sjm)) ∧
    (n = 0x61 → 0 < c.a 4 → c.a 4 ≤ 1024 → (s.sjm.loadOwner = none ∨ s.sjm.loadOwner = some c.dom.val) → s.Buf c .read (c.a 3) (c.a 4) →
      s.crazed = false →
      (s.sjm.sj.sess = none → Does (.metroLoad k) s (fun t => Returned s t c 0x22 0 ∧ t.sjm = s.sjm)) ∧
      (∀ x, s.sjm.sj.sess = some x → x.live = true → s.slipPowered = true →
        let p := beBytes 1 (c.a 0) ++ [0] ++ beBytes 2 (c.a 1) ++ beBytes 4 (c.a 2) ++ (s.drainAll k).memRead c.who (c.a 3) (c.a 4)
        (c.a 1 + 1 < (c.a 2 + 1023) / 1024 → Does (.metroLoad k) s (fun t => Returned s t c 0 0 ∧ t.Queues .main [(0x15, p)] ∧
          t.sjm.loadOwner = some c.dom.val)) ∧
        ((c.a 2 + 1023) / 1024 ≤ c.a 1 + 1 → Does (.metroLoad k) s (fun t => Waits t c 0x61 ∧ t.Queues .main [(0x15, p)] ∧
          t.sjm.loadOwner = some c.dom.val)))) ∧
    (s.ownsFlcRing c = false → room →
      (n = 0x70 → s.ownsFlash c (c.a 0) (c.a 2) = true → c.a 0 % 512 = 0 → c.a 2 % 512 = 0 → s.Buf c .read (c.a 1) (c.a 2) →
        Does (.flashProg k) s queued) ∧
      (n = 0x71 → s.ownsFlash c (c.a 0) 1 = true → c.a 0 % 0x40000 = 0 → c.a 1 ≤ 2 → Does (.flashErase k) s queued))

/-- O51. Time of applets: a WAIT returns for an event of its mask or at its deadline; an applet at its budget is throttled and counted
until the window ends; a slice ends with the highest priority that is ready, in turn; an applet stuck for 1639 ticks faults. Rests on
21_applets.md R780, 21_applets.md R781, 21_applets.md R785, 21_applets.md R788. -/
def Obligations.Scheduling : Prop :=
  ∀ (d : Fin 16) (k : Fin 2) (s : State), s.wheelRuns = true →
    (∀ mask dl, s.waitingOn d k = some (mask, dl) → (s.cpuOf d k).st = .waiting →
      (mask &&& s.waitEvents d ≠ 0 → Does (.waitReturn d k) s (fun t => (t.cpuOf d k).call = none ∧
        (t.cpuOf d k).regs[10] = 0 ∧ (t.cpuOf d k).regs[11] = BitVec.ofNat 32 (s.waitEvents d))) ∧
      (∀ at_, dl = some at_ → mask &&& s.waitEvents d = 0 → at_ < 2 ^ 48 → s.clk.tickSrc ≠ none → Does (.waitReturn d k) s (fun t =>
        (t.cpuOf d k).call = none ∧ t.tick = max s.tick at_))) ∧
    (s.running k = some d →
      (∀ m, s.app[d].man = some m → Does (.cpuBudgetUsed k) s (fun t => (t.cpuOf d k).st = .throttled ∧ (t.cpuOf d k).used = m.cpuUs ∧
        t.app[d].overruns = sat16 s.app[d].overruns)) ∧
      (s.clk.tickSrc ≠ none → s.app[d].fresh = false → Does (.appletStuck k) s (fun t => t.app[d].faults.head? = some t.powered ∧
        t.tick = max s.tick (min ((s.cpuOf d k).runSince + 1639) (2 ^ 48 - 1)))) ∧
      (s.coreUp k = true → (∀ e, e ≠ d → (s.cpuOf e k).st ≠ .running) → Does (.timeSlice k) s (fun t => ∃ e, t.running k = some e ∧
        (∀ f, f = d ∨ (s.cpuOf f k).st = .ready → s.priority f ≤ s.priority e) ∧
        (s.core[k].domain = d.val → (∃ f, f ≠ d ∧ (s.cpuOf f k).st = .ready ∧ s.priority d ≤ s.priority f) → e ≠ d)))) ∧
    (s.clk.tickSrc ≠ none → s.tick < 2 ^ 47 → Does .cpuWindow s (fun t => t.tick = (s.tick / 32768 + 1) * 32768 ∧
      ∀ (e : Fin 16) (j : Fin 2), (t.cpuOf e j).used = 0 ∧ (t.cpuOf e j).st ≠ .throttled))

/-- O52. Exchanges: QUIESCE runs on where none is requested; where one is, the applet stops, its guarded channels in service freeze, and
its rings drain. No QUIESCE in time abandons the exchange; no decisions in time, and the Wheel decides: class H is cleared. Formalises
R799. -/
def Obligations.Exchanges : Prop :=
  ∀ (d : Fin 16) (s : State),
    (∀ c, s.Calls 0x03 c → d = c.dom →
      (s.app[d].xstep ≠ .requested → Does (.quiesce c.core) s (fun t => Returned s t c 0 0 ∧ t.ch = s.ch)) ∧
      (s.app[d].xstep = .requested → (∀ m, s.app[d].man = some m → s.drained m = false) → Does (.quiesce c.core) s (fun t =>
        t.app[d].xstep = .draining ∧ (t.cpuOf d c.core).st = .exchanging ∧
        ∀ ch ∈ s.guardedBy d, (s.chan ch).service = true → (s.chan ch).fused = false → (t.chan ch).frz.exchange = true))) ∧
    (s.wheelRuns = true → s.clk.tickSrc ≠ none → ∀ m, s.app[d].man = some m →
      (s.app[d].xstep = .requested → Does (.quiesceTimeout d) s (fun t => t.app[d].xstep = .none ∧ t.app[d].incoming = none ∧
        t.tick = max s.tick (min (s.app[d].xTick + m.quiesceMax) (2 ^ 48 - 1)))) ∧
      (∀ at_, s.app[d].startedAt = some at_ → Does (.decideTimeout d) s (fun t => t.app[d].startedAt = none ∧
        t.tick = max s.tick (min (at_ + m.decideMax) (2 ^ 48 - 1)) ∧
        ∀ ch ∈ s.guardedBy d, ch.val ∉ s.app[d].decided → (s.chan ch).eclass = .h → (s.chan ch).fused = false → (s.chan ch).frozen = false →
          (t.chan ch).latch = false)))

/-! ## Self-test and observation -/

/-- O53. Self-test: a partition passes exactly if it is not faulty and its signature is the golden value (FLASH: if no page read
uncorrectable), and a failure of a guarded channel's partition retires the channel; a scheduled run begins once its interval has passed;
at the close of its window what is untested is deferred. The Spyhole: a HEARTBEAT of 40 bytes that begin with the device identity; a PC
message for a core that runs an applet; an OCC message at the end of its period, with the live counters gone on; SNAP takes the live
counters and starts them anew. Rests on 23_test_observe.md R834, 23_test_observe.md R836, 23_test_observe.md R842, 23_test_observe.md
R851, 23_test_observe.md R853, 23_test_observe.md R854. -/
def Obligations.SelfTestsAndSpyhole : Prop :=
  (∀ (k : Fin 64) (sig : Bytes) (faulty : Bool) (bad : List Nat) (s : State),
      (∀ r, s.selft.run = some r → k.val ∈ r.todo → s.provisional = false → s.crazed = false → s.kilnRuns = true →
        (r.trigger.whole = true ∨ s.partIdle k = true) → (∃ j ∈ r.todo, j ≠ k.val) →
        Does (.partitionTestDone k sig faulty bad) s (fun t =>
          (t.selft.results[k] = 0 ↔ faulty = false ∧ (if k.val = 61 then bad = [] else sig = s.golden k)) ∧
          t.selft.run = some { r with todo := r.todo.filter (fun j => j != k.val) } ∧
          ∀ c : Fin 16, partChannel k = some c → t.selft.results[k] = 1 → s.straps.cls[c] ∈ [EClass.h, EClass.a] → (s.chan c).fused = false →
            (t.chan c).retired = true)) ∧
      (s.mayTest = true → s.selft.run = none → s.schedInterval ≠ 0 → s.clk.tickSrc ≠ none → Does .scheduledRun s (fun t =>
        t.selft.number = (s.selft.number + 1) % 65536 ∧ t.selft.trigger = some .schedule ∧ (∃ r, t.selft.run = some r ∧ r.trigger = .schedule) ∧
        (∀ j : Fin 64, t.selft.results[j] = 3) ∧
        t.tick = max s.tick (min (s.tick + (s.selft.lastFull + s.schedInterval - s.powered)) (2 ^ 48 - 1)))) ∧
      (∀ r at_, s.selft.run = some r → r.close = some at_ → s.clk.tickSrc ≠ none → s.selft.kept = none → Does .runWindowClose s (fun t =>
        t.selft.run = none ∧ t.selft.deferred = r.todo.filter (fun j => j != 58) ∧ t.tick = max s.tick (min at_ (2 ^ 48 - 1)) ∧
        ∀ j : Fin 64, j.val ∈ r.todo → j.val ≠ 58 → t.selft.results[j] = 2))) ∧
  (∀ (k : Fin 2) (window : Nat) (busy : List Nat) (s : State),
      (s.kilnReady = true → s.clk.tickSrc ≠ none → s.selft.factory = false → s.MaySend 1 40 → Does .heartbeat s (fun t =>
        t.spy.hbAt = some t.tick ∧ ∃ b, Sent t 1 b ∧ b.length = 40 ∧ b.take 16 = s.deviceId)) ∧
      (s.spy.pcPeriod ≠ 0 → s.mainRuns = true → s.MaySend 6 22 → ∀ d, s.running k = some d → s.core[k].level = .p2 → s.core[k].wfi = false →
        Does .pcSample s (fun t => Sent t 6 (beBytes 1 k.val ++ beBytes 1 d.val ++ beBytes 4 (s.core[k].pc - s.app[d].imgAt)) ∧ t.core = s.core)) ∧
      (s.spy.occPeriod ≠ 0 → s.mainUp = true → s.clk.tickSrc ≠ none → s.MaySend 3 23 → Does (.occPeriod window busy) s (fun t =>
        Sent t 3 (occBody window busy) ∧ t.spy.occAt = some t.tick ∧ t.spy.liveWindow = min (2 ^ 32 - 1) (s.spy.liveWindow + window))) ∧
      (s.mainRuns = true → Does (.occSnap window busy) s (fun t => t = { s with spy := t.spy } ∧
        t.spy.occWindow = min (2 ^ 32 - 1) (s.spy.liveWindow + window) ∧ t.spy.liveWindow = 0 ∧
        ∀ i : Fin 19, t.spy.occBusy[i] = min (2 ^ 32 - 1) (s.spy.liveBusy[i] + busy.getD i.val 0) ∧ t.spy.liveBusy[i] = 0)))

/-! ## Rails, resets and starts -/

/-- O54. Rails: VAO valid brings the binary straps as accepted and every channel found fused, and a cold start where the other rails are
valid and nRST is high; another rail starts the islands once all are valid. A rail lost holds the Kiln and the main island in reset, or
Off with VCORE, whose loss is latched by its order; with VAO the AO island's state goes, and the Ocnoix die keeps its own. Rests on
04_power_clocks.md R140, 04_power_clocks.md R141, 04_power_clocks.md R142, 05_startup.md R170, 05_startup.md R172, 05_startup.md R195,
05_startup.md R202. -/
def Obligations.Rails : Prop :=
  ∀ (te svc door pf nr : Bool) (x : Probe) (s : State),
    (s.rails.vao = false →
      let w := if s.blank then s.deliver x else s
      ∃ u : State, u.rails = { s.rails with vao := true } ∧ u.ksm.coldPending = true ∧ u.pwr.coldBegun = false ∧ u.tick = s.tick ∧
        u.bins = { s.bins with testEn := te, svcLow := svc, doorOpen := door, pfailLow := pf, nrstLow := nr, svcIgnored := svc } ∧
        (∀ c, (u.chan c).fused = ((s.chan c).fused || (w.fuseReads 1).or.testBit c.val)) ∧
        exec (.vaoValid te svc door pf nr x) s = .next (if s.rails.vio && s.rails.vcore && !nr then u.beginStart .cold else u)) ∧
    (s.rails.vio = false → Does .vioValid s (fun t =>
      let u := State.lnkPadsUp { s with rails := { s.rails with vio := true } }
      t = if s.rails.vao && s.rails.vcore && !s.bins.nrstLow then u.beginStart .railReturn else u)) ∧
    (s.rails.vcore = false → Does .vcoreValid s (fun t =>
      let u := { s with rails := { s.rails with vcore := true } }
      t = if s.rails.vao && s.rails.vio && !s.bins.nrstLow then u.beginStart .railReturn else u)) ∧
    (s.rails.vao = true → s.rails.vio = true → Does .vioInvalid s (fun t =>
      t.rails = { s.rails with vio := false } ∧ t.pwr.main = .reset ∧ t.pwr.kiln = .reset ∧ t.mem = [] ∧ t.prot = {} ∧ t.ksm.slots = [] ∧
      ∀ p, (t.port p).linked = false)) ∧
    (s.rails.vao = true → s.rails.vcore = true → Does .vcoreInvalid s (fun t =>
      t.rails = { s.rails with vcore := false } ∧ t.pwr.main = .off ∧ t.pwr.kiln = .off ∧ t.clk.xo25 = {} ∧
      (∀ k, s.pwr.vcoreLoss = .unordered k → t.pwr.vcoreLoss = .unordered k) ∧
      ((∀ k, s.pwr.vcoreLoss ≠ .unordered k) →
        (s.pwr.flushDone = true → t.pwr.vcoreLoss = .ordered) ∧
        (s.pwr.flushDone = false → (s.kilnRuns = true ∨ s.pwr.main ≠ .off) → t.pwr.vcoreLoss = .unordered s.tick)))) ∧
    (s.rails.vao = true → Does .vaoInvalid s (fun t =>
      t.rails = { s.rails with vao := false } ∧ t.tick = 0 ∧ t.clk = {} ∧ t.straps = {} ∧ t.bins = {} ∧ t.pwr.main = .off ∧ t.pwr.kiln = .off ∧
      (∀ c, t.chan c = {} ∧ t.lnk c = {}) ∧ t.kiln.poweredBase = s.powered ∧ t.kiln.timeSt = .unset ∧ t.met = s.met ∧ t.opt = s.opt))

/-- O55. Power fail, nRST and the watchdogs: an accepted fall of PFAIL is a reference event and flushes, which ends with the islands Off;
3277 ticks after its rise the start goes on or begins. nRST holds both islands in reset, and its rise starts them. A watchdog expiry
restarts its island, and the fourth within 600 s ends in Hold. Formalises R165. -/
def Obligations.PowerFailAndResets : Prop :=
  ∀ s : State, s.rails.vao = true →
    (s.bins.pfailLow = false → Does .pfailFall s (fun t => t.bins.pfailLow = true ∧ t.tamp.refPfail = some s.tick ∧
      (s.railsOk = true → s.bins.nrstLow = false → s.pwr.flushDone = false → (s.startWaits = false ∨ s.pwr.crazedWait = true) →
        t.pwr.flushDone = true ∧ t.pwr.kiln = .off ∧ ((∀ r, s.pwr.main ≠ .hold r) → t.pwr.main = .off)))) ∧
    (s.bins.pfailLow = true → Does .pfailRise s (fun t =>
      t.bins = { s.bins with pfailLow := false, pfailHighSince := some s.tick, pfailFrom := s.tick } ∧ t.tamp.refPfail = some s.tick)) ∧
    (∀ k, s.bins.pfailHighSince = some k → s.clk.tickSrc ≠ none →
      let T := max s.tick (min (k + 3277) (2 ^ 48 - 1))
      ((s.railsOk = false ∨ s.bins.nrstLow = true) → Does .powerFailRestart s (fun t => t.bins.pfailHighSince = none ∧ t.tick = T)) ∧
      (s.railsOk = true → s.bins.nrstLow = false →
        (s.starting = true → ∃ u : State, exec .powerFailRestart s = .next u.runStart ∧ u.bins.pfailHighSince = none ∧ u.tick = T) ∧
        (s.starting = false → s.pwr.flushDone = true → s.pwr.main = .off → s.pwr.holdReason ≠ some .fuseMarginal →
          ∃ u : State, exec .powerFailRestart s = .next (u.beginStart .powerFail) ∧ u.bins.pfailHighSince = none ∧ u.tick = T) ∧
        (∀ r, s.starting = false → s.pwr.flushDone = true → s.pwr.main = .hold r → Does .powerFailRestart s (fun t =>
          t.pwr.main = .hold r ∧ t.pwr.flushDone = false ∧ t.pwr.kiln = if r = .kilnLoop then .rom else .running)))) ∧
    (Does .pfailGlitch s (fun t => t = { s with bins := { s.bins with pfailGlitch := min 65535 (s.bins.pfailGlitch + 1) } })) ∧
    (Does .nrstGlitch s (fun t => t = { s with bins := { s.bins with nrstGlitch := min 65535 (s.bins.nrstGlitch + 1) } })) ∧
    (s.bins.nrstLow = false → Does .nrstLow s (fun t => t.bins = { s.bins with nrstLow := true } ∧
      (s.railsOk = true → t.pwr.main = .reset ∧ t.pwr.kiln = .reset) ∧
      (s.railsOk = false → t = { s with bins := { s.bins with nrstLow := true } }))) ∧
    (s.bins.nrstLow = true → Does .nrstHigh s (fun t =>
      let u := { s with bins := { s.bins with nrstLow := false } }
      t = if s.railsOk then u.beginStart .external else u)) ∧
    (∀ k, s.pwr.mainWdogFrom = some k → s.mainRuns = true →
      let T := max s.tick (min (k + s.wdogPeriod) (2 ^ 48 - 1))
      let l := s.pwr.mainWdogAt.filter (fun j => decide (T < j + 19660800))
      (l.length < 3 → ∃ u : State, exec .mainWatchdogExpiry s = .next (u.beginStart .mainWdog) ∧ u.pwr.main = .reset ∧ u.pwr.mainWdogAt = T :: l ∧
        u.eng = resetEngines) ∧
      (3 ≤ l.length → Does .mainWatchdogExpiry s (fun t => t.pwr.main = .hold .watchdogLoop ∧ t.pwr.mainWdogAt = T :: l))) ∧
    (s.kilnRuns = true → s.clk.tickSrc ≠ none →
      let l := s.pwr.kilnWdogAt.filter (fun j => decide (s.tick < j + 19660800))
      (l.length < 3 → s.startWaits = true → ∃ u : State, exec .kilnWatchdogExpiry s = .next u.runStart ∧ u.pwr.phase = .b ∧ u.pwr.kilnWdogAt = s.tick :: l) ∧
      (l.length < 3 → s.startWaits = false → Does .kilnWatchdogExpiry s (fun t => t.pwr.kilnWdogAt = s.tick :: l ∧ t.pwr.cause = .kilnWdog)) ∧
      (3 ≤ l.length → Does .kilnWatchdogExpiry s (fun t => t.pwr.main = .hold .kilnLoop ∧ t.pwr.kiln = .rom ∧ t.pwr.kilnWdogAt = s.tick :: l)))

/-- O56. Starts: a start takes its cause, the first after VAO became valid being cold, and its first phase; what blocks it leaves it where
it is; no valid option copy, no bank or no image ends it in Hold; the bank waits for the straps; service entry ends it. Rests on
05_startup.md R170, 05_startup.md R172, 05_startup.md R178, 05_startup.md R181, 05_startup.md R187, 05_startup.md R188, 05_startup.md
R202. -/
def Obligations.Starts : Prop :=
  ∀ (k : StartCause) (s : State),
    (s.startBlocked = true → s.runStart = s) ∧
    (s.startBlocked = false →
      ((s.pwr.phase = .idle ∨ s.pwr.phase = .done) → s.runStart = s) ∧
      (s.pwr.phase = .b → s.fuseHold ≠ none → s.startStep.pwr.main = .off ∧ s.startStep.pwr.kiln = .rom ∧
        s.startStep.pwr.holdReason = some .fuseMarginal ∧ s.startStep.pwr.phase = .idle) ∧
      (s.pwr.phase = .selftest → s.straps.phase = .none → s.startStep = s) ∧
      (s.pwr.phase = .d → s.seedAll.logOptions.measureRom.optChoice = none → s.startStep.pwr.main = .hold .optionInvalid) ∧
      (s.pwr.phase = .e → s.straps.phase ≠ .settled → s.runStart = s) ∧
      (s.pwr.phase = .e → s.straps.phase = .settled → s.recordStraps.banks = [] → s.startStep.pwr.main = .hold .noImage)) ∧
    (s.bins.pfailLow = true →
      let c := if s.pwr.coldBegun then k else .cold
      (s.beginStart k).pwr.cause = c ∧ (s.beginStart k).pwr.phase = (if c = .mainWdog then .c else .b) ∧ (s.beginStart k).pwr.coldBegun = true ∧
      (s.beginStart k).pwr.flushDone = false)

/-! ## Straps -/

/-- O57. The first CODE pass connects the class L passthrough where its level gives class L or is out of window; the second settles every
pin by its two samples and every class, a fused channel being U and a marginal pin giving L; a re-read compares each pin with its settled
state. TEST_EN, SVC and DOOR take their accepted levels, and SVC its press by the time it is held. Formalises R103, R109. -/
def Obligations.Straps : Prop :=
  ∀ (l m : List (Option Nat)) (s : State), s.rails.vao = true →
    (s.clk.tickSrc ≠ none → s.straps.phase = .none → ∃ u : State, exec (.codeFirstPass l) s = .next u.runStart ∧
      u.straps.phase = .first ∧ u.straps.firstPassTick = s.tick ∧ u.straps.testEnStart = s.bins.testEn ∧
      (∀ k, (u.straps.pin k).resA = passSample l k.val) ∧
      ∀ c, (s.chan c).fused = false →
        let v := sampleLevel (passSample l (codePinOf c).val)
        ((v = none ∨ ∃ j, v = some j ∧ classAt j c.val = .l) → u.straps.cls[c] = .l ∧ (u.chan c).eclass = .l ∧ (u.chan c).known = true) ∧
        (∀ j, v = some j → classAt j c.val ≠ .l → u.chan c = if s.rails.vio then s.chan c else (s.chan c).lnkDown)) ∧
    (s.clk.tickSrc ≠ none → s.straps.phase = .first → ∃ u : State, exec (.codeSecondPass l) s = .next u.runStart ∧
      u.straps.phase = .settled ∧ u.tick = max s.tick (min (s.straps.firstPassTick + 262) (2 ^ 48 - 1)) ∧
      (∀ k, ∃ v, let good := sampleLevel (s.straps.pin k).resA = some v ∧ sampleLevel (passSample l k.val) = some v ∧ (k.val = 11 → code11Reserved v = false)
        (u.straps.pin k).resB = passSample l k.val ∧
        ((u.straps.pin k).marginal = false → good ∧ (u.straps.pin k).level = v) ∧ (good → (u.straps.pin k).marginal = false) ∧
        ((u.straps.pin k).marginal = true → (u.straps.pin k).level = 0)) ∧
      u.straps.cabinet = (if (u.straps.pin 8).marginal || (u.straps.pin 9).marginal || (u.straps.pin 10).marginal then 0xFFF
        else (u.straps.pin 10).level * 256 + (u.straps.pin 9).level * 16 + (u.straps.pin 8).level) ∧
      ∀ c, let p := u.straps.pin (codePinOf c)
        ((s.chan c).fused = true → u.straps.cls[c] = .u) ∧
        ((s.chan c).fused = false → ((s.chan c).known = true ∨ p.marginal = true) → u.straps.cls[c] = .l) ∧
        ((s.chan c).fused = false → (s.chan c).known = false → p.marginal = false → u.straps.cls[c] = classAt p.level c.val ∧
          (s.life.firing ≠ .sherd → (classAt p.level c.val).guarded = true → s.kiln.retired.testBit c.val = false →
            (u.chan c).eclass = classAt p.level c.val))) ∧
    (s.clk.tickSrc ≠ none → s.straps.phase = .settled → Does (.codeRereadPass l m) s (fun t =>
      t.tick = max s.tick (min (s.nextReread + 262) (2 ^ 48 - 1)) ∧
      ∀ k, let p := s.straps.pin k
        t.straps.pin k = { p with changed := p.differs k.val (passSample l k.val) (passSample m k.val) })) ∧
    (s.bins.testEn = false → Does .testEnHigh s (fun t => t.bins = { s.bins with testEn := true } ∧ Logged { s with bins := t.bins } t)) ∧
    (s.bins.doorOpen = false → Does .doorOpen s (fun t => t.bins = { s.bins with doorOpen := true } ∧ Logged { s with bins := t.bins } t)) ∧
    (s.bins.doorOpen = true → Does .doorClose s (fun t => t.bins = { s.bins with doorOpen := false } ∧ Logged { s with bins := t.bins } t)) ∧
    (s.bins.svcLow = false → Does .svcAcceptedLow s (fun t => Logged { s with bins := t.bins } t ∧
      t.bins = { s.bins with svcLow := true, svcLongDone := false, svcSince := if s.bins.svcIgnored then none else some s.tick })) ∧
    (s.bins.svcLow = true → Does .svcPress s (fun t =>
      t.bins = { s.bins with svcLow := false, svcIgnored := false, svcSince := none, svcLongDone := false })) ∧
    (∀ k, s.bins.svcSince = some k → s.bins.svcLow = true → s.bins.svcIgnored = false → s.clk.tickSrc ≠ none →
      (s.bins.svcLongDone = false → Does .svcLongPress s (fun t =>
        t.bins = { s.bins with svcLongDone := true } ∧ t.tick = max s.tick (min (k + 163840) (2 ^ 48 - 1)))) ∧
      Does .svcStuck s (fun t => t.bins = { s.bins with svcIgnored := true, svcSince := none, svcLongDone := true } ∧
        t.tick = max s.tick (min (k + 1966080) (2 ^ 48 - 1))))

/-! ## Attack sensing -/

/-- O58. A trip of a Crazed cause seals the key store, freezes guarded outputs in service and opens the quiet interval, counting the
entry; one of a Shattered cause zeroizes; in Sherd a trip changes no grade; with no Kiln it stays latched. A discriminable anomaly opens a
hold unless a reference excuses it, a reference event ends the holds whose window it falls in, and a window that closes is graded. After
the quiet interval the self-check clears Crazed or begins it anew. Rests on 07_tamper.md R240, 07_tamper.md R241, 07_tamper.md R244,
07_tamper.md R252, 07_tamper.md R256, 07_tamper.md R257, 07_tamper.md R258, 07_tamper.md R260, 07_tamper.md R261, 07_tamper.md R262,
07_tamper.md R264, 07_tamper.md R266. -/
def Obligations.Sensors : Prop :=
  ∀ (cause index : Nat) (k : RefEvent) (pass : Bool) (v : List Int) (s : State), s.rails.vao = true →
    let e : Trip := ⟨cause, index, s.tick⟩
    let calm := s.kilnReady = true ∧ s.life.firing ≠ .sherd ∧ s.crazed = false ∧ s.tamp.crazedAt.length < 8
    (sensorCause cause = true → s.sensed cause = true →
      (calm → causeGrade s.life.firing cause = .crazed → (cause ≠ 3 ∨ s.tamp.glitchAt.length < 2) → Does (.sensorTrip cause index) s (fun t =>
        t.tamp.grade = .crazed ∧ t.tamp.entry = e ∧ t.ksm.sealed = true ∧ t.tamp.quietEnd = s.tick + 1 + 32768 ∧
        t.tamp.crazedAt = s.powered :: within 2831155200 s.powered s.tamp.crazedAt ∧
        ∀ c, (s.chan c).eclass.guarded = true → (s.chan c).service = true → (t.chan c).frozen = true)) ∧
      (s.kilnReady = true → s.railsOk = true → s.life.firing ≠ .sherd → s.tamp.grade ≠ .shattered → causeGrade s.life.firing cause = .shattered →
        Does (.sensorTrip cause index) s (fun t => t.life.firing = .sherd ∧ t.tamp.zeroRecord = some (6, .tamper) ∧ t.ksm.slots = [] ∧ t.mem = [])) ∧
      (s.kilnReady = true → s.life.firing = .sherd → Does (.sensorTrip cause index) s (fun t => t.tamp.grade = s.tamp.grade)) ∧
      (s.kilnReady = false → Does (.sensorTrip cause index) s (fun t => t.tamp.latches = s.tamp.latches ++ [e]))) ∧
    (s.clk.tickSrc ≠ none → anomalyCause cause index = true → s.life.firing ≠ .sherd →
      (s.suspended = true → calm → Does (.discriminableAnomaly cause index) s (fun t => t.tamp.grade = .crazed ∧ t.tamp.entry = e)) ∧
      (s.suspended = false → s.tamp.excusing s.tick = none → Does (.discriminableAnomaly cause index) s (fun t =>
        t.tamp.holds = s.tamp.holds ++ [⟨cause, index, s.tick⟩] ∧ t.tamp.grade = s.tamp.grade)) ∧
      (s.suspended = false → s.tamp.excusing s.tick ≠ none → Does (.discriminableAnomaly cause index) s (fun t =>
        t.tamp.holds = s.tamp.holds ∧ t.tamp.grade = s.tamp.grade ∧ t.tamp.excused = min 65535 (s.tamp.excused + 1)))) ∧
    (s.clk.tickSrc ≠ none → (k = .surge → s.rails.vmet = true) → Does (.referenceEvent k) s (fun t =>
      t.tamp.holds = s.tamp.holds.filter (fun a => decide (a.tick + 66 ≤ s.tick)) ∧ t.tamp.grade = s.tamp.grade ∧
      (match k with | .surge => t.tamp.refSurge | .pfail => t.tamp.refPfail | .upaAlarm => t.tamp.refA | .upbAlarm => t.tamp.refB) = some s.tick)) ∧
    (∀ a l, s.tamp.holds = a :: l → s.clk.tickSrc ≠ none →
      let T := max s.tick (min (a.tick + 66) (2 ^ 48 - 1))
      Does .provisionalHoldExpiry s (fun t => (∀ b ∈ t.tamp.holds, b ∈ s.tamp.holds ∧ T < b.tick + 66) ∧
        (calm → l = [] → a.cause ≠ 3 → causeGrade s.life.firing a.cause = .crazed → a.tick + 66 < 2 ^ 48 →
          t.tamp.grade = .crazed ∧ t.tamp.entry = ⟨a.cause, a.index, a.tick⟩))) ∧
    (s.clk.tickSrc ≠ none → s.tamp.grade = .crazed → s.railsOk = true → s.kilnReady = true → s.tamp.holds = [] → s.tamp.selfCheck = false →
      Does .crazedQuietExpiry s (fun t => t.tamp.selfCheck = true ∧ t.kilnRuns = true ∧ t.tick = max s.tick (min s.tamp.quietEnd (2 ^ 48 - 1)))) ∧
    (s.tamp.selfCheck = true → s.tamp.grade = .crazed →
      ((pass = false ∨ s.tamp.selfCheckTrip = true ∨ s.tamp.holds ≠ []) → Does (.kilnSelfcheckDone pass []) s (fun t =>
        t.tamp.grade = .crazed ∧ t.tamp.selfCheck = false ∧ t.tamp.quietEnd = s.tick + 1 + 32768)) ∧
      (pass = true → s.tamp.selfCheckTrip = false → s.tamp.holds = [] →
        (s.pwr.crazedWait = true → ∃ u : State, exec (.kilnSelfcheckDone pass []) s = .next u.runStart ∧ u.tamp.grade = .none ∧ u.ksm.sealed = false ∧
          u.pwr.crazedWait = false) ∧
        (s.pwr.crazedWait = false → s.life.staged = none → s.selft.factoryDue = none → Does (.kilnSelfcheckDone pass []) s (fun t =>
          t.tamp.grade = .none ∧ t.ksm.sealed = false ∧ t.tamp.selfCheck = false)))) ∧
    (∀ j, s.tamp.suspendedUntil = some j → s.clk.tickSrc ≠ none → Does .suspensionEnd s (fun t =>
      t.tamp.suspendedUntil = none ∧ t.tick = max s.tick (min (j - s.kiln.poweredBase) (2 ^ 48 - 1)))) ∧
    (s.clk.tickSrc ≠ none → v.length = 4 →
      ((∀ i : Fin 4, 2231 < v.getD i.val 0 ∧ v.getD i.val 0 ≤ 4231 ∧ rateTrips s.tamp.temps[i] (v.getD i.val 0) = false) →
        Does (.temperatureSample v) s (fun t => t.tamp.grade = s.tamp.grade ∧
          ∀ i : Fin 4, t.tamp.tempHi[i] = 0 ∧ t.tamp.tempLo[i] = 0 ∧ t.tamp.tempVlo[i] = 0 ∧
            t.tamp.temps[i] = (v.getD i.val 0 :: s.tamp.temps[i]).take 50)) ∧
      (calm → (∀ i : Fin 4, 2231 < v.getD i.val 0) → (∃ i : Fin 4, s.tamp.tempHi[i] = 1 ∧ 4231 < v.getD i.val 0) →
        Does (.temperatureSample v) s (fun t => t.tamp.grade = .crazed)))

/-! ## Clocks and sleep -/

/-- O59. Clock sources: a crystal passes its start check and is switched to; one that is lost is switched away from, and with no other
tick source the tick stops, under which guarded outputs in service freeze; one that qualifies comes back by a switch; a switch completes.
A failed lock waits 32 768 ticks. Rests on 04_power_clocks.md R148, 04_power_clocks.md R149, 04_power_clocks.md R150, 04_power_clocks.md
R151, 04_power_clocks.md R152, 04_power_clocks.md R154, 04_power_clocks.md R155, 04_power_clocks.md R167. -/
def Obligations.ClockSources : Prop :=
  ∀ (src : TickSrc) (x b : Bool) (s : State), s.rails.vao = true →
    (s.clk.tickSrc = none →
      (Does .xo32StartCheck s (fun t => t.clk.tickSrc = some .xo32 ∧ t.clk.xo32.up = true ∧ t.clk.xo32.adopted = true)) ∧
      (Does (.tickSourceReturn src) s (fun t => t.clk.tickSrc = some src ∧ t.clk.tickSwitch = none ∧ (src = .rc32 → t.clk.rc32 = true)))) ∧
    (s.clk.tickSrc = some .rc32 → s.clk.xo32.adopted = false → s.clk.tickSwitch = none → Does .xo32StartCheck s (fun t => t = { s with clk := t.clk } ∧
      t.clk.xo32.up = true ∧ t.clk.xo32.adopted = true ∧ t.clk.tickSwitch = some .xo32 ∧ t.clk.tickSrc = some .rc32)) ∧
    (s.clk.tickSrc = some .xo32 → Does (.tickSourceReturn .rc32) s (fun t => t = { s with clk := { s.clk with rc32 := true } })) ∧
    (s.xo25Runs = true → s.clk.xo25.adopted = false → s.clk.fpllSwitch = none → s.clk.fpllXo25 = false → Does .xo25StartCheck s (fun t =>
      t = { s with clk := t.clk } ∧ t.clk.xo25.up = true ∧ t.clk.xo25.adopted = true ∧
      (s.clk.fpllLocked = true → t.clk.fpllSwitch = some true ∧ t.clk.fpllXo25 = false) ∧
      (s.clk.fpllLocked = false → t.clk.fpllSwitch = none ∧ t.clk.fpllXo25 = true))) ∧
    (s.clk.xo32.up = true → s.clk.tickSwitch = none → Does .xo32Lost s (fun t => t.clk.xo32.up = false ∧
      (s.clk.tickSrc = some .xo32 → s.clk.rc32 = true → t.clk.tickSwitch = some .rc32 ∧ t.clk.tickSrc = some .xo32) ∧
      (s.clk.tickSrc = some .xo32 → s.clk.rc32 = false → t.clk.tickSrc = none) ∧
      (s.clk.tickSrc = some .rc32 → t.clk.tickSrc = some .rc32 ∧ t.clk.tickSwitch = none))) ∧
    (s.clk.xo25.up = true → s.clk.fpllSwitch = none → Does .xo25Lost s (fun t => t.clk.xo25.up = false ∧ (∀ p, (t.port p).linked = false) ∧
      (s.clk.fpllXo25 = true → (s.clk.fpllLocked = true → t.clk.fpllSwitch = some false) ∧ (s.clk.fpllLocked = false → t.clk.fpllXo25 = false)))) ∧
    (∀ k, s.clk.lastBeacon = some k → s.clk.tickSrc ≠ none → (s.clk.beaconQual = true ∨ s.kiln.timeSt = .disciplined) →
      Does .beaconReferenceLost s (fun t => t.clk.beaconQual = false ∧ t.clk.beaconRun = 0 ∧ t.kiln.timeSt ≠ .disciplined ∧
        t.tick = max s.tick (min (k + 19660800) (2 ^ 48 - 1)))) ∧
    (s.clk.tickSrc ≠ none →
      (s.clk.xo32.adopted = true → s.clk.xo25.up = true → (s.clk.xo32.up = false ∨ s.clk.xo32.qualified = false) → s.clk.tickSwitch = none →
        Does (.qualificationComplete .xo32) s (fun t => t.clk.xo32.up = true ∧ t.clk.xo32.qualified = true ∧
          (s.clk.tickSrc = some .rc32 → t.clk.tickSwitch = some .xo32))) ∧
      (s.xo25Runs = true → s.clk.xo25.adopted = true → s.clk.xo32.qualified = true → (s.clk.xo25.up = false ∨ s.clk.xo25.qualified = false) →
        s.clk.fpllSwitch = none → Does (.qualificationComplete .xo25) s (fun t => t.clk.xo25.up = true ∧ t.clk.xo25.qualified = true ∧
          (s.clk.fpllXo25 = false → s.clk.fpllLocked = true → t.clk.fpllSwitch = some true))) ∧
      (s.clk.beaconQual = false → 3 ≤ s.clk.beaconRun → Does (.qualificationComplete .beacon) s (fun t => t.clk.beaconQual = true ∧
        (s.kiln.timeSt = .carried → t.kiln.timeSt = .disciplined))) ∧
      (Does .tickSourcesLost s (fun t => t.clk.tickSrc = none ∧ t.tick = s.tick ∧
        ∀ c, (s.chan c).eclass.guarded = true → (s.chan c).service = true → (t.chan c).frz.notick = true))) ∧
    (s.clk.tickSwitch = some src → s.clk.held = [] → Does (.referenceSwitchComplete .tick) s (fun t =>
      t = { s with clk := { s.clk with tickSrc := some src, tickSwitch := none } })) ∧
    (s.clk.fpllSwitch = some x → s.clk.held = [] → Does (.referenceSwitchComplete .fpll) s (fun t =>
      t = { s with clk := { s.clk with fpllXo25 := x, fpllSwitch := none } })) ∧
    (s.clk.fpllLocked = false →
      ((s.pwr.phase ≠ .c ∨ s.clk.fpllFailedAt = none) → Does (.fpllLockFail b) s (fun t => t = { s with clk := { s.clk with lockFails := some b } })) ∧
      (s.pwr.phase = .c → s.clk.fpllFailedAt ≠ none →
        Does (.fpllLockFail true) s (fun t => t.clk.fpllFailedAt = some s.tick ∧ t.clk.fpllLocked = false) ∧
        ∃ u : State, exec (.fpllLockFail false) s = .next u.runStart ∧ u = { s with clk := { s.clk with fpllFailedAt := none, fpllXo25 := false } })) ∧
    (∀ k, s.clk.fpllFailedAt = some k → s.clk.tickSrc ≠ none → ∃ u : State, exec .fpllRetry s = .next u.runStart ∧ u.clk.fpllFailedAt = none ∧
      u.tick = max s.tick (min (k + 32768) (2 ^ 48 - 1)))

/-- O60. Wake and sleep: a source wakes its island, and a wake abandons a held sleep request; RETENTION_ENTRY enters Retention with the
instruction caches and the watchdog off, or holds the request; a Kiln with nothing to do programs its log tail and switches off, its timer
armed, which brings it back; the kernel tick falls on the next multiple of 32 768. Rests on 01_cabinet.md R57, 04_power_clocks.md R144,
04_power_clocks.md R145, 04_power_clocks.md R160, 04_power_clocks.md R161, 04_power_clocks.md R162, 11_uplink.md R429. -/
def Obligations.WakeAndSleep : Prop :=
  ∀ (w : WakeSrc) (s : State), s.rails.vao = true →
    (s.pwr.flushing = false → Does (.wake w) s (fun t =>
      (wakesMain w = true → s.mainUp = true → (t.pwr.main = .running ∨ ∃ r, t.pwr.main = .hold r) ∧ t.pwr.sleepReq = false) ∧
      (wakesKiln w = true → s.kilnReady = true → t.kilnRuns = true))) ∧
    (s.mayRetain = true → Does .retentionEntry s (fun t =>
      t = { s with core := t.core, pwr := { s.pwr with main := .retention, sleepReq := false, mainWdogFrom := none } } ∧
      ∀ k : Fin 2, t.core[k] = { s.core[k] with icache := [] })) ∧
    (s.mayRetain = false → s.wheelRuns = true → Does .retentionEntry s (fun t => t = { s with pwr := { s.pwr with sleepReq := true } })) ∧
    (s.kilnIdle = true → Does .kilnSwitchOff s (fun t => t.pwr.kiln = .off ∧ t.pwr.kilnTimerArmed = true ∧ t.kiln.tail = [] ∧ t.spy.fill = 0)) ∧
    (s.pwr.kilnTimerArmed = true → s.kilnReady = true → s.clk.tickSrc ≠ none → Does .kilnWakeTimer s (fun t =>
      t.kilnRuns = true ∧ t.pwr.kilnTimerArmed = false ∧
      ∀ k, s.upl.savedAt = some k → k + 117964800 ≤ s.tick → t.upl.savedFloors = s.upl.floors)) ∧
    (s.clk.tickSrc ≠ none → Does .periodicKernelTick s (fun t =>
      t.tick = max s.tick (min ((s.tick / 32768 + 1) * 32768) (2 ^ 48 - 1)) ∧ t.pwr.main ≠ .retention))

end
end

