-- ==== Sys2Proof/Laws/Channel.lean ====
section
/-! SUPPORT. Every operation on a channel keeps it safe: at most 16 events, and no hold without the latch. -/

namespace Sys2Proof.Machine

open Sys2Proof

/-- `Chan.Ok` by the fields it speaks of. -/
def ChanF (fifo : List Event) (keep : KeepSt) (latch : Bool) : Prop := fifo.length ≤ 16 ∧ ∀ k, keep = .hold k → latch = true

@[simp ↓] theorem chan_ok_mk (dmd : Bool) (fbk : Bool) (known : Bool) (eclass : EClass) (fen : Bool) (fenPad : Pad FenFn) (lnkPad : Pad LnkFn) (latch : Bool) (service : Bool) (contracted : Bool) (retired : Bool) (fused : Bool) (supLost : Bool) (frz : Freeze) (needDec : Bool) (conf : Option Nat) (keep : KeepSt) (tconfLen : Nat) (hbLen : Nat) (holdLen : Nat) (fifo : List Event) (fbkGlitch : Nat) (dmdGlitch : Nat) (confLate : Nat) (lost : Nat) (ignored : Nat) (mismatch : Nat) (sticky : ChSticky) (keptGuard : Option Bool) (keptKeep : Option KeepCmd) (sherdHold : Bool) (padRetired : Bool) (rbBad : Nat) (setup : Bool) :
    Chan.Ok (Chan.mk dmd fbk known eclass fen fenPad lnkPad latch service contracted retired fused supLost frz needDec conf keep tconfLen hbLen holdLen fifo fbkGlitch dmdGlitch confLate lost ignored mismatch sticky keptGuard keptKeep sherdHold padRetired rbBad setup) = ChanF fifo keep latch := propext Iff.rfl

@[simp ↓] theorem chanF_eta (c : Chan) : ChanF c.fifo c.keep c.latch = c.Ok := propext Iff.rfl

@[simp] theorem chan_ok_ite (q : Prop) [Decidable q] (c d : Chan) : Chan.Ok (if q then c else d) = if q then c.Ok else d.Ok := by split <;> rfl

@[simp] theorem chanF_idle {l : List Event} {k : KeepSt} {v w : Bool} (h : ChanF l k v) : ChanF l .idle w := ⟨h.1, by simp⟩

@[simp] theorem chanF_heartbeat {l : List Event} {k : KeepSt} {v w : Bool} {n : Nat} (h : ChanF l k v) : ChanF l (.heartbeat n) w := ⟨h.1, by simp⟩

@[simp] theorem chanF_latched {l : List Event} {k j : KeepSt} {v : Bool} (h : ChanF l k v) : ChanF l j true := ⟨h.1, fun _ _ => rfl⟩

@[simp] theorem chanF_empty {l : List Event} {k : KeepSt} {v : Bool} (h : ChanF l k v) : ChanF [] k v := ⟨by simp, h.2⟩

@[simp] theorem chanF_drop {l : List Event} {k : KeepSt} {v : Bool} (n : Nat) (h : ChanF l k v) : ChanF (l.drop n) k v :=
  ⟨by have := h.1; simp; omega, h.2⟩

@[simp] theorem Chan.push_ok {c : Chan} (h : c.Ok) (code t : Nat) (w : Bool) : (c.push code t w).Ok := by
  unfold Chan.push
  split
  · split
    · rename_i h1
      exact ⟨by simp; omega, h.2⟩
    · exact h
  · exact h

@[simp] theorem Chan.checkConf_ok {c : Chan} (h : c.Ok) (t : Nat) : (c.checkConf t).Ok := by
  unfold Chan.checkConf
  split
  · exact Chan.push_ok (c := { c with conf := none }) h _ _ _
  · exact h

@[simp] theorem Chan.settle_ok {c : Chan} (h : c.Ok) (t : Nat) : (c.settle t).Ok := by
  have h1 : ∀ n code, (({ c with fen := n, conf := none } : Chan).push code t).Ok := fun n code =>
    Chan.push_ok (c := { c with fen := n, conf := none }) h _ _ _
  have h2 : ∀ (d : Chan) (q : Bool) (k : Option Nat), d.Ok → Chan.Ok (if q then ({ d with conf := k } : Chan).checkConf t else d) := by
    intro d q k hd
    split
    · exact Chan.checkConf_ok (c := { d with conf := k }) hd t
    · exact hd
  unfold Chan.settle
  show Chan.Ok (if c.target = c.fen then c else _)
  split
  · exact h
  · exact h2 _ _ _ (h1 _ _)

@[simp] theorem Chan.closeConf_ok {c : Chan} (h : c.Ok) (t : Nat) : (c.closeConf t).Ok := by
  unfold Chan.closeConf
  split
  · split
    · exact Chan.push_ok (c := { c with conf := none, confLate := sat16 c.confLate }) h _ _ _
    · exact h
  · exact h

@[simp] theorem Chan.closeKeep_ok {c : Chan} (h : c.Ok) (k : Nat) : (c.closeKeep k).Ok := by
  unfold Chan.closeKeep
  split
  · exact h
  · exact Chan.push_ok (c := { c with keep := .idle }) (chanF_idle h) _ _ _
  · exact Chan.settle_ok (Chan.push_ok (c := { c with keep := .idle, latch := false }) (chanF_idle h) _ _ _) _

@[simp] theorem Chan.closeDue_ok {c : Chan} (h : c.Ok) (t : Nat) : (c.closeDue t).Ok := by
  unfold Chan.closeDue
  split
  · exact Chan.closeConf_ok h t
  · exact Chan.closeConf_ok (Chan.closeKeep_ok (Chan.closeConf_ok h _) _) _

@[simp] theorem Chan.clearLatch_ok {c : Chan} (h : c.Ok) : c.clearLatch.Ok := by
  refine ⟨h.1, fun n hn => ?_⟩
  unfold Chan.clearLatch at hn
  dsimp only at hn
  split at hn
  · simp at hn
  · rename_i h1
    exact absurd hn (h1 n)

@[simp] theorem Chan.moveFen_ok {c : Chan} (h : c.Ok) (t : Nat) : (c.moveFen t).Ok := by
  unfold Chan.moveFen
  dsimp only
  split
  · exact h
  · exact Chan.push_ok (c := { c with fen := _, conf := none }) h _ _ _

@[simp] theorem Chan.lnkDown_ok {c : Chan} (h : c.Ok) : c.lnkDown.Ok := h

@[simp] theorem Chan.lnkUp_ok {c : Chan} (h : c.Ok) (b : Bool) : (c.lnkUp b).Ok := by
  unfold Chan.lnkUp
  split
  · exact h
  · split <;> exact h

@[simp] theorem Chan.dmdEdge_ok {c : Chan} (h : c.Ok) (rise bypass : Bool) (t : Nat) : (c.dmdEdge rise bypass t).Ok := by
  have h1 : ∀ v code, (({ c with dmd := v } : Chan).push code t bypass).Ok := fun v code =>
    Chan.push_ok (c := { c with dmd := v }) h _ _ _
  unfold Chan.dmdEdge
  split
  · exact h
  · have h2 : ∀ d : Chan, d.Ok → Chan.Ok (if bypass then d.moveFen t else d.settle t) := by
      intro d hd
      split
      · exact Chan.moveFen_ok hd t
      · exact Chan.settle_ok hd t
    refine h2 _ ?_
    split
    · exact h1 _ _
    · exact Chan.clearLatch_ok (h1 _ _)

@[simp] theorem Chan.fbkEdge_ok {c : Chan} (h : c.Ok) (rise : Bool) (t : Nat) : (c.fbkEdge rise t).Ok := by
  have h1 : ∀ v code, (({ c with fbk := v } : Chan).push code t).Ok := fun v code => Chan.push_ok (c := { c with fbk := v }) h _ _ _
  have h2 : ∀ (d : Chan) (q r : Bool), d.Ok → Chan.Ok (if q then d.checkConf t
      else if r then ({ d with mismatch := sat16 d.mismatch } : Chan).push evMismatch t else d) := by
    intro d q r hd
    split
    · exact Chan.checkConf_ok hd t
    · split
      · exact Chan.push_ok (c := { d with mismatch := sat16 d.mismatch }) hd _ _ _
      · exact hd
  unfold Chan.fbkEdge
  split
  · exact h
  · exact h2 _ _ _ (h1 _ _)

@[simp] theorem Chan.glitch_ok {c : Chan} (h : c.Ok) (feedback : Bool) : (c.glitch feedback).Ok := by
  unfold Chan.glitch
  split
  · exact h
  · split <;> exact h

@[simp] theorem Chan.freeze_ok {c : Chan} (h : c.Ok) (src : FreezeSrc) (t : Nat) : (c.freeze src t).Ok := by
  have h1 : ∀ (f : Freeze) (v w : Bool), ({ c with frz := f, needDec := v, keep := if w then .idle else c.keep } : Chan).Ok := by
    intro f v w
    cases w
    · exact h
    · exact chanF_idle h
  unfold Chan.freeze
  split
  · exact h
  · dsimp only
    split
    · exact h1 _ _ _
    · exact Chan.push_ok (h1 _ _ _) _ _ _

@[simp] theorem Chan.setLatch_ok {c : Chan} (h : c.Ok) (t : Nat) : (c.setLatch t).Ok := by
  unfold Chan.setLatch
  split
  · exact Chan.settle_ok (c := { c with latch := true }) (chanF_latched h) t
  · exact Chan.settle_ok (c := c.refuseGrant) h t

@[simp] theorem Chan.endFreeze_ok {c : Chan} (h : c.Ok) (t : Nat) : (c.endFreeze t).Ok :=
  Chan.push_ok (c := { c with needDec := false, frz := { c.frz with exchange := false } }) h _ _ _

@[simp] theorem Chan.guardWrite_ok {c : Chan} (h : c.Ok) (grant : Bool) (t : Nat) : (c.guardWrite grant t).Ok := by
  unfold Chan.guardWrite
  dsimp only
  repeat' split
  all_goals first
    | exact h
    | exact Chan.setLatch_ok (Chan.endFreeze_ok h t) t
    | exact Chan.settle_ok (Chan.clearLatch_ok (Chan.endFreeze_ok h t)) t
    | exact Chan.setLatch_ok h t
    | exact Chan.settle_ok (Chan.clearLatch_ok h) t

@[simp] theorem Chan.startHold_ok {c : Chan} (h : c.Ok) (t : Nat) : (c.startHold t).Ok := by
  have h1 : ∀ r : Bool, Chan.Ok (if c.eclass == .a && c.latch && c.dmd && !r then { c with keep := .hold (t + c.holdLen) } else c.refuseKeep) := by
    intro r
    split
    · rename_i h1
      simp only [Bool.and_eq_true] at h1
      exact ⟨h.1, fun _ _ => h1.1.1.2⟩
    · exact h
  exact h1 _

@[simp] theorem Chan.stopKeep_ok {c : Chan} (h : c.Ok) : c.stopKeep.Ok := by
  unfold Chan.stopKeep
  split
  · exact h
  · exact chanF_idle h

@[simp] theorem Chan.keepWrite_ok {c : Chan} (h : c.Ok) (cmd : KeepCmd) (t : Nat) : (c.keepWrite cmd t).Ok := by
  unfold Chan.keepWrite
  repeat' split
  all_goals first
    | exact h
    | exact chanF_heartbeat h
    | exact Chan.startHold_ok h t
    | exact Chan.stopKeep_ok h

@[simp] theorem Chan.applyKept_ok {c : Chan} (h : c.Ok) (t : Nat) : (c.applyKept t).Ok := by
  have h1 : ({ c with keptGuard := none, keptKeep := none } : Chan).Ok := h
  have h2 : ∀ g : Option Bool, Chan.Ok (match g with
      | some v => Chan.guardWrite { c with keptGuard := none, keptKeep := none } v t
      | none => { c with keptGuard := none, keptKeep := none }) := by
    intro g
    cases g
    · exact h1
    · exact Chan.guardWrite_ok h1 _ _
  unfold Chan.applyKept
  dsimp only
  cases c.keptKeep
  · exact h2 _
  · exact Chan.keepWrite_ok (h2 _) _ _

@[simp] theorem Chan.release_ok {c : Chan} (h : c.Ok) (src : FreezeSrc) (t : Nat) : (c.release src t).Ok := by
  have h1 : ({ c with frz := c.frz.put false src } : Chan).Ok := h
  have h2 : ∀ w : Bool, Chan.Ok (if w = true then { c with frz := c.frz.put false src }
      else (Chan.push { c with frz := c.frz.put false src } evFreezeOff t).settle t) := by
    intro w
    cases w
    · exact Chan.settle_ok (Chan.push_ok h1 _ _ _) t
    · exact h1
  unfold Chan.release
  split
  · exact h
  · cases src
    all_goals first
      | exact h2 _
      | exact Chan.applyKept_ok (h2 _) t

@[simp] theorem Chan.clearService_ok {c : Chan} (h : c.Ok) (t : Nat) : (c.clearService t).Ok := by
  unfold Chan.clearService
  dsimp only
  split
  · exact Chan.push_ok (c := { c with service := false, contracted := false, frz := {}, needDec := false, keptGuard := none, keptKeep := none })
      h _ _ _
  · exact h

@[simp] theorem Chan.loadContracted_ok {c : Chan} (h : c.Ok) (v : Bool) (t : Nat) : (c.loadContracted v t).Ok := by
  unfold Chan.loadContracted
  split
  · exact h
  · exact Chan.settle_ok (Chan.clearLatch_ok (c := { c with contracted := false }) h) t

/-- Retirement leaves neither a latch nor a hold (R316). -/
@[simp] theorem Chan.retire_ok {c : Chan} (h : c.Ok) (t : Nat) : (c.retire t).Ok := by
  have hp : ∀ (d : Chan) (code : Nat), d.fifo.length ≤ 16 → (d.push code t).fifo.length ≤ 16 := by
    intro d code hd
    unfold Chan.push
    repeat' split
    all_goals first
      | exact hd
      | (simp; omega)
  have hs : (({ c with latch := false } : Chan).clearService t).fifo.length ≤ 16 := by
    unfold Chan.clearService
    dsimp only
    split
    · exact hp _ _ h.1
    · exact h.1
  have hk : ∀ (d : Chan) (code : Nat), (d.push code t).keep = d.keep := by
    intro d code
    unfold Chan.push
    repeat' split
    all_goals rfl
  unfold Chan.retire
  split
  · exact h
  · dsimp only
    refine ⟨?_, ?_⟩
    · refine hp _ _ ?_
      split
      · exact hp _ _ hs
      · exact hs
    · intro k hkk
      have : (Chan.push (if c.fen = true then
          Chan.push { (({ c with latch := false } : Chan).clearService t) with fen := false, conf := none, keep := .idle } evFenFall t
          else { (({ c with latch := false } : Chan).clearService t) with fen := false, conf := none, keep := .idle }) evRetired t).keep
          = KeepSt.idle := by
        rw [hk]
        split
        · rw [hk]
        · rfl
      exact absurd (this.symm.trans hkk) (by simp)

@[simp] theorem Chan.giveBack_ok {c : Chan} (h : c.Ok) (k : EClass) (t : Nat) : (c.giveBack k t).Ok := by
  have h1 : (({ c with retired := false, eclass := k, padRetired := false, rbBad := 0 } : Chan).push evReturned t).Ok :=
    Chan.push_ok (c := { c with retired := false, eclass := k, padRetired := false, rbBad := 0 }) h _ _ _
  have h2 : ∀ (d : Chan) (q : Bool) (x : Pad FenFn) (y : Pad LnkFn), d.Ok →
      Chan.Ok (if q then d else { d with fenPad := x, lnkPad := y }) := by
    intro d q x y hd
    split <;> exact hd
  unfold Chan.giveBack
  split
  · exact h
  · exact h2 _ _ _ _ h1

@[simp] theorem Chan.enter_ok {c : Chan} (h : c.Ok) (v : Bool) (conds : FreezeSrc → Bool) (t : Nat) : (c.enter v conds t).Ok := by
  have hf : ∀ (l : List FreezeSrc) (x : Chan), x.Ok → (l.foldl (fun x src => if conds src then x.freeze src t else x) x).Ok := by
    intro l
    induction l with
    | nil => exact fun x hx => hx
    | cons a l ih =>
      intro x hx
      rw [List.foldl_cons]
      refine ih _ ?_
      split
      · exact Chan.freeze_ok hx a t
      · exact hx
  unfold Chan.enter
  dsimp only
  repeat' split
  all_goals first
    | exact h
    | exact Chan.loadContracted_ok h _ _
    | exact hf _ _ (Chan.push_ok (c := { c with service := true, contracted := v }) h _ _ _)

@[simp] theorem Chan.xfreeze_ok {c : Chan} (h : c.Ok) (v : Bool) (t : Nat) : (c.xfreeze v t).Ok := by
  unfold Chan.xfreeze
  repeat' split
  all_goals first
    | exact h
    | exact Chan.freeze_ok (Chan.loadContracted_ok h _ _) _ _

@[simp] theorem Chan.lengthWrite_ok {c : Chan} (h : c.Ok) (w : WinLen) (v : Nat) : (c.lengthWrite w v).Ok := by
  unfold Chan.lengthWrite
  dsimp only
  repeat' split
  all_goals exact h

@[simp] theorem Chan.fenParked_ok {c : Chan} (h : c.Ok) (t : Nat) : (c.fenParked t).Ok := by
  unfold Chan.fenParked
  dsimp only
  split
  · exact Chan.push_ok (c := { c with conf := none, fen := false }) h _ _ _
  · exact h

@[simp] theorem Chan.windows_ok {c : Chan} (h : c.Ok) (k : Contract) : (c.windows k).Ok :=
  Chan.lengthWrite_ok (Chan.lengthWrite_ok (Chan.lengthWrite_ok h _ _) _ _) _ _

@[simp] theorem Chan.loseSupervision_ok {c : Chan} (h : c.Ok) : c.loseSupervision.Ok := chanF_idle h

@[simp] theorem Chan.toGuarded_ok {c : Chan} (h : c.Ok) (k : EClass) (r : Bool) (t : Nat) : (c.toGuarded k r t).Ok := by
  unfold Chan.toGuarded
  dsimp only
  split <;> exact h

@[simp] theorem Chan.pairBack_ok {c : Chan} (h : c.Ok) (t : Nat) : (c.pairBack t).Ok := h

@[simp] theorem Chan.toSherd_ok {c : Chan} (h : c.Ok) (w : Bool) (t : Nat) : (c.toSherd w t).Ok := by
  have h0 : ({ c with lnkPad := c.lnkPad.park false t } : Chan).Ok := h
  have h1 : ({ ({ c with lnkPad := c.lnkPad.park false t } : Chan).clearLatch with
      sherdHold := true, frz := {}, needDec := false, keptGuard := none, keptKeep := none } : Chan).Ok := Chan.clearLatch_ok h0
  unfold Chan.toSherd
  dsimp only
  split
  · exact h0
  · split
    · refine Chan.settle_ok ?_ t
      split
      · exact Chan.push_ok h1 _ _ _
      · exact h1
    · exact chanF_idle (Chan.clearService_ok h0 t)

@[simp] theorem Chan.decide_ok {c : Chan} (h : c.Ok) (t : Nat) : (c.decide_ t).Ok := by
  unfold Chan.decide_
  repeat' split
  all_goals first
    | exact h
    | exact Chan.keepWrite_ok (Chan.guardWrite_ok h _ _) _ _
    | exact Chan.guardWrite_ok h _ _

end Sys2Proof.Machine
end

