-- ==== Sys2Proof/Laws/ChannelFields.lean ====
section
/-! SUPPORT. The fields of a channel that each of its basic operations leaves as they were. -/

namespace Sys2Proof.Machine

open Sys2Proof

@[simp] theorem Chan.push_dmd (c : Chan) (code t : Nat) (w : Bool) : (c.push code t w).dmd = c.dmd := by
  unfold Chan.push; repeat' split
  all_goals rfl

@[simp] theorem Chan.push_fbk (c : Chan) (code t : Nat) (w : Bool) : (c.push code t w).fbk = c.fbk := by
  unfold Chan.push; repeat' split
  all_goals rfl

@[simp] theorem Chan.push_known (c : Chan) (code t : Nat) (w : Bool) : (c.push code t w).known = c.known := by
  unfold Chan.push; repeat' split
  all_goals rfl

@[simp] theorem Chan.push_eclass (c : Chan) (code t : Nat) (w : Bool) : (c.push code t w).eclass = c.eclass := by
  unfold Chan.push; repeat' split
  all_goals rfl

@[simp] theorem Chan.push_fen (c : Chan) (code t : Nat) (w : Bool) : (c.push code t w).fen = c.fen := by
  unfold Chan.push; repeat' split
  all_goals rfl

@[simp] theorem Chan.push_fenPad (c : Chan) (code t : Nat) (w : Bool) : (c.push code t w).fenPad = c.fenPad := by
  unfold Chan.push; repeat' split
  all_goals rfl

@[simp] theorem Chan.push_lnkPad (c : Chan) (code t : Nat) (w : Bool) : (c.push code t w).lnkPad = c.lnkPad := by
  unfold Chan.push; repeat' split
  all_goals rfl

@[simp] theorem Chan.push_latch (c : Chan) (code t : Nat) (w : Bool) : (c.push code t w).latch = c.latch := by
  unfold Chan.push; repeat' split
  all_goals rfl

@[simp] theorem Chan.push_service (c : Chan) (code t : Nat) (w : Bool) : (c.push code t w).service = c.service := by
  unfold Chan.push; repeat' split
  all_goals rfl

@[simp] theorem Chan.push_contracted (c : Chan) (code t : Nat) (w : Bool) : (c.push code t w).contracted = c.contracted := by
  unfold Chan.push; repeat' split
  all_goals rfl

@[simp] theorem Chan.push_retired (c : Chan) (code t : Nat) (w : Bool) : (c.push code t w).retired = c.retired := by
  unfold Chan.push; repeat' split
  all_goals rfl

@[simp] theorem Chan.push_fused (c : Chan) (code t : Nat) (w : Bool) : (c.push code t w).fused = c.fused := by
  unfold Chan.push; repeat' split
  all_goals rfl

@[simp] theorem Chan.push_supLost (c : Chan) (code t : Nat) (w : Bool) : (c.push code t w).supLost = c.supLost := by
  unfold Chan.push; repeat' split
  all_goals rfl

@[simp] theorem Chan.push_frz (c : Chan) (code t : Nat) (w : Bool) : (c.push code t w).frz = c.frz := by
  unfold Chan.push; repeat' split
  all_goals rfl

@[simp] theorem Chan.push_needDec (c : Chan) (code t : Nat) (w : Bool) : (c.push code t w).needDec = c.needDec := by
  unfold Chan.push; repeat' split
  all_goals rfl

@[simp] theorem Chan.push_conf (c : Chan) (code t : Nat) (w : Bool) : (c.push code t w).conf = c.conf := by
  unfold Chan.push; repeat' split
  all_goals rfl

@[simp] theorem Chan.push_keep (c : Chan) (code t : Nat) (w : Bool) : (c.push code t w).keep = c.keep := by
  unfold Chan.push; repeat' split
  all_goals rfl

@[simp] theorem Chan.push_tconfLen (c : Chan) (code t : Nat) (w : Bool) : (c.push code t w).tconfLen = c.tconfLen := by
  unfold Chan.push; repeat' split
  all_goals rfl

@[simp] theorem Chan.push_hbLen (c : Chan) (code t : Nat) (w : Bool) : (c.push code t w).hbLen = c.hbLen := by
  unfold Chan.push; repeat' split
  all_goals rfl

@[simp] theorem Chan.push_holdLen (c : Chan) (code t : Nat) (w : Bool) : (c.push code t w).holdLen = c.holdLen := by
  unfold Chan.push; repeat' split
  all_goals rfl

@[simp] theorem Chan.push_fbkGlitch (c : Chan) (code t : Nat) (w : Bool) : (c.push code t w).fbkGlitch = c.fbkGlitch := by
  unfold Chan.push; repeat' split
  all_goals rfl

@[simp] theorem Chan.push_dmdGlitch (c : Chan) (code t : Nat) (w : Bool) : (c.push code t w).dmdGlitch = c.dmdGlitch := by
  unfold Chan.push; repeat' split
  all_goals rfl

@[simp] theorem Chan.push_confLate (c : Chan) (code t : Nat) (w : Bool) : (c.push code t w).confLate = c.confLate := by
  unfold Chan.push; repeat' split
  all_goals rfl

@[simp] theorem Chan.push_ignored (c : Chan) (code t : Nat) (w : Bool) : (c.push code t w).ignored = c.ignored := by
  unfold Chan.push; repeat' split
  all_goals rfl

@[simp] theorem Chan.push_mismatch (c : Chan) (code t : Nat) (w : Bool) : (c.push code t w).mismatch = c.mismatch := by
  unfold Chan.push; repeat' split
  all_goals rfl

@[simp] theorem Chan.push_keptGuard (c : Chan) (code t : Nat) (w : Bool) : (c.push code t w).keptGuard = c.keptGuard := by
  unfold Chan.push; repeat' split
  all_goals rfl

@[simp] theorem Chan.push_keptKeep (c : Chan) (code t : Nat) (w : Bool) : (c.push code t w).keptKeep = c.keptKeep := by
  unfold Chan.push; repeat' split
  all_goals rfl

@[simp] theorem Chan.push_sherdHold (c : Chan) (code t : Nat) (w : Bool) : (c.push code t w).sherdHold = c.sherdHold := by
  unfold Chan.push; repeat' split
  all_goals rfl

@[simp] theorem Chan.push_padRetired (c : Chan) (code t : Nat) (w : Bool) : (c.push code t w).padRetired = c.padRetired := by
  unfold Chan.push; repeat' split
  all_goals rfl

@[simp] theorem Chan.push_rbBad (c : Chan) (code t : Nat) (w : Bool) : (c.push code t w).rbBad = c.rbBad := by
  unfold Chan.push; repeat' split
  all_goals rfl

@[simp] theorem Chan.push_setup (c : Chan) (code t : Nat) (w : Bool) : (c.push code t w).setup = c.setup := by
  unfold Chan.push; repeat' split
  all_goals rfl

@[simp] theorem Chan.checkConf_dmd (c : Chan) (t : Nat) : (c.checkConf t).dmd = c.dmd := by
  unfold Chan.checkConf; split <;> simp

@[simp] theorem Chan.checkConf_fbk (c : Chan) (t : Nat) : (c.checkConf t).fbk = c.fbk := by
  unfold Chan.checkConf; split <;> simp

@[simp] theorem Chan.checkConf_known (c : Chan) (t : Nat) : (c.checkConf t).known = c.known := by
  unfold Chan.checkConf; split <;> simp

@[simp] theorem Chan.checkConf_eclass (c : Chan) (t : Nat) : (c.checkConf t).eclass = c.eclass := by
  unfold Chan.checkConf; split <;> simp

@[simp] theorem Chan.checkConf_fen (c : Chan) (t : Nat) : (c.checkConf t).fen = c.fen := by
  unfold Chan.checkConf; split <;> simp

@[simp] theorem Chan.checkConf_fenPad (c : Chan) (t : Nat) : (c.checkConf t).fenPad = c.fenPad := by
  unfold Chan.checkConf; split <;> simp

@[simp] theorem Chan.checkConf_lnkPad (c : Chan) (t : Nat) : (c.checkConf t).lnkPad = c.lnkPad := by
  unfold Chan.checkConf; split <;> simp

@[simp] theorem Chan.checkConf_latch (c : Chan) (t : Nat) : (c.checkConf t).latch = c.latch := by
  unfold Chan.checkConf; split <;> simp

@[simp] theorem Chan.checkConf_service (c : Chan) (t : Nat) : (c.checkConf t).service = c.service := by
  unfold Chan.checkConf; split <;> simp

@[simp] theorem Chan.checkConf_contracted (c : Chan) (t : Nat) : (c.checkConf t).contracted = c.contracted := by
  unfold Chan.checkConf; split <;> simp

@[simp] theorem Chan.checkConf_retired (c : Chan) (t : Nat) : (c.checkConf t).retired = c.retired := by
  unfold Chan.checkConf; split <;> simp

@[simp] theorem Chan.checkConf_fused (c : Chan) (t : Nat) : (c.checkConf t).fused = c.fused := by
  unfold Chan.checkConf; split <;> simp

@[simp] theorem Chan.checkConf_supLost (c : Chan) (t : Nat) : (c.checkConf t).supLost = c.supLost := by
  unfold Chan.checkConf; split <;> simp

@[simp] theorem Chan.checkConf_frz (c : Chan) (t : Nat) : (c.checkConf t).frz = c.frz := by
  unfold Chan.checkConf; split <;> simp

@[simp] theorem Chan.checkConf_needDec (c : Chan) (t : Nat) : (c.checkConf t).needDec = c.needDec := by
  unfold Chan.checkConf; split <;> simp

@[simp] theorem Chan.checkConf_keep (c : Chan) (t : Nat) : (c.checkConf t).keep = c.keep := by
  unfold Chan.checkConf; split <;> simp

@[simp] theorem Chan.checkConf_tconfLen (c : Chan) (t : Nat) : (c.checkConf t).tconfLen = c.tconfLen := by
  unfold Chan.checkConf; split <;> simp

@[simp] theorem Chan.checkConf_hbLen (c : Chan) (t : Nat) : (c.checkConf t).hbLen = c.hbLen := by
  unfold Chan.checkConf; split <;> simp

@[simp] theorem Chan.checkConf_holdLen (c : Chan) (t : Nat) : (c.checkConf t).holdLen = c.holdLen := by
  unfold Chan.checkConf; split <;> simp

@[simp] theorem Chan.checkConf_fbkGlitch (c : Chan) (t : Nat) : (c.checkConf t).fbkGlitch = c.fbkGlitch := by
  unfold Chan.checkConf; split <;> simp

@[simp] theorem Chan.checkConf_dmdGlitch (c : Chan) (t : Nat) : (c.checkConf t).dmdGlitch = c.dmdGlitch := by
  unfold Chan.checkConf; split <;> simp

@[simp] theorem Chan.checkConf_confLate (c : Chan) (t : Nat) : (c.checkConf t).confLate = c.confLate := by
  unfold Chan.checkConf; split <;> simp

@[simp] theorem Chan.checkConf_ignored (c : Chan) (t : Nat) : (c.checkConf t).ignored = c.ignored := by
  unfold Chan.checkConf; split <;> simp

@[simp] theorem Chan.checkConf_mismatch (c : Chan) (t : Nat) : (c.checkConf t).mismatch = c.mismatch := by
  unfold Chan.checkConf; split <;> simp

@[simp] theorem Chan.checkConf_keptGuard (c : Chan) (t : Nat) : (c.checkConf t).keptGuard = c.keptGuard := by
  unfold Chan.checkConf; split <;> simp

@[simp] theorem Chan.checkConf_keptKeep (c : Chan) (t : Nat) : (c.checkConf t).keptKeep = c.keptKeep := by
  unfold Chan.checkConf; split <;> simp

@[simp] theorem Chan.checkConf_sherdHold (c : Chan) (t : Nat) : (c.checkConf t).sherdHold = c.sherdHold := by
  unfold Chan.checkConf; split <;> simp

@[simp] theorem Chan.checkConf_padRetired (c : Chan) (t : Nat) : (c.checkConf t).padRetired = c.padRetired := by
  unfold Chan.checkConf; split <;> simp

@[simp] theorem Chan.checkConf_rbBad (c : Chan) (t : Nat) : (c.checkConf t).rbBad = c.rbBad := by
  unfold Chan.checkConf; split <;> simp

@[simp] theorem Chan.checkConf_setup (c : Chan) (t : Nat) : (c.checkConf t).setup = c.setup := by
  unfold Chan.checkConf; split <;> simp

@[simp] theorem Chan.settle_dmd (c : Chan) (t : Nat) : (c.settle t).dmd = c.dmd := by
  unfold Chan.settle; dsimp only; (repeat' split) <;> simp

@[simp] theorem Chan.settle_fbk (c : Chan) (t : Nat) : (c.settle t).fbk = c.fbk := by
  unfold Chan.settle; dsimp only; (repeat' split) <;> simp

@[simp] theorem Chan.settle_known (c : Chan) (t : Nat) : (c.settle t).known = c.known := by
  unfold Chan.settle; dsimp only; (repeat' split) <;> simp

@[simp] theorem Chan.settle_eclass (c : Chan) (t : Nat) : (c.settle t).eclass = c.eclass := by
  unfold Chan.settle; dsimp only; (repeat' split) <;> simp

@[simp] theorem Chan.settle_fenPad (c : Chan) (t : Nat) : (c.settle t).fenPad = c.fenPad := by
  unfold Chan.settle; dsimp only; (repeat' split) <;> simp

@[simp] theorem Chan.settle_lnkPad (c : Chan) (t : Nat) : (c.settle t).lnkPad = c.lnkPad := by
  unfold Chan.settle; dsimp only; (repeat' split) <;> simp

@[simp] theorem Chan.settle_latch (c : Chan) (t : Nat) : (c.settle t).latch = c.latch := by
  unfold Chan.settle; dsimp only; (repeat' split) <;> simp

@[simp] theorem Chan.settle_service (c : Chan) (t : Nat) : (c.settle t).service = c.service := by
  unfold Chan.settle; dsimp only; (repeat' split) <;> simp

@[simp] theorem Chan.settle_contracted (c : Chan) (t : Nat) : (c.settle t).contracted = c.contracted := by
  unfold Chan.settle; dsimp only; (repeat' split) <;> simp

@[simp] theorem Chan.settle_retired (c : Chan) (t : Nat) : (c.settle t).retired = c.retired := by
  unfold Chan.settle; dsimp only; (repeat' split) <;> simp

@[simp] theorem Chan.settle_fused (c : Chan) (t : Nat) : (c.settle t).fused = c.fused := by
  unfold Chan.settle; dsimp only; (repeat' split) <;> simp

@[simp] theorem Chan.settle_supLost (c : Chan) (t : Nat) : (c.settle t).supLost = c.supLost := by
  unfold Chan.settle; dsimp only; (repeat' split) <;> simp

@[simp] theorem Chan.settle_frz (c : Chan) (t : Nat) : (c.settle t).frz = c.frz := by
  unfold Chan.settle; dsimp only; (repeat' split) <;> simp

@[simp] theorem Chan.settle_needDec (c : Chan) (t : Nat) : (c.settle t).needDec = c.needDec := by
  unfold Chan.settle; dsimp only; (repeat' split) <;> simp

@[simp] theorem Chan.settle_keep (c : Chan) (t : Nat) : (c.settle t).keep = c.keep := by
  unfold Chan.settle; dsimp only; (repeat' split) <;> simp

@[simp] theorem Chan.settle_tconfLen (c : Chan) (t : Nat) : (c.settle t).tconfLen = c.tconfLen := by
  unfold Chan.settle; dsimp only; (repeat' split) <;> simp

@[simp] theorem Chan.settle_hbLen (c : Chan) (t : Nat) : (c.settle t).hbLen = c.hbLen := by
  unfold Chan.settle; dsimp only; (repeat' split) <;> simp

@[simp] theorem Chan.settle_holdLen (c : Chan) (t : Nat) : (c.settle t).holdLen = c.holdLen := by
  unfold Chan.settle; dsimp only; (repeat' split) <;> simp

@[simp] theorem Chan.settle_fbkGlitch (c : Chan) (t : Nat) : (c.settle t).fbkGlitch = c.fbkGlitch := by
  unfold Chan.settle; dsimp only; (repeat' split) <;> simp

@[simp] theorem Chan.settle_dmdGlitch (c : Chan) (t : Nat) : (c.settle t).dmdGlitch = c.dmdGlitch := by
  unfold Chan.settle; dsimp only; (repeat' split) <;> simp

@[simp] theorem Chan.settle_confLate (c : Chan) (t : Nat) : (c.settle t).confLate = c.confLate := by
  unfold Chan.settle; dsimp only; (repeat' split) <;> simp

@[simp] theorem Chan.settle_ignored (c : Chan) (t : Nat) : (c.settle t).ignored = c.ignored := by
  unfold Chan.settle; dsimp only; (repeat' split) <;> simp

@[simp] theorem Chan.settle_mismatch (c : Chan) (t : Nat) : (c.settle t).mismatch = c.mismatch := by
  unfold Chan.settle; dsimp only; (repeat' split) <;> simp

@[simp] theorem Chan.settle_keptGuard (c : Chan) (t : Nat) : (c.settle t).keptGuard = c.keptGuard := by
  unfold Chan.settle; dsimp only; (repeat' split) <;> simp

@[simp] theorem Chan.settle_keptKeep (c : Chan) (t : Nat) : (c.settle t).keptKeep = c.keptKeep := by
  unfold Chan.settle; dsimp only; (repeat' split) <;> simp

@[simp] theorem Chan.settle_sherdHold (c : Chan) (t : Nat) : (c.settle t).sherdHold = c.sherdHold := by
  unfold Chan.settle; dsimp only; (repeat' split) <;> simp

@[simp] theorem Chan.settle_padRetired (c : Chan) (t : Nat) : (c.settle t).padRetired = c.padRetired := by
  unfold Chan.settle; dsimp only; (repeat' split) <;> simp

@[simp] theorem Chan.settle_rbBad (c : Chan) (t : Nat) : (c.settle t).rbBad = c.rbBad := by
  unfold Chan.settle; dsimp only; (repeat' split) <;> simp

@[simp] theorem Chan.settle_setup (c : Chan) (t : Nat) : (c.settle t).setup = c.setup := by
  unfold Chan.settle; dsimp only; (repeat' split) <;> simp

@[simp] theorem Chan.closeConf_dmd (c : Chan) (t : Nat) : (c.closeConf t).dmd = c.dmd := by
  unfold Chan.closeConf; (repeat' split) <;> simp

@[simp] theorem Chan.closeConf_fbk (c : Chan) (t : Nat) : (c.closeConf t).fbk = c.fbk := by
  unfold Chan.closeConf; (repeat' split) <;> simp

@[simp] theorem Chan.closeConf_known (c : Chan) (t : Nat) : (c.closeConf t).known = c.known := by
  unfold Chan.closeConf; (repeat' split) <;> simp

@[simp] theorem Chan.closeConf_eclass (c : Chan) (t : Nat) : (c.closeConf t).eclass = c.eclass := by
  unfold Chan.closeConf; (repeat' split) <;> simp

@[simp] theorem Chan.closeConf_fen (c : Chan) (t : Nat) : (c.closeConf t).fen = c.fen := by
  unfold Chan.closeConf; (repeat' split) <;> simp

@[simp] theorem Chan.closeConf_fenPad (c : Chan) (t : Nat) : (c.closeConf t).fenPad = c.fenPad := by
  unfold Chan.closeConf; (repeat' split) <;> simp

@[simp] theorem Chan.closeConf_lnkPad (c : Chan) (t : Nat) : (c.closeConf t).lnkPad = c.lnkPad := by
  unfold Chan.closeConf; (repeat' split) <;> simp

@[simp] theorem Chan.closeConf_latch (c : Chan) (t : Nat) : (c.closeConf t).latch = c.latch := by
  unfold Chan.closeConf; (repeat' split) <;> simp

@[simp] theorem Chan.closeConf_service (c : Chan) (t : Nat) : (c.closeConf t).service = c.service := by
  unfold Chan.closeConf; (repeat' split) <;> simp

@[simp] theorem Chan.closeConf_contracted (c : Chan) (t : Nat) : (c.closeConf t).contracted = c.contracted := by
  unfold Chan.closeConf; (repeat' split) <;> simp

@[simp] theorem Chan.closeConf_retired (c : Chan) (t : Nat) : (c.closeConf t).retired = c.retired := by
  unfold Chan.closeConf; (repeat' split) <;> simp

@[simp] theorem Chan.closeConf_fused (c : Chan) (t : Nat) : (c.closeConf t).fused = c.fused := by
  unfold Chan.closeConf; (repeat' split) <;> simp

@[simp] theorem Chan.closeConf_supLost (c : Chan) (t : Nat) : (c.closeConf t).supLost = c.supLost := by
  unfold Chan.closeConf; (repeat' split) <;> simp

@[simp] theorem Chan.closeConf_frz (c : Chan) (t : Nat) : (c.closeConf t).frz = c.frz := by
  unfold Chan.closeConf; (repeat' split) <;> simp

@[simp] theorem Chan.closeConf_needDec (c : Chan) (t : Nat) : (c.closeConf t).needDec = c.needDec := by
  unfold Chan.closeConf; (repeat' split) <;> simp

@[simp] theorem Chan.closeConf_keep (c : Chan) (t : Nat) : (c.closeConf t).keep = c.keep := by
  unfold Chan.closeConf; (repeat' split) <;> simp

@[simp] theorem Chan.closeConf_tconfLen (c : Chan) (t : Nat) : (c.closeConf t).tconfLen = c.tconfLen := by
  unfold Chan.closeConf; (repeat' split) <;> simp

@[simp] theorem Chan.closeConf_hbLen (c : Chan) (t : Nat) : (c.closeConf t).hbLen = c.hbLen := by
  unfold Chan.closeConf; (repeat' split) <;> simp

@[simp] theorem Chan.closeConf_holdLen (c : Chan) (t : Nat) : (c.closeConf t).holdLen = c.holdLen := by
  unfold Chan.closeConf; (repeat' split) <;> simp

@[simp] theorem Chan.closeConf_fbkGlitch (c : Chan) (t : Nat) : (c.closeConf t).fbkGlitch = c.fbkGlitch := by
  unfold Chan.closeConf; (repeat' split) <;> simp

@[simp] theorem Chan.closeConf_dmdGlitch (c : Chan) (t : Nat) : (c.closeConf t).dmdGlitch = c.dmdGlitch := by
  unfold Chan.closeConf; (repeat' split) <;> simp

@[simp] theorem Chan.closeConf_ignored (c : Chan) (t : Nat) : (c.closeConf t).ignored = c.ignored := by
  unfold Chan.closeConf; (repeat' split) <;> simp

@[simp] theorem Chan.closeConf_mismatch (c : Chan) (t : Nat) : (c.closeConf t).mismatch = c.mismatch := by
  unfold Chan.closeConf; (repeat' split) <;> simp

@[simp] theorem Chan.closeConf_keptGuard (c : Chan) (t : Nat) : (c.closeConf t).keptGuard = c.keptGuard := by
  unfold Chan.closeConf; (repeat' split) <;> simp

@[simp] theorem Chan.closeConf_keptKeep (c : Chan) (t : Nat) : (c.closeConf t).keptKeep = c.keptKeep := by
  unfold Chan.closeConf; (repeat' split) <;> simp

@[simp] theorem Chan.closeConf_sherdHold (c : Chan) (t : Nat) : (c.closeConf t).sherdHold = c.sherdHold := by
  unfold Chan.closeConf; (repeat' split) <;> simp

@[simp] theorem Chan.closeConf_padRetired (c : Chan) (t : Nat) : (c.closeConf t).padRetired = c.padRetired := by
  unfold Chan.closeConf; (repeat' split) <;> simp

@[simp] theorem Chan.closeConf_rbBad (c : Chan) (t : Nat) : (c.closeConf t).rbBad = c.rbBad := by
  unfold Chan.closeConf; (repeat' split) <;> simp

@[simp] theorem Chan.closeConf_setup (c : Chan) (t : Nat) : (c.closeConf t).setup = c.setup := by
  unfold Chan.closeConf; (repeat' split) <;> simp

@[simp] theorem Chan.closeKeep_dmd (c : Chan) (t : Nat) : (c.closeKeep t).dmd = c.dmd := by
  unfold Chan.closeKeep; split <;> simp

@[simp] theorem Chan.closeKeep_fbk (c : Chan) (t : Nat) : (c.closeKeep t).fbk = c.fbk := by
  unfold Chan.closeKeep; split <;> simp

@[simp] theorem Chan.closeKeep_known (c : Chan) (t : Nat) : (c.closeKeep t).known = c.known := by
  unfold Chan.closeKeep; split <;> simp

@[simp] theorem Chan.closeKeep_eclass (c : Chan) (t : Nat) : (c.closeKeep t).eclass = c.eclass := by
  unfold Chan.closeKeep; split <;> simp

@[simp] theorem Chan.closeKeep_fenPad (c : Chan) (t : Nat) : (c.closeKeep t).fenPad = c.fenPad := by
  unfold Chan.closeKeep; split <;> simp

@[simp] theorem Chan.closeKeep_lnkPad (c : Chan) (t : Nat) : (c.closeKeep t).lnkPad = c.lnkPad := by
  unfold Chan.closeKeep; split <;> simp

@[simp] theorem Chan.closeKeep_service (c : Chan) (t : Nat) : (c.closeKeep t).service = c.service := by
  unfold Chan.closeKeep; split <;> simp

@[simp] theorem Chan.closeKeep_contracted (c : Chan) (t : Nat) : (c.closeKeep t).contracted = c.contracted := by
  unfold Chan.closeKeep; split <;> simp

@[simp] theorem Chan.closeKeep_retired (c : Chan) (t : Nat) : (c.closeKeep t).retired = c.retired := by
  unfold Chan.closeKeep; split <;> simp

@[simp] theorem Chan.closeKeep_fused (c : Chan) (t : Nat) : (c.closeKeep t).fused = c.fused := by
  unfold Chan.closeKeep; split <;> simp

@[simp] theorem Chan.closeKeep_supLost (c : Chan) (t : Nat) : (c.closeKeep t).supLost = c.supLost := by
  unfold Chan.closeKeep; split <;> simp

@[simp] theorem Chan.closeKeep_frz (c : Chan) (t : Nat) : (c.closeKeep t).frz = c.frz := by
  unfold Chan.closeKeep; split <;> simp

@[simp] theorem Chan.closeKeep_needDec (c : Chan) (t : Nat) : (c.closeKeep t).needDec = c.needDec := by
  unfold Chan.closeKeep; split <;> simp

@[simp] theorem Chan.closeKeep_tconfLen (c : Chan) (t : Nat) : (c.closeKeep t).tconfLen = c.tconfLen := by
  unfold Chan.closeKeep; split <;> simp

@[simp] theorem Chan.closeKeep_hbLen (c : Chan) (t : Nat) : (c.closeKeep t).hbLen = c.hbLen := by
  unfold Chan.closeKeep; split <;> simp

@[simp] theorem Chan.closeKeep_holdLen (c : Chan) (t : Nat) : (c.closeKeep t).holdLen = c.holdLen := by
  unfold Chan.closeKeep; split <;> simp

@[simp] theorem Chan.closeKeep_fbkGlitch (c : Chan) (t : Nat) : (c.closeKeep t).fbkGlitch = c.fbkGlitch := by
  unfold Chan.closeKeep; split <;> simp

@[simp] theorem Chan.closeKeep_dmdGlitch (c : Chan) (t : Nat) : (c.closeKeep t).dmdGlitch = c.dmdGlitch := by
  unfold Chan.closeKeep; split <;> simp

@[simp] theorem Chan.closeKeep_confLate (c : Chan) (t : Nat) : (c.closeKeep t).confLate = c.confLate := by
  unfold Chan.closeKeep; split <;> simp

@[simp] theorem Chan.closeKeep_ignored (c : Chan) (t : Nat) : (c.closeKeep t).ignored = c.ignored := by
  unfold Chan.closeKeep; split <;> simp

@[simp] theorem Chan.closeKeep_mismatch (c : Chan) (t : Nat) : (c.closeKeep t).mismatch = c.mismatch := by
  unfold Chan.closeKeep; split <;> simp

@[simp] theorem Chan.closeKeep_keptGuard (c : Chan) (t : Nat) : (c.closeKeep t).keptGuard = c.keptGuard := by
  unfold Chan.closeKeep; split <;> simp

@[simp] theorem Chan.closeKeep_keptKeep (c : Chan) (t : Nat) : (c.closeKeep t).keptKeep = c.keptKeep := by
  unfold Chan.closeKeep; split <;> simp

@[simp] theorem Chan.closeKeep_sherdHold (c : Chan) (t : Nat) : (c.closeKeep t).sherdHold = c.sherdHold := by
  unfold Chan.closeKeep; split <;> simp

@[simp] theorem Chan.closeKeep_padRetired (c : Chan) (t : Nat) : (c.closeKeep t).padRetired = c.padRetired := by
  unfold Chan.closeKeep; split <;> simp

@[simp] theorem Chan.closeKeep_rbBad (c : Chan) (t : Nat) : (c.closeKeep t).rbBad = c.rbBad := by
  unfold Chan.closeKeep; split <;> simp

@[simp] theorem Chan.closeKeep_setup (c : Chan) (t : Nat) : (c.closeKeep t).setup = c.setup := by
  unfold Chan.closeKeep; split <;> simp

@[simp] theorem Chan.closeDue_dmd (c : Chan) (t : Nat) : (c.closeDue t).dmd = c.dmd := by
  unfold Chan.closeDue; split <;> simp

@[simp] theorem Chan.closeDue_fbk (c : Chan) (t : Nat) : (c.closeDue t).fbk = c.fbk := by
  unfold Chan.closeDue; split <;> simp

@[simp] theorem Chan.closeDue_known (c : Chan) (t : Nat) : (c.closeDue t).known = c.known := by
  unfold Chan.closeDue; split <;> simp

@[simp] theorem Chan.closeDue_eclass (c : Chan) (t : Nat) : (c.closeDue t).eclass = c.eclass := by
  unfold Chan.closeDue; split <;> simp

@[simp] theorem Chan.closeDue_fenPad (c : Chan) (t : Nat) : (c.closeDue t).fenPad = c.fenPad := by
  unfold Chan.closeDue; split <;> simp

@[simp] theorem Chan.closeDue_lnkPad (c : Chan) (t : Nat) : (c.closeDue t).lnkPad = c.lnkPad := by
  unfold Chan.closeDue; split <;> simp

@[simp] theorem Chan.closeDue_service (c : Chan) (t : Nat) : (c.closeDue t).service = c.service := by
  unfold Chan.closeDue; split <;> simp

@[simp] theorem Chan.closeDue_contracted (c : Chan) (t : Nat) : (c.closeDue t).contracted = c.contracted := by
  unfold Chan.closeDue; split <;> simp

@[simp] theorem Chan.closeDue_retired (c : Chan) (t : Nat) : (c.closeDue t).retired = c.retired := by
  unfold Chan.closeDue; split <;> simp

@[simp] theorem Chan.closeDue_fused (c : Chan) (t : Nat) : (c.closeDue t).fused = c.fused := by
  unfold Chan.closeDue; split <;> simp

@[simp] theorem Chan.closeDue_supLost (c : Chan) (t : Nat) : (c.closeDue t).supLost = c.supLost := by
  unfold Chan.closeDue; split <;> simp

@[simp] theorem Chan.closeDue_frz (c : Chan) (t : Nat) : (c.closeDue t).frz = c.frz := by
  unfold Chan.closeDue; split <;> simp

@[simp] theorem Chan.closeDue_needDec (c : Chan) (t : Nat) : (c.closeDue t).needDec = c.needDec := by
  unfold Chan.closeDue; split <;> simp

@[simp] theorem Chan.closeDue_tconfLen (c : Chan) (t : Nat) : (c.closeDue t).tconfLen = c.tconfLen := by
  unfold Chan.closeDue; split <;> simp

@[simp] theorem Chan.closeDue_hbLen (c : Chan) (t : Nat) : (c.closeDue t).hbLen = c.hbLen := by
  unfold Chan.closeDue; split <;> simp

@[simp] theorem Chan.closeDue_holdLen (c : Chan) (t : Nat) : (c.closeDue t).holdLen = c.holdLen := by
  unfold Chan.closeDue; split <;> simp

@[simp] theorem Chan.closeDue_fbkGlitch (c : Chan) (t : Nat) : (c.closeDue t).fbkGlitch = c.fbkGlitch := by
  unfold Chan.closeDue; split <;> simp

@[simp] theorem Chan.closeDue_dmdGlitch (c : Chan) (t : Nat) : (c.closeDue t).dmdGlitch = c.dmdGlitch := by
  unfold Chan.closeDue; split <;> simp

@[simp] theorem Chan.closeDue_ignored (c : Chan) (t : Nat) : (c.closeDue t).ignored = c.ignored := by
  unfold Chan.closeDue; split <;> simp

@[simp] theorem Chan.closeDue_mismatch (c : Chan) (t : Nat) : (c.closeDue t).mismatch = c.mismatch := by
  unfold Chan.closeDue; split <;> simp

@[simp] theorem Chan.closeDue_keptGuard (c : Chan) (t : Nat) : (c.closeDue t).keptGuard = c.keptGuard := by
  unfold Chan.closeDue; split <;> simp

@[simp] theorem Chan.closeDue_keptKeep (c : Chan) (t : Nat) : (c.closeDue t).keptKeep = c.keptKeep := by
  unfold Chan.closeDue; split <;> simp

@[simp] theorem Chan.closeDue_sherdHold (c : Chan) (t : Nat) : (c.closeDue t).sherdHold = c.sherdHold := by
  unfold Chan.closeDue; split <;> simp

@[simp] theorem Chan.closeDue_padRetired (c : Chan) (t : Nat) : (c.closeDue t).padRetired = c.padRetired := by
  unfold Chan.closeDue; split <;> simp

@[simp] theorem Chan.closeDue_rbBad (c : Chan) (t : Nat) : (c.closeDue t).rbBad = c.rbBad := by
  unfold Chan.closeDue; split <;> simp

@[simp] theorem Chan.closeDue_setup (c : Chan) (t : Nat) : (c.closeDue t).setup = c.setup := by
  unfold Chan.closeDue; split <;> simp

@[simp] theorem Chan.clearLatch_dmd (c : Chan) : (c.clearLatch).dmd = c.dmd := rfl

@[simp] theorem Chan.clearLatch_fbk (c : Chan) : (c.clearLatch).fbk = c.fbk := rfl

@[simp] theorem Chan.clearLatch_known (c : Chan) : (c.clearLatch).known = c.known := rfl

@[simp] theorem Chan.clearLatch_eclass (c : Chan) : (c.clearLatch).eclass = c.eclass := rfl

@[simp] theorem Chan.clearLatch_fen (c : Chan) : (c.clearLatch).fen = c.fen := rfl

@[simp] theorem Chan.clearLatch_fenPad (c : Chan) : (c.clearLatch).fenPad = c.fenPad := rfl

@[simp] theorem Chan.clearLatch_lnkPad (c : Chan) : (c.clearLatch).lnkPad = c.lnkPad := rfl

@[simp] theorem Chan.clearLatch_service (c : Chan) : (c.clearLatch).service = c.service := rfl

@[simp] theorem Chan.clearLatch_contracted (c : Chan) : (c.clearLatch).contracted = c.contracted := rfl

@[simp] theorem Chan.clearLatch_retired (c : Chan) : (c.clearLatch).retired = c.retired := rfl

@[simp] theorem Chan.clearLatch_fused (c : Chan) : (c.clearLatch).fused = c.fused := rfl

@[simp] theorem Chan.clearLatch_supLost (c : Chan) : (c.clearLatch).supLost = c.supLost := rfl

@[simp] theorem Chan.clearLatch_frz (c : Chan) : (c.clearLatch).frz = c.frz := rfl

@[simp] theorem Chan.clearLatch_needDec (c : Chan) : (c.clearLatch).needDec = c.needDec := rfl

@[simp] theorem Chan.clearLatch_conf (c : Chan) : (c.clearLatch).conf = c.conf := rfl

@[simp] theorem Chan.clearLatch_tconfLen (c : Chan) : (c.clearLatch).tconfLen = c.tconfLen := rfl

@[simp] theorem Chan.clearLatch_hbLen (c : Chan) : (c.clearLatch).hbLen = c.hbLen := rfl

@[simp] theorem Chan.clearLatch_holdLen (c : Chan) : (c.clearLatch).holdLen = c.holdLen := rfl

@[simp] theorem Chan.clearLatch_fifo (c : Chan) : (c.clearLatch).fifo = c.fifo := rfl

@[simp] theorem Chan.clearLatch_fbkGlitch (c : Chan) : (c.clearLatch).fbkGlitch = c.fbkGlitch := rfl

@[simp] theorem Chan.clearLatch_dmdGlitch (c : Chan) : (c.clearLatch).dmdGlitch = c.dmdGlitch := rfl

@[simp] theorem Chan.clearLatch_confLate (c : Chan) : (c.clearLatch).confLate = c.confLate := rfl

@[simp] theorem Chan.clearLatch_lost (c : Chan) : (c.clearLatch).lost = c.lost := rfl

@[simp] theorem Chan.clearLatch_ignored (c : Chan) : (c.clearLatch).ignored = c.ignored := rfl

@[simp] theorem Chan.clearLatch_mismatch (c : Chan) : (c.clearLatch).mismatch = c.mismatch := rfl

@[simp] theorem Chan.clearLatch_sticky (c : Chan) : (c.clearLatch).sticky = c.sticky := rfl

@[simp] theorem Chan.clearLatch_keptGuard (c : Chan) : (c.clearLatch).keptGuard = c.keptGuard := rfl

@[simp] theorem Chan.clearLatch_keptKeep (c : Chan) : (c.clearLatch).keptKeep = c.keptKeep := rfl

@[simp] theorem Chan.clearLatch_sherdHold (c : Chan) : (c.clearLatch).sherdHold = c.sherdHold := rfl

@[simp] theorem Chan.clearLatch_padRetired (c : Chan) : (c.clearLatch).padRetired = c.padRetired := rfl

@[simp] theorem Chan.clearLatch_rbBad (c : Chan) : (c.clearLatch).rbBad = c.rbBad := rfl

@[simp] theorem Chan.clearLatch_setup (c : Chan) : (c.clearLatch).setup = c.setup := rfl

end Sys2Proof.Machine
end

