-- ==== Sys2Proof/Laws/ChannelOps.lean ====
section
/-! SUPPORT. What an operation on a channel of the state does, and what it leaves alone. -/

namespace Sys2Proof.Machine

open Sys2Proof

theorem vget_set {α : Type} {n : Nat} (v : Vector α n) (c d : Fin n) (x : α) : (v.set c x)[d] = if d = c then x else v[d] := by
  show (v.set c x)[d.val] = _
  rw [Vector.getElem_set]
  by_cases h : c.val = d.val
  · have : d = c := Fin.ext h.symm
    simp [h, this]
  · have : d ≠ c := fun e => h (by rw [e])
    simp [h, this]

@[simp] theorem chan_setCh (s : State) (c d : Fin 16) (x : Chan) : (s.setCh c x).chan d = if d = c then x else s.chan d := vget_set _ _ _ _

@[simp] theorem chan_updCh (s : State) (c d : Fin 16) (f : Chan → Chan) : (s.updCh c f).chan d = if d = c then f (s.chan c) else s.chan d := vget_set _ _ _ _

@[simp] theorem chan_wake (s : State) (c : Fin 16) : s.wakeMain.chan c = s.chan c := by unfold State.wakeMain; split <;> rfl

@[simp] theorem chan_advance (s : State) (c : Fin 16) (k : Nat) : (s.advanceTo k).chan c = s.chan c := rfl

theorem chan_chOp (s : State) (c d : Fin 16) (f : Chan → Chan) : (s.chOp c f).chan d = if d = c then f (s.due c) else s.chan d := by
  unfold State.chOp State.due; dsimp only; split <;> simp

@[simp] theorem chan_chOp_self (s : State) (c : Fin 16) (f : Chan → Chan) : (s.chOp c f).chan c = f (s.due c) := by simp [chan_chOp]

theorem chOp_tick (s : State) (c : Fin 16) (f : Chan → Chan) : (s.chOp c f).tick = s.tick := by
  unfold State.chOp; dsimp only; split
  · unfold State.wakeMain; split <;> rfl
  · rfl

theorem only_chOp (s : State) (c : Fin 16) (f : Chan → Chan) : OnlyChan s (s.chOp c f) c := by
  refine ⟨?_, fun d hd => by simp [chan_chOp, hd], ?_⟩
  · unfold State.chOp; dsimp only; split
    · unfold State.wakeMain; split <;> rfl
    · rfl
  · have hw : ∀ x, (s.setCh c x).wakeMain.pwr = s.wakeMain.pwr := by
      intro x; unfold State.wakeMain; by_cases h : (s.pwr.main == .retention) = true <;> simp [h, State.setCh]
    unfold State.chOp; dsimp only; split
    · exact .inr (hw _)
    · exact .inl rfl

theorem target_dmd (c : Chan) (h : c.dmd = false) : c.target = false := by
  unfold Chan.target; (repeat' split) <;> simp_all

theorem settle_fen (c : Chan) (t : Nat) : (c.settle t).fen = c.target := by
  have h2 : ∀ (d : Chan) (q : Bool) (k : Option Nat), (if q then ({ d with conf := k } : Chan).checkConf t else d).fen = d.fen := by
    intro d q k
    split <;> simp
  unfold Chan.settle
  show Chan.fen (if c.target = c.fen then c else _) = _
  split
  · rename_i h; exact h.symm
  · exact (h2 _ _ _).trans (Chan.push_fen _ _ _ _)

theorem checkConf_conf (c : Chan) (t : Nat) (h : c.fbk = c.fen) : (c.checkConf t).conf = none := by
  unfold Chan.checkConf
  split
  · simp
  · rename_i h1
    simp [h] at h1
    simpa using h1

theorem push_fifo (c : Chan) (code t : Nat) (w : Bool) (h : c.stamps = true) (h2 : c.fifo.length < 16) :
    (c.push code t w).fifo = c.fifo ++ [{ code := code, bypass := w, frozen := c.frozen, tick := t }] := by
  simp [Chan.push, h, h2]

theorem push_pre (c : Chan) (code t : Nat) (w : Bool) : ∃ l, (c.push code t w).fifo = c.fifo ++ l := by
  unfold Chan.push; (repeat' split)
  · exact ⟨_, rfl⟩
  · exact ⟨[], by simp⟩
  · exact ⟨[], by simp⟩

theorem settle_pre (c : Chan) (t : Nat) : ∃ l, (c.settle t).fifo = c.fifo ++ l := by
  have hc : ∀ d : Chan, ∃ l, (d.checkConf t).fifo = d.fifo ++ l := by
    intro d; unfold Chan.checkConf; split
    · exact push_pre _ _ _ _
    · exact ⟨[], by simp⟩
  have h2 : ∀ (d : Chan) (q : Bool) (k : Option Nat) (m : List Event), (∃ l, d.fifo = m ++ l) →
      ∃ l, Chan.fifo (if q then ({ d with conf := k } : Chan).checkConf t else d) = m ++ l := by
    intro d q k m hd
    obtain ⟨l, hl⟩ := hd
    split
    · obtain ⟨l2, h3⟩ := hc { d with conf := k }
      exact ⟨l ++ l2, h3.trans (by simp [hl])⟩
    · exact ⟨l, hl⟩
  unfold Chan.settle
  show ∃ l, Chan.fifo (if c.target = c.fen then c else _) = _
  split
  · exact ⟨[], by simp⟩
  · exact h2 _ _ _ _ (push_pre { c with fen := c.target, conf := none } _ _ _)

end Sys2Proof.Machine
end

