-- ==== Sys2Proof/Laws/Memory.lean ====
section
/-! SUPPORT. Memory: what one byte reads as after a write, and that every memory operation keeps the canonical form. -/

namespace Sys2Proof.Machine

open Sys2Proof

/-! ## Reading what was written -/

/-- Every listed key is at least `k`. -/
def KeysFrom {α : Type} (k : Nat) : List (Nat × α) → Prop
  | [] => True
  | e :: l => k ≤ e.1 ∧ KeysFrom (e.1 + 1) l

theorem KeysFrom.mono {α : Type} {k j : Nat} {l : List (Nat × α)} (h : KeysFrom k l) (hj : j ≤ k) : KeysFrom j l := by
  cases l with
  | nil => trivial
  | cons e l => exact ⟨Nat.le_trans hj h.1, h.2⟩

theorem lookupD_below {α : Type} (d : α) {k j : Nat} {l : List (Nat × α)} (h : KeysFrom k l) (hj : j < k) : lookupD d j l = d := by
  induction l generalizing k with
  | nil => rfl
  | cons e l ih =>
    obtain ⟨h1, h2⟩ := h
    have hne : ¬ e.1 = j := by omega
    simp only [lookupD, if_neg hne]
    exact ih h2 (by omega)

theorem putD_keys {α : Type} [DecidableEq α] (d v : α) {k j : Nat} {l : List (Nat × α)} (h : KeysFrom j l) (hk : j ≤ k) :
    KeysFrom j (putD d k v l) := by
  induction l generalizing j with
  | nil => unfold putD; split <;> simp [KeysFrom, hk]
  | cons e l ih =>
    obtain ⟨h1, h2⟩ := h
    unfold putD
    split
    · rename_i hlt
      exact ⟨h1, ih h2 (by omega)⟩
    · split
      · rename_i heq
        split
        · exact h2.mono (by omega)
        · exact ⟨hk, heq ▸ h2⟩
      · split
        · exact ⟨h1, h2⟩
        · exact ⟨hk, by omega, h2⟩

/-- A list with rising keys reads `v` under `k` after `v` was put there. -/
theorem lookupD_putD {α : Type} [DecidableEq α] (d v : α) (k j : Nat) {b : Nat} {l : List (Nat × α)} (h : KeysFrom b l) :
    lookupD d j (putD d k v l) = if j = k then v else lookupD d j l := by
  induction l generalizing b with
  | nil =>
    unfold putD
    by_cases hv : v = d
    · simp [hv, lookupD]
    · by_cases hj : j = k
      · simp [hv, lookupD, hj]
      · have : ¬ k = j := fun e => hj e.symm
        simp [hv, lookupD, hj, this]
  | cons e l ih =>
    obtain ⟨h1, h2⟩ := h
    have hl : ∀ i, i ≤ e.1 → lookupD d i l = d := fun i hi => lookupD_below d h2 (by omega)
    unfold putD
    by_cases hlt : e.1 < k
    · rw [if_pos hlt]
      simp only [lookupD]
      by_cases hej : e.1 = j
      · have : ¬ j = k := by omega
        simp [hej, this]
      · simp only [if_neg hej]
        exact ih h2
    · rw [if_neg hlt]
      by_cases hek : e.1 = k
      · rw [if_pos hek]
        by_cases hv : v = d
        · simp only [if_pos hv]
          by_cases hj : j = k
          · rw [if_pos hj, hv]; exact hl j (by omega)
          · have : ¬ e.1 = j := by omega
            simp [lookupD, hj, this]
        · simp only [if_neg hv, lookupD]
          by_cases hj : j = k
          · simp [hj]
          · have h3 : ¬ k = j := fun e => hj e.symm
            have h4 : ¬ e.1 = j := by omega
            simp [hj, h3, h4]
      · rw [if_neg hek]
        by_cases hv : v = d
        · simp only [if_pos hv]
          by_cases hj : j = k
          · rw [if_pos hj]
            have : ¬ e.1 = j := by omega
            simp only [lookupD, if_neg this, hv]
            exact hl j (by omega)
          · rw [if_neg hj]
        · simp only [if_neg hv]
          by_cases hj : j = k
          · simp [lookupD, hj]
          · have h3 : ¬ k = j := fun e => hj e.symm
            conv_lhs => rw [lookupD, if_neg h3]
            simp [hj]

/-! ## The canonical form -/

theorem Mem.wf_iff (m : Mem) : m.wf = true ↔ KeysFrom 0 m ∧ ∀ e ∈ m, e.2 ≠ 0 := by
  suffices h : ∀ k, (∀ e, m.head? = some e → k ≤ e.1) → (m.wf = true ↔ KeysFrom k m ∧ ∀ e ∈ m, e.2 ≠ 0) from
    h 0 (fun _ _ => Nat.zero_le _)
  induction m with
  | nil => intro k _; simp [Mem.wf, KeysFrom]
  | cons e l ih =>
    intro k hk
    have hke : k ≤ e.1 := hk e rfl
    cases l with
    | nil => simp [Mem.wf, KeysFrom, hke]
    | cons f l =>
      have h1 : Mem.wf (e :: f :: l) = (e.2 != 0 && decide (e.1 < f.1) && Mem.wf (f :: l)) := rfl
      rw [h1]
      by_cases hef : e.1 < f.1
      · have := ih (e.1 + 1) (by rintro g hg; simp at hg; subst hg; omega)
        simp only [Bool.and_eq_true, decide_eq_true_eq, bne_iff_ne, ne_eq, this]
        constructor
        · rintro ⟨⟨a, _⟩, b, c⟩
          refine ⟨⟨hke, b⟩, ?_⟩
          intro g hg
          rcases List.mem_cons.mp hg with rfl | hg
          · exact a
          · exact c g hg
        · rintro ⟨⟨_, b⟩, c⟩
          exact ⟨⟨c e (by simp), hef⟩, b, fun g hg => c g (List.mem_cons_of_mem _ hg)⟩
      · simp only [hef, decide_false, Bool.and_false, Bool.false_and]
        constructor
        · intro h; cases h
        · rintro ⟨⟨_, b, _⟩, _⟩
          exact absurd b (by omega)

theorem putD_nonzero {α : Type} [DecidableEq α] (d v : α) (k : Nat) (l : List (Nat × α)) (h : ∀ e ∈ l, e.2 ≠ d) :
    ∀ e ∈ putD d k v l, e.2 ≠ d := by
  induction l with
  | nil => unfold putD; split <;> simp_all
  | cons a l ih =>
    have ha := h a (by simp)
    have hl : ∀ e ∈ l, e.2 ≠ d := fun e he => h e (List.mem_cons_of_mem _ he)
    unfold putD
    split
    · simp only [List.mem_cons, forall_eq_or_imp]; exact ⟨ha, ih hl⟩
    · split
      · split
        · exact hl
        · simp only [List.mem_cons, forall_eq_or_imp]; exact ⟨by assumption, hl⟩
      · split
        · exact h
        · simp only [List.mem_cons, forall_eq_or_imp]; exact ⟨by assumption, ha, hl⟩

/-- A byte write keeps the canonical form. -/
theorem writeByte_wf {m : Mem} (h : m.wf = true) (a : Nat) (b : Byte) : (writeByte m a b).wf = true := by
  rw [Mem.wf_iff] at *
  exact ⟨putD_keys 0 b h.1 (Nat.zero_le _), putD_nonzero 0 b a m h.2⟩

/-- A write of a byte string keeps the canonical form. -/
theorem writeBytes_wf {m : Mem} (h : m.wf = true) (a : Nat) (l : Bytes) : (writeBytes m a l).wf = true := by
  induction l generalizing m a with
  | nil => exact h
  | cons b l ih => exact ih (writeByte_wf h a b) (a + 1)

/-- A byte reads as written, and every other byte as before. -/
theorem readByte_writeByte {m : Mem} (h : m.wf = true) (a j : Nat) (b : Byte) :
    readByte (writeByte m a b) j = if j = a then b else readByte m j :=
  lookupD_putD 0 b a j ((Mem.wf_iff m).mp h).1

/-- Bytes outside the written string read as before. -/
theorem readByte_writeBytes_out {m : Mem} (h : m.wf = true) (a j : Nat) (l : Bytes) (hj : j < a ∨ a + l.length ≤ j) :
    readByte (writeBytes m a l) j = readByte m j := by
  induction l generalizing m a with
  | nil => rfl
  | cons b l ih =>
    simp only [List.length_cons] at hj
    rw [writeBytes, ih (writeByte_wf h a b) (a + 1) (by omega), readByte_writeByte h, if_neg (by omega)]

/-- A drained store keeps the canonical form (13_cores.md R516). -/
theorem storeWrite_wf {m : Mem} (h : m.wf = true) (e : StoreEnt) : (storeWrite m e).wf = true := by
  unfold storeWrite
  suffices hh : ∀ (l : List Nat) (m : Mem), m.wf = true →
      (l.foldl (fun t i => if e.mask.testBit i then writeByte t (e.addr + i) (BitVec.ofNat 8 (e.data / 256 ^ i)) else t) m).wf = true from
    hh _ m h
  intro l
  induction l with
  | nil => exact fun m h => h
  | cons i l ih =>
    intro m h
    simp only [List.foldl_cons]
    apply ih
    split
    · exact writeByte_wf h _ _
    · exact h

end Sys2Proof.Machine
end

