-- ==== Sys2Proof/Laws/Keep.lean ====
section
/-! SUPPORT. What keeps a state safe: the invariant by its fields, and the basic updates of the state. -/

namespace Sys2Proof.Machine

open Sys2Proof

variable {Q : Prop} {ps : List Instr}

/-- The queue is `p`, and, where `b` holds, the state is safe. -/
def State.Ok (Q : Prop) (ps : List Instr) (s : State) : Prop := s.pending = ps ∧ (Q → s.Inv)
/-- `State.Ok` by the fields it speaks of. -/
def OkF (Q : Prop) (ps pending : List Instr) (tick : Nat) (ch : Vector Chan 16) (core : Vector Core 2) (mem : Mem) (ldm : Vector Mem 2) : Prop :=
  pending = ps ∧ (Q → Mem.wf mem = true ∧ (∀ k : Fin 2, Mem.wf ldm[k] = true) ∧ tick < 2 ^ 48 ∧ (∀ k : Fin 2, core[k].Ok) ∧ ∀ c : Fin 16, ch[c].Ok)
@[simp ↓] theorem ok_mk (pending : List Instr) (freeCount : Nat) (out : List Emit) (rails : Rails) (tick : Nat) (tickHi : Nat) (straps : Straps) (bins : Bins) (clk : Clk) (pwr : Pwr) (ch : Vector Chan 16) (link : Vector Link 16) (upl : Upl) (fuses : Fuses) (opt : Vector Bytes 2) (life : Life) (tamp : Tamp) (kiln : Kiln) (ksm : Ksm) (core : Vector Core 2) (mem : Mem) (ldm : Vector Mem 2) (memBad : List Nat) (ldmBad : Vector (List Nat) 2) (memCorrected : Nat) (memError : Bool) (longScrubs : Nat) (irq : Nat) (prot : Prot) (eng : Vector EngSt 10) (aes : Aes) (dig : Dig) (wmu : Wmu) (flc : Flc) (app : Vector App 16) (selft : SelfT) (spy : Spy) (met : Met) (sjm : Sjm) :
    State.Ok Q ps (State.mk pending freeCount out rails tick tickHi straps bins clk pwr ch link upl fuses opt life tamp kiln ksm core mem ldm memBad ldmBad memCorrected memError longScrubs irq prot eng aes dig wmu flc app selft spy met sjm) = OkF Q ps pending tick ch core mem ldm := propext Iff.rfl
@[simp ↓] theorem okF_eta (s : State) : OkF Q ps s.pending s.tick s.ch s.core s.mem s.ldm = State.Ok Q ps s := propext Iff.rfl
@[simp] theorem ok_ite (c : Prop) [Decidable c] (s t : State) : State.Ok Q ps (if c then s else t) = if c then State.Ok Q ps s else State.Ok Q ps t := by split <;> rfl

theorem Mem_wf_empty : Mem.wf [] = true := rfl

@[simp] theorem foldl_ok {β : Type} {g : State → β → State} (hg : ∀ t x, State.Ok Q ps t → State.Ok Q ps (g t x)) {s : State} (h : s.Ok Q ps) (l : List β) :
    State.Ok Q ps (l.foldl g s) := by
  induction l generalizing s with
  | nil => exact h
  | cons a l ih => exact ih (hg _ _ h)

@[simp] theorem State.eachCh_ok {f : Fin 16 → State → State} (hf : ∀ c t, State.Ok Q ps t → State.Ok Q ps (f c t)) {s : State} (h : s.Ok Q ps) :
    (s.eachCh f).Ok Q ps := foldl_ok (fun t c ht => hf c t ht) h _

theorem State.Ok.chan {s : State} (h : s.Ok Q ps) (hb : Q) (c : Fin 16) : (s.chan c).Ok := (h.2 hb).2.2.2.2 c

theorem State.setCh_ok {s : State} (h : s.Ok Q ps) (c : Fin 16) {x : Chan} (hx : Q → x.Ok) : (s.setCh c x).Ok Q ps := by
  refine ⟨h.1, fun hb => ⟨(h.2 hb).1, (h.2 hb).2.1, (h.2 hb).2.2.1, (h.2 hb).2.2.2.1, fun d => ?_⟩⟩
  show Chan.Ok ((s.ch.set c x)[d.val])
  rw [Vector.getElem_set]
  split
  · exact hx hb
  · exact (h.2 hb).2.2.2.2 d

@[simp] theorem State.updCh_ok {f : Chan → Chan} (hf : ∀ x, x.Ok → (f x).Ok) {s : State} (h : s.Ok Q ps) (c : Fin 16) : (s.updCh c f).Ok Q ps :=
  State.setCh_ok h c (fun hb => hf _ (h.chan hb c))

@[simp] theorem State.wakeMain_ok {s : State} (h : s.Ok Q ps) : s.wakeMain.Ok Q ps := by
  unfold State.wakeMain
  split <;> exact h

@[simp] theorem State.chOp_ok {f : Chan → Chan} (hf : ∀ x, x.Ok → (f x).Ok) {s : State} (h : s.Ok Q ps) (c : Fin 16) : (s.chOp c f).Ok Q ps := by
  have h1 : (s.setCh c (f ((s.chan c).closeDue s.tick))).Ok Q ps :=
    State.setCh_ok h c (fun hb => hf _ (Chan.closeDue_ok (h.chan hb c) _))
  unfold State.chOp
  dsimp only
  split
  · exact State.wakeMain_ok h1
  · exact h1

@[simp] theorem State.lnkPadsDown_ok {s : State} (h : s.Ok Q ps) : s.lnkPadsDown.Ok Q ps :=
  State.eachCh_ok (fun c _ ht => State.updCh_ok (fun _ hx => Chan.lnkDown_ok hx) ht c) h

@[simp] theorem State.lnkPadsUp_ok {s : State} (h : s.Ok Q ps) : s.lnkPadsUp.Ok Q ps := by
  unfold State.lnkPadsUp
  split
  · exact State.eachCh_ok (fun c _ ht => State.updCh_ok (fun _ hx => Chan.lnkUp_ok hx _) ht c) h
  · exact h

@[simp] theorem State.updCore_ok {f : Core → Core} (hf : ∀ x, x.Ok → (f x).Ok) {s : State} (h : s.Ok Q ps) (k : Fin 2) : (s.updCore k f).Ok Q ps := by
  refine ⟨h.1, fun hb => ⟨(h.2 hb).1, (h.2 hb).2.1, (h.2 hb).2.2.1, fun d => ?_, (h.2 hb).2.2.2.2⟩⟩
  show Core.Ok ((s.core.set k (f (s.coreOf k)))[d.val])
  rw [Vector.getElem_set]
  split
  · exact hf _ ((h.2 hb).2.2.2.1 k)
  · exact (h.2 hb).2.2.2.1 d

theorem State.updCore_val_ok {f : Core → Core} {s : State} (h : s.Ok Q ps) (k : Fin 2) (hf : Q → (f (s.coreOf k)).Ok) : (s.updCore k f).Ok Q ps := by
  refine ⟨h.1, fun hb => ⟨(h.2 hb).1, (h.2 hb).2.1, (h.2 hb).2.2.1, fun d => ?_, (h.2 hb).2.2.2.2⟩⟩
  show Core.Ok ((s.core.set k (f (s.coreOf k)))[d.val])
  rw [Vector.getElem_set]
  split
  · exact hf hb
  · exact (h.2 hb).2.2.2.1 d

theorem State.Ok.core {s : State} (h : s.Ok Q ps) (hb : Q) (k : Fin 2) : (s.coreOf k).Ok := (h.2 hb).2.2.2.1 k

@[simp] theorem State.advanceTo_ok {s : State} (h : s.Ok Q ps) (k : Nat) : (s.advanceTo k).Ok Q ps := by
  refine ⟨h.1, fun hb => ⟨(h.2 hb).1, (h.2 hb).2.1, ?_, (h.2 hb).2.2.2⟩⟩
  have := (h.2 hb).2.2.1
  show max s.tick (min k (2 ^ 48 - 1)) < 2 ^ 48
  omega

theorem okF_mem {s : State} (h : s.Ok Q ps) {m : Mem} (hm : Q → m.wf = true) : OkF Q ps s.pending s.tick s.ch s.core m s.ldm :=
  ⟨h.1, fun hb => ⟨hm hb, (h.2 hb).2⟩⟩

theorem okF_wiped {s : State} (h : s.Ok Q ps) {core : Vector Core 2} (hc : Q → ∀ k : Fin 2, core[k].Ok) :
    OkF Q ps s.pending s.tick s.ch core [] (Vector.replicate 2 []) := by
  refine ⟨h.1, fun hb => ⟨rfl, fun k => ?_, (h.2 hb).2.2.1, hc hb, (h.2 hb).2.2.2.2⟩⟩
  show Mem.wf ((Vector.replicate 2 ([] : Mem))[k.val]) = true
  rw [Vector.getElem_replicate]
  rfl

/-- `Core.Ok` by the field it speaks of. -/
def CoreF (sbuf : List StoreEnt) : Prop := sbuf.length ≤ 4

@[simp ↓] theorem core_ok_mk (level : PLevel) (pLevel : Bool) (domain : Nat) (ienable : Nat) (pFault : Nat) (regs : Vector Word 32) (pc : Nat) (mie : Bool) (mpie : Bool) (mppM : Bool) (mprv : Bool) (tw : Bool) (inhibitCy : Bool) (inhibitIr : Bool) (mcycle : Nat) (minstret : Nat) (msie : Bool) (meie : Bool) (mtvec : Nat) (mepc : Nat) (mcause : Nat) (mtval : Nat) (mscratch : Nat) (msip : Bool) (meip : Bool) (wfi : Bool) (sbuf : List StoreEnt) (fence : Bool) (stalled : Option (Nat × Nat × Nat)) (icache : List Nat) (parity : Nat) :
    Core.Ok (Core.mk level pLevel domain ienable pFault regs pc mie mpie mppM mprv tw inhibitCy inhibitIr mcycle minstret msie meie mtvec mepc mcause mtval mscratch msip meip wfi sbuf fence stalled icache parity) = CoreF sbuf := propext Iff.rfl

@[simp ↓] theorem coreF_eta (c : Core) : CoreF c.sbuf = c.Ok := propext Iff.rfl

@[simp] theorem coreF_nil : CoreF [] = True := by simp [CoreF]

theorem okF_ldm {s : State} (h : s.Ok Q ps) {l : Vector Mem 2} (hl : Q → ∀ k : Fin 2, Mem.wf l[k] = true) :
    OkF Q ps s.pending s.tick s.ch s.core s.mem l := ⟨h.1, fun hb => ⟨(h.2 hb).1, hl hb, (h.2 hb).2.2⟩⟩

theorem okF_core {s : State} (h : s.Ok Q ps) {l : Vector Core 2} (hl : Q → ∀ k : Fin 2, l[k].Ok) :
    OkF Q ps s.pending s.tick s.ch l s.mem s.ldm := ⟨h.1, fun hb => ⟨(h.2 hb).1, (h.2 hb).2.1, (h.2 hb).2.2.1, hl hb, (h.2 hb).2.2.2.2⟩⟩

theorem ldm_set_wf {s : State} (h : s.Ok Q ps) (hb : Q) (k : Fin 2) (a : Nat) (x : Bytes) (j : Fin 2) :
    Mem.wf (s.ldm.set k (writeBytes s.ldm[k] a x))[j] = true := by
  show Mem.wf ((s.ldm.set k (writeBytes s.ldm[k] a x))[j.val]) = true
  rw [Vector.getElem_set]
  split
  · exact writeBytes_wf ((h.2 hb).2.1 k) _ _
  · exact (h.2 hb).2.1 j

theorem ch_new_ok (c : Fin 16) : (Vector.replicate 16 ({} : Chan))[c].Ok := by
  show Chan.Ok ((Vector.replicate 16 ({} : Chan))[c.val])
  rw [Vector.getElem_replicate]
  exact ⟨Nat.zero_le _, fun _ hk => by simp at hk⟩

theorem keysFrom_filter {α : Type} {k : Nat} {l : List (Nat × α)} (h : KeysFrom k l) (q : Nat × α → Bool) : KeysFrom k (l.filter q) := by
  induction l generalizing k with
  | nil => exact h
  | cons e l ih =>
    rw [List.filter_cons]
    split
    · exact ⟨h.1, ih h.2⟩
    · exact (ih h.2).mono (by have := h.1; omega)

theorem wipeMem_wf {m : Mem} (h : m.wf = true) (a n : Nat) : (wipeMem m a n).wf = true := by
  rw [Mem.wf_iff] at *
  exact ⟨keysFrom_filter h.1 _, fun e he => h.2 e (List.mem_filter.mp he).1⟩

theorem ldm_wiped_wf {s : State} (h : s.Ok Q ps) (hb : Q) (q : Fin 2 → Bool) (a n : Nat) (k : Fin 2) :
    Mem.wf (#v[if q 0 then wipeMem s.ldm[(0 : Fin 2)] a n else s.ldm[(0 : Fin 2)], if q 1 then wipeMem s.ldm[(1 : Fin 2)] a n else s.ldm[(1 : Fin 2)]])[k] = true := by
  have h0 := (h.2 hb).2.1 0
  have h1 := (h.2 hb).2.1 1
  match k with
  | 0 => show Mem.wf (if q 0 then wipeMem s.ldm[(0 : Fin 2)] a n else s.ldm[(0 : Fin 2)]) = true; split; exact wipeMem_wf h0 _ _; exact h0
  | 1 => show Mem.wf (if q 1 then wipeMem s.ldm[(1 : Fin 2)] a n else s.ldm[(1 : Fin 2)]) = true; split; exact wipeMem_wf h1 _ _; exact h1

/-- A meaning that answers a next state answers a safe one. -/
def OutOk (Q : Prop) (ps : List Instr) (o : Out) : Prop := match o with | .next t => State.Ok Q ps t | _ => True

@[simp] theorem outOk_next (t : State) : OutOk Q ps (.next t) = State.Ok Q ps t := propext Iff.rfl

@[simp] theorem outOk_ite (q : Prop) [Decidable q] (x y : Out) : OutOk Q ps (if q then x else y) = if q then OutOk Q ps x else OutOk Q ps y := by split <;> rfl

theorem core_map_ok {s : State} {f : Core → Core} (hf : ∀ c, c.Ok → (f c).Ok) (h : s.Ok Q ps) (hb : Q) (k : Fin 2) : (s.core.map f)[k].Ok := by
  show Core.Ok ((s.core.map f)[k.val])
  rw [Vector.getElem_map]
  exact hf _ ((h.2 hb).2.2.2.1 k)

theorem core_new_ok (k : Fin 2) : (Vector.replicate 2 ({} : Core))[k].Ok := by
  show Core.Ok ((Vector.replicate 2 ({} : Core))[k.val])
  rw [Vector.getElem_replicate]
  exact Nat.zero_le _

theorem foldl_storeWrite_wf {m : Mem} (h : m.wf = true) (l : List StoreEnt) : (l.foldl storeWrite m).wf = true := by
  induction l generalizing m with
  | nil => exact h
  | cons a l ih => exact ih (storeWrite_wf h a)

@[simp] theorem Core.trap_ok {c : Core} (h : c.Ok) (i : Bool) (cause tval : Nat) : (c.trap i cause tval).Ok := h

@[simp] theorem Core.mret_ok {c : Core} (h : c.Ok) : c.mret.Ok := h

theorem Core.csrWrite_ok {c d : Core} (h : c.Ok) (a v : Nat) (hd : c.csrWrite a v = some d) : d.Ok := by
  unfold Core.csrWrite at hd
  split at hd
  all_goals first
    | (cases hd; exact h)
    | (split at hd <;> first | (cases hd; exact h) | simp at hd)

end Sys2Proof.Machine
end

