-- ==== Sys2Proof/Laws/KeepOps.lean ====
section
/-! SUPPORT. Every operation and every meaning keeps the queue and the invariant (part 1 of 5): one lemma for each, in the order of the
model. -/

namespace Sys2Proof.Machine

open Sys2Proof

variable {Q : Prop} {ps : List Instr}

@[simp] theorem State.setLnk_ok {s : State} {c : Fin 16} {x3 : Link} (h : State.Ok Q ps s) :
    State.Ok Q ps (State.setLnk s c x3) := h

@[simp] theorem State.updLnk_ok {s : State} {c : Fin 16} {f : Link → Link} (h : State.Ok Q ps s) :
    State.Ok Q ps (State.updLnk s c f) := h

@[simp] theorem State.updApp_ok {s : State} {d : Fin 16} {f : App → App} (h : State.Ok Q ps s) :
    State.Ok Q ps (State.updApp s d f) := h

@[simp] theorem State.updEng_ok {s : State} {e : Eng} {f : EngSt → EngSt} (h : State.Ok Q ps s) :
    State.Ok Q ps (State.updEng s e f) := h

@[simp] theorem State.emit_ok {s : State} {e : Emit} (h : State.Ok Q ps s) :
    State.Ok Q ps (State.emit s e) := h

@[simp] theorem State.tick1_ok {s : State} (h : State.Ok Q ps s) :
    State.Ok Q ps (State.tick1 s) := h

@[simp] theorem State.wakeKiln_ok {s : State} (h : State.Ok Q ps s) :
    State.Ok Q ps (State.wakeKiln s) := by
  unfold State.wakeKiln; simp (maxDischargeDepth := 40) (contextual := true) [*]

@[simp] theorem State.burn_ok {s : State} {w mask : Nat} (h : State.Ok Q ps s) :
    State.Ok Q ps (State.burn s w mask) := h

@[simp] theorem State.compactDue_ok {s : State} (h : State.Ok Q ps s) :
    State.Ok Q ps (State.compactDue s) := by
  unfold State.compactDue; simp (maxDischargeDepth := 40) (contextual := true) [*]

@[simp] theorem State.journalProgram_ok {s : State} (h : State.Ok Q ps s) :
    State.Ok Q ps (State.journalProgram s) := by
  unfold State.journalProgram; simp (maxDischargeDepth := 40) (contextual := true) [*]

@[simp] theorem State.journalAdd_ok {s : State} {e : JEntry} (h : State.Ok Q ps s) :
    State.Ok Q ps (State.journalAdd s e) := by
  unfold State.journalAdd; simp (maxDischargeDepth := 40) (contextual := true) [*]

@[simp] theorem State.cntInc_ok {s : State} {k : Nat} (h : State.Ok Q ps s) :
    State.Ok Q ps (State.cntInc s k) := by
  unfold State.cntInc; simp (maxDischargeDepth := 40) (contextual := true) [*]

@[simp] theorem State.advanceEntries_ok {n : Nat} {x2 : State} {k d : Nat} (h : State.Ok Q ps x2) :
    State.Ok Q ps (State.advanceEntries n x2 k d) := by
  induction n generalizing x2 d with
  | zero => exact h
  | succ n ih =>
    unfold State.advanceEntries
    dsimp only
    apply ih
    simp (maxDischargeDepth := 40) (contextual := true) [*]

@[simp] theorem State.cntAdvance_ok {s : State} {k d : Nat} (h : State.Ok Q ps s) :
    State.Ok Q ps (State.cntAdvance s k d) := by
  unfold State.cntAdvance; simp (maxDischargeDepth := 40) (contextual := true) [*]

@[simp] theorem State.programLog_ok {s : State} (h : State.Ok Q ps s) :
    State.Ok Q ps (State.programLog s) := by
  unfold State.programLog; simp (maxDischargeDepth := 40) (contextual := true) [*]

@[simp] theorem State.writeEntry_ok {s : State} {code grade source : Nat} {detail : Bytes} {now : Bool} (h : State.Ok Q ps s) :
    State.Ok Q ps (State.writeEntry s code grade source detail now) := by
  unfold State.writeEntry; simp (maxDischargeDepth := 40) (contextual := true) [*]

@[simp] theorem State.drbg_ok {s : State} (h : State.Ok Q ps s) :
    State.Ok Q ps (State.drbg s) := h

@[simp] theorem State.sign_ok {s : State} {r : Rec} (h : State.Ok Q ps s) :
    State.Ok Q ps (State.sign s r).1 := h

@[simp] theorem State.retain_ok {s : State} {r : Rec} (h : State.Ok Q ps s) :
    State.Ok Q ps (State.retain s r) := by
  unfold State.retain; simp (maxDischargeDepth := 40) (contextual := true) [*]

@[simp] theorem State.report_ok {s : State} {type : Nat} {body : Bytes} (h : State.Ok Q ps s) :
    State.Ok Q ps (State.report s type body) := by
  unfold State.report; simp (maxDischargeDepth := 40) (contextual := true) [*]

@[simp] theorem State.drainReports_ok {s : State} (h : State.Ok Q ps s) :
    State.Ok Q ps (State.drainReports s) := by
  unfold State.drainReports; simp (maxDischargeDepth := 40) (contextual := true) [*]

@[simp] theorem State.logEv_ok {s : State} {code grade source : Nat} {detail : Bytes} {rep : Bool} {now : optParam Bool false} (h : State.Ok Q ps s) :
    State.Ok Q ps (State.logEv s code grade source detail rep now) := by
  unfold State.logEv; simp (maxDischargeDepth := 40) (contextual := true) [*]

@[simp] theorem State.klog_ok {s : State} {code : Nat} {detail : Bytes} (h : State.Ok Q ps s) :
    State.Ok Q ps (State.klog s code detail) := by
  unfold State.klog; simp (maxDischargeDepth := 40) (contextual := true) [*]

@[simp] theorem State.klogRep_ok {s : State} {code : Nat} {detail : Bytes} (h : State.Ok Q ps s) :
    State.Ok Q ps (State.klogRep s code detail) := by
  unfold State.klogRep; simp (maxDischargeDepth := 40) (contextual := true) [*]

@[simp] theorem State.watch_ok {s : State} {code : Nat} {detail : Bytes} (h : State.Ok Q ps s) :
    State.Ok Q ps (State.watch s code detail) := by
  unfold State.watch; simp (maxDischargeDepth := 40) (contextual := true) [*]

@[simp] theorem State.wlog_ok {s : State} {code grade : Nat} {detail : Bytes} {rep : Bool} (h : State.Ok Q ps s) :
    State.Ok Q ps (State.wlog s code grade detail rep) := by
  unfold State.wlog; simp (maxDischargeDepth := 40) (contextual := true) [*]

@[simp] theorem State.drainLog_ok {s : State} (h : State.Ok Q ps s) :
    State.Ok Q ps (State.drainLog s) := by
  unfold State.drainLog; simp (maxDischargeDepth := 40) (contextual := true) [*]

@[simp] theorem State.journalClose_ok {s : State} (h : State.Ok Q ps s) :
    State.Ok Q ps (State.journalClose s) := by
  unfold State.journalClose; simp (maxDischargeDepth := 40) (contextual := true) [*]

@[simp] theorem State.setTimeSt_ok {s : State} {f : Kiln → Kiln} (h : State.Ok Q ps s) :
    State.Ok Q ps (State.setTimeSt s f) := by
  unfold State.setTimeSt; simp (maxDischargeDepth := 40) (contextual := true) [*]

@[simp] theorem State.spySend_ok {s : State} {type : Nat} {payload : Bytes} {lifecycle : optParam Bool false} (h : State.Ok Q ps s) :
    State.Ok Q ps (State.spySend s type payload lifecycle) := by
  unfold State.spySend; simp (maxDischargeDepth := 40) (contextual := true) [*]

@[simp] theorem State.spyEvent_ok {s : State} {kind code index grade tick : Nat} {detail : Bytes} (h : State.Ok Q ps s) :
    State.Ok Q ps (State.spyEvent s kind code index grade tick detail) := by
  unfold State.spyEvent; simp (maxDischargeDepth := 40) (contextual := true) [*]

@[simp] theorem State.ringMsg_ok {s : State} {e : Eng} {k : Nat} (h : State.Ok Q ps s) :
    State.Ok Q ps (State.ringMsg s e k) := by
  unfold State.ringMsg; simp (maxDischargeDepth := 40) (contextual := true) [*]

@[simp] theorem State.updRing_ok {s : State} {e : Eng} {k : Nat} {f : Machine.Ring → Machine.Ring} (h : State.Ok Q ps s) :
    State.Ok Q ps (State.updRing s e k f) := by
  unfold State.updRing; simp (maxDischargeDepth := 40) (contextual := true) [*]

@[simp] theorem State.sramWrite_ok {s : State} {x2 : Nat} {b : Bytes} (h : State.Ok Q ps s) :
    State.Ok Q ps (State.sramWrite s x2 b) := by
  exact ⟨h.1, fun hb => ⟨writeBytes_wf (h.2 hb).1 _ _, (h.2 hb).2⟩⟩

@[simp] theorem State.programPage_ok {s : State} {p : Nat} {b : Bytes} (h : State.Ok Q ps s) :
    State.Ok Q ps (State.programPage s p b) := h

@[simp] theorem State.tearPage_ok {s : State} {p : Nat} (h : State.Ok Q ps s) :
    State.Ok Q ps (State.tearPage s p) := h

@[simp] theorem State.spoilBlock_ok {s : State} {b : Nat} (h : State.Ok Q ps s) :
    State.Ok Q ps (State.spoilBlock s b) := h

@[simp] theorem State.finishPage_ok {s : State} {j : ProgJob} (h : State.Ok Q ps s) :
    State.Ok Q ps (State.finishPage s j).1 := by
  unfold State.finishPage; (repeat' split) <;> simp (maxDischargeDepth := 40) (contextual := true) [*]

@[simp] theorem State.abortFlash_ok {s : State} {ring : Nat} {tamper : Bool} (h : State.Ok Q ps s) :
    State.Ok Q ps (State.abortFlash s ring tamper).1 := by
  unfold State.abortFlash; dsimp only; (repeat' split) <;> simp (maxDischargeDepth := 40) (contextual := true) [*]

@[simp] theorem State.stopFlash_ok {s : State} (h : State.Ok Q ps s) :
    State.Ok Q ps (State.stopFlash s) := by
  unfold State.stopFlash; simp (maxDischargeDepth := 40) (contextual := true) [*]

@[simp] theorem State.complete_ok {s : State} {e : Eng} {k : Nat} {d : Done} (h : State.Ok Q ps s) :
    State.Ok Q ps (State.complete s e k d) := by
  unfold State.complete; simp (maxDischargeDepth := 40) (contextual := true) [*]

@[simp] theorem State.abortOne_ok {s : State} {e : Eng} {k : Nat} {code : Code} (h : State.Ok Q ps s) :
    State.Ok Q ps (State.abortOne s e k code) := by
  unfold State.abortOne
  dsimp only
  split
  · split
    · have h1 := State.abortFlash_ok (ring := k) (tamper := code == .abortTamper) h
      split <;> rename_i h2 <;> rw [h2] at h1 <;> simp (maxDischargeDepth := 40) (contextual := true) [*]
    · simp (maxDischargeDepth := 40) (contextual := true) [*]
  · split <;> simp (maxDischargeDepth := 40) (contextual := true) [*]

@[simp] theorem State.abortMany_ok {n : Nat} {x2 : State} {x3 : Eng} {k : Nat} {x5 : Code} (h : State.Ok Q ps x2) :
    State.Ok Q ps (State.abortMany n x2 x3 k x5) := by
  induction n generalizing x2 with
  | zero => exact h
  | succ n ih => exact ih (State.abortOne_ok h)

@[simp] theorem State.dropDma_ok {s : State} {e : Eng} {k : Nat} (h : State.Ok Q ps s) :
    State.Ok Q ps (State.dropDma s e k) := h

@[simp] theorem State.abortRing_ok {s : State} {e : Eng} {k : Nat} {code : Code} (h : State.Ok Q ps s) :
    State.Ok Q ps (State.abortRing s e k code) := by
  unfold State.abortRing; simp (maxDischargeDepth := 40) (contextual := true) [*]

@[simp] theorem State.abortEngine_ok {s : State} {e : Eng} {code : Code} (h : State.Ok Q ps s) :
    State.Ok Q ps (State.abortEngine s e code) := by
  unfold State.abortEngine; simp (maxDischargeDepth := 40) (contextual := true) [*]

@[simp] theorem State.abortEngines_ok {s : State} {l : List Eng} {code : Code} (h : State.Ok Q ps s) :
    State.Ok Q ps (State.abortEngines s l code) := by
  unfold State.abortEngines; simp (maxDischargeDepth := 40) (contextual := true) [*]

@[simp] theorem State.abortPeer_ok {s : State} (h : State.Ok Q ps s) :
    State.Ok Q ps (State.abortPeer s) := by
  unfold State.abortPeer; simp (maxDischargeDepth := 40) (contextual := true) [*]

@[simp] theorem State.closeWindows_ok {s : State} (h : State.Ok Q ps s) :
    State.Ok Q ps (State.closeWindows s) := by
  unfold State.closeWindows; simp (maxDischargeDepth := 40) (contextual := true) [*]

@[simp] theorem State.freezeAll_ok {s : State} {src : FreezeSrc} (h : State.Ok Q ps s) :
    State.Ok Q ps (State.freezeAll s src) := by
  unfold State.freezeAll; simp (maxDischargeDepth := 40) (contextual := true) [*]

@[simp] theorem State.releaseAll_ok {s : State} {src : FreezeSrc} (h : State.Ok Q ps s) :
    State.Ok Q ps (State.releaseAll s src) := by
  unfold State.releaseAll; simp (maxDischargeDepth := 40) (contextual := true) [*]

@[simp] theorem State.tripLog_ok {s : State} {grade : Grade} {t : Trip} {ref refTick : optParam Nat 0} (h : State.Ok Q ps s) :
    State.Ok Q ps (State.tripLog s grade t ref refTick) := by
  unfold State.tripLog; simp (maxDischargeDepth := 40) (contextual := true) [*]

@[simp] theorem State.dropSessions_ok {s : State} (h : State.Ok Q ps s) :
    State.Ok Q ps (State.dropSessions s) := by
  unfold State.dropSessions; simp (maxDischargeDepth := 40) (contextual := true) [*]

@[simp] theorem State.dropSlip_ok {s : State} (h : State.Ok Q ps s) :
    State.Ok Q ps (State.dropSlip s) := h

@[simp] theorem State.gradeChange_ok {s : State} (h : State.Ok Q ps s) :
    State.Ok Q ps (State.gradeChange s) := h

@[simp] theorem State.abandonRun_ok {s : State} (h : State.Ok Q ps s) :
    State.Ok Q ps (State.abandonRun s) := by
  unfold State.abandonRun; (repeat' split) <;> simp (maxDischargeDepth := 40) (contextual := true) [*]

@[simp] theorem State.crazedEffects_ok {s : State} (h : State.Ok Q ps s) :
    State.Ok Q ps (State.crazedEffects s) := by
  unfold State.crazedEffects; simp (maxDischargeDepth := 40) (contextual := true) [*]

@[simp] theorem State.enterCrazed_ok {s : State} {t : Trip} (h : State.Ok Q ps s) :
    State.Ok Q ps (State.enterCrazed s t) := by
  unfold State.enterCrazed; simp (maxDischargeDepth := 40) (contextual := true) [*]

@[simp] theorem State.channelsToSherd_ok {s : State} (h : State.Ok Q ps s) :
    State.Ok Q ps (State.channelsToSherd s) := by
  unfold State.channelsToSherd; simp (maxDischargeDepth := 40) (contextual := true) [*]

@[simp] theorem State.zeroShown_ok {s : State} (h : State.Ok Q ps s) :
    State.Ok Q ps (State.zeroShown s) := by
  unfold State.zeroShown; simp (maxDischargeDepth := 40) (contextual := true) [*]

@[simp] theorem State.zeroZ2_ok {s : State} {cause : SherdCause} (h : State.Ok Q ps s) :
    State.Ok Q ps (State.zeroZ2 s cause) := by
  unfold State.zeroZ2; simp (maxDischargeDepth := 40) (contextual := true) [*]

@[simp] theorem State.zeroZ3_ok {s : State} (h : State.Ok Q ps s) :
    State.Ok Q ps (State.zeroZ3 s) := by
  have h1 : s.dropSessions.dropSlip.Ok Q ps := by simp (maxDischargeDepth := 40) [*]
  exact State.zeroShown_ok (okF_wiped h1 (fun hb => core_map_ok (fun _ _ => Nat.zero_le _) h1 hb))

@[simp] theorem State.zeroZ4_ok {s : State} {cause : SherdCause} (h : State.Ok Q ps s) :
    State.Ok Q ps (State.zeroZ4 s cause) := by
  unfold State.zeroZ4; simp (maxDischargeDepth := 40) (contextual := true) [*]

@[simp] theorem State.zeroZ5_ok {s : State} {cause : SherdCause} (h : State.Ok Q ps s) :
    State.Ok Q ps (State.zeroZ5 s cause) := by
  unfold State.zeroZ5; simp (maxDischargeDepth := 40) (contextual := true) [*]

@[simp] theorem State.zeroZ6_ok {s : State} {cause : SherdCause} (h : State.Ok Q ps s) :
    State.Ok Q ps (State.zeroZ6 s cause) := by
  unfold State.zeroZ6; simp (maxDischargeDepth := 40) (contextual := true) [*]

@[simp] theorem State.zeroize_ok {s : State} {cause : SherdCause} (h : State.Ok Q ps s) :
    State.Ok Q ps (State.zeroize s cause) := by
  unfold State.zeroize; simp (maxDischargeDepth := 40) (contextual := true) [*]

@[simp] theorem State.enterShattered_ok {s : State} {t : Trip} (h : State.Ok Q ps s) :
    State.Ok Q ps (State.enterShattered s t) := by
  unfold State.enterShattered; simp (maxDischargeDepth := 40) (contextual := true) [*]

@[simp] theorem State.quiet_ok {s : State} (h : State.Ok Q ps s) :
    State.Ok Q ps (State.quiet s) := h

@[simp] theorem State.gradeCrazed_ok {s : State} {t : Trip} (h : State.Ok Q ps s) :
    State.Ok Q ps (State.gradeCrazed s t) := by
  unfold State.gradeCrazed; simp (maxDischargeDepth := 40) (contextual := true) [*]

@[simp] theorem State.gradeGlitch_ok {s : State} {t : Trip} (h : State.Ok Q ps s) :
    State.Ok Q ps (State.gradeGlitch s t) := by
  unfold State.gradeGlitch; simp (maxDischargeDepth := 40) (contextual := true) [*]

@[simp] theorem State.gradeShattered_ok {s : State} {t : Trip} (h : State.Ok Q ps s) :
    State.Ok Q ps (State.gradeShattered s t) := by
  unfold State.gradeShattered; simp (maxDischargeDepth := 40) (contextual := true) [*]

@[simp] theorem State.gradeWatch_ok {s : State} {t : Trip} {ref refTick : optParam Nat 0} (h : State.Ok Q ps s) :
    State.Ok Q ps (State.gradeWatch s t ref refTick) := by
  unfold State.gradeWatch; simp (maxDischargeDepth := 40) (contextual := true) [*]

@[simp] theorem State.gradeTrip_ok {s : State} {t : Trip} (h : State.Ok Q ps s) :
    State.Ok Q ps (State.gradeTrip s t) := by
  unfold State.gradeTrip; (repeat' split) <;> simp (maxDischargeDepth := 40) (contextual := true) [*]

@[simp] theorem State.latchTrip_ok {s : State} {t : Trip} (h : State.Ok Q ps s) :
    State.Ok Q ps (State.latchTrip s t) := by
  unfold State.latchTrip; dsimp only; (repeat' split) <;> simp (maxDischargeDepth := 40) (contextual := true) [*]

@[simp] theorem State.excuse_ok {s : State} {x2 : Anomaly} {ref : Nat × Nat} (h : State.Ok Q ps s) :
    State.Ok Q ps (State.excuse s x2 ref) := by
  unfold State.excuse; simp (maxDischargeDepth := 40) (contextual := true) [*]

@[simp] theorem State.endHold_ok {s : State} (h : State.Ok Q ps s) :
    State.Ok Q ps (State.endHold s) := by
  unfold State.endHold; simp (maxDischargeDepth := 40) (contextual := true) [*]

@[simp] theorem State.anomaly_ok {s : State} {cause index : Nat} (h : State.Ok Q ps s) :
    State.Ok Q ps (State.anomaly s cause index) := by
  unfold State.anomaly; (repeat' split) <;> simp (maxDischargeDepth := 40) (contextual := true) [*]

@[simp] theorem State.reference_ok {s : State} {k : RefEvent} (h : State.Ok Q ps s) :
    State.Ok Q ps (State.reference s k) := by
  unfold State.reference; simp (maxDischargeDepth := 40) (contextual := true) [*]

@[simp] theorem State.expireAnomaly_ok {s : State} {x2 : Anomaly} (h : State.Ok Q ps s) :
    State.Ok Q ps (State.expireAnomaly s x2) := by
  unfold State.expireAnomaly; simp (maxDischargeDepth := 40) (contextual := true) [*]

@[simp] theorem State.expireHolds_ok {s : State} (h : State.Ok Q ps s) :
    State.Ok Q ps (State.expireHolds s) := by
  unfold State.expireHolds; simp (maxDischargeDepth := 40) (contextual := true) [*]

@[simp] theorem State.decideAll_ok {s : State} (h : State.Ok Q ps s) :
    State.Ok Q ps (State.decideAll s) := by
  unfold State.decideAll; simp (maxDischargeDepth := 40) (contextual := true) [*]

@[simp] theorem State.clearCrazed_ok {s : State} (h : State.Ok Q ps s) :
    State.Ok Q ps (State.clearCrazed s) := by
  unfold State.clearCrazed; simp (maxDischargeDepth := 40) (contextual := true) [*]

@[simp] theorem State.portsDown_ok {s : State} (h : State.Ok Q ps s) :
    State.Ok Q ps (State.portsDown s) := h

@[simp] theorem State.ringsReset_ok {s : State} (h : State.Ok Q ps s) :
    State.Ok Q ps (State.ringsReset s) := by
  unfold State.ringsReset; simp (maxDischargeDepth := 40) (contextual := true) [*]

@[simp] theorem State.mainReset_ok {s : State} (h : State.Ok Q ps s) :
    State.Ok Q ps (State.mainReset s) := by
  have h1 : s.ringsReset.abandonRun.stopFlash.dropSessions.dropSlip.portsDown.Ok Q ps := by simp (maxDischargeDepth := 40) [*]
  unfold State.mainReset
  dsimp only
  rw [ok_mk]
  exact okF_wiped h1 (fun hb => core_new_ok)

@[simp] theorem State.freezeMain_ok {s : State} (h : State.Ok Q ps s) :
    State.Ok Q ps (State.freezeMain s) := by
  unfold State.freezeMain; simp (maxDischargeDepth := 40) (contextual := true) [*]

@[simp] theorem State.holdMainReset_ok {s : State} {st : MainSt} (h : State.Ok Q ps s) :
    State.Ok Q ps (State.holdMainReset s st) := by
  unfold State.holdMainReset; simp (maxDischargeDepth := 40) (contextual := true) [*]

@[simp] theorem State.kilnStop_ok {s : State} {st : KilnSt} (h : State.Ok Q ps s) :
    State.Ok Q ps (State.kilnStop s st) := h

@[simp] theorem State.xo25Stop_ok {s : State} (h : State.Ok Q ps s) :
    State.Ok Q ps (State.xo25Stop s) := by
  unfold State.xo25Stop; simp (maxDischargeDepth := 40) (contextual := true) [*]

@[simp] theorem State.flushPointers_ok {s : State} (h : State.Ok Q ps s) :
    State.Ok Q ps (State.flushPointers s) := h

@[simp] theorem State.flushLog_ok {s : State} (h : State.Ok Q ps s) :
    State.Ok Q ps (State.flushLog s) := h

@[simp] theorem State.drainCore_ok {s : State} {k : Fin 2} (h : State.Ok Q ps s) :
    State.Ok Q ps (State.drainCore s k) := by
  have h1 : State.Ok Q ps { s with mem := (s.coreOf k).sbuf.foldl storeWrite s.mem } := by
    rw [ok_mk]
    exact okF_mem h (fun hb => foldl_storeWrite_wf ((h.2 hb).1) _)
  exact State.updCore_ok (f := fun c => { c with sbuf := [], fence := false }) (fun x _ => Nat.zero_le _) h1 k

@[simp] theorem State.drainStores_ok {s : State} (h : State.Ok Q ps s) :
    State.Ok Q ps (State.drainStores s) := by
  unfold State.drainStores; simp (maxDischargeDepth := 40) (contextual := true) [*]

@[simp] theorem State.flushPages_ok {s : State} (h : State.Ok Q ps s) :
    State.Ok Q ps (State.flushPages s) := by
  unfold State.flushPages; simp (maxDischargeDepth := 40) (contextual := true) [*]

@[simp] theorem State.powerFailFlush_ok {s : State} (h : State.Ok Q ps s) :
    State.Ok Q ps (State.powerFailFlush s) := by
  unfold State.powerFailFlush; dsimp only; (repeat' split) <;> simp (maxDischargeDepth := 40) (contextual := true) [*]

@[simp] theorem State.enterHold_ok {s : State} {r : HoldReason} (h : State.Ok Q ps s) :
    State.Ok Q ps (State.enterHold s r) := by
  unfold State.enterHold; simp (maxDischargeDepth := 40) (contextual := true) [*]

@[simp] theorem State.freeSaggar_ok {s : State} {k : Nat} (h : State.Ok Q ps s) :
    State.Ok Q ps (State.freeSaggar s k) := by
  unfold State.freeSaggar; (repeat' split) <;> simp (maxDischargeDepth := 40) (contextual := true) [*]

@[simp] theorem State.saggarOnStop_ok {s : State} {e : Eng} {k : Nat} (h : State.Ok Q ps s) :
    State.Ok Q ps (State.saggarOnStop s e k) := by
  unfold State.saggarOnStop; (repeat' split) <;> simp (maxDischargeDepth := 40) (contextual := true) [*]

@[simp] theorem State.haltRing_ok {s : State} {e : Eng} {k i reason : Nat} (h : State.Ok Q ps s) :
    State.Ok Q ps (State.haltRing s e k i reason) := by
  unfold State.haltRing; simp (maxDischargeDepth := 40) (contextual := true) [*]

@[simp] theorem State.finishDesc_ok {s : State} {e : Eng} {k : Nat} {d : Done} (h : State.Ok Q ps s) :
    State.Ok Q ps (State.finishDesc s e k d) := by
  unfold State.finishDesc; simp (maxDischargeDepth := 40) (contextual := true) [*]

@[simp] theorem State.malformed_ok {s : State} {e : Eng} {k reason : Nat} (h : State.Ok Q ps s) :
    State.Ok Q ps (State.malformed s e k reason) := by
  unfold State.malformed; simp (maxDischargeDepth := 40) (contextual := true) [*]

@[simp] theorem State.recordFault_ok {s : State} {e : Eng} {k : Nat} {t : AccType} {kind addr : Nat} (h : State.Ok Q ps s) :
    State.Ok Q ps (State.recordFault s e k t kind addr) := h

@[simp] theorem State.holdDma_ok {s : State} {e : Eng} {k : Nat} (h : State.Ok Q ps s) :
    State.Ok Q ps (State.holdDma s e k) := by
  unfold State.holdDma; simp (maxDischargeDepth := 40) (contextual := true) [*]

@[simp] theorem State.scatter_ok {x1 : State} {x2 : List (Nat × Nat)} {x3 : Bytes} (h : State.Ok Q ps x1) :
    State.Ok Q ps (State.scatter x1 x2 x3) := by
  induction x2 generalizing x1 x3 with
  | nil => exact h
  | cons a l ih => exact ih (State.sramWrite_ok h)

@[simp] theorem State.stopJob_ok {s : State} {e : Eng} {k : Nat} {d : Desc} {written : Nat} {done : Done} {fault : Option (AccType × Nat × Nat)} (h : State.Ok Q ps s) :
    State.Ok Q ps (State.stopJob s e k d written done fault) := by
  unfold State.stopJob; (repeat' split) <;> simp (maxDischargeDepth := 40) (contextual := true) [*]

@[simp] theorem State.takeDesc_ok {s : State} {e : Eng} {k : Nat} {d : Desc} (h : State.Ok Q ps s) :
    State.Ok Q ps (State.takeDesc s e k d) := by
  unfold State.takeDesc; simp (maxDischargeDepth := 40) (contextual := true) [*]

@[simp] theorem State.newWait_ok {s : State} {e : Eng} {k : Nat} (h : State.Ok Q ps s) :
    State.Ok Q ps (State.newWait s e k) := by
  unfold State.newWait; split <;> exact h

@[simp] theorem State.holdJob_ok {s : State} {e : Eng} {k : Nat} {d : Desc} {b : Bytes} (h : State.Ok Q ps s) :
    State.Ok Q ps (State.holdJob s e k d b) := by
  unfold State.holdJob; simp (maxDischargeDepth := 40) (contextual := true) [*]

@[simp] theorem State.formStep_ok {s : State} {e : Eng} {k : Nat} {d : Desc} {tmo : Bool} (h : State.Ok Q ps s) :
    State.Ok Q ps (State.formStep s e k d tmo) := by
  unfold State.formStep; (repeat' split) <;> simp (maxDischargeDepth := 40) (contextual := true) [*]

@[simp] theorem State.fetchStep_ok {s : State} {e : Eng} {k : Nat} {tmo : Bool} (h : State.Ok Q ps s) :
    State.Ok Q ps (State.fetchStep s e k tmo) := by
  unfold State.fetchStep; dsimp only; (repeat' split) <;> simp (maxDischargeDepth := 40) (contextual := true) [*]

@[simp] theorem State.fetchLoop_ok {n : Nat} {x2 : State} {x3 : Eng} {x4 : Nat} (h : State.Ok Q ps x2) :
    State.Ok Q ps (State.fetchLoop n x2 x3 x4) := by
  induction n generalizing x2 with
  | zero => exact h
  | succ n ih =>
    unfold State.fetchLoop
    split
    · exact ih (State.fetchStep_ok h)
    · exact h

@[simp] theorem State.fetchNext_ok {s : State} {e : Eng} {k : Nat} (h : State.Ok Q ps s) :
    State.Ok Q ps (State.fetchNext s e k) := by
  unfold State.fetchNext; simp (maxDischargeDepth := 40) (contextual := true) [*]

@[simp] theorem State.fetchEngine_ok {s : State} {e : Eng} (h : State.Ok Q ps s) :
    State.Ok Q ps (State.fetchEngine s e) := by
  unfold State.fetchEngine; simp (maxDischargeDepth := 40) (contextual := true) [*]

@[simp] theorem State.fetchAll_ok {s : State} (h : State.Ok Q ps s) :
    State.Ok Q ps (State.fetchAll s) := by
  unfold State.fetchAll; simp (maxDischargeDepth := 40) (contextual := true) [*]

@[simp] theorem State.doneDesc_ok {s : State} {e : Eng} {k : Nat} {d : Done} (h : State.Ok Q ps s) :
    State.Ok Q ps (State.doneDesc s e k d) := by
  unfold State.doneDesc; simp (maxDischargeDepth := 40) (contextual := true) [*]

@[simp] theorem State.stopDesc_ok {s : State} {e : Eng} {k : Nat} {d : Desc} {written : Nat} {done : Done} {fault : Option (AccType × Nat × Nat)} (h : State.Ok Q ps s) :
    State.Ok Q ps (State.stopDesc s e k d written done fault) := by
  unfold State.stopDesc; simp (maxDischargeDepth := 40) (contextual := true) [*]

@[simp] theorem execDoorbell_ok {e : Eng} {k : Nat} {v : Word} {s : State} (h : State.Ok Q ps s) :
    OutOk Q ps (execDoorbell e k v s) := by
  unfold execDoorbell; (repeat' split) <;> simp (maxDischargeDepth := 40) (contextual := true) [*]

@[simp] theorem State.policyWrite_ok {s : State} {e : Eng} {k v : Nat} (h : State.Ok Q ps s) :
    State.Ok Q ps (State.policyWrite s e k v) := by
  unfold State.policyWrite; simp (maxDischargeDepth := 40) (contextual := true) [*]

@[simp] theorem execRingEnable_ok {e : Eng} {k : Nat} {v : Word} {s : State} (h : State.Ok Q ps s) :
    OutOk Q ps (execRingEnable e k v s) := by
  unfold execRingEnable; simp (maxDischargeDepth := 40) (contextual := true) [*]

@[simp] theorem execRingDisable_ok {e : Eng} {k : Nat} {v : Word} {s : State} (h : State.Ok Q ps s) :
    OutOk Q ps (execRingDisable e k v s) := by
  unfold execRingDisable; simp (maxDischargeDepth := 40) (contextual := true) [*]

@[simp] theorem execRingConfigWrite_ok {e : Eng} {k : Nat} {g : RingReg} {v : Word} {s : State} (h : State.Ok Q ps s) :
    OutOk Q ps (execRingConfigWrite e k g v s) := by
  unfold execRingConfigWrite; (repeat' split) <;> simp (maxDischargeDepth := 40) (contextual := true) [*]

@[simp] theorem State.clearEngine_ok {s : State} {e : Eng} (h : State.Ok Q ps s) :
    State.Ok Q ps (State.clearEngine s e) := by
  unfold State.clearEngine; (repeat' split) <;> simp (maxDischargeDepth := 40) (contextual := true) [*]

@[simp] theorem State.engineReset_ok {s : State} {e : Eng} (h : State.Ok Q ps s) :
    State.Ok Q ps (State.engineReset s e) := by
  unfold State.engineReset; simp (maxDischargeDepth := 40) (contextual := true) [*]

@[simp] theorem execEngineReset_ok {e : Eng} {s : State} (h : State.Ok Q ps s) :
    OutOk Q ps (execEngineReset e s) := by
  unfold execEngineReset; simp (maxDischargeDepth := 40) (contextual := true) [*]

@[simp] theorem State.setCtx_ok {s : State} {e : CipherEng} {k : Nat} {x4 : Option (Nat × Nat)} (h : State.Ok Q ps s) :
    State.Ok Q ps (State.setCtx s e k x4) := by
  unfold State.setCtx; (repeat' split) <;> simp (maxDischargeDepth := 40) (contextual := true) [*]

@[simp] theorem State.waitSaggar_ok {s : State} {k : Nat} (h : State.Ok Q ps s) :
    State.Ok Q ps (State.waitSaggar s k) := by
  unfold State.waitSaggar; simp (maxDischargeDepth := 40) (contextual := true) [*]

@[simp] theorem State.fillSaggar_ok {s : State} {k : Nat} {b : Bytes} (h : State.Ok Q ps s) :
    State.Ok Q ps (State.fillSaggar s k b) := h

@[simp] theorem State.cipherJob_ok {s : State} {e : CipherEng} {k : Nat} {d : Desc} {tmo : Bool} (h : State.Ok Q ps s) :
    State.Ok Q ps (State.cipherJob s e k d tmo) := by
  unfold State.cipherJob; dsimp only; (repeat' split) <;> simp (maxDischargeDepth := 40) (contextual := true) [*]

@[simp] theorem State.countVerdict_ok {s : State} {e : CipherEng} (h : State.Ok Q ps s) :
    State.Ok Q ps (State.countVerdict s e) := by
  unfold State.countVerdict; (repeat' split) <;> simp (maxDischargeDepth := 40) (contextual := true) [*]

@[simp] theorem State.verdictJob_ok {s : State} {e : CipherEng} {k : Nat} {d : Desc} {tmo : Bool} (h : State.Ok Q ps s) :
    State.Ok Q ps (State.verdictJob s e k d tmo) := by
  unfold State.verdictJob; dsimp only; (repeat' split) <;> simp (maxDischargeDepth := 40) (contextual := true) [*]

@[simp] theorem State.runCipher_ok {s : State} {e : CipherEng} {k : Nat} {d : Desc} {tmo : Bool} (h : State.Ok Q ps s) :
    State.Ok Q ps (State.runCipher s e k d tmo) := by
  unfold State.runCipher; simp (maxDischargeDepth := 40) (contextual := true) [*]

@[simp] theorem State.cipherOp_ok {s : State} {e : CipherEng} {k op : Nat} (h : State.Ok Q ps s) :
    State.Ok Q ps (State.cipherOp s e k op) := by
  unfold State.cipherOp; (repeat' split) <;> simp (maxDischargeDepth := 40) (contextual := true) [*]

@[simp] theorem execEnc_ok {e : CipherEng} {k : Nat} {s : State} (h : State.Ok Q ps s) :
    OutOk Q ps (execEnc e k s) := by
  unfold execEnc; simp (maxDischargeDepth := 40) (contextual := true) [*]

@[simp] theorem execDec_ok {e : CipherEng} {k : Nat} {s : State} (h : State.Ok Q ps s) :
    OutOk Q ps (execDec e k s) := by
  unfold execDec; simp (maxDischargeDepth := 40) (contextual := true) [*]

@[simp] theorem execEncXin_ok {e : CipherEng} {k : Nat} {s : State} (h : State.Ok Q ps s) :
    OutOk Q ps (execEncXin e k s) := by
  unfold execEncXin; simp (maxDischargeDepth := 40) (contextual := true) [*]

@[simp] theorem execEncXout_ok {e : CipherEng} {k : Nat} {s : State} (h : State.Ok Q ps s) :
    OutOk Q ps (execEncXout e k s) := by
  unfold execEncXout; simp (maxDischargeDepth := 40) (contextual := true) [*]

@[simp] theorem execDecXout_ok {e : CipherEng} {k : Nat} {s : State} (h : State.Ok Q ps s) :
    OutOk Q ps (execDecXout e k s) := by
  unfold execDecXout; simp (maxDischargeDepth := 40) (contextual := true) [*]

@[simp] theorem execVerdict_ok {e : CipherEng} {k : Nat} {s : State} (h : State.Ok Q ps s) :
    OutOk Q ps (execVerdict e k s) := by
  unfold execVerdict; simp (maxDischargeDepth := 40) (contextual := true) [*]

@[simp] theorem execSaggarExpiry_ok {k : Nat} {s : State} (h : State.Ok Q ps s) :
    OutOk Q ps (execSaggarExpiry k s) := by
  unfold execSaggarExpiry; (repeat' split) <;> simp (maxDischargeDepth := 40) (contextual := true) [*]

@[simp] theorem State.measure_ok {s : State} {k : Fin 24} {level event : Nat} {msg : Bytes} (h : State.Ok Q ps s) :
    State.Ok Q ps (State.measure s k level event msg) := by
  unfold State.measure; simp (maxDischargeDepth := 40) (contextual := true) [*]

@[simp] theorem State.setCtxOf_ok {s : State} {c : Nat} {x3 : DigCtx} (h : State.Ok Q ps s) :
    State.Ok Q ps (State.setCtxOf s c x3) := by
  unfold State.setCtxOf; (repeat' split) <;> simp (maxDischargeDepth := 40) (contextual := true) [*]

@[simp] theorem State.freeCtx_ok {s : State} {c : Nat} (h : State.Ok Q ps s) :
    State.Ok Q ps (State.freeCtx s c) := by
  unfold State.freeCtx; simp (maxDischargeDepth := 40) (contextual := true) [*]

@[simp] theorem State.absorbJob_ok {s : State} {k : Nat} {d : Desc} {tmo : Bool} (h : State.Ok Q ps s) :
    State.Ok Q ps (State.absorbJob s k d tmo) := by
  unfold State.absorbJob; dsimp only; (repeat' split) <;> simp (maxDischargeDepth := 40) (contextual := true) [*]

@[simp] theorem State.resultJob_ok {s : State} {k : Nat} {d : Desc} {tmo : Bool} (h : State.Ok Q ps s) :
    State.Ok Q ps (State.resultJob s k d tmo) := by
  unfold State.resultJob; dsimp only; (repeat' split) <;> simp (maxDischargeDepth := 40) (contextual := true) [*]

@[simp] theorem State.compareJob_ok {s : State} {k : Nat} {d : Desc} {tmo : Bool} (h : State.Ok Q ps s) :
    State.Ok Q ps (State.compareJob s k d tmo) := by
  unfold State.compareJob; dsimp only; (repeat' split) <;> simp (maxDischargeDepth := 40) (contextual := true) [*]

@[simp] theorem State.extendReg_ok {s : State} {r : Machine.Ring} {reg alg event : Nat} {digest : Bytes} (h : State.Ok Q ps s) :
    State.Ok Q ps (State.extendReg s r reg alg event digest) := by
  unfold State.extendReg; (repeat' split) <;> simp (maxDischargeDepth := 40) (contextual := true) [*]

@[simp] theorem State.extendJob_ok {s : State} {k : Nat} {d : Desc} {tmo : Bool} (h : State.Ok Q ps s) :
    State.Ok Q ps (State.extendJob s k d tmo) := by
  unfold State.extendJob; dsimp only; (repeat' split) <;> simp (maxDischargeDepth := 40) (contextual := true) [*]

@[simp] theorem State.extendCtxJob_ok {s : State} {k : Nat} {d : Desc} (h : State.Ok Q ps s) :
    State.Ok Q ps (State.extendCtxJob s k d) := by
  unfold State.extendCtxJob; simp (maxDischargeDepth := 40) (contextual := true) [*]

@[simp] theorem State.runDig_ok {s : State} {k : Nat} {d : Desc} {tmo : Bool} (h : State.Ok Q ps s) :
    State.Ok Q ps (State.runDig s k d tmo) := by
  unfold State.runDig; (repeat' split) <;> simp (maxDischargeDepth := 40) (contextual := true) [*]

@[simp] theorem State.digOp_ok {s : State} {k op : Nat} (h : State.Ok Q ps s) :
    State.Ok Q ps (State.digOp s k op) := by
  unfold State.digOp; (repeat' split) <;> simp (maxDischargeDepth := 40) (contextual := true) [*]

@[simp] theorem execHash_ok {k : Nat} {s : State} (h : State.Ok Q ps s) :
    OutOk Q ps (execHash k s) := by
  unfold execHash; simp (maxDischargeDepth := 40) (contextual := true) [*]

@[simp] theorem execHmac_ok {k : Nat} {s : State} (h : State.Ok Q ps s) :
    OutOk Q ps (execHmac k s) := by
  unfold execHmac; simp (maxDischargeDepth := 40) (contextual := true) [*]

@[simp] theorem execResult_ok {k : Nat} {s : State} (h : State.Ok Q ps s) :
    OutOk Q ps (execResult k s) := by
  unfold execResult; simp (maxDischargeDepth := 40) (contextual := true) [*]

@[simp] theorem execCompare_ok {k : Nat} {s : State} (h : State.Ok Q ps s) :
    OutOk Q ps (execCompare k s) := by
  unfold execCompare; simp (maxDischargeDepth := 40) (contextual := true) [*]

@[simp] theorem execFree_ok {k : Nat} {s : State} (h : State.Ok Q ps s) :
    OutOk Q ps (execFree k s) := by
  unfold execFree; simp (maxDischargeDepth := 40) (contextual := true) [*]

@[simp] theorem execExtend_ok {k : Nat} {s : State} (h : State.Ok Q ps s) :
    OutOk Q ps (execExtend k s) := by
  unfold execExtend; simp (maxDischargeDepth := 40) (contextual := true) [*]

@[simp] theorem execExtendCtx_ok {k : Nat} {s : State} (h : State.Ok Q ps s) :
    OutOk Q ps (execExtendCtx k s) := by
  unfold execExtendCtx; simp (maxDischargeDepth := 40) (contextual := true) [*]

@[simp] theorem execMeasSnap_ok {s : State} (h : State.Ok Q ps s) :
    OutOk Q ps (execMeasSnap s) := by
  unfold execMeasSnap; simp (maxDischargeDepth := 40) (contextual := true) [*]

@[simp] theorem execMeasLock_ok {s : State} (h : State.Ok Q ps s) :
    OutOk Q ps (execMeasLock s) := by
  unfold execMeasLock; simp (maxDischargeDepth := 40) (contextual := true) [*]

@[simp] theorem execMeasOwnerWrite_ok {n : Fin 2} {v : Word} {s : State} (h : State.Ok Q ps s) :
    OutOk Q ps (execMeasOwnerWrite n v s) := by
  unfold execMeasOwnerWrite; simp (maxDischargeDepth := 40) (contextual := true) [*]

@[simp] theorem State.wmuValue_ok {s : State} {k detail : Nat} (h : State.Ok Q ps s) :
    State.Ok Q ps (State.wmuValue s k detail) := by
  unfold State.wmuValue; simp (maxDischargeDepth := 40) (contextual := true) [*]

@[simp] theorem State.countYield_ok {s : State} {k : Nat} (h : State.Ok Q ps s) :
    State.Ok Q ps (State.countYield s k) := by
  unfold State.countYield; (repeat' split) <;> simp (maxDischargeDepth := 40) (contextual := true) [*]

@[simp] theorem State.runWmu_ok {s : State} {k : Nat} {d : Desc} {tmo : Bool} (h : State.Ok Q ps s) :
    State.Ok Q ps (State.runWmu s k d tmo) := by
  unfold State.runWmu; dsimp only; (repeat' split) <;> simp (maxDischargeDepth := 40) (contextual := true) [*]

@[simp] theorem State.wmuOp_ok {s : State} {k op : Nat} (h : State.Ok Q ps s) :
    State.Ok Q ps (State.wmuOp s k op) := by
  unfold State.wmuOp; (repeat' split) <;> simp (maxDischargeDepth := 40) (contextual := true) [*]

@[simp] theorem execMul_ok {k : Nat} {s : State} (h : State.Ok Q ps s) :
    OutOk Q ps (execMul k s) := by
  unfold execMul; simp (maxDischargeDepth := 40) (contextual := true) [*]

@[simp] theorem execMac_ok {k : Nat} {s : State} (h : State.Ok Q ps s) :
    OutOk Q ps (execMac k s) := by
  unfold execMac; simp (maxDischargeDepth := 40) (contextual := true) [*]

@[simp] theorem execRowmac_ok {k : Nat} {s : State} (h : State.Ok Q ps s) :
    OutOk Q ps (execRowmac k s) := by
  unfold execRowmac; simp (maxDischargeDepth := 40) (contextual := true) [*]

end Sys2Proof.Machine
end

