-- ==== Sys2Proof/Laws/KeepEngines.lean ====
section
/-! SUPPORT. Every operation and every meaning keeps the queue and the invariant (part 2 of 5): one lemma for each, in the order of the
model. -/

namespace Sys2Proof.Machine

open Sys2Proof

variable {Q : Prop} {ps : List Instr}

@[simp] theorem execWmuYield_ok {k : Nat} {s : State} (h : State.Ok Q ps s) :
    OutOk Q ps (execWmuYield k s) := by
  unfold execWmuYield; (repeat' split) <;> simp (maxDischargeDepth := 40) (contextual := true) [*]

@[simp] theorem execWmuResume_ok {s : State} (h : State.Ok Q ps s) :
    OutOk Q ps (execWmuResume s) := by
  unfold execWmuResume; (repeat' split) <;> simp (maxDischargeDepth := 40) (contextual := true) [*]

@[simp] theorem execModSet_ok {k : Fin 8} {v : Word} {s : State} (h : State.Ok Q ps s) :
    OutOk Q ps (execModSet k v s) := by
  unfold execModSet; simp (maxDischargeDepth := 40) (contextual := true) [*]

@[simp] theorem execModClear_ok {k : Fin 8} {v : Word} {s : State} (h : State.Ok Q ps s) :
    OutOk Q ps (execModClear k v s) := by
  unfold execModClear; simp (maxDischargeDepth := 40) (contextual := true) [*]

@[simp] theorem execModValueWrite_ok {k : Fin 8} {j : Option (Fin 128)} {v : Word} {s : State} (h : State.Ok Q ps s) :
    OutOk Q ps (execModValueWrite k j v s) := by
  unfold execModValueWrite; (repeat' split) <;> simp (maxDischargeDepth := 40) (contextual := true) [*]

@[simp] theorem State.exhausted_ok {s : State} {counter : Nat} {slot : Option Nat} (h : State.Ok Q ps s) :
    State.Ok Q ps (State.exhausted s counter slot) := by
  unfold State.exhausted; simp (maxDischargeDepth := 40) (contextual := true) [*]

@[simp] theorem State.storeSlot_ok {s : State} {n : Nat} {x3 : Slot} (h : State.Ok Q ps s) :
    State.Ok Q ps (State.storeSlot s n x3) := h

@[simp] theorem State.freeGen_ok {s : State} {n : Nat} (h : State.Ok Q ps s) :
    State.Ok Q ps (State.freeGen s n) := by
  unfold State.freeGen; split <;> exact h

@[simp] theorem State.clearWake_ok {s : State} {n : Nat} (h : State.Ok Q ps s) :
    State.Ok Q ps (State.clearWake s n) := by
  unfold State.clearWake; simp (maxDischargeDepth := 40) (contextual := true) [*]

@[simp] theorem State.keyRecord_ok {s : State} {n : Nat} (h : State.Ok Q ps s) :
    State.Ok Q ps (State.keyRecord s n) := h

@[simp] theorem State.newKey_ok {s : State} {n cls usage owner : Nat} {persist : Bool} {mat : Bytes} (h : State.Ok Q ps s) :
    State.Ok Q ps (State.newKey s n cls usage owner persist mat) := by
  unfold State.newKey; simp (maxDischargeDepth := 40) (contextual := true) [*]

@[simp] theorem State.deleteSlot_ok {s : State} {n : Nat} (h : State.Ok Q ps s) :
    State.Ok Q ps (State.deleteSlot s n) := by
  unfold State.deleteSlot; simp (maxDischargeDepth := 40) (contextual := true) [*]

@[simp] theorem State.loseSlot_ok {s : State} {n : Nat} (h : State.Ok Q ps s) :
    State.Ok Q ps (State.loseSlot s n) := by
  unfold State.loseSlot; simp (maxDischargeDepth := 40) (contextual := true) [*]

@[simp] theorem State.ksmGenerate_ok {s : State} {d : Desc} (h : State.Ok Q ps s) :
    State.Ok Q ps (State.ksmGenerate s d).1 := by
  unfold State.ksmGenerate; simp (maxDischargeDepth := 40) (contextual := true) [*]

@[simp] theorem State.ksmImport_ok {s : State} {d : Desc} {b : Bytes} (h : State.Ok Q ps s) :
    State.Ok Q ps (State.ksmImport s d b).1 := by
  unfold State.ksmImport; (repeat' split) <;> simp (maxDischargeDepth := 40) (contextual := true) [*]

@[simp] theorem State.ksmUnwrap_ok {s : State} {d : Desc} {b : Bytes} (h : State.Ok Q ps s) :
    State.Ok Q ps (State.ksmUnwrap s d b).1 := by
  unfold State.ksmUnwrap; dsimp only; (repeat' split) <;> simp (maxDischargeDepth := 40) (contextual := true) [*]

@[simp] theorem State.ksmAgree_ok {s : State} {d : Desc} {b : Bytes} (h : State.Ok Q ps s) :
    State.Ok Q ps (State.ksmAgree s d b).1 := by
  unfold State.ksmAgree; (repeat' split) <;> simp (maxDischargeDepth := 40) (contextual := true) [*]

@[simp] theorem State.ksmDerive_ok {s : State} {d : Desc} {b : Bytes} (h : State.Ok Q ps s) :
    State.Ok Q ps (State.ksmDerive s d b).1 := by
  unfold State.ksmDerive; simp (maxDischargeDepth := 40) (contextual := true) [*]

@[simp] theorem State.ksmWake_ok {s : State} {d : Desc} (h : State.Ok Q ps s) :
    State.Ok Q ps (State.ksmWake s d) := h

@[simp] theorem State.ksmCounter_ok {s : State} {d : Desc} (h : State.Ok Q ps s) :
    State.Ok Q ps (State.ksmCounter s d).1 := by
  unfold State.ksmCounter; dsimp only; (repeat' split) <;> simp (maxDischargeDepth := 40) (contextual := true) [*]

@[simp] theorem State.runKsm_ok {s0 : State} {k : Nat} {d : Desc} {tmo : Bool} (h : State.Ok Q ps s0) :
    State.Ok Q ps (State.runKsm s0 k d tmo) := by
  unfold State.runKsm; dsimp only; (repeat' split) <;> simp (maxDischargeDepth := 40) (contextual := true) [*]

@[simp] theorem State.ksmOp_ok {s : State} {k op : Nat} (h : State.Ok Q ps s) :
    State.Ok Q ps (State.ksmOp s k op) := by
  unfold State.ksmOp; (repeat' split) <;> simp (maxDischargeDepth := 40) (contextual := true) [*]

@[simp] theorem execGenerate_ok {k : Nat} {s : State} (h : State.Ok Q ps s) :
    OutOk Q ps (execGenerate k s) := by
  unfold execGenerate; simp (maxDischargeDepth := 40) (contextual := true) [*]

@[simp] theorem execImportPublic_ok {k : Nat} {s : State} (h : State.Ok Q ps s) :
    OutOk Q ps (execImportPublic k s) := by
  unfold execImportPublic; simp (maxDischargeDepth := 40) (contextual := true) [*]

@[simp] theorem execUnwrap_ok {k : Nat} {s : State} (h : State.Ok Q ps s) :
    OutOk Q ps (execUnwrap k s) := by
  unfold execUnwrap; simp (maxDischargeDepth := 40) (contextual := true) [*]

@[simp] theorem execAgree_ok {k : Nat} {s : State} (h : State.Ok Q ps s) :
    OutOk Q ps (execAgree k s) := by
  unfold execAgree; simp (maxDischargeDepth := 40) (contextual := true) [*]

@[simp] theorem execDerive_ok {k : Nat} {s : State} (h : State.Ok Q ps s) :
    OutOk Q ps (execDerive k s) := by
  unfold execDerive; simp (maxDischargeDepth := 40) (contextual := true) [*]

@[simp] theorem execSign_ok {k : Nat} {s : State} (h : State.Ok Q ps s) :
    OutOk Q ps (execSign k s) := by
  unfold execSign; simp (maxDischargeDepth := 40) (contextual := true) [*]

@[simp] theorem execPublic_ok {k : Nat} {s : State} (h : State.Ok Q ps s) :
    OutOk Q ps (execPublic k s) := by
  unfold execPublic; simp (maxDischargeDepth := 40) (contextual := true) [*]

@[simp] theorem execDelete_ok {k : Nat} {s : State} (h : State.Ok Q ps s) :
    OutOk Q ps (execDelete k s) := by
  unfold execDelete; simp (maxDischargeDepth := 40) (contextual := true) [*]

@[simp] theorem execRandom_ok {k : Nat} {s : State} (h : State.Ok Q ps s) :
    OutOk Q ps (execRandom k s) := by
  unfold execRandom; simp (maxDischargeDepth := 40) (contextual := true) [*]

@[simp] theorem execWakeLoad_ok {k : Nat} {s : State} (h : State.Ok Q ps s) :
    OutOk Q ps (execWakeLoad k s) := by
  unfold execWakeLoad; simp (maxDischargeDepth := 40) (contextual := true) [*]

@[simp] theorem execCntRead_ok {k : Nat} {s : State} (h : State.Ok Q ps s) :
    OutOk Q ps (execCntRead k s) := by
  unfold execCntRead; simp (maxDischargeDepth := 40) (contextual := true) [*]

@[simp] theorem execCntInc_ok {k : Nat} {s : State} (h : State.Ok Q ps s) :
    OutOk Q ps (execCntInc k s) := by
  unfold execCntInc; simp (maxDischargeDepth := 40) (contextual := true) [*]

@[simp] theorem execCntAdvance_ok {k : Nat} {s : State} (h : State.Ok Q ps s) :
    OutOk Q ps (execCntAdvance k s) := by
  unfold execCntAdvance; simp (maxDischargeDepth := 40) (contextual := true) [*]

@[simp] theorem execCntSync_ok {k : Nat} {s : State} (h : State.Ok Q ps s) :
    OutOk Q ps (execCntSync k s) := by
  unfold execCntSync; simp (maxDischargeDepth := 40) (contextual := true) [*]

@[simp] theorem execCntMode_ok {k : Nat} {s : State} (h : State.Ok Q ps s) :
    OutOk Q ps (execCntMode k s) := by
  unfold execCntMode; simp (maxDischargeDepth := 40) (contextual := true) [*]

@[simp] theorem execTrngHealthFail_ok {startup : Bool} {bit : Nat} {s : State} (h : State.Ok Q ps s) :
    OutOk Q ps (execTrngHealthFail startup bit s) := by
  unfold execTrngHealthFail; simp (maxDischargeDepth := 40) (contextual := true) [*]

@[simp] theorem State.updPort_ok {s : State} {p : Port} {f : PortSt → PortSt} (h : State.Ok Q ps s) :
    State.Ok Q ps (State.updPort s p f) := by
  unfold State.updPort; (repeat' split) <;> simp (maxDischargeDepth := 40) (contextual := true) [*]

@[simp] theorem State.sendPort_ok {s : State} {p : Port} {msg : Bytes} (h : State.Ok Q ps s) :
    State.Ok Q ps (State.sendPort s p msg) := by
  unfold State.sendPort; simp (maxDischargeDepth := 40) (contextual := true) [*]

@[simp] theorem State.sendChunkAck_ok {s : State} {id : Bytes} {total status : Nat} (h : State.Ok Q ps s) :
    State.Ok Q ps (State.sendChunkAck s id total status) := by
  unfold State.sendChunkAck; simp (maxDischargeDepth := 40) (contextual := true) [*]

@[simp] theorem State.paceChunkAck_ok {s : State} {id : Bytes} {total status : Nat} (h : State.Ok Q ps s) :
    State.Ok Q ps (State.paceChunkAck s id total status) := by
  unfold State.paceChunkAck; simp (maxDischargeDepth := 40) (contextual := true) [*]

@[simp] theorem State.setBStatus_ok {s : State} {b : BStatus} (h : State.Ok Q ps s) :
    State.Ok Q ps (State.setBStatus s b) := by
  unfold State.setBStatus; (repeat' split) <;> simp (maxDischargeDepth := 40) (contextual := true) [*]

@[simp] theorem State.skipEntry_ok {s : State} {k old new : Nat} (h : State.Ok Q ps s) :
    State.Ok Q ps (State.skipEntry s k old new) := by
  unfold State.skipEntry; simp (maxDischargeDepth := 40) (contextual := true) [*]

@[simp] theorem State.gapSkip_ok {s : State} {old new : Nat} (h : State.Ok Q ps s) :
    State.Ok Q ps (State.gapSkip s old new) := by
  unfold State.gapSkip; simp (maxDischargeDepth := 40) (contextual := true) [*]

@[simp] theorem State.logSkip_ok {s : State} {old new : List (Nat × Nat)} (h : State.Ok Q ps s) :
    State.Ok Q ps (State.logSkip s old new) := by
  unfold State.logSkip; dsimp only; (repeat' split) <;> simp (maxDischargeDepth := 40) (contextual := true) [*]

@[simp] theorem State.restoreJournal_ok {s : State} (h : State.Ok Q ps s) :
    State.Ok Q ps (State.restoreJournal s) := by
  unfold State.restoreJournal; simp (maxDischargeDepth := 40) (contextual := true) [*]

@[simp] theorem State.journalBad_ok {s : State} (h : State.Ok Q ps s) :
    State.Ok Q ps (State.journalBad s) := by
  unfold State.journalBad; simp (maxDischargeDepth := 40) (contextual := true) [*]

@[simp] theorem State.rewriteCopies_ok {s : State} {l : List (Bool × Nat × Nat)} (h : State.Ok Q ps s) :
    State.Ok Q ps (State.rewriteCopies s l) := h

@[simp] theorem State.rewriteDisplaced_ok {s : State} (h : State.Ok Q ps s) :
    State.Ok Q ps (State.rewriteDisplaced s) := by
  unfold State.rewriteDisplaced; (repeat' split) <;> simp (maxDischargeDepth := 40) (contextual := true) [*]

@[simp] theorem State.bundleOutcome_ok {s : State} {result detail : Nat} (h : State.Ok Q ps s) :
    State.Ok Q ps (State.bundleOutcome s result detail) := by
  unfold State.bundleOutcome; simp (maxDischargeDepth := 40) (contextual := true) [*]

@[simp] theorem State.imageBad_ok {s : State} {b : Nat} (h : State.Ok Q ps s) :
    State.Ok Q ps (State.imageBad s b) := by
  unfold State.imageBad; dsimp only; (repeat' split) <;> simp (maxDischargeDepth := 40) (contextual := true) [*]

@[simp] theorem State.ringBad_ok {s : State} {p : Nat} (h : State.Ok Q ps s) :
    State.Ok Q ps (State.ringBad s p) := by
  unfold State.ringBad; dsimp only; (repeat' split) <;> simp (maxDischargeDepth := 40) (contextual := true) [*]

@[simp] theorem State.keyPageBad_ok {s : State} {p : Nat} (h : State.Ok Q ps s) :
    State.Ok Q ps (State.keyPageBad s p) := by
  unfold State.keyPageBad; dsimp only; split <;> simp (maxDischargeDepth := 40) (contextual := true) [*]

@[simp] theorem State.logPageBad_ok {s : State} {p : Nat} (h : State.Ok Q ps s) :
    State.Ok Q ps (State.logPageBad s p) := by
  unfold State.logPageBad; dsimp only; (repeat' split) <;> simp (maxDischargeDepth := 40) (contextual := true) [*]

@[simp] theorem State.areaBad_ok {s : State} {p : Nat} (h : State.Ok Q ps s) :
    State.Ok Q ps (State.areaBad s p) := by
  unfold State.areaBad; (repeat' split) <;> simp (maxDischargeDepth := 40) (contextual := true) [*]

@[simp] theorem State.flashWear_ok {s : State} {kind b : Nat} (h : State.Ok Q ps s) :
    State.Ok Q ps (State.flashWear s kind b) := by
  unfold State.flashWear; simp (maxDischargeDepth := 40) (contextual := true) [*]

@[simp] theorem State.poisonFills_ok {s : State} {b : Nat} (h : State.Ok Q ps s) :
    State.Ok Q ps (State.poisonFills s b) := by
  unfold State.poisonFills; split <;> simp (maxDischargeDepth := 40) (contextual := true) [*]

@[simp] theorem State.poisonPage_ok {s : State} {p reader : Nat} (h : State.Ok Q ps s) :
    State.Ok Q ps (State.poisonPage s p reader) := by
  unfold State.poisonPage; dsimp only; (repeat' split) <;> simp (maxDischargeDepth := 40) (contextual := true) [*]

@[simp] theorem State.pageRead_ok {s : State} {p bits reader : Nat} (h : State.Ok Q ps s) :
    State.Ok Q ps (State.pageRead s p bits reader) := by
  unfold State.pageRead; simp (maxDischargeDepth := 40) (contextual := true) [*]

@[simp] theorem State.suspendErase_ok {s : State} {b : Nat} (h : State.Ok Q ps s) :
    State.Ok Q ps (State.suspendErase s b) := by
  unfold State.suspendErase; (repeat' split) <;> simp (maxDischargeDepth := 40) (contextual := true) [*]

@[simp] theorem execEraseResume_ok {bank : Fin 2} {s : State} (h : State.Ok Q ps s) :
    OutOk Q ps (execEraseResume bank s) := by
  unfold execEraseResume; dsimp only; (repeat' split) <;> simp (maxDischargeDepth := 40) (contextual := true) [*]

@[simp] theorem State.programRest_ok {n : Nat} {x2 : State} {x3 : ProgJob} (h : State.Ok Q ps x2) :
    State.Ok Q ps (State.programRest n x2 x3).1 := by
  induction n generalizing x2 x3 with
  | zero => exact h
  | succ n ih =>
    unfold State.programRest
    split
    · exact h
    · exact ih (State.finishPage_ok h)

@[simp] theorem State.programOn_ok {s : State} {k : Nat} {d : Desc} {j0 : ProgJob} {ev : ProgEv} {bad : Option (Nat × Code × Nat)} {pulses : Nat} (h : State.Ok Q ps s) :
    State.Ok Q ps (State.programOn s k d j0 ev bad pulses) := by
  unfold State.programOn; dsimp only; (repeat' split) <;> simp (maxDischargeDepth := 40) (contextual := true) [*]

@[simp] theorem State.runProgram_ok {s : State} {k : Nat} {d : Desc} {ev : ProgEv} {weak : List Nat} {pulses : Nat} {tmo : Bool} (h : State.Ok Q ps s) :
    State.Ok Q ps (State.runProgram s k d ev weak pulses tmo) := by
  unfold State.runProgram; dsimp only; (repeat' split) <;> simp (maxDischargeDepth := 40) (contextual := true) [*]

@[simp] theorem State.eraseOk_ok {s : State} {b : Nat} (h : State.Ok Q ps s) :
    State.Ok Q ps (State.eraseOk s b) := by
  unfold State.eraseOk; simp (maxDischargeDepth := 40) (contextual := true) [*]

@[simp] theorem State.eraseEnd_ok {s : State} {k b : Nat} {v : EraseView} {code : Code} {replaced worn : Bool} (h : State.Ok Q ps s) :
    State.Ok Q ps (State.eraseEnd s k b v code replaced worn) := by
  unfold State.eraseEnd; simp (maxDischargeDepth := 40) (contextual := true) [*]

@[simp] theorem State.eraseRun_ok {s : State} {k b : Nat} {d : Desc} {v : EraseView} {ev : EraseEv} (h : State.Ok Q ps s) :
    State.Ok Q ps (State.eraseRun s k b d v ev) := by
  unfold State.eraseRun; (repeat' split) <;> simp (maxDischargeDepth := 40) (contextual := true) [*]

@[simp] theorem State.runErase_ok {s : State} {k : Nat} {d : Desc} {ev : EraseEv} {tmo : Bool} (h : State.Ok Q ps s) :
    State.Ok Q ps (State.runErase s k d ev tmo) := by
  unfold State.runErase; dsimp only; (repeat' split) <;> simp (maxDischargeDepth := 40) (contextual := true) [*]

@[simp] theorem State.runBlank_ok {s : State} {k : Nat} {d : Desc} {weak : List Nat} (h : State.Ok Q ps s) :
    State.Ok Q ps (State.runBlank s k d weak) := by
  unfold State.runBlank; simp (maxDischargeDepth := 40) (contextual := true) [*]

@[simp] theorem State.runMargin_ok {s : State} {k : Nat} {d : Desc} {reads : List (Nat × Nat)} (h : State.Ok Q ps s) :
    State.Ok Q ps (State.runMargin s k d reads) := by
  unfold State.runMargin; simp (maxDischargeDepth := 40) (contextual := true) [*]

@[simp] theorem State.runInfo_ok {s : State} {k : Nat} {d : Desc} (h : State.Ok Q ps s) :
    State.Ok Q ps (State.runInfo s k d) := by
  unfold State.runInfo; simp (maxDischargeDepth := 40) (contextual := true) [*]

@[simp] theorem State.runQuery_ok {s : State} {k : Nat} {d : Desc} {tmo : Bool} {f : State → State} (h : State.Ok Q ps s) (h2 : ∀ (a : State), State.Ok Q ps a → State.Ok Q ps (f a)) :
    State.Ok Q ps (State.runQuery s k d tmo f) := by
  unfold State.runQuery; (repeat' split) <;> simp (maxDischargeDepth := 40) (contextual := true) [*]

@[simp] theorem State.runFlash_ok {s : State} {k : Nat} {d : Desc} {tmo : Bool} (h : State.Ok Q ps s) :
    State.Ok Q ps (State.runFlash s k d tmo) := by
  unfold State.runFlash; (repeat' split) <;> simp (maxDischargeDepth := 40) (contextual := true) [*]

@[simp] theorem State.flcOp_ok {s : State} {k op : Nat} {f : State → Desc → State} (h : State.Ok Q ps s) (h2 : ∀ (a : State) (a_1 : Desc), State.Ok Q ps a → State.Ok Q ps (f a a_1)) :
    State.Ok Q ps (State.flcOp s k op f) := by
  unfold State.flcOp; (repeat' split) <;> simp (maxDischargeDepth := 40) (contextual := true) [*]

@[simp] theorem execProgram_ok {k : Nat} {ev : ProgEv} {weak : List Nat} {pulses : Nat} {s : State} (h : State.Ok Q ps s) :
    OutOk Q ps (execProgram k ev weak pulses s) := by
  unfold execProgram; simp (maxDischargeDepth := 40) (contextual := true) [*]

@[simp] theorem execErase_ok {k : Nat} {ev : EraseEv} {s : State} (h : State.Ok Q ps s) :
    OutOk Q ps (execErase k ev s) := by
  unfold execErase; simp (maxDischargeDepth := 40) (contextual := true) [*]

@[simp] theorem execBlank_ok {k : Nat} {weak : List Nat} {s : State} (h : State.Ok Q ps s) :
    OutOk Q ps (execBlank k weak s) := by
  unfold execBlank; simp (maxDischargeDepth := 40) (contextual := true) [*]

@[simp] theorem execMargin_ok {k : Nat} {reads : List (Nat × Nat)} {s : State} (h : State.Ok Q ps s) :
    OutOk Q ps (execMargin k reads s) := by
  unfold execMargin; simp (maxDischargeDepth := 40) (contextual := true) [*]

@[simp] theorem execInfo_ok {k : Nat} {s : State} (h : State.Ok Q ps s) :
    OutOk Q ps (execInfo k s) := by
  unfold execInfo; simp (maxDischargeDepth := 40) (contextual := true) [*]

@[simp] theorem execFlcWeightWrite_ok {v : Word} {s : State} (h : State.Ok Q ps s) :
    OutOk Q ps (execFlcWeightWrite v s) := by
  unfold execFlcWeightWrite; simp (maxDischargeDepth := 40) (contextual := true) [*]

@[simp] theorem State.relocate_ok {s : State} {b : Nat} (h : State.Ok Q ps s) :
    State.Ok Q ps (State.relocate s b) := by
  unfold State.relocate; (repeat' split) <;> simp (maxDischargeDepth := 40) (contextual := true) [*]

@[simp] theorem State.scrubWork_ok {s : State} {reads : List (Nat × Nat)} (h : State.Ok Q ps s) :
    State.Ok Q ps (State.scrubWork s reads) := by
  unfold State.scrubWork; simp (maxDischargeDepth := 40) (contextual := true) [*]

@[simp] theorem execScrubSession_ok {reads : List (Nat × Nat)} {done : Bool} {s : State} (h : State.Ok Q ps s) :
    OutOk Q ps (execScrubSession reads done s) := by
  unfold execScrubSession; dsimp only; (repeat' split) <;> simp (maxDischargeDepth := 40) (contextual := true) [*]

@[simp] theorem execScrubStarvation_ok {s : State} (h : State.Ok Q ps s) :
    OutOk Q ps (execScrubStarvation s) := by
  unfold execScrubStarvation; (repeat' split) <;> simp (maxDischargeDepth := 40) (contextual := true) [*]

@[simp] theorem State.updCpu_ok {s : State} {d : Fin 16} {k : Fin 2} {f : AppCore → AppCore} (h : State.Ok Q ps s) :
    State.Ok Q ps (State.updCpu s d k f) := h

@[simp] theorem State.takeOff_ok {s : State} {k : Fin 2} {st : AppSt} (h : State.Ok Q ps s) :
    State.Ok Q ps (State.takeOff s k st) := by
  unfold State.takeOff; (repeat' split) <;> simp (maxDischargeDepth := 40) (contextual := true) [*]

@[simp] theorem State.putOn_ok {s : State} {k : Fin 2} {d : Fin 16} (h : State.Ok Q ps s) :
    State.Ok Q ps (State.putOn s k d) := by
  unfold State.putOn; simp (maxDischargeDepth := 40) (contextual := true) [*]

@[simp] theorem State.schedule_ok {s : State} {k : Fin 2} (h : State.Ok Q ps s) :
    State.Ok Q ps (State.schedule s k) := by
  unfold State.schedule; (repeat' split) <;> simp (maxDischargeDepth := 40) (contextual := true) [*]

@[simp] theorem State.reschedule_ok {s : State} (h : State.Ok Q ps s) :
    State.Ok Q ps (State.reschedule s) := by
  unfold State.reschedule; simp (maxDischargeDepth := 40) (contextual := true) [*]

@[simp] theorem State.wipeApplet_ok {s : State} {d : Fin 16} (h : State.Ok Q ps s) :
    State.Ok Q ps (State.wipeApplet s d) := by
  unfold State.wipeApplet
  split
  · exact h
  · dsimp only
    rw [ok_mk]
    exact ⟨h.1, fun hb => ⟨wipeMem_wf (h.2 hb).1 _ _, ldm_wiped_wf h hb _ _ _, (h.2 hb).2.2⟩⟩

@[simp] theorem State.wheelDecide_ok {s : State} {c : Fin 16} (h : State.Ok Q ps s) :
    State.Ok Q ps (State.wheelDecide s c) := by
  unfold State.wheelDecide; dsimp only; (repeat' split) <;> simp (maxDischargeDepth := 40) (contextual := true) [*]

@[simp] theorem State.startApplet_ok {s : State} {d : Fin 16} {m : Manifest} {p : Placed} {bank first : Nat} {img : Bytes} (h : State.Ok Q ps s) :
    State.Ok Q ps (State.startApplet s d m p bank first img) := by
  unfold State.startApplet
  dsimp only
  rw [ok_mk]
  exact okF_mem (s := State.wipeApplet _ d) (State.wipeApplet_ok (State.updApp_ok (State.tick1_ok h))) (fun hb => writeBytes_wf ((State.wipeApplet_ok (State.updApp_ok (State.tick1_ok h))).2 hb).1 _ _)

@[simp] theorem State.markQuarantined_ok {s : State} {d : Fin 16} {reason mcause mepc mtval pf : Nat} (h : State.Ok Q ps s) :
    State.Ok Q ps (State.markQuarantined s d reason mcause mepc mtval pf) := by
  unfold State.markQuarantined; simp (maxDischargeDepth := 40) (contextual := true) [*]

@[simp] theorem State.measureApplet_ok {s : State} {km ki : Fin 24} {em ei : Nat} {img : Bytes} (h : State.Ok Q ps s) :
    State.Ok Q ps (State.measureApplet s km ki em ei img) := by
  unfold State.measureApplet; simp (maxDischargeDepth := 40) (contextual := true) [*]

@[simp] theorem State.loadApplet_ok {s : State} {x2 : Install} (h : State.Ok Q ps s) :
    State.Ok Q ps (State.loadApplet s x2) := by
  unfold State.loadApplet; dsimp only; (repeat' split) <;> simp (maxDischargeDepth := 40) (contextual := true) [*]

@[simp] theorem State.freeOld_ok {s : State} {d : Option (Fin 16)} (h : State.Ok Q ps s) :
    State.Ok Q ps (State.freeOld s d) := h

@[simp] theorem State.appletApplied_ok {s : State} {d : Fin 16} (h : State.Ok Q ps s) :
    State.Ok Q ps (State.appletApplied s d) := by
  unfold State.appletApplied; simp (maxDischargeDepth := 40) (contextual := true) [*]

@[simp] theorem State.freeContexts_ok {s : State} {d : Fin 16} {rings : List (Eng × Nat × Nat × Bool)} (h : State.Ok Q ps s) :
    State.Ok Q ps (State.freeContexts s d rings) := by
  unfold State.freeContexts; simp (maxDischargeDepth := 40) (contextual := true) [*]

@[simp] theorem State.discardRing_ok {s : State} {e : Eng} {k : Nat} (h : State.Ok Q ps s) :
    State.Ok Q ps (State.discardRing s e k) := by
  unfold State.discardRing; simp (maxDischargeDepth := 40) (contextual := true) [*]

@[simp] theorem State.stopApplet_ok {s : State} {d : Fin 16} {st : AppSt} (h : State.Ok Q ps s) :
    State.Ok Q ps (State.stopApplet s d st) := by
  unfold State.stopApplet; simp (maxDischargeDepth := 40) (contextual := true) [*]

@[simp] theorem State.quarantine_ok {s : State} {d : Fin 16} {reason mcause mepc mtval pf : Nat} (h : State.Ok Q ps s) :
    State.Ok Q ps (State.quarantine s d reason mcause mepc mtval pf) := by
  unfold State.quarantine; simp (maxDischargeDepth := 40) (contextual := true) [*]

@[simp] theorem State.xFreeze_ok {s : State} {d : Fin 16} (h : State.Ok Q ps s) :
    State.Ok Q ps (State.xFreeze s d) := by
  unfold State.xFreeze; simp (maxDischargeDepth := 40) (contextual := true) [*]

@[simp] theorem State.xRing_ok {s : State} {d : Fin 16} {new : Manifest} {r : Eng × Nat × Nat × Bool} (h : State.Ok Q ps s) :
    State.Ok Q ps (State.xRing s d new r) := by
  unfold State.xRing; simp (maxDischargeDepth := 40) (contextual := true) [*]

@[simp] theorem State.awaitDecisions_ok {s : State} {d : Fin 16} {fresh : Bool} (h : State.Ok Q ps s) :
    State.Ok Q ps (State.awaitDecisions s d fresh) := h

@[simp] theorem State.xFinish_ok {s : State} {d : Fin 16} (h : State.Ok Q ps s) :
    State.Ok Q ps (State.xFinish s d) := by
  unfold State.xFinish; dsimp only; (repeat' split) <;> simp (maxDischargeDepth := 40) (contextual := true) [*]

@[simp] theorem State.xRequest_ok {s : State} {d : Fin 16} (h : State.Ok Q ps s) :
    State.Ok Q ps (State.xRequest s d) := by
  unfold State.xRequest; (repeat' split) <;> simp (maxDischargeDepth := 40) (contextual := true) [*]

@[simp] theorem State.xNext_ok {s : State} (h : State.Ok Q ps s) :
    State.Ok Q ps (State.xNext s) := by
  unfold State.xNext; (repeat' split) <;> simp (maxDischargeDepth := 40) (contextual := true) [*]

@[simp] theorem State.restartApplet_ok {s : State} {d : Fin 16} (h : State.Ok Q ps s) :
    State.Ok Q ps (State.restartApplet s d) := by
  unfold State.restartApplet; (repeat' split) <;> simp (maxDischargeDepth := 40) (contextual := true) [*]

@[simp] theorem State.appletFault_ok {s : State} {d : Fin 16} {mcause mepc mtval pf : Nat} (h : State.Ok Q ps s) :
    State.Ok Q ps (State.appletFault s d mcause mepc mtval pf) := by
  unfold State.appletFault; simp (maxDischargeDepth := 40) (contextual := true) [*]

@[simp] theorem State.noteDecision_ok {s : State} {d c : Fin 16} (h : State.Ok Q ps s) :
    State.Ok Q ps (State.noteDecision s d c) := h

@[simp] theorem State.setSlip_ok {s : State} {d : SjSide} {e : SjEnd} (h : State.Ok Q ps s) :
    State.Ok Q ps (State.setSlip s d e) := by
  unfold State.setSlip; (repeat' split) <;> simp (maxDischargeDepth := 40) (contextual := true) [*]

@[simp] theorem State.trainSlip_ok {s : State} (h : State.Ok Q ps s) :
    State.Ok Q ps (State.trainSlip s) := by
  unfold State.trainSlip; simp (maxDischargeDepth := 40) (contextual := true) [*]

@[simp] theorem State.pumpSlip_ok {s : State} {d : SjSide} (h : State.Ok Q ps s) :
    State.Ok Q ps (State.pumpSlip s d) := by
  unfold State.pumpSlip; simp (maxDischargeDepth := 40) (contextual := true) [*]

@[simp] theorem State.slipSend_ok {s : State} {d : SjSide} {type : Nat} {payload : Bytes} {session : Bool} (h : State.Ok Q ps s) :
    State.Ok Q ps (State.slipSend s d type payload session) := by
  unfold State.slipSend; dsimp only; (repeat' split) <;> simp (maxDischargeDepth := 40) (contextual := true) [*]

@[simp] theorem State.endSlip_ok {s : State} {d : SjSide} (h : State.Ok Q ps s) :
    State.Ok Q ps (State.endSlip s d) := by
  unfold State.endSlip; (repeat' split) <;> simp (maxDischargeDepth := 40) (contextual := true) [*]

@[simp] theorem State.ackIdle_ok {s t : State} {d : SjSide} (h : State.Ok Q ps t) :
    State.Ok Q ps (State.ackIdle s d t) := by
  unfold State.ackIdle; dsimp only; split <;> simp (maxDischargeDepth := 40) (contextual := true) [*]

@[simp] theorem State.slipTake_ok {s : State} {d : SjSide} {type : Nat} {session : Bool} {f : SjRx} (h : State.Ok Q ps s) :
    State.Ok Q ps (State.slipTake s d type session f).1 := by
  unfold State.slipTake; dsimp only; (repeat' split) <;> simp (maxDischargeDepth := 40) (contextual := true) [*]

@[simp] theorem State.slipTakeLive_ok {s : State} {d : SjSide} {type : Nat} {f : SjRx} (h : State.Ok Q ps s) :
    State.Ok Q ps (State.slipTakeLive s d type f).1 := by
  unfold State.slipTakeLive; simp (maxDischargeDepth := 40) (contextual := true) [*]

@[simp] theorem State.sendBlock_ok {s : State} {btype state : Nat} {x4 : LArea} {first count : Nat} {payload : Bytes} (h : State.Ok Q ps s) :
    State.Ok Q ps (State.sendBlock s btype state x4 first count payload) := by
  unfold State.sendBlock; simp (maxDischargeDepth := 40) (contextual := true) [*]

@[simp] theorem State.sendExtract_ok {s : State} {x2 : LArea} {i n : Nat} (h : State.Ok Q ps s) :
    State.Ok Q ps (State.sendExtract s x2 i n) := by
  unfold State.sendExtract; simp (maxDischargeDepth := 40) (contextual := true) [*]

@[simp] theorem State.sendExtracts_ok {fuel : Nat} {x2 : State} {x3 : LArea} {i n : Nat} (h : State.Ok Q ps x2) :
    State.Ok Q ps (State.sendExtracts fuel x2 x3 i n) := by
  induction fuel generalizing x2 i n with
  | zero => exact h
  | succ f ih =>
    unfold State.sendExtracts
    split
    · exact h
    · exact ih (State.sendExtract_ok h)

@[simp] theorem State.catchUp_ok {s : State} (h : State.Ok Q ps s) :
    State.Ok Q ps (State.catchUp s) := by
  unfold State.catchUp; simp (maxDischargeDepth := 40) (contextual := true) [*]

@[simp] theorem State.metEvent_ok {s : State} {code ch : Nat} {detail : Bytes} (h : State.Ok Q ps s) :
    State.Ok Q ps (State.metEvent s code ch detail) := by
  unfold State.metEvent; dsimp only; (repeat' split) <;> simp (maxDischargeDepth := 40) (contextual := true) [*]

@[simp] theorem State.slipHello_ok {s : State} (h : State.Ok Q ps s) :
    State.Ok Q ps (State.slipHello s) := by
  unfold State.slipHello; simp (maxDischargeDepth := 40) (contextual := true) [*]

@[simp] theorem State.sendHacks_ok {s : State} (h : State.Ok Q ps s) :
    State.Ok Q ps (State.sendHacks s) := by
  unfold State.sendHacks; simp (maxDischargeDepth := 40) (contextual := true) [*]

@[simp] theorem State.sendTime_ok {s : State} (h : State.Ok Q ps s) :
    State.Ok Q ps (State.sendTime s) := by
  unfold State.sendTime; simp (maxDischargeDepth := 40) (contextual := true) [*]

@[simp] theorem State.slipLost_ok {s : State} (h : State.Ok Q ps s) :
    State.Ok Q ps (State.slipLost s) := by
  unfold State.slipLost; simp (maxDischargeDepth := 40) (contextual := true) [*]

@[simp] theorem State.sendPress_ok {s : State} (h : State.Ok Q ps s) :
    State.Ok Q ps (State.sendPress s) := by
  unfold State.sendPress; simp (maxDischargeDepth := 40) (contextual := true) [*]

@[simp] theorem State.adoptLrps_ok {s : State} (h : State.Ok Q ps s) :
    State.Ok Q ps (State.adoptLrps s) := by
  unfold State.adoptLrps; (repeat' split) <;> simp (maxDischargeDepth := 40) (contextual := true) [*]

@[simp] theorem State.windowClose_ok {s : State} {sums : List Sums} (h : State.Ok Q ps s) :
    State.Ok Q ps (State.windowClose s sums) := by
  unfold State.windowClose; simp (maxDischargeDepth := 40) (contextual := true) [*]

@[simp] theorem State.closeInterval_ok {s : State} (h : State.Ok Q ps s) :
    State.Ok Q ps (State.closeInterval s) := by
  unfold State.closeInterval; simp (maxDischargeDepth := 40) (contextual := true) [*]

@[simp] theorem State.closeDay_ok {s : State} (h : State.Ok Q ps s) :
    State.Ok Q ps (State.closeDay s) := by
  unfold State.closeDay; dsimp only; (repeat' split) <;> simp (maxDischargeDepth := 40) (contextual := true) [*]

@[simp] theorem State.metTime_ok {s : State} {secs frac : Nat} (h : State.Ok Q ps s) :
    State.Ok Q ps (State.metTime s secs frac) := by
  unfold State.metTime; simp (maxDischargeDepth := 40) (contextual := true) [*]

@[simp] theorem State.loadResultFrame_ok {s : State} {kind result : Nat} (h : State.Ok Q ps s) :
    State.Ok Q ps (State.loadResultFrame s kind result) := by
  unfold State.loadResultFrame; simp (maxDischargeDepth := 40) (contextual := true) [*]

@[simp] theorem State.loadRefuse_ok {s : State} {kind reason : Nat} (h : State.Ok Q ps s) :
    State.Ok Q ps (State.loadRefuse s kind reason) := by
  unfold State.loadRefuse; simp (maxDischargeDepth := 40) (contextual := true) [*]

@[simp] theorem State.raiseFloor_ok {s : State} {v : Nat} (h : State.Ok Q ps s) :
    State.Ok Q ps (State.raiseFloor s v) := by
  unfold State.raiseFloor; (repeat' split) <;> simp (maxDischargeDepth := 40) (contextual := true) [*]

@[simp] theorem State.activate_ok {s : State} {b : Bytes} (h : State.Ok Q ps s) :
    State.Ok Q ps (State.activate s b) := by
  unfold State.activate; simp (maxDischargeDepth := 40) (contextual := true) [*]

@[simp] theorem State.finishLoad_ok {s : State} {kind : Nat} {b : Bytes} (h : State.Ok Q ps s) :
    State.Ok Q ps (State.finishLoad s kind b) := by
  unfold State.finishLoad; (repeat' split) <;> simp (maxDischargeDepth := 40) (contextual := true) [*]

@[simp] theorem State.takeLoad_ok {s : State} {p : Bytes} (h : State.Ok Q ps s) :
    State.Ok Q ps (State.takeLoad s p) := by
  unfold State.takeLoad; dsimp only; (repeat' split) <;> simp (maxDischargeDepth := 40) (contextual := true) [*]

@[simp] theorem State.openSeal_ok {s : State} {atStart : Bool} (h : State.Ok Q ps s) :
    State.Ok Q ps (State.openSeal s atStart) := by
  unfold State.openSeal; simp (maxDischargeDepth := 40) (contextual := true) [*]

@[simp] theorem State.closeSeal_ok {s : State} (h : State.Ok Q ps s) :
    State.Ok Q ps (State.closeSeal s) := by
  unfold State.closeSeal; dsimp only; (repeat' split) <;> simp (maxDischargeDepth := 40) (contextual := true) [*]

@[simp] theorem State.readArea_ok {s : State} {a : LArea} (h : State.Ok Q ps s) :
    State.Ok Q ps (State.readArea s a) := h

@[simp] theorem State.enterReadout_ok {s : State} (h : State.Ok Q ps s) :
    State.Ok Q ps (State.enterReadout s) := by
  unfold State.enterReadout; simp (maxDischargeDepth := 40) (contextual := true) [*]

@[simp] theorem State.metGrade_ok {s : State} {g : Grade} {cause index : Nat} (h : State.Ok Q ps s) :
    State.Ok Q ps (State.metGrade s g cause index) := by
  unfold State.metGrade; simp (maxDischargeDepth := 40) (contextual := true) [*]

@[simp] theorem State.peerGraded_ok {s : State} {g : Grade} {cause index : Nat} (h : State.Ok Q ps s) :
    State.Ok Q ps (State.peerGraded s g cause index) := by
  unfold State.peerGraded; simp (maxDischargeDepth := 40) (contextual := true) [*]

@[simp] theorem State.metShatter_ok {s : State} {cause index : Nat} (h : State.Ok Q ps s) :
    State.Ok Q ps (State.metShatter s cause index) := by
  unfold State.metShatter; simp (maxDischargeDepth := 40) (contextual := true) [*]

@[simp] theorem State.metCraze_ok {s : State} {cause index : Nat} (h : State.Ok Q ps s) :
    State.Ok Q ps (State.metCraze s cause index) := by
  unfold State.metCraze; simp (maxDischargeDepth := 40) (contextual := true) [*]

@[simp] theorem State.metTrip_ok {s : State} {cause index : Nat} {excused : Bool} (h : State.Ok Q ps s) :
    State.Ok Q ps (State.metTrip s cause index excused) := by
  unfold State.metTrip; simp (maxDischargeDepth := 40) (contextual := true) [*]

@[simp] theorem State.metMarginals_ok {s : State} (h : State.Ok Q ps s) :
    State.Ok Q ps (State.metMarginals s) := by
  unfold State.metMarginals; simp (maxDischargeDepth := 40) (contextual := true) [*]

@[simp] theorem State.metStart_ok {s : State} {sealHigh : Bool} {bad : List Nat} {xomOk : Bool} (h : State.Ok Q ps s) :
    State.Ok Q ps (State.metStart s sealHigh bad xomOk) := by
  have he : ∀ (t : State) (a c : Nat) (x : Bytes), t.Ok Q ps → (t.metEvent a c x).Ok Q ps := fun t a c x ht => by simp (maxDischargeDepth := 40) (contextual := true) [*]
  unfold State.metStart
  extract_lets had lost from_ hold b m1 m2 m3 s1 s2 s3 s4 s5 s6
  have h1 : s1.Ok Q ps := by
    refine State.metMarginals_ok ?_
    exact h
  have h2 : s2.Ok Q ps := by
    show State.Ok Q ps (if lost then s1.metEvent 0x08 0xFF (beBytes 4 from_ ++ beBytes 4 s.met.lossAt)
      else if had then s1.metEvent 0x06 0xFF (beBytes 4 s.met.lossAt) else s1)
    split
    · exact he _ _ _ _ h1
    · split
      · exact he _ _ _ _ h1
      · exact h1
  have h3 : s3.Ok Q ps := he _ _ _ _ h2
  have h4 : s4.Ok Q ps := by
    show State.Ok Q ps (if m3.spareFault then s3.metEvent 0x0D 0xFF [] else s3)
    split
    · exact he _ _ _ _ h3
    · exact h3
  have h5' : ∀ q : Option Nat, State.Ok Q ps (match q with | some r => s4.metEvent 0x10 0xFF (beBytes 1 r) | none => s4) := by
    intro q
    cases q
    · exact h4
    · exact he _ _ _ _ h4
  have h5 : s5.Ok Q ps := h5' hold
  have h6 : s6.Ok Q ps := by
    show State.Ok Q ps (if sealHigh && !s5.met.sealOpen then s5.openSeal true else if !sealHigh && s5.met.sealOpen then s5.closeSeal else s5)
    repeat' split
    all_goals simp (maxDischargeDepth := 40) (contextual := true) [*]
  simp (maxDischargeDepth := 40) (contextual := true) [*]

@[simp] theorem execVmetValid_ok {sealHigh : Bool} {badChains : List Nat} {xomOk : Bool} {s : State} (h : State.Ok Q ps s) :
    OutOk Q ps (execVmetValid sealHigh badChains xomOk s) := by
  unfold execVmetValid; simp (maxDischargeDepth := 40) (contextual := true) [*]

@[simp] theorem execVmetInvalid_ok {commitOk : Bool} {s : State} (h : State.Ok Q ps s) :
    OutOk Q ps (execVmetInvalid commitOk s) := by
  unfold execVmetInvalid; simp (maxDischargeDepth := 40) (contextual := true) [*]

@[simp] theorem execOcnoixSensorTrip_ok {cause index : Nat} {nearSurge : Bool} {s : State} (h : State.Ok Q ps s) :
    OutOk Q ps (execOcnoixSensorTrip cause index nearSurge s) := by
  unfold execOcnoixSensorTrip; simp (maxDischargeDepth := 40) (contextual := true) [*]

@[simp] theorem execSealOpenChange_ok {isOpen : Bool} {s : State} (h : State.Ok Q ps s) :
    OutOk Q ps (execSealOpenChange isOpen s) := by
  unfold execSealOpenChange; simp (maxDischargeDepth := 40) (contextual := true) [*]

@[simp] theorem execWindowClose_ok {sums : List Sums} {s : State} (h : State.Ok Q ps s) :
    OutOk Q ps (execWindowClose sums s) := by
  unfold execWindowClose; simp (maxDischargeDepth := 40) (contextual := true) [*]

@[simp] theorem execIntervalClose_ok {s : State} (h : State.Ok Q ps s) :
    OutOk Q ps (execIntervalClose s) := by
  unfold execIntervalClose; simp (maxDischargeDepth := 40) (contextual := true) [*]

@[simp] theorem execDailyClose_ok {s : State} (h : State.Ok Q ps s) :
    OutOk Q ps (execDailyClose s) := by
  unfold execDailyClose; simp (maxDischargeDepth := 40) (contextual := true) [*]

@[simp] theorem execInputHealthChange_ok {voltage : Bool} {c : Fin 16} {h : Health} {s : State} (h0 : State.Ok Q ps s) :
    OutOk Q ps (execInputHealthChange voltage c h s) := by
  unfold execInputHealthChange; simp (maxDischargeDepth := 40) (contextual := true) [*]

@[simp] theorem execSurgeAssert_ok {c : Fin 16} {s : State} (h : State.Ok Q ps s) :
    OutOk Q ps (execSurgeAssert c s) := by
  unfold execSurgeAssert; simp (maxDischargeDepth := 40) (contextual := true) [*]

@[simp] theorem execSurgeRelease_ok {s : State} (h : State.Ok Q ps s) :
    OutOk Q ps (execSurgeRelease s) := by
  unfold execSurgeRelease; simp (maxDischargeDepth := 40) (contextual := true) [*]

@[simp] theorem State.slotMismatch_ok {s : State} {c sample : Nat} (h : State.Ok Q ps s) :
    State.Ok Q ps (State.slotMismatch s c sample) := by
  unfold State.slotMismatch; (repeat' split) <;> simp (maxDischargeDepth := 40) (contextual := true) [*]

@[simp] theorem execSpareSlot_ok {mismatch : Option Nat} {s : State} (h : State.Ok Q ps s) :
    OutOk Q ps (execSpareSlot mismatch s) := by
  unfold execSpareSlot; (repeat' split) <;> simp (maxDischargeDepth := 40) (contextual := true) [*]

@[simp] theorem execMpulsePulse_ok {due : Nat} {s : State} (h : State.Ok Q ps s) :
    OutOk Q ps (execMpulsePulse due s) := by
  unfold execMpulsePulse; (repeat' split) <;> simp (maxDischargeDepth := 40) (contextual := true) [*]

@[simp] theorem execMpulseTimeout_ok {s : State} (h : State.Ok Q ps s) :
    OutOk Q ps (execMpulseTimeout s) := by
  unfold execMpulseTimeout; simp (maxDischargeDepth := 40) (contextual := true) [*]

@[simp] theorem execPress_ok {f : SjRx} {s : State} (h : State.Ok Q ps s) :
    OutOk Q ps (execPress f s) := by
  unfold execPress; simp (maxDischargeDepth := 40) (contextual := true) [*]

@[simp] theorem execXomLost_ok {s : State} (h : State.Ok Q ps s) :
    OutOk Q ps (execXomLost s) := by
  unfold execXomLost; simp (maxDischargeDepth := 40) (contextual := true) [*]

@[simp] theorem execXomRetaken_ok {s : State} (h : State.Ok Q ps s) :
    OutOk Q ps (execXomRetaken s) := by
  unfold execXomRetaken; simp (maxDischargeDepth := 40) (contextual := true) [*]

end Sys2Proof.Machine
end

