-- ==== Sys2Proof/Laws/KeepLinks.lean ====
section
/-! SUPPORT. Every operation and every meaning keeps the queue and the invariant (part 3 of 5): one lemma for each, in the order of the
model. -/

namespace Sys2Proof.Machine

open Sys2Proof

variable {Q : Prop} {ps : List Instr}

@[simp] theorem State.answerHello_ok {s : State} {nm : Bytes} (h : State.Ok Q ps s) :
    State.Ok Q ps (State.answerHello s nm) := by
  unfold State.answerHello; simp (maxDischargeDepth := 40) (contextual := true) [*]

@[simp] theorem execHelloM_ok {f : SjRx} {s : State} (h : State.Ok Q ps s) :
    OutOk Q ps (execHelloM f s) := by
  unfold execHelloM; simp (maxDischargeDepth := 40) (contextual := true) [*]

@[simp] theorem execHelloO_ok {f : SjRx} {s : State} (h : State.Ok Q ps s) :
    OutOk Q ps (execHelloO f s) := by
  unfold execHelloO; dsimp only; (repeat' split) <;> simp (maxDischargeDepth := 40) (contextual := true) [*]

@[simp] theorem execConfirm_ok {side : SjSide} {f : SjRx} {s : State} (h : State.Ok Q ps s) :
    OutOk Q ps (execConfirm side f s) := by
  unfold execConfirm; dsimp only; (repeat' split) <;> simp (maxDischargeDepth := 40) (contextual := true) [*]

@[simp] theorem execTime_ok {f : SjRx} {s : State} (h : State.Ok Q ps s) :
    OutOk Q ps (execTime f s) := by
  unfold execTime; simp (maxDischargeDepth := 40) (contextual := true) [*]

@[simp] theorem execBlock_ok {f : SjRx} {s : State} (h : State.Ok Q ps s) :
    OutOk Q ps (execBlock f s) := by
  unfold execBlock; simp (maxDischargeDepth := 40) (contextual := true) [*]

@[simp] theorem execHack_ok {f : SjRx} {s : State} (h : State.Ok Q ps s) :
    OutOk Q ps (execHack f s) := by
  unfold execHack; simp (maxDischargeDepth := 40) (contextual := true) [*]

@[simp] theorem execExtractReq_ok {f : SjRx} {s : State} (h : State.Ok Q ps s) :
    OutOk Q ps (execExtractReq f s) := by
  unfold execExtractReq; dsimp only; (repeat' split) <;> simp (maxDischargeDepth := 40) (contextual := true) [*]

@[simp] theorem execLoad_ok {f : SjRx} {s : State} (h : State.Ok Q ps s) :
    OutOk Q ps (execLoad f s) := by
  unfold execLoad; simp (maxDischargeDepth := 40) (contextual := true) [*]

@[simp] theorem execIdle_ok {side : SjSide} {f : SjRx} {s : State} (h : State.Ok Q ps s) :
    OutOk Q ps (execIdle side f s) := by
  unfold execIdle; simp (maxDischargeDepth := 40) (contextual := true) [*]

@[simp] theorem execSlipJointResend_ok {side : SjSide} {s : State} (h : State.Ok Q ps s) :
    OutOk Q ps (execSlipJointResend side s) := by
  unfold execSlipJointResend; simp (maxDischargeDepth := 40) (contextual := true) [*]

@[simp] theorem execSlipJointDown_ok {s : State} (h : State.Ok Q ps s) :
    OutOk Q ps (execSlipJointDown s) := by
  unfold execSlipJointDown; simp (maxDischargeDepth := 40) (contextual := true) [*]

@[simp] theorem execMetfaultChange_ok {asserted : Bool} {s : State} (h : State.Ok Q ps s) :
    OutOk Q ps (execMetfaultChange asserted s) := by
  unfold execMetfaultChange; simp (maxDischargeDepth := 40) (contextual := true) [*]

@[simp] theorem execSealstateChange_ok {isSealed : Bool} {s : State} (h : State.Ok Q ps s) :
    OutOk Q ps (execSealstateChange isSealed s) := by
  unfold execSealstateChange; simp (maxDischargeDepth := 40) (contextual := true) [*]

@[simp] theorem execOcnoixCrazedQuietExpiry_ok {s : State} (h : State.Ok Q ps s) :
    OutOk Q ps (execOcnoixCrazedQuietExpiry s) := by
  unfold execOcnoixCrazedQuietExpiry; simp (maxDischargeDepth := 40) (contextual := true) [*]

@[simp] theorem execOcnoixSelfcheckDone_ok {pass : Bool} {s : State} (h : State.Ok Q ps s) :
    OutOk Q ps (execOcnoixSelfcheckDone pass s) := by
  unfold execOcnoixSelfcheckDone; simp (maxDischargeDepth := 40) (contextual := true) [*]

@[simp] theorem State.linkCount_ok {s : State} {c : Fin 16} {k : LStat} (h : State.Ok Q ps s) :
    State.Ok Q ps (State.linkCount s c k) := h

@[simp] theorem State.appStore_ok {s : State} {k : Fin 2} {x3 : Nat} {b : Bytes} (h : State.Ok Q ps s) :
    State.Ok Q ps (State.appStore s k x3 b) := by
  unfold State.appStore
  split
  · rw [ok_mk]
    exact okF_ldm h (fun hb => ldm_set_wf h hb _ _ _)
  · exact State.sramWrite_ok h

@[simp] theorem State.linkReturnOne_ok {s : State} {d : Fin 16} {k : Fin 2} {c : Fin 16} {code : Nat} {reply : Bytes} (h : State.Ok Q ps s) :
    State.Ok Q ps (State.linkReturnOne s d k c code reply) := by
  unfold State.linkReturnOne; (repeat' split) <;> simp (maxDischargeDepth := 40) (contextual := true) [*]

@[simp] theorem State.linkReturn_ok {s : State} {c : Fin 16} {code : Code} {reply : Bytes} (h : State.Ok Q ps s) :
    State.Ok Q ps (State.linkReturn s c code reply) := by
  unfold State.linkReturn; (repeat' split) <;> simp (maxDischargeDepth := 40) (contextual := true) [*]

@[simp] theorem State.noteApp_ok {s : State} {c : Fin 16} {bit : Nat} (h : State.Ok Q ps s) :
    State.Ok Q ps (State.noteApp s c bit) := by
  unfold State.noteApp; (repeat' split) <;> simp (maxDischargeDepth := 40) (contextual := true) [*]

@[simp] theorem State.sendTxn_ok {s : State} {c : Fin 16} (h : State.Ok Q ps s) :
    State.Ok Q ps (State.sendTxn s c) := by
  unfold State.sendTxn; dsimp only; (repeat' split) <;> simp (maxDischargeDepth := 40) (contextual := true) [*]

@[simp] theorem State.openTxn_ok {s : State} {c : Fin 16} {type : Nat} {p : Bytes} {applet : Bool} (h : State.Ok Q ps s) :
    State.Ok Q ps (State.openTxn s c type p applet) := by
  unfold State.openTxn; dsimp only; (repeat' split) <;> simp (maxDischargeDepth := 40) (contextual := true) [*]

@[simp] theorem State.pumpLink_ok {s : State} {c : Fin 16} (h : State.Ok Q ps s) :
    State.Ok Q ps (State.pumpLink s c) := by
  unfold State.pumpLink; dsimp only; (repeat' split) <;> simp (maxDischargeDepth := 40) (contextual := true) [*]

@[simp] theorem State.ask_ok {s : State} {c : Fin 16} {type : Nat} {p : Bytes} {applet : Bool} (h : State.Ok Q ps s) :
    State.Ok Q ps (State.ask s c type p applet) := by
  unfold State.ask; simp (maxDischargeDepth := 40) (contextual := true) [*]

@[simp] theorem State.lostSession_ok {s : State} {c : Fin 16} {hostile : Bool} (h : State.Ok Q ps s) :
    State.Ok Q ps (State.lostSession s c hostile) := by
  unfold State.lostSession
  refine State.chOp_ok (fun x hx => ?_) h c
  repeat' split
  all_goals simp (maxDischargeDepth := 40) (contextual := true) [*]

@[simp] theorem State.closeSess_ok {s : State} {c : Fin 16} {reason : Nat} (h : State.Ok Q ps s) :
    State.Ok Q ps (State.closeSess s c reason) := by
  unfold State.closeSess; dsimp only; (repeat' split) <;> simp (maxDischargeDepth := 40) (contextual := true) [*]

@[simp] theorem State.endLink_ok {s : State} {c : Fin 16} {reason : Nat} (h : State.Ok Q ps s) :
    State.Ok Q ps (State.endLink s c reason) := by
  unfold State.endLink; simp (maxDischargeDepth := 40) (contextual := true) [*]

@[simp] theorem State.dropAttempt_ok {s : State} {c : Fin 16} (h : State.Ok Q ps s) :
    State.Ok Q ps (State.dropAttempt s c) := h

@[simp] theorem State.partnerRecord_ok {s : State} {c : Fin 16} {prev : PState} {cause : Nat} (h : State.Ok Q ps s) :
    State.Ok Q ps (State.partnerRecord s c prev cause) := by
  unfold State.partnerRecord; simp (maxDischargeDepth := 40) (contextual := true) [*]

@[simp] theorem State.toPartner_ok {s : State} {c : Fin 16} {st : PState} {cause : Nat} (h : State.Ok Q ps s) :
    State.Ok Q ps (State.toPartner s c st cause) := by
  unfold State.toPartner; (repeat' split) <;> simp (maxDischargeDepth := 40) (contextual := true) [*]

@[simp] theorem State.partnerRestart_ok {s : State} {c : Fin 16} (h : State.Ok Q ps s) :
    State.Ok Q ps (State.partnerRestart s c) := by
  unfold State.partnerRestart; simp (maxDischargeDepth := 40) (contextual := true) [*]

@[simp] theorem State.linkFault_ok {s : State} {c : Fin 16} {k : Option LStat} (h : State.Ok Q ps s) :
    State.Ok Q ps (State.linkFault s c k) := by
  unfold State.linkFault; (repeat' split) <;> simp (maxDischargeDepth := 40) (contextual := true) [*]

@[simp] theorem State.linkLate_ok {s : State} {c : Fin 16} (h : State.Ok Q ps s) :
    State.Ok Q ps (State.linkLate s c) := by
  unfold State.linkLate; simp (maxDischargeDepth := 40) (contextual := true) [*]

@[simp] theorem State.hsFail_ok {s : State} {c : Fin 16} (h : State.Ok Q ps s) :
    State.Ok Q ps (State.hsFail s c) := by
  unfold State.hsFail; (repeat' split) <;> simp (maxDischargeDepth := 40) (contextual := true) [*]

@[simp] theorem State.startHandshake_ok {s : State} {c : Fin 16} (h : State.Ok Q ps s) :
    State.Ok Q ps (State.startHandshake s c) := by
  unfold State.startHandshake; simp (maxDischargeDepth := 40) (contextual := true) [*]

@[simp] theorem State.takeCrp_ok {s : State} {c : Fin 16} {h : Hs} {p : Bytes} {sigOk : Bool} (h0 : State.Ok Q ps s) :
    State.Ok Q ps (State.takeCrp s c h p sigOk) := by
  unfold State.takeCrp; dsimp only; (repeat' split) <;> simp (maxDischargeDepth := 40) (contextual := true) [*]

@[simp] theorem State.takeKrp_ok {s : State} {c : Fin 16} {h : Hs} {p : Bytes} {sigOk : Bool} (h0 : State.Ok Q ps s) :
    State.Ok Q ps (State.takeKrp s c h p sigOk) := by
  unfold State.takeKrp; simp (maxDischargeDepth := 40) (contextual := true) [*]

@[simp] theorem State.linkHeartbeat_ok {s : State} {c : Fin 16} (h : State.Ok Q ps s) :
    State.Ok Q ps (State.linkHeartbeat s c) := by
  unfold State.linkHeartbeat; simp (maxDischargeDepth := 40) (contextual := true) [*]

@[simp] theorem State.goLive_ok {s : State} {c : Fin 16} {x3 : Sess} (h : State.Ok Q ps s) :
    State.Ok Q ps (State.goLive s c x3) := by
  unfold State.goLive; simp (maxDischargeDepth := 40) (contextual := true) [*]

@[simp] theorem State.takeProbe_ok {s : State} {c : Fin 16} {p : Bytes} {sigOk : Bool} (h : State.Ok Q ps s) :
    State.Ok Q ps (State.takeProbe s c p sigOk) := by
  unfold State.takeProbe; (repeat' split) <;> simp (maxDischargeDepth := 40) (contextual := true) [*]

@[simp] theorem State.doneTxn_ok {s : State} {c : Fin 16} (h : State.Ok Q ps s) :
    State.Ok Q ps (State.doneTxn s c) := h

@[simp] theorem State.acceptFrame_ok {s : State} {c : Fin 16} {t : Nat} {p : Bytes} {x5 : Option Txn} {sigOk : Bool} (h : State.Ok Q ps s) :
    State.Ok Q ps (State.acceptFrame s c t p x5 sigOk) := by
  unfold State.acceptFrame; dsimp only; (repeat' split) <;> simp (maxDischargeDepth := 40) (contextual := true) [*]

@[simp] theorem State.linkCheckProt_ok {s : State} {c : Fin 16} {y : Sess} {b : Bytes} {accept : State → Bytes → State} (h : State.Ok Q ps s) (h2 : ∀ (a : State) (a_1 : Bytes), State.Ok Q ps a → State.Ok Q ps (accept a a_1)) :
    State.Ok Q ps (State.linkCheckProt s c y b accept) := by
  unfold State.linkCheckProt; dsimp only; (repeat' split) <;> simp (maxDischargeDepth := 40) (contextual := true) [*]

@[simp] theorem State.linkCheck_ok {s : State} {c : Fin 16} {b : Bytes} {accept : State → Bytes → State} (h : State.Ok Q ps s) (h2 : ∀ (a : State) (a_1 : Bytes), State.Ok Q ps a → State.Ok Q ps (accept a a_1)) :
    State.Ok Q ps (State.linkCheck s c b accept) := by
  unfold State.linkCheck; dsimp only; (repeat' split) <;> simp (maxDischargeDepth := 40) (contextual := true) [*]

@[simp] theorem State.linkTake_ok {s : State} {c : Fin 16} {b : Burst} {sigOk : Bool} (h : State.Ok Q ps s) :
    State.Ok Q ps (State.linkTake s c b sigOk) := by
  unfold State.linkTake; simp (maxDischargeDepth := 40) (contextual := true) [*]

@[simp] theorem State.wakeFilter_ok {s : State} {c : Fin 16} {b : Burst} {sigOk : Bool} (h : State.Ok Q ps s) :
    State.Ok Q ps (State.wakeFilter s c b sigOk) := by
  unfold State.wakeFilter; dsimp only; (repeat' split) <;> simp (maxDischargeDepth := 40) (contextual := true) [*]

@[simp] theorem State.receive_ok {s : State} {c : Fin 16} {b : Burst} {sigOk : Bool} (h : State.Ok Q ps s) :
    State.Ok Q ps (State.receive s c b sigOk) := by
  unfold State.receive; (repeat' split) <;> simp (maxDischargeDepth := 40) (contextual := true) [*]

@[simp] theorem State.startFp_ok {s : State} {c : Fin 16} {o : FpOccasion} (h : State.Ok Q ps s) :
    State.Ok Q ps (State.startFp s c o) := by
  unfold State.startFp; simp (maxDischargeDepth := 40) (contextual := true) [*]

@[simp] theorem State.linkRecontract_ok {s : State} {c : Fin 16} (h : State.Ok Q ps s) :
    State.Ok Q ps (State.linkRecontract s c) := by
  unfold State.linkRecontract; simp (maxDischargeDepth := 40) (contextual := true) [*]

@[simp] theorem State.linkRetire_ok {s : State} {c : Fin 16} (h : State.Ok Q ps s) :
    State.Ok Q ps (State.linkRetire s c) := by
  unfold State.linkRetire; simp (maxDischargeDepth := 40) (contextual := true) [*]

@[simp] theorem State.ignoreContract_ok {s : State} {c : Fin 16} (h : State.Ok Q ps s) :
    State.Ok Q ps (State.ignoreContract s c) := by
  unfold State.ignoreContract; (repeat' split) <;> simp (maxDischargeDepth := 40) (contextual := true) [*]

@[simp] theorem State.settleContracts_ok {s : State} (h : State.Ok Q ps s) :
    State.Ok Q ps (State.settleContracts s) := by
  unfold State.settleContracts
  refine State.eachCh_ok (fun c t ht => ?_) h
  dsimp only
  split
  · split <;> simp (maxDischargeDepth := 40) (contextual := true) [*]
  · simp (maxDischargeDepth := 40) (contextual := true) [*]

@[simp] theorem State.recontract_ok {s : State} {c : Fin 16} (h : State.Ok Q ps s) :
    State.Ok Q ps (State.recontract s c) := by
  unfold State.recontract
  refine State.chOp_ok (fun x hx => ?_) (State.linkRecontract_ok h) c
  split
  · exact hx
  · have h1 : ∀ (y : Chan) (w : Bool) (t : Nat), y.Ok →
        Chan.Ok (if w = true then ({ y with keep := .idle } : Chan).keepWrite .hold t else y.guardWrite false t) := by
      intro y w t hy
      split
      · exact Chan.keepWrite_ok (c := { y with keep := .idle }) (chanF_idle hy) _ _
      · exact Chan.guardWrite_ok hy _ _
    exact h1 _ _ _ (Chan.enter_ok hx _ _ _)

@[simp] theorem State.burnHash_ok {s : State} {w : Nat} {h : Bytes} (h0 : State.Ok Q ps s) :
    State.Ok Q ps (State.burnHash s w h) := by
  unfold State.burnHash; simp (maxDischargeDepth := 40) (contextual := true) [*]

@[simp] theorem State.rotateRoot_ok {s : State} (h : State.Ok Q ps s) :
    State.Ok Q ps (State.rotateRoot s) := by
  unfold State.rotateRoot; (repeat' split) <;> simp (maxDischargeDepth := 40) (contextual := true) [*]

@[simp] theorem State.burnStaged_ok {s : State} (h : State.Ok Q ps s) :
    State.Ok Q ps (State.burnStaged s) := by
  unfold State.burnStaged; (repeat' split) <;> simp (maxDischargeDepth := 40) (contextual := true) [*]

@[simp] theorem State.commissionKeys_ok {s : State} {blobs : List Bytes} (h : State.Ok Q ps s) :
    State.Ok Q ps (State.commissionKeys s blobs) := by
  unfold State.commissionKeys
  refine foldl_ok (fun t x ht => ?_) ?_ _
  · dsimp only
    split <;> simp (maxDischargeDepth := 40) (contextual := true) [*]
  · simp (maxDischargeDepth := 40) (contextual := true) [*]

@[simp] theorem State.applyContent_ok {s : State} {g : Staged} {live : Bool} (h : State.Ok Q ps s) :
    State.Ok Q ps (State.applyContent s g live) := by
  unfold State.applyContent; simp (maxDischargeDepth := 40) (contextual := true) [*]

@[simp] theorem State.applyStaged_ok {s : State} {live : Bool} (h : State.Ok Q ps s) :
    State.Ok Q ps (State.applyStaged s live) := by
  unfold State.applyStaged; (repeat' split) <;> simp (maxDischargeDepth := 40) (contextual := true) [*]

@[simp] theorem State.pursueStaged_ok {s : State} (h : State.Ok Q ps s) :
    State.Ok Q ps (State.pursueStaged s) := by
  unfold State.pursueStaged; simp (maxDischargeDepth := 40) (contextual := true) [*]

@[simp] theorem State.startStaged_ok {s : State} (h : State.Ok Q ps s) :
    State.Ok Q ps (State.startStaged s) := by
  unfold State.startStaged; (repeat' split) <;> simp (maxDischargeDepth := 40) (contextual := true) [*]

@[simp] theorem State.completeBurn_ok {s : State} (h : State.Ok Q ps s) :
    State.Ok Q ps (State.completeBurn s) := by
  unfold State.completeBurn; simp (maxDischargeDepth := 40) (contextual := true) [*]

@[simp] theorem State.pendingBurns_ok {s : State} (h : State.Ok Q ps s) :
    State.Ok Q ps (State.pendingBurns s) := by
  unfold State.pendingBurns; simp (maxDischargeDepth := 40) (contextual := true) [*]

@[simp] theorem State.handBeacon_ok {s : State} {key time frac rx : Nat} (h : State.Ok Q ps s) :
    State.Ok Q ps (State.handBeacon s key time frac rx) := by
  unfold State.handBeacon; dsimp only; (repeat' split) <;> simp (maxDischargeDepth := 40) (contextual := true) [*]

@[simp] theorem State.discipline_ok {s : State} (h : State.Ok Q ps s) :
    State.Ok Q ps (State.discipline s) := by
  unfold State.discipline; (repeat' split) <;> simp (maxDischargeDepth := 40) (contextual := true) [*]

@[simp] theorem State.undiscipline_ok {s : State} (h : State.Ok Q ps s) :
    State.Ok Q ps (State.undiscipline s) := by
  unfold State.undiscipline; (repeat' split) <;> simp (maxDischargeDepth := 40) (contextual := true) [*]

@[simp] theorem State.recordRetired_ok {s : State} {c : Fin 16} (h : State.Ok Q ps s) :
    State.Ok Q ps (State.recordRetired s c) := h

@[simp] theorem State.recordReturned_ok {s : State} {c : Fin 16} {at_ : Nat} (h : State.Ok Q ps s) :
    State.Ok Q ps (State.recordReturned s c at_) := h

@[simp] theorem State.retireCh_ok {s : State} {c : Fin 16} {pads : Bool} (h : State.Ok Q ps s) :
    State.Ok Q ps (State.retireCh s c pads) := by
  unfold State.retireCh; simp (maxDischargeDepth := 40) (contextual := true) [*]

@[simp] theorem State.returnCh_ok {s : State} {c : Fin 16} {at_ : Nat} (h : State.Ok Q ps s) :
    State.Ok Q ps (State.returnCh s c at_) := by
  unfold State.returnCh; simp (maxDischargeDepth := 40) (contextual := true) [*]

@[simp] theorem State.channelResult_ok {s : State} {k : Nat} {c : Fin 16} {pass : Bool} {at_ : Nat} (h : State.Ok Q ps s) :
    State.Ok Q ps (State.channelResult s k c pass at_) := by
  unfold State.channelResult; dsimp only; (repeat' split) <;> simp (maxDischargeDepth := 40) (contextual := true) [*]

@[simp] theorem State.beginRun_ok {s : State} {t : StTrigger} {mask : List Nat} {window : Nat} (h : State.Ok Q ps s) :
    State.Ok Q ps (State.beginRun s t mask window) := by
  unfold State.beginRun; simp (maxDischargeDepth := 40) (contextual := true) [*]

@[simp] theorem State.triggerRun_ok {s : State} {t : StTrigger} {mask : List Nat} {window : Nat} (h : State.Ok Q ps s) :
    State.Ok Q ps (State.triggerRun s t mask window) := by
  unfold State.triggerRun; simp (maxDischargeDepth := 40) (contextual := true) [*]

@[simp] theorem State.startKept_ok {s : State} (h : State.Ok Q ps s) :
    State.Ok Q ps (State.startKept s) := by
  unfold State.startKept; (repeat' split) <;> simp (maxDischargeDepth := 40) (contextual := true) [*]

@[simp] theorem State.selfLog_ok {s : State} (h : State.Ok Q ps s) :
    State.Ok Q ps (State.selfLog s) := by
  unfold State.selfLog; simp (maxDischargeDepth := 40) (contextual := true) [*]

@[simp] theorem State.endRun_ok {s : State} (h : State.Ok Q ps s) :
    State.Ok Q ps (State.endRun s) := by
  unfold State.endRun; (repeat' split) <;> simp (maxDischargeDepth := 40) (contextual := true) [*]

@[simp] theorem State.testEffect_ok {s : State} {k : Nat} (h : State.Ok Q ps s) :
    State.Ok Q ps (State.testEffect s k) := by
  unfold State.testEffect
  repeat' split
  all_goals simp (maxDischargeDepth := 40) (contextual := true) [*]

@[simp] theorem State.partResult_ok {s : State} {r : StRun} {k : Nat} {pass : Bool} (h : State.Ok Q ps s) :
    State.Ok Q ps (State.partResult s r k pass) := by
  unfold State.partResult; (repeat' split) <;> simp (maxDischargeDepth := 40) (contextual := true) [*]

@[simp] theorem State.flashSweep_ok {s : State} {bad : List Nat} (h : State.Ok Q ps s) :
    State.Ok Q ps (State.flashSweep s bad) := by
  unfold State.flashSweep; simp (maxDischargeDepth := 40) (contextual := true) [*]

@[simp] theorem State.factoryItem_ok {s : State} {code : Nat} {b : Bytes} (h : State.Ok Q ps s) :
    State.Ok Q ps (State.factoryItem s code b) := by
  unfold State.factoryItem; simp (maxDischargeDepth := 40) (contextual := true) [*]

@[simp] theorem State.factorySeries_ok {s : State} (h : State.Ok Q ps s) :
    State.Ok Q ps (State.factorySeries s) := by
  unfold State.factorySeries; simp (maxDischargeDepth := 40) (contextual := true) [*]

@[simp] theorem State.makeKeys_ok {s : State} (h : State.Ok Q ps s) :
    State.Ok Q ps (State.makeKeys s) := by
  unfold State.makeKeys; simp (maxDischargeDepth := 40) (contextual := true) [*]

@[simp] theorem State.personalise_ok {s : State} {o : FactoryOrder} (h : State.Ok Q ps s) :
    State.Ok Q ps (State.personalise s o) := by
  unfold State.personalise; simp (maxDischargeDepth := 40) (contextual := true) [*]

@[simp] theorem State.factoryOrder_ok {s : State} (h : State.Ok Q ps s) :
    State.Ok Q ps (State.factoryOrder s) := by
  unfold State.factoryOrder; (repeat' split) <;> simp (maxDischargeDepth := 40) (contextual := true) [*]

@[simp] theorem State.spyPhase_ok {s : State} {n : Nat} (h : State.Ok Q ps s) :
    State.Ok Q ps (State.spyPhase s n) := by
  unfold State.spyPhase; simp (maxDischargeDepth := 40) (contextual := true) [*]

@[simp] theorem State.toPhase_ok {s : State} {p : Phase} (h : State.Ok Q ps s) :
    State.Ok Q ps (State.toPhase s p) := h

@[simp] theorem State.recordStraps_ok {s : State} (h : State.Ok Q ps s) :
    State.Ok Q ps (State.recordStraps s) := by
  unfold State.recordStraps; simp (maxDischargeDepth := 40) (contextual := true) [*]

@[simp] theorem State.logMarginal_ok {s : State} {addr kind n : Nat} {f : FuseReads} (h : State.Ok Q ps s) :
    State.Ok Q ps (State.logMarginal s addr kind n f) := by
  unfold State.logMarginal; simp (maxDischargeDepth := 40) (contextual := true) [*]

@[simp] theorem State.logMarginals_ok {s : State} (h : State.Ok Q ps s) :
    State.Ok Q ps (State.logMarginals s) := by
  unfold State.logMarginals; simp (maxDischargeDepth := 40) (contextual := true) [*]

@[simp] theorem State.resolveFuses_ok {s : State} (h : State.Ok Q ps s) :
    State.Ok Q ps (State.resolveFuses s) := h

@[simp] theorem State.judgeLc_ok {s : State} (h : State.Ok Q ps s) :
    State.Ok Q ps (State.judgeLc s) := by
  unfold State.judgeLc; simp (maxDischargeDepth := 40) (contextual := true) [*]

@[simp] theorem State.logReserved_ok {s : State} (h : State.Ok Q ps s) :
    State.Ok Q ps (State.logReserved s) := by
  unfold State.logReserved; simp (maxDischargeDepth := 40) (contextual := true) [*]

@[simp] theorem State.fuseChannels_ok {s : State} (h : State.Ok Q ps s) :
    State.Ok Q ps (State.fuseChannels s) := by
  unfold State.fuseChannels
  refine State.eachCh_ok (fun c t ht => ?_) h
  split
  · refine State.chOp_ok (fun x hx => ?_) ht c
    have hx1 : ({ x with fused := true, eclass := .u, fifo := [], fenPad := x.fenPad.park true t.tick, lnkPad := x.lnkPad.park true t.tick } : Chan).Ok :=
      chanF_empty hx
    exact Chan.settle_ok (Chan.clearLatch_ok hx1) _
  · exact ht

@[simp] theorem State.restoreLog_ok {s : State} (h : State.Ok Q ps s) :
    State.Ok Q ps (State.restoreLog s) := by
  unfold State.restoreLog; simp (maxDischargeDepth := 40) (contextual := true) [*]

@[simp] theorem State.phaseB_ok {s : State} (h : State.Ok Q ps s) :
    State.Ok Q ps (State.phaseB s) := by
  unfold State.phaseB; dsimp only; (repeat' split) <;> simp (maxDischargeDepth := 40) (contextual := true) [*]

@[simp] theorem State.gradeVcore_ok {s : State} (h : State.Ok Q ps s) :
    State.Ok Q ps (State.gradeVcore s) := by
  unfold State.gradeVcore; dsimp only; (repeat' split) <;> simp (maxDischargeDepth := 40) (contextual := true) [*]

@[simp] theorem State.gradeLatches_ok {s : State} (h : State.Ok Q ps s) :
    State.Ok Q ps (State.gradeLatches s) := by
  unfold State.gradeLatches; simp (maxDischargeDepth := 40) (contextual := true) [*]

@[simp] theorem State.phaseC_ok {s : State} (h : State.Ok Q ps s) :
    State.Ok Q ps (State.phaseC s) := by
  unfold State.phaseC; dsimp only; (repeat' split) <;> simp (maxDischargeDepth := 40) (contextual := true) [*]

@[simp] theorem State.afterRun_ok {s : State} {t : StTrigger} {pass : Bool} (h : State.Ok Q ps s) :
    State.Ok Q ps (State.afterRun s t pass) := by
  unfold State.afterRun; (repeat' split) <;> simp (maxDischargeDepth := 40) (contextual := true) [*]

@[simp] theorem State.startRun_ok {s : State} {t : StTrigger} (h : State.Ok Q ps s) :
    State.Ok Q ps (State.startRun s t) := by
  unfold State.startRun; (repeat' split) <;> simp (maxDischargeDepth := 40) (contextual := true) [*]

@[simp] theorem State.phaseSelf_ok {s : State} (h : State.Ok Q ps s) :
    State.Ok Q ps (State.phaseSelf s) := by
  unfold State.phaseSelf; (repeat' split) <;> simp (maxDischargeDepth := 40) (contextual := true) [*]

@[simp] theorem State.logOptions_ok {s : State} (h : State.Ok Q ps s) :
    State.Ok Q ps (State.logOptions s) := by
  unfold State.logOptions; simp (maxDischargeDepth := 40) (contextual := true) [*]

@[simp] theorem State.measureRom_ok {s : State} (h : State.Ok Q ps s) :
    State.Ok Q ps (State.measureRom s) := by
  unfold State.measureRom; simp (maxDischargeDepth := 40) (contextual := true) [*]

@[simp] theorem State.takeOption_ok {s : State} {k : Nat} (h : State.Ok Q ps s) :
    State.Ok Q ps (State.takeOption s k) := by
  unfold State.takeOption; (repeat' split) <;> simp (maxDischargeDepth := 40) (contextual := true) [*]

@[simp] theorem State.seedAll_ok {s : State} (h : State.Ok Q ps s) :
    State.Ok Q ps (State.seedAll s) := h

@[simp] theorem State.phaseD_ok {s : State} (h : State.Ok Q ps s) :
    State.Ok Q ps (State.phaseD s) := by
  unfold State.phaseD; dsimp only; (repeat' split) <;> simp (maxDischargeDepth := 40) (contextual := true) [*]

@[simp] theorem State.updWheel_ok {s : State} {b : Nat} {f : Install → Install} (h : State.Ok Q ps s) :
    State.Ok Q ps (State.updWheel s b f) := h

@[simp] theorem State.damageBank_ok {s : State} {b : Nat} (h : State.Ok Q ps s) :
    State.Ok Q ps (State.damageBank s b) := by
  unfold State.damageBank; (repeat' split) <;> simp (maxDischargeDepth := 40) (contextual := true) [*]

@[simp] theorem State.tryBanks_ok {l : List Nat} {x2 : State} (h : State.Ok Q ps x2) :
    State.Ok Q ps (State.tryBanks l x2).1 := by
  induction l generalizing x2 with
  | nil => exact h
  | cons a l ih =>
    unfold State.tryBanks
    split
    · exact ih h
    · split
      · exact ih (State.damageBank_ok h)
      · have h1 : ∀ q : Bool, State.Ok Q ps (if q = true then x2.updWheel a (fun y => { y with trialCount := y.trialCount + 1 }) else x2) := by
          intro q
          split
          · exact State.updWheel_ok h
          · exact h
        dsimp only
        split
        · exact h1 _
        · exact ih (State.damageBank_ok (h1 _))

@[simp] theorem State.phaseE_ok {s : State} (h : State.Ok Q ps s) :
    State.Ok Q ps (State.phaseE s) := by
  unfold State.phaseE
  split
  · exact h
  · dsimp only
    have h1 := State.tryBanks_ok (l := s.recordStraps.banks) (State.recordStraps_ok h)
    split <;> rename_i h2 <;> rw [h2] at h1 <;> simp (maxDischargeDepth := 40) (contextual := true) [*]

@[simp] theorem State.restoreKeys_ok {s : State} (h : State.Ok Q ps s) :
    State.Ok Q ps (State.restoreKeys s) := by
  unfold State.restoreKeys; simp (maxDischargeDepth := 40) (contextual := true) [*]

@[simp] theorem State.restoreCounters_ok {s : State} (h : State.Ok Q ps s) :
    State.Ok Q ps (State.restoreCounters s) := by
  unfold State.restoreCounters; simp (maxDischargeDepth := 40) (contextual := true) [*]

@[simp] theorem State.restoreUplink_ok {s : State} (h : State.Ok Q ps s) :
    State.Ok Q ps (State.restoreUplink s) := h

@[simp] theorem State.measureContracts_ok {s : State} (h : State.Ok Q ps s) :
    State.Ok Q ps (State.measureContracts s) := by
  unfold State.measureContracts
  dsimp only
  refine State.measure_ok (State.eachCh_ok (fun c t ht => ?_) h)
  split
  · split <;> simp (maxDischargeDepth := 40) (contextual := true) [*]
  · exact ht

@[simp] theorem State.phaseF_ok {s : State} (h : State.Ok Q ps s) :
    State.Ok Q ps (State.phaseF s) := by
  unfold State.phaseF; simp (maxDischargeDepth := 40) (contextual := true) [*]

@[simp] theorem State.phaseG_ok {s : State} (h : State.Ok Q ps s) :
    State.Ok Q ps (State.phaseG s) := by
  unfold State.phaseG; simp (maxDischargeDepth := 40) (contextual := true) [*]

@[simp] theorem State.enterService_ok {s : State} (h : State.Ok Q ps s) :
    State.Ok Q ps (State.enterService s) := by
  unfold State.enterService; simp (maxDischargeDepth := 40) (contextual := true) [*]

@[simp] theorem State.restartPartners_ok {s : State} (h : State.Ok Q ps s) :
    State.Ok Q ps (State.restartPartners s) := by
  unfold State.restartPartners; simp (maxDischargeDepth := 40) (contextual := true) [*]

@[simp] theorem State.raiseOption_ok {s : State} (h : State.Ok Q ps s) :
    State.Ok Q ps (State.raiseOption s) := by
  unfold State.raiseOption; simp (maxDischargeDepth := 40) (contextual := true) [*]

@[simp] theorem State.retryBurns_ok {s : State} (h : State.Ok Q ps s) :
    State.Ok Q ps (State.retryBurns s) := by
  unfold State.retryBurns; simp (maxDischargeDepth := 40) (contextual := true) [*]

@[simp] theorem State.trialDone_ok {s : State} (h : State.Ok Q ps s) :
    State.Ok Q ps (State.trialDone s) := by
  unfold State.trialDone; (repeat' split) <;> simp (maxDischargeDepth := 40) (contextual := true) [*]

@[simp] theorem State.resumeInstall_ok {s : State} (h : State.Ok Q ps s) :
    State.Ok Q ps (State.resumeInstall s) := by
  unfold State.resumeInstall; (repeat' split) <;> simp (maxDischargeDepth := 40) (contextual := true) [*]

@[simp] theorem State.phaseH_ok {s : State} (h : State.Ok Q ps s) :
    State.Ok Q ps (State.phaseH s) := by
  unfold State.phaseH; simp (maxDischargeDepth := 40) (contextual := true) [*]

@[simp] theorem State.startStep_ok {s : State} (h : State.Ok Q ps s) :
    State.Ok Q ps (State.startStep s) := by
  unfold State.startStep; (repeat' split) <;> simp (maxDischargeDepth := 40) (contextual := true) [*]

@[simp] theorem State.runStart_ok {s : State} (h : State.Ok Q ps s) :
    State.Ok Q ps (State.runStart s) := by
  unfold State.runStart; simp (maxDischargeDepth := 40) (contextual := true) [*]

@[simp] theorem State.beginStart_ok {s : State} {cause : StartCause} (h : State.Ok Q ps s) :
    State.Ok Q ps (State.beginStart s cause) := by
  unfold State.beginStart; simp (maxDischargeDepth := 40) (contextual := true) [*]

@[simp] theorem State.leaveHold_ok {s : State} (h : State.Ok Q ps s) :
    State.Ok Q ps (State.leaveHold s) := by
  unfold State.leaveHold; (repeat' split) <;> simp (maxDischargeDepth := 40) (contextual := true) [*]

@[simp] theorem State.crazedStart_ok {s : State} (h : State.Ok Q ps s) :
    State.Ok Q ps (State.crazedStart s) := by
  unfold State.crazedStart; simp (maxDischargeDepth := 40) (contextual := true) [*]

@[simp] theorem State.dipLost_ok {s : State} {cause : Nat} (h : State.Ok Q ps s) :
    State.Ok Q ps (State.dipLost s cause) := by
  unfold State.dipLost; simp (maxDischargeDepth := 40) (contextual := true) [*]

@[simp] theorem State.settleGrade_ok {s : State} (h : State.Ok Q ps s) :
    State.Ok Q ps (State.settleGrade s) := by
  unfold State.settleGrade; simp (maxDischargeDepth := 40) (contextual := true) [*]

@[simp] theorem State.holdBoth_ok {s : State} (h : State.Ok Q ps s) :
    State.Ok Q ps (State.holdBoth s) := by
  unfold State.holdBoth; simp (maxDischargeDepth := 40) (contextual := true) [*]

@[simp] theorem State.loseAo_ok {s : State} (h : State.Ok Q ps s) :
    State.Ok Q ps (State.loseAo s) := by
  have h1 : (s.dipLost 0x07).leaveHold.mainReset.Ok Q ps := by simp (maxDischargeDepth := 40) (contextual := true) [*]
  unfold State.loseAo
  dsimp only
  rw [ok_mk]
  exact ⟨h1.1, fun hb => ⟨(h1.2 hb).1, (h1.2 hb).2.1, by norm_num, (h1.2 hb).2.2.2.1, ch_new_ok⟩⟩

@[simp] theorem State.deliver_ok {s : State} {x2 : Probe} (h : State.Ok Q ps s) :
    State.Ok Q ps (State.deliver s x2) := h

@[simp] theorem execVaoValid_ok {testEn svcLow doorOpen pfailLow nrstLow : Bool} {probe : Probe} {s0 : State} (h : State.Ok Q ps s0) :
    OutOk Q ps (execVaoValid testEn svcLow doorOpen pfailLow nrstLow probe s0) := by
  unfold execVaoValid; simp (maxDischargeDepth := 40) (contextual := true) [*]

@[simp] theorem execVaoInvalid_ok {s : State} (h : State.Ok Q ps s) :
    OutOk Q ps (execVaoInvalid s) := by
  unfold execVaoInvalid; simp (maxDischargeDepth := 40) (contextual := true) [*]

@[simp] theorem State.railBack_ok {s : State} (h : State.Ok Q ps s) :
    State.Ok Q ps (State.railBack s) := by
  unfold State.railBack; simp (maxDischargeDepth := 40) (contextual := true) [*]

@[simp] theorem execVioValid_ok {s : State} (h : State.Ok Q ps s) :
    OutOk Q ps (execVioValid s) := by
  unfold execVioValid; simp (maxDischargeDepth := 40) (contextual := true) [*]

@[simp] theorem execVioInvalid_ok {s : State} (h : State.Ok Q ps s) :
    OutOk Q ps (execVioInvalid s) := by
  unfold execVioInvalid; simp (maxDischargeDepth := 40) (contextual := true) [*]

@[simp] theorem execVcoreValid_ok {s : State} (h : State.Ok Q ps s) :
    OutOk Q ps (execVcoreValid s) := by
  unfold execVcoreValid; simp (maxDischargeDepth := 40) (contextual := true) [*]

@[simp] theorem execVcoreInvalid_ok {s : State} (h : State.Ok Q ps s) :
    OutOk Q ps (execVcoreInvalid s) := by
  unfold execVcoreInvalid; simp (maxDischargeDepth := 40) (contextual := true) [*]

@[simp] theorem execPfailFall_ok {s : State} (h : State.Ok Q ps s) :
    OutOk Q ps (execPfailFall s) := by
  unfold execPfailFall; simp (maxDischargeDepth := 40) (contextual := true) [*]

@[simp] theorem execPfailRise_ok {s : State} (h : State.Ok Q ps s) :
    OutOk Q ps (execPfailRise s) := by
  unfold execPfailRise; simp (maxDischargeDepth := 40) (contextual := true) [*]

@[simp] theorem State.kilnReturns_ok {s : State} {st : KilnSt} (h : State.Ok Q ps s) :
    State.Ok Q ps (State.kilnReturns s st) := by
  unfold State.kilnReturns; simp (maxDischargeDepth := 40) (contextual := true) [*]

@[simp] theorem State.powerFailRestart_ok {s : State} (h : State.Ok Q ps s) :
    State.Ok Q ps (State.powerFailRestart s) := by
  unfold State.powerFailRestart; (repeat' split) <;> simp (maxDischargeDepth := 40) (contextual := true) [*]

@[simp] theorem execPowerFailRestart_ok {s : State} (h : State.Ok Q ps s) :
    OutOk Q ps (execPowerFailRestart s) := by
  unfold execPowerFailRestart; (repeat' split) <;> simp (maxDischargeDepth := 40) (contextual := true) [*]

@[simp] theorem execPfailGlitch_ok {s : State} (h : State.Ok Q ps s) :
    OutOk Q ps (execPfailGlitch s) := by
  unfold execPfailGlitch; simp (maxDischargeDepth := 40) (contextual := true) [*]

@[simp] theorem execNrstLow_ok {s : State} (h : State.Ok Q ps s) :
    OutOk Q ps (execNrstLow s) := by
  unfold execNrstLow; simp (maxDischargeDepth := 40) (contextual := true) [*]

@[simp] theorem execNrstHigh_ok {s : State} (h : State.Ok Q ps s) :
    OutOk Q ps (execNrstHigh s) := by
  unfold execNrstHigh; simp (maxDischargeDepth := 40) (contextual := true) [*]

@[simp] theorem execNrstGlitch_ok {s : State} (h : State.Ok Q ps s) :
    OutOk Q ps (execNrstGlitch s) := by
  unfold execNrstGlitch; simp (maxDischargeDepth := 40) (contextual := true) [*]

@[simp] theorem State.mainExpiry_ok {s : State} (h : State.Ok Q ps s) :
    State.Ok Q ps (State.mainExpiry s) := by
  unfold State.mainExpiry; simp (maxDischargeDepth := 40) (contextual := true) [*]

@[simp] theorem execMainWatchdogExpiry_ok {s : State} (h : State.Ok Q ps s) :
    OutOk Q ps (execMainWatchdogExpiry s) := by
  unfold execMainWatchdogExpiry; (repeat' split) <;> simp (maxDischargeDepth := 40) (contextual := true) [*]

@[simp] theorem State.kilnRestart_ok {s : State} (h : State.Ok Q ps s) :
    State.Ok Q ps (State.kilnRestart s) := by
  unfold State.kilnRestart; simp (maxDischargeDepth := 40) (contextual := true) [*]

@[simp] theorem execKilnWatchdogExpiry_ok {s : State} (h : State.Ok Q ps s) :
    OutOk Q ps (execKilnWatchdogExpiry s) := by
  unfold execKilnWatchdogExpiry; simp (maxDischargeDepth := 40) (contextual := true) [*]

@[simp] theorem State.trip_ok {s : State} {cause index : Nat} (h : State.Ok Q ps s) :
    State.Ok Q ps (State.trip s cause index) := by
  unfold State.trip; simp (maxDischargeDepth := 40) (contextual := true) [*]

@[simp] theorem execSensorTrip_ok {cause index : Nat} {s : State} (h : State.Ok Q ps s) :
    OutOk Q ps (execSensorTrip cause index s) := by
  unfold execSensorTrip; simp (maxDischargeDepth := 40) (contextual := true) [*]

@[simp] theorem execDiscriminableAnomaly_ok {cause index : Nat} {s : State} (h : State.Ok Q ps s) :
    OutOk Q ps (execDiscriminableAnomaly cause index s) := by
  unfold execDiscriminableAnomaly; simp (maxDischargeDepth := 40) (contextual := true) [*]

@[simp] theorem State.countAlarm_ok {s : State} {x2 : RefEvent} (h : State.Ok Q ps s) :
    State.Ok Q ps (State.countAlarm s x2) := by
  unfold State.countAlarm; (repeat' split) <;> simp (maxDischargeDepth := 40) (contextual := true) [*]

@[simp] theorem execReferenceEvent_ok {k : RefEvent} {s : State} (h : State.Ok Q ps s) :
    OutOk Q ps (execReferenceEvent k s) := by
  unfold execReferenceEvent; simp (maxDischargeDepth := 40) (contextual := true) [*]

@[simp] theorem execSuspensionEnd_ok {s : State} (h : State.Ok Q ps s) :
    OutOk Q ps (execSuspensionEnd s) := by
  unfold execSuspensionEnd; (repeat' split) <;> simp (maxDischargeDepth := 40) (contextual := true) [*]

@[simp] theorem execProvisionalHoldExpiry_ok {s : State} (h : State.Ok Q ps s) :
    OutOk Q ps (execProvisionalHoldExpiry s) := by
  unfold execProvisionalHoldExpiry; (repeat' split) <;> simp (maxDischargeDepth := 40) (contextual := true) [*]

@[simp] theorem execCrazedQuietExpiry_ok {s : State} (h : State.Ok Q ps s) :
    OutOk Q ps (execCrazedQuietExpiry s) := by
  unfold execCrazedQuietExpiry; simp (maxDischargeDepth := 40) (contextual := true) [*]

@[simp] theorem State.tempTrip_ok {s : State} {n cause k : Nat} (h : State.Ok Q ps s) :
    State.Ok Q ps (State.tempTrip s n cause k) := by
  unfold State.tempTrip; simp (maxDischargeDepth := 40) (contextual := true) [*]

@[simp] theorem State.tempSensor_ok {s : State} {k : Fin 4} {v : Int} (h : State.Ok Q ps s) :
    State.Ok Q ps (State.tempSensor s k v) := by
  unfold State.tempSensor; simp (maxDischargeDepth := 40) (contextual := true) [*]

end Sys2Proof.Machine
end

