-- ==== Sys2Proof/Laws/KeepStarts.lean ====
section
/-! SUPPORT. Every operation and every meaning keeps the queue and the invariant (part 4 of 5): one lemma for each, in the order of the
model. -/

namespace Sys2Proof.Machine

open Sys2Proof

variable {Q : Prop} {ps : List Instr}

@[simp] theorem execTemperatureSample_ok {samples : List Int} {s : State} (h : State.Ok Q ps s) :
    OutOk Q ps (execTemperatureSample samples s) := by
  unfold execTemperatureSample; simp (maxDischargeDepth := 40) (contextual := true) [*]

@[simp] theorem execFenReadbackFail_ok {c : Fin 16} {s : State} (h : State.Ok Q ps s) :
    OutOk Q ps (execFenReadbackFail c s) := by
  unfold execFenReadbackFail; simp (maxDischargeDepth := 40) (contextual := true) [*]

@[simp] theorem execPassthroughPadReturn_ok {c : Fin 16} {s : State} (h : State.Ok Q ps s) :
    OutOk Q ps (execPassthroughPadReturn c s) := by
  unfold execPassthroughPadReturn; simp (maxDischargeDepth := 40) (contextual := true) [*]

@[simp] theorem State.updClk_ok {s : State} {f : Clk → Clk} (h : State.Ok Q ps s) :
    State.Ok Q ps (State.updClk s f) := h

@[simp] theorem State.clockLog_ok {s : State} {ref ev : Nat} (h : State.Ok Q ps s) :
    State.Ok Q ps (State.clockLog s ref ev) := by
  unfold State.clockLog; simp (maxDischargeDepth := 40) (contextual := true) [*]

@[simp] theorem State.tickReturns_ok {s : State} {src : TickSrc} (h : State.Ok Q ps s) :
    State.Ok Q ps (State.tickReturns s src) := by
  unfold State.tickReturns; simp (maxDischargeDepth := 40) (contextual := true) [*]

@[simp] theorem execXo32StartCheck_ok {s : State} (h : State.Ok Q ps s) :
    OutOk Q ps (execXo32StartCheck s) := by
  unfold execXo32StartCheck; simp (maxDischargeDepth := 40) (contextual := true) [*]

@[simp] theorem execXo25StartCheck_ok {s : State} (h : State.Ok Q ps s) :
    OutOk Q ps (execXo25StartCheck s) := by
  unfold execXo25StartCheck; simp (maxDischargeDepth := 40) (contextual := true) [*]

@[simp] theorem State.tickLost_ok {s : State} (h : State.Ok Q ps s) :
    State.Ok Q ps (State.tickLost s) := by
  unfold State.tickLost; simp (maxDischargeDepth := 40) (contextual := true) [*]

@[simp] theorem State.xo32Falls_ok {s : State} (h : State.Ok Q ps s) :
    State.Ok Q ps (State.xo32Falls s) := by
  unfold State.xo32Falls; simp (maxDischargeDepth := 40) (contextual := true) [*]

@[simp] theorem execXo32Lost_ok {s : State} (h : State.Ok Q ps s) :
    OutOk Q ps (execXo32Lost s) := by
  unfold execXo32Lost; simp (maxDischargeDepth := 40) (contextual := true) [*]

@[simp] theorem execXo25Lost_ok {s : State} (h : State.Ok Q ps s) :
    OutOk Q ps (execXo25Lost s) := by
  unfold execXo25Lost; simp (maxDischargeDepth := 40) (contextual := true) [*]

@[simp] theorem execBeaconReferenceLost_ok {s : State} (h : State.Ok Q ps s) :
    OutOk Q ps (execBeaconReferenceLost s) := by
  unfold execBeaconReferenceLost; (repeat' split) <;> simp (maxDischargeDepth := 40) (contextual := true) [*]

@[simp] theorem State.qualifyXo32_ok {s : State} (h : State.Ok Q ps s) :
    State.Ok Q ps (State.qualifyXo32 s) := by
  unfold State.qualifyXo32; simp (maxDischargeDepth := 40) (contextual := true) [*]

@[simp] theorem State.qualifyXo25_ok {s : State} (h : State.Ok Q ps s) :
    State.Ok Q ps (State.qualifyXo25 s) := by
  unfold State.qualifyXo25; simp (maxDischargeDepth := 40) (contextual := true) [*]

@[simp] theorem State.qualifyBeacon_ok {s : State} (h : State.Ok Q ps s) :
    State.Ok Q ps (State.qualifyBeacon s) := by
  unfold State.qualifyBeacon; simp (maxDischargeDepth := 40) (contextual := true) [*]

@[simp] theorem execQualificationComplete_ok {r : RefId} {s : State} (h : State.Ok Q ps s) :
    OutOk Q ps (execQualificationComplete r s) := by
  unfold execQualificationComplete; (repeat' split) <;> simp (maxDischargeDepth := 40) (contextual := true) [*]

@[simp] theorem State.actHeld_ok {s : State} {h : HeldRef} (h0 : State.Ok Q ps s) :
    State.Ok Q ps (State.actHeld s h) := by
  unfold State.actHeld; (repeat' split) <;> simp (maxDischargeDepth := 40) (contextual := true) [*]

@[simp] theorem execReferenceSwitchComplete_ok {k : SwitchKind} {s : State} (h : State.Ok Q ps s) :
    OutOk Q ps (execReferenceSwitchComplete k s) := by
  unfold execReferenceSwitchComplete; dsimp only; (repeat' split) <;> simp (maxDischargeDepth := 40) (contextual := true) [*]

@[simp] theorem execTickSourcesLost_ok {s : State} (h : State.Ok Q ps s) :
    OutOk Q ps (execTickSourcesLost s) := by
  unfold execTickSourcesLost; simp (maxDischargeDepth := 40) (contextual := true) [*]

@[simp] theorem execTickSourceReturn_ok {src : TickSrc} {s : State} (h : State.Ok Q ps s) :
    OutOk Q ps (execTickSourceReturn src s) := by
  unfold execTickSourceReturn; simp (maxDischargeDepth := 40) (contextual := true) [*]

@[simp] theorem execFpllLockFail_ok {retryFails : Bool} {s : State} (h : State.Ok Q ps s) :
    OutOk Q ps (execFpllLockFail retryFails s) := by
  unfold execFpllLockFail; simp (maxDischargeDepth := 40) (contextual := true) [*]

@[simp] theorem execFpllRetry_ok {s : State} (h : State.Ok Q ps s) :
    OutOk Q ps (execFpllRetry s) := by
  unfold execFpllRetry; (repeat' split) <;> simp (maxDischargeDepth := 40) (contextual := true) [*]

@[simp] theorem execLinkUp_ok {p : Port} {s : State} (h : State.Ok Q ps s) :
    OutOk Q ps (execLinkUp p s) := by
  unfold execLinkUp; simp (maxDischargeDepth := 40) (contextual := true) [*]

@[simp] theorem execLinkDown_ok {p : Port} {s : State} (h : State.Ok Q ps s) :
    OutOk Q ps (execLinkDown p s) := by
  unfold execLinkDown; simp (maxDischargeDepth := 40) (contextual := true) [*]

@[simp] theorem execCommonModeAlarm_ok {p : Port} {s : State} (h : State.Ok Q ps s) :
    OutOk Q ps (execCommonModeAlarm p s) := by
  unfold execCommonModeAlarm; simp (maxDischargeDepth := 40) (contextual := true) [*]

@[simp] theorem State.inboundFault_ok {s : State} {p : Port} (h : State.Ok Q ps s) :
    State.Ok Q ps (State.inboundFault s p) := by
  unfold State.inboundFault; simp (maxDischargeDepth := 40) (contextual := true) [*]

@[simp] theorem execInboundFrame_ok {p : Port} {fcsOk : Bool} {frame : Bytes} {s : State} (h : State.Ok Q ps s) :
    OutOk Q ps (execInboundFrame p fcsOk frame s) := by
  unfold execInboundFrame; simp (maxDischargeDepth := 40) (contextual := true) [*]

@[simp] theorem State.acknowledge_ok {s : State} {l : List (Nat × Nat)} (h : State.Ok Q ps s) :
    State.Ok Q ps (State.acknowledge s l) := h

@[simp] theorem State.ackJudged_ok {s : State} {p : Port} {m : Bytes} {sigOk : Bool} (h : State.Ok Q ps s) :
    State.Ok Q ps (State.ackJudged s p m sigOk) := by
  unfold State.ackJudged; simp (maxDischargeDepth := 40) (contextual := true) [*]

@[simp] theorem execAck_ok {p : Port} {msg : Bytes} {sigOk : Bool} {s : State} (h : State.Ok Q ps s) :
    OutOk Q ps (execAck p msg sigOk s) := by
  unfold execAck; simp (maxDischargeDepth := 40) (contextual := true) [*]

@[simp] theorem State.refuseBeacon_ok {s : State} {p : Port} (h : State.Ok Q ps s) :
    State.Ok Q ps (State.refuseBeacon s p) := by
  unfold State.refuseBeacon; simp (maxDischargeDepth := 40) (contextual := true) [*]

@[simp] theorem State.learnAddr_ok {s : State} {p : Port} {src : Nat × Nat} (h : State.Ok Q ps s) :
    State.Ok Q ps (State.learnAddr s p src) := by
  unfold State.learnAddr; simp (maxDischargeDepth := 40) (contextual := true) [*]

@[simp] theorem State.saveFloors_ok {s : State} (h : State.Ok Q ps s) :
    State.Ok Q ps (State.saveFloors s) := by
  unfold State.saveFloors; simp (maxDischargeDepth := 40) (contextual := true) [*]

@[simp] theorem State.attest_ok {s : State} {m : Bytes} (h : State.Ok Q ps s) :
    State.Ok Q ps (State.attest s m) := by
  unfold State.attest; simp (maxDischargeDepth := 40) (contextual := true) [*]

@[simp] theorem State.takeBeacon_ok {s : State} {p : Port} {m : Bytes} {src : Nat × Nat} {rx : Nat} (h : State.Ok Q ps s) :
    State.Ok Q ps (State.takeBeacon s p m src rx) := by
  unfold State.takeBeacon; simp (maxDischargeDepth := 40) (contextual := true) [*]

@[simp] theorem State.beaconJudged_ok {s : State} {p : Port} {m : Bytes} {sigOk : Bool} {src : Nat × Nat} {rx : Nat} (h : State.Ok Q ps s) :
    State.Ok Q ps (State.beaconJudged s p m sigOk src rx) := by
  unfold State.beaconJudged; simp (maxDischargeDepth := 40) (contextual := true) [*]

@[simp] theorem execBeacon_ok {p : Port} {msg : Bytes} {sigOk : Bool} {mac ip : Nat} {s : State} (h : State.Ok Q ps s) :
    OutOk Q ps (execBeacon p msg sigOk mac ip s) := by
  unfold execBeacon; simp (maxDischargeDepth := 40) (contextual := true) [*]

@[simp] theorem execConcentratorAddressTimeout_ok {p : Port} {s : State} (h : State.Ok Q ps s) :
    OutOk Q ps (execConcentratorAddressTimeout p s) := by
  unfold execConcentratorAddressTimeout; simp (maxDischargeDepth := 40) (contextual := true) [*]

@[simp] theorem execQuarantineEnd_ok {p : Port} {s : State} (h : State.Ok Q ps s) :
    OutOk Q ps (execQuarantineEnd p s) := by
  unfold execQuarantineEnd; (repeat' split) <;> simp (maxDischargeDepth := 40) (contextual := true) [*]

@[simp] theorem State.displace_ok {fuel need : Nat} {x3 : State} {x4 : List (Bool × Nat × Nat)} (h : State.Ok Q ps x3) :
    State.Ok Q ps (State.displace fuel need x3 x4).1 := by
  induction fuel generalizing x3 x4 with
  | zero => exact h
  | succ n ih =>
    unfold State.displace
    dsimp only
    repeat' split
    all_goals first
      | exact h
      | (apply ih; simp (maxDischargeDepth := 40) (contextual := true) [*])

@[simp] theorem State.openIntake_ok {s : State} {id : Bytes} {total : Nat} (h : State.Ok Q ps s) :
    State.Ok Q ps (State.openIntake s id total) := by
  unfold State.openIntake; simp (maxDischargeDepth := 40) (contextual := true) [*]

@[simp] theorem State.intakeResult_ok {s : State} {x2 : Intake} {result : Nat} (h : State.Ok Q ps s) :
    State.Ok Q ps (State.intakeResult s x2 result) := by
  unfold State.intakeResult; simp (maxDischargeDepth := 40) (contextual := true) [*]

@[simp] theorem State.finishIntake_ok {s : State} (h : State.Ok Q ps s) :
    State.Ok Q ps (State.finishIntake s) := by
  unfold State.finishIntake; (repeat' split) <;> simp (maxDischargeDepth := 40) (contextual := true) [*]

@[simp] theorem State.intakeChunk_ok {s : State} {p : Port} {x3 : Intake} {total i : Nat} {d : Bytes} {first : Bool} (h : State.Ok Q ps s) :
    State.Ok Q ps (State.intakeChunk s p x3 total i d first) := by
  unfold State.intakeChunk; (repeat' split) <;> simp (maxDischargeDepth := 40) (contextual := true) [*]

@[simp] theorem State.takeChunk_ok {s : State} {p : Port} {m : Bytes} (h : State.Ok Q ps s) :
    State.Ok Q ps (State.takeChunk s p m) := by
  unfold State.takeChunk; dsimp only; (repeat' split) <;> simp (maxDischargeDepth := 40) (contextual := true) [*]

@[simp] theorem execChunk_ok {p : Port} {msg : Bytes} {s : State} (h : State.Ok Q ps s) :
    OutOk Q ps (execChunk p msg s) := by
  unfold execChunk; simp (maxDischargeDepth := 40) (contextual := true) [*]

@[simp] theorem execIntakeAbandon_ok {s : State} (h : State.Ok Q ps s) :
    OutOk Q ps (execIntakeAbandon s) := by
  unfold execIntakeAbandon; (repeat' split) <;> simp (maxDischargeDepth := 40) (contextual := true) [*]

@[simp] theorem execChunkAck_ok {s : State} (h : State.Ok Q ps s) :
    OutOk Q ps (execChunkAck s) := by
  unfold execChunkAck; (repeat' split) <;> simp (maxDischargeDepth := 40) (contextual := true) [*]

@[simp] theorem State.uplClearing_ok {s : State} (h : State.Ok Q ps s) :
    State.Ok Q ps (State.uplClearing s) := by
  unfold State.uplClearing
  dsimp only
  have h1 : State.Ok Q ps { s with upl := { s.upl with msgs := [], buf := [] } } := h
  refine State.finishIntake_ok (foldl_ok (fun t x ht => ?_) h1 _)
  split <;> simp (maxDischargeDepth := 40) (contextual := true) [*]

@[simp] theorem execRecordSend_ok {p : Port} {s : State} (h : State.Ok Q ps s) :
    OutOk Q ps (execRecordSend p s) := by
  unfold execRecordSend; simp (maxDischargeDepth := 40) (contextual := true) [*]

@[simp] theorem execAnnouncement_ok {p : Port} {s : State} (h : State.Ok Q ps s) :
    OutOk Q ps (execAnnouncement p s) := by
  unfold execAnnouncement; (repeat' split) <;> simp (maxDischargeDepth := 40) (contextual := true) [*]

@[simp] theorem execSherdIdentity_ok {s : State} (h : State.Ok Q ps s) :
    OutOk Q ps (execSherdIdentity s) := by
  unfold execSherdIdentity; simp (maxDischargeDepth := 40) (contextual := true) [*]

@[simp] theorem State.clearReported_ok {s : State} (h : State.Ok Q ps s) :
    State.Ok Q ps (State.clearReported s) := h

@[simp] theorem execStatus_ok {s : State} (h : State.Ok Q ps s) :
    OutOk Q ps (execStatus s) := by
  unfold execStatus; simp (maxDischargeDepth := 40) (contextual := true) [*]

@[simp] theorem execDmdRise_ok {c : Fin 16} {s : State} (h : State.Ok Q ps s) :
    OutOk Q ps (execDmdRise c s) := by
  unfold execDmdRise; simp (maxDischargeDepth := 40) (contextual := true) [*]

@[simp] theorem execDmdFall_ok {c : Fin 16} {s : State} (h : State.Ok Q ps s) :
    OutOk Q ps (execDmdFall c s) := by
  unfold execDmdFall; simp (maxDischargeDepth := 40) (contextual := true) [*]

@[simp] theorem execFbkRise_ok {c : Fin 16} {s : State} (h : State.Ok Q ps s) :
    OutOk Q ps (execFbkRise c s) := by
  unfold execFbkRise; simp (maxDischargeDepth := 40) (contextual := true) [*]

@[simp] theorem execFbkFall_ok {c : Fin 16} {s : State} (h : State.Ok Q ps s) :
    OutOk Q ps (execFbkFall c s) := by
  unfold execFbkFall; simp (maxDischargeDepth := 40) (contextual := true) [*]

@[simp] theorem execGlitch_ok {c : Fin 16} {feedback : Bool} {s : State} (h : State.Ok Q ps s) :
    OutOk Q ps (execGlitch c feedback s) := by
  unfold execGlitch; simp (maxDischargeDepth := 40) (contextual := true) [*]

@[simp] theorem execBypassEdge_ok {c : Fin 16} {rise : Bool} {s : State} (h : State.Ok Q ps s) :
    OutOk Q ps (execBypassEdge c rise s) := by
  unfold execBypassEdge; simp (maxDischargeDepth := 40) (contextual := true) [*]

@[simp] theorem execConfLate_ok {c : Fin 16} {s : State} (h : State.Ok Q ps s) :
    OutOk Q ps (execConfLate c s) := by
  unfold execConfLate; (repeat' split) <;> simp (maxDischargeDepth := 40) (contextual := true) [*]

@[simp] theorem hbClose_ok {c : Fin 16} {s : State} (h : State.Ok Q ps s) :
    State.Ok Q ps (hbClose c s) := by
  unfold hbClose; (repeat' split) <;> simp (maxDischargeDepth := 40) (contextual := true) [*]

@[simp] theorem execHoldExpired_ok {c : Fin 16} {s : State} (h : State.Ok Q ps s) :
    OutOk Q ps (execHoldExpired c s) := by
  unfold execHoldExpired; (repeat' split) <;> simp (maxDischargeDepth := 40) (contextual := true) [*]

@[simp] theorem execGrantSet_ok {c : Fin 16} {s : State} (h : State.Ok Q ps s) :
    OutOk Q ps (execGrantSet c s) := by
  unfold execGrantSet; simp (maxDischargeDepth := 40) (contextual := true) [*]

@[simp] theorem execGrantClear_ok {c : Fin 16} {s : State} (h : State.Ok Q ps s) :
    OutOk Q ps (execGrantClear c s) := by
  unfold execGrantClear; simp (maxDischargeDepth := 40) (contextual := true) [*]

@[simp] theorem execKeepHeartbeat_ok {c : Fin 16} {s : State} (h : State.Ok Q ps s) :
    OutOk Q ps (execKeepHeartbeat c s) := by
  unfold execKeepHeartbeat; simp (maxDischargeDepth := 40) (contextual := true) [*]

@[simp] theorem execKeepHold_ok {c : Fin 16} {s : State} (h : State.Ok Q ps s) :
    OutOk Q ps (execKeepHold c s) := by
  unfold execKeepHold; simp (maxDischargeDepth := 40) (contextual := true) [*]

@[simp] theorem execKeepStop_ok {c : Fin 16} {s : State} (h : State.Ok Q ps s) :
    OutOk Q ps (execKeepStop c s) := by
  unfold execKeepStop; simp (maxDischargeDepth := 40) (contextual := true) [*]

@[simp] theorem execXfreeze_ok {c : Fin 16} {contracted : Bool} {s : State} (h : State.Ok Q ps s) :
    OutOk Q ps (execXfreeze c contracted s) := by
  unfold execXfreeze; simp (maxDischargeDepth := 40) (contextual := true) [*]

@[simp] theorem execWindowLengthWrite_ok {c : Fin 16} {w : WinLen} {v : Word} {s : State} (h : State.Ok Q ps s) :
    OutOk Q ps (execWindowLengthWrite c w v s) := by
  unfold execWindowLengthWrite; simp (maxDischargeDepth := 40) (contextual := true) [*]

@[simp] theorem execEventPop_ok {c : Fin 16} {s : State} (h : State.Ok Q ps s) :
    OutOk Q ps (execEventPop c s) := by
  unfold execEventPop
  split
  · rw [outOk_next]
    refine State.chOp_ok (fun x hx => ?_) h c
    split
    · exact hx
    · exact chanF_drop 1 hx
  · exact h

@[simp] theorem execTickCounterRead_ok {s : State} (h : State.Ok Q ps s) :
    OutOk Q ps (execTickCounterRead s) := by
  unfold execTickCounterRead; simp (maxDischargeDepth := 40) (contextual := true) [*]

@[simp] theorem fenSwitchBegin_ok {c : Fin 16} {s : State} (h : State.Ok Q ps s) :
    State.Ok Q ps (fenSwitchBegin c s) := by
  unfold fenSwitchBegin; (repeat' split) <;> simp (maxDischargeDepth := 40) (contextual := true) [*]

@[simp] theorem lnkSwitchBegin_ok {c : Fin 16} {s : State} (h : State.Ok Q ps s) :
    State.Ok Q ps (lnkSwitchBegin c s) := by
  unfold lnkSwitchBegin; (repeat' split) <;> simp (maxDischargeDepth := 40) (contextual := true) [*]

@[simp] theorem execFunctionSwitchBegin_ok {c : Fin 16} {p : PadKind} {s : State} (h : State.Ok Q ps s) :
    OutOk Q ps (execFunctionSwitchBegin c p s) := by
  unfold execFunctionSwitchBegin; (repeat' split) <;> simp (maxDischargeDepth := 40) (contextual := true) [*]

@[simp] theorem padConnect_ok {c : Fin 16} {p : PadKind} {s : State} (h : State.Ok Q ps s) :
    State.Ok Q ps (padConnect c p s) := by
  unfold padConnect; (repeat' split) <;> simp (maxDischargeDepth := 40) (contextual := true) [*]

@[simp] theorem execBurstDecoded_ok {c : Fin 16} {b : Burst} {sigOk : Bool} {s : State} (h : State.Ok Q ps s) :
    OutOk Q ps (execBurstDecoded c b sigOk s) := by
  unfold execBurstDecoded; simp (maxDischargeDepth := 40) (contextual := true) [*]

@[simp] theorem State.receiveType_ok {s : State} {c : Fin 16} {t : Nat} {b : Burst} {sigOk : Bool} (h : State.Ok Q ps s) :
    State.Ok Q ps (State.receiveType s c t b sigOk) := by
  unfold State.receiveType; simp (maxDischargeDepth := 40) (contextual := true) [*]

@[simp] theorem execProbeRsp_ok {c : Fin 16} {b : Burst} {sigOk : Bool} {s : State} (h : State.Ok Q ps s) :
    OutOk Q ps (execProbeRsp c b sigOk s) := by
  unfold execProbeRsp; simp (maxDischargeDepth := 40) (contextual := true) [*]

@[simp] theorem execCrp_ok {c : Fin 16} {b : Burst} {sigOk : Bool} {s : State} (h : State.Ok Q ps s) :
    OutOk Q ps (execCrp c b sigOk s) := by
  unfold execCrp; simp (maxDischargeDepth := 40) (contextual := true) [*]

@[simp] theorem execKrp_ok {c : Fin 16} {b : Burst} {sigOk : Bool} {s : State} (h : State.Ok Q ps s) :
    OutOk Q ps (execKrp c b sigOk s) := by
  unfold execKrp; simp (maxDischargeDepth := 40) (contextual := true) [*]

@[simp] theorem execFrp_ok {c : Fin 16} {b : Burst} {s : State} (h : State.Ok Q ps s) :
    OutOk Q ps (execFrp c b s) := by
  unfold execFrp; simp (maxDischargeDepth := 40) (contextual := true) [*]

@[simp] theorem execBusy_ok {c : Fin 16} {b : Burst} {s : State} (h : State.Ok Q ps s) :
    OutOk Q ps (execBusy c b s) := by
  unfold execBusy; simp (maxDischargeDepth := 40) (contextual := true) [*]

@[simp] theorem execHsErr_ok {c : Fin 16} {b : Burst} {s : State} (h : State.Ok Q ps s) :
    OutOk Q ps (execHsErr c b s) := by
  unfold execHsErr; simp (maxDischargeDepth := 40) (contextual := true) [*]

@[simp] theorem execRsp_ok {c : Fin 16} {b : Burst} {s : State} (h : State.Ok Q ps s) :
    OutOk Q ps (execRsp c b s) := by
  unfold execRsp; simp (maxDischargeDepth := 40) (contextual := true) [*]

@[simp] theorem execAtn_ok {c : Fin 16} {b : Burst} {s : State} (h : State.Ok Q ps s) :
    OutOk Q ps (execAtn c b s) := by
  unfold execAtn; simp (maxDischargeDepth := 40) (contextual := true) [*]

@[simp] theorem execCla_ok {c : Fin 16} {b : Burst} {s : State} (h : State.Ok Q ps s) :
    OutOk Q ps (execCla c b s) := by
  unfold execCla; simp (maxDischargeDepth := 40) (contextual := true) [*]

@[simp] theorem execJabber_ok {c : Fin 16} {s : State} (h : State.Ok Q ps s) :
    OutOk Q ps (execJabber c s) := by
  unfold execJabber; simp (maxDischargeDepth := 40) (contextual := true) [*]

@[simp] theorem execLineIdle_ok {c : Fin 16} {s : State} (h : State.Ok Q ps s) :
    OutOk Q ps (execLineIdle c s) := by
  unfold execLineIdle; simp (maxDischargeDepth := 40) (contextual := true) [*]

@[simp] theorem State.probeFail_ok {s : State} {c : Fin 16} {saw : Bool} (h : State.Ok Q ps s) :
    State.Ok Q ps (State.probeFail s c saw) := by
  unfold State.probeFail; simp (maxDischargeDepth := 40) (contextual := true) [*]

@[simp] theorem State.unanswered_ok {s : State} {c : Fin 16} {x3 : Txn} (h : State.Ok Q ps s) :
    State.Ok Q ps (State.unanswered s c x3) := by
  unfold State.unanswered; simp (maxDischargeDepth := 40) (contextual := true) [*]

@[simp] theorem execReplyTimeout_ok {c : Fin 16} {s : State} (h : State.Ok Q ps s) :
    OutOk Q ps (execReplyTimeout c s) := by
  unfold execReplyTimeout; (repeat' split) <;> simp (maxDischargeDepth := 40) (contextual := true) [*]

@[simp] theorem execBusyResend_ok {c : Fin 16} {s : State} (h : State.Ok Q ps s) :
    OutOk Q ps (execBusyResend c s) := by
  unfold execBusyResend; (repeat' split) <;> simp (maxDischargeDepth := 40) (contextual := true) [*]

@[simp] theorem execHandshakeAttempt_ok {c : Fin 16} {s : State} (h : State.Ok Q ps s) :
    OutOk Q ps (execHandshakeAttempt c s) := by
  unfold execHandshakeAttempt; simp (maxDischargeDepth := 40) (contextual := true) [*]

@[simp] theorem execHandshakeTimeout_ok {c : Fin 16} {s : State} (h : State.Ok Q ps s) :
    OutOk Q ps (execHandshakeTimeout c s) := by
  unfold execHandshakeTimeout; (repeat' split) <;> simp (maxDischargeDepth := 40) (contextual := true) [*]

@[simp] theorem execRekeyDue_ok {c : Fin 16} {s : State} (h : State.Ok Q ps s) :
    OutOk Q ps (execRekeyDue c s) := by
  unfold execRekeyDue; (repeat' split) <;> simp (maxDischargeDepth := 40) (contextual := true) [*]

@[simp] theorem execRekeyTimeout_ok {c : Fin 16} {s : State} (h : State.Ok Q ps s) :
    OutOk Q ps (execRekeyTimeout c s) := by
  unfold execRekeyTimeout; (repeat' split) <;> simp (maxDischargeDepth := 40) (contextual := true) [*]

@[simp] theorem State.fpReport_ok {s : State} {c : Fin 16} {result m : Nat} {t : Int} {o : FpOccasion} {attempts : Nat} {profile : Bytes} (h : State.Ok Q ps s) :
    State.Ok Q ps (State.fpReport s c result m t o attempts profile) := by
  unfold State.fpReport; simp (maxDischargeDepth := 40) (contextual := true) [*]

@[simp] theorem State.cableChanged_ok {s : State} {c : Fin 16} {k : Contract} (h : State.Ok Q ps s) :
    State.Ok Q ps (State.cableChanged s c k) := by
  unfold State.cableChanged; simp (maxDischargeDepth := 40) (contextual := true) [*]

@[simp] theorem State.cableMatched_ok {s : State} {c : Fin 16} {m : Nat} {t : Int} {attempts : Nat} {profile : Bytes} (h : State.Ok Q ps s) :
    State.Ok Q ps (State.cableMatched s c m t attempts profile) := by
  unfold State.cableMatched; simp (maxDischargeDepth := 40) (contextual := true) [*]

@[simp] theorem State.fpUnobtained_ok {s : State} {c : Fin 16} {o : FpOccasion} {attempts : Nat} {profile : Bytes} (h : State.Ok Q ps s) :
    State.Ok Q ps (State.fpUnobtained s c o attempts profile) := by
  unfold State.fpUnobtained; dsimp only; (repeat' split) <;> simp (maxDischargeDepth := 40) (contextual := true) [*]

@[simp] theorem State.fpProfile_ok {s : State} {c : Fin 16} {o : FpOccasion} {attempts : Nat} {p : List Int} (h : State.Ok Q ps s) :
    State.Ok Q ps (State.fpProfile s c o attempts p) := by
  unfold State.fpProfile; (repeat' split) <;> simp (maxDischargeDepth := 40) (contextual := true) [*]

@[simp] theorem execFingerprintDue_ok {c : Fin 16} {s : State} (h : State.Ok Q ps s) :
    OutOk Q ps (execFingerprintDue c s) := by
  unfold execFingerprintDue; (repeat' split) <;> simp (maxDischargeDepth := 40) (contextual := true) [*]

@[simp] theorem execFingerprintDone_ok {c : Fin 16} {cap : Capture} {s : State} (h : State.Ok Q ps s) :
    OutOk Q ps (execFingerprintDone c cap s) := by
  unfold execFingerprintDone
  rw [outOk_next]
  have hb : ∀ f : Link → Link, ((s.wakeMain.updCh c (fun x => { x with lnkPad := x.lnkPad.request .t s.tick })).updLnk c f).Ok Q ps := fun f =>
    State.updLnk_ok (State.updCh_ok (f := fun x => { x with lnkPad := x.lnkPad.request .t s.tick }) (fun x hx => hx) (State.wakeMain_ok h) c)
  split
  · split
    · extract_lets n back fin
      split
      · exact State.fpProfile_ok (State.updLnk_ok (hb _))
      · split
        · exact State.updLnk_ok (hb _)
        · exact State.fpUnobtained_ok (State.tick1_ok (State.updLnk_ok (hb _)))
    · exact h
  · exact h

@[simp] theorem execFingerprintRetry_ok {c : Fin 16} {s : State} (h : State.Ok Q ps s) :
    OutOk Q ps (execFingerprintRetry c s) := by
  unfold execFingerprintRetry; (repeat' split) <;> simp (maxDischargeDepth := 40) (contextual := true) [*]

@[simp] theorem State.hbNotice_ok {s : State} {c : Fin 16} (h : State.Ok Q ps s) :
    State.Ok Q ps (State.hbNotice s c) := by
  unfold State.hbNotice; (repeat' split) <;> simp (maxDischargeDepth := 40) (contextual := true) [*]

@[simp] theorem execHbExpired_ok {c : Fin 16} {s : State} (h : State.Ok Q ps s) :
    OutOk Q ps (execHbExpired c s) := by
  unfold execHbExpired; simp (maxDischargeDepth := 40) (contextual := true) [*]

@[simp] theorem execFunctionConnect_ok {c : Fin 16} {p : PadKind} {s : State} (h : State.Ok Q ps s) :
    OutOk Q ps (execFunctionConnect c p s) := by
  unfold execFunctionConnect; simp (maxDischargeDepth := 40) (contextual := true) [*]

@[simp] theorem execServiceEnter_ok {c : Fin 16} {contracted : Bool} {s : State} (h : State.Ok Q ps s) :
    OutOk Q ps (execServiceEnter c contracted s) := by
  unfold execServiceEnter; simp (maxDischargeDepth := 40) (contextual := true) [*]

@[simp] theorem State.waitReturns_ok {s : State} {d : Fin 16} {k : Fin 2} (h : State.Ok Q ps s) :
    State.Ok Q ps (State.waitReturns s d k) := h

@[simp] theorem State.pollWait_ok {s : State} {d : Fin 16} {k : Fin 2} (h : State.Ok Q ps s) :
    State.Ok Q ps (State.pollWait s d k) := by
  unfold State.pollWait; (repeat' split) <;> simp (maxDischargeDepth := 40) (contextual := true) [*]

@[simp] theorem State.pollFlash_ok {s : State} {d : Fin 16} {k : Fin 2} (h : State.Ok Q ps s) :
    State.Ok Q ps (State.pollFlash s d k) := by
  unfold State.pollFlash; (repeat' split) <;> simp (maxDischargeDepth := 40) (contextual := true) [*]

@[simp] theorem State.pollWaits_ok {s : State} (h : State.Ok Q ps s) :
    State.Ok Q ps (State.pollWaits s) := by
  unfold State.pollWaits; simp (maxDischargeDepth := 40) (contextual := true) [*]

@[simp] theorem State.cpuWindow_ok {s : State} (h : State.Ok Q ps s) :
    State.Ok Q ps (State.cpuWindow s) := by
  unfold State.cpuWindow; simp (maxDischargeDepth := 40) (contextual := true) [*]

@[simp] theorem State.eventRecord_ok {s : State} {c : Fin 16} (h : State.Ok Q ps s) :
    State.Ok Q ps (State.eventRecord s c) := by
  unfold State.eventRecord; simp (maxDischargeDepth := 40) (contextual := true) [*]

@[simp] theorem State.takeEvents_ok {s : State} {c : Fin 16} (h : State.Ok Q ps s) :
    State.Ok Q ps (State.takeEvents s c) := by
  have h1 : ∀ q : Bool, State.Ok Q ps (if q = true then s
      else (s.updLnk c (fun l => { l with taken := l.taken ++ (s.chan c).fifo })).updCh c (fun x => { x with fifo := [] })) := by
    intro q
    split
    · exact h
    · exact State.updCh_ok (f := fun x => { x with fifo := [] }) (fun x hx => chanF_empty hx) (State.updLnk_ok h) c
  exact State.eventRecord_ok (State.eventRecord_ok (h1 _))

@[simp] theorem State.linkWake_ok {s : State} {c : Fin 16} (h : State.Ok Q ps s) :
    State.Ok Q ps (State.linkWake s c) := by
  unfold State.linkWake; dsimp only; (repeat' split) <;> simp (maxDischargeDepth := 40) (contextual := true) [*]

@[simp] theorem State.dueWork_ok {s : State} (h : State.Ok Q ps s) :
    State.Ok Q ps (State.dueWork s) := by
  unfold State.dueWork; simp (maxDischargeDepth := 40) (contextual := true) [*]

@[simp] theorem State.kernelTick_ok {s : State} (h : State.Ok Q ps s) :
    State.Ok Q ps (State.kernelTick s) := by
  unfold State.kernelTick; simp (maxDischargeDepth := 40) (contextual := true) [*]

@[simp] theorem execPeriodicKernelTick_ok {s : State} (h : State.Ok Q ps s) :
    OutOk Q ps (execPeriodicKernelTick s) := by
  unfold execPeriodicKernelTick; simp (maxDischargeDepth := 40) (contextual := true) [*]

@[simp] theorem execKilnWakeTimer_ok {s : State} (h : State.Ok Q ps s) :
    OutOk Q ps (execKilnWakeTimer s) := by
  unfold execKilnWakeTimer; simp (maxDischargeDepth := 40) (contextual := true) [*]

@[simp] theorem execWake_ok {src : WakeSrc} {s : State} (h : State.Ok Q ps s) :
    OutOk Q ps (execWake src s) := by
  unfold execWake; simp (maxDischargeDepth := 40) (contextual := true) [*]

@[simp] theorem State.enterRetention_ok {s : State} (h : State.Ok Q ps s) :
    State.Ok Q ps (State.enterRetention s) := by
  unfold State.enterRetention
  rw [ok_mk]
  exact okF_core h (fun hb => core_map_ok (fun c hc => hc) h hb)

@[simp] theorem execRetentionEntry_ok {s : State} (h : State.Ok Q ps s) :
    OutOk Q ps (execRetentionEntry s) := by
  unfold execRetentionEntry; simp (maxDischargeDepth := 40) (contextual := true) [*]

@[simp] theorem execKilnSwitchOff_ok {s : State} (h : State.Ok Q ps s) :
    OutOk Q ps (execKilnSwitchOff s) := by
  unfold execKilnSwitchOff; simp (maxDischargeDepth := 40) (contextual := true) [*]

@[simp] theorem State.repeatX1_ok {s : State} (h : State.Ok Q ps s) :
    State.Ok Q ps (State.repeatX1 s) := by
  unfold State.repeatX1
  refine foldl_ok (fun t x ht => ?_) h _
  repeat' split
  all_goals simp (maxDischargeDepth := 40) (contextual := true) [*]

@[simp] theorem State.clearing_ok {s : State} (h : State.Ok Q ps s) :
    State.Ok Q ps (State.clearing s) := by
  unfold State.clearing; simp (maxDischargeDepth := 40) (contextual := true) [*]

@[simp] theorem execKilnSelfcheckDone_ok {pass : Bool} {front : List (Nat × Nat)} {s : State} (h : State.Ok Q ps s) :
    OutOk Q ps (execKilnSelfcheckDone pass front s) := by
  unfold execKilnSelfcheckDone; simp (maxDischargeDepth := 40) (contextual := true) [*]

@[simp] theorem State.kilnLogWrite_ok {s : State} {b : Bytes} (h : State.Ok Q ps s) :
    State.Ok Q ps (State.kilnLogWrite s b).1 := by
  unfold State.kilnLogWrite; (repeat' split) <;> simp (maxDischargeDepth := 40) (contextual := true) [*]

@[simp] theorem State.kilnBeacon_ok {s : State} {b : Bytes} (h : State.Ok Q ps s) :
    State.Ok Q ps (State.kilnBeacon s b) := by
  unfold State.kilnBeacon; simp (maxDischargeDepth := 40) (contextual := true) [*]

@[simp] theorem State.startVerify_ok {s : State} {faddr total : Nat} {id : Bytes} (h : State.Ok Q ps s) :
    State.Ok Q ps (State.startVerify s faddr total id) := by
  unfold State.startVerify; simp (maxDischargeDepth := 40) (contextual := true) [*]

@[simp] theorem State.kilnApplied_ok {s : State} {id : Bytes} (h : State.Ok Q ps s) :
    State.Ok Q ps (State.kilnApplied s id).1 := by
  unfold State.kilnApplied; (repeat' split) <;> simp (maxDischargeDepth := 40) (contextual := true) [*]

@[simp] theorem State.parkRing_ok {s : State} {e : Eng} {k : Nat} (h : State.Ok Q ps s) :
    State.Ok Q ps (State.parkRing s e k) := by
  unfold State.parkRing; simp (maxDischargeDepth := 40) (contextual := true) [*]

@[simp] theorem State.parkCore_ok {s : State} {k : Fin 2} (h : State.Ok Q ps s) :
    State.Ok Q ps (State.parkCore s k) := by
  unfold State.parkCore; (repeat' split) <;> simp (maxDischargeDepth := 40) (contextual := true) [*]

@[simp] theorem State.prepare_ok {s : State} {k : Nat} (h : State.Ok Q ps s) :
    State.Ok Q ps (State.prepare s k) := by
  unfold State.prepare; (repeat' split) <;> simp (maxDischargeDepth := 40) (contextual := true) [*]

@[simp] theorem State.kilnDo_ok {s : State} {d : Desc} {b : Bytes} (h : State.Ok Q ps s) :
    State.Ok Q ps (State.kilnDo s d b).1 := by
  unfold State.kilnDo; (repeat' split) <;> simp (maxDischargeDepth := 40) (contextual := true) [*]

@[simp] theorem State.runKiln_ok {s : State} {d : Desc} {tmo : Bool} (h : State.Ok Q ps s) :
    State.Ok Q ps (State.runKiln s d tmo) := by
  unfold State.runKiln; dsimp only; (repeat' split) <;> simp (maxDischargeDepth := 40) (contextual := true) [*]

@[simp] theorem State.kilnOp_ok {s : State} {op : Nat} {sub : Option Nat} (h : State.Ok Q ps s) :
    State.Ok Q ps (State.kilnOp s op sub) := by
  unfold State.kilnOp; (repeat' split) <;> simp (maxDischargeDepth := 40) (contextual := true) [*]

@[simp] theorem execLogWrite_ok {s : State} (h : State.Ok Q ps s) :
    OutOk Q ps (execLogWrite s) := by
  unfold execLogWrite; simp (maxDischargeDepth := 40) (contextual := true) [*]

@[simp] theorem execLogRead_ok {s : State} (h : State.Ok Q ps s) :
    OutOk Q ps (execLogRead s) := by
  unfold execLogRead; simp (maxDischargeDepth := 40) (contextual := true) [*]

@[simp] theorem execTimeGet_ok {s : State} (h : State.Ok Q ps s) :
    OutOk Q ps (execTimeGet s) := by
  unfold execTimeGet; simp (maxDischargeDepth := 40) (contextual := true) [*]

@[simp] theorem execBeaconHandover_ok {s : State} (h : State.Ok Q ps s) :
    OutOk Q ps (execBeaconHandover s) := by
  unfold execBeaconHandover; simp (maxDischargeDepth := 40) (contextual := true) [*]

@[simp] theorem execBundleVerify_ok {s : State} (h : State.Ok Q ps s) :
    OutOk Q ps (execBundleVerify s) := by
  unfold execBundleVerify; simp (maxDischargeDepth := 40) (contextual := true) [*]

@[simp] theorem execBundleStatus_ok {s : State} (h : State.Ok Q ps s) :
    OutOk Q ps (execBundleStatus s) := by
  unfold execBundleStatus; simp (maxDischargeDepth := 40) (contextual := true) [*]

@[simp] theorem execBundleApplied_ok {s : State} (h : State.Ok Q ps s) :
    OutOk Q ps (execBundleApplied s) := by
  unfold execBundleApplied; simp (maxDischargeDepth := 40) (contextual := true) [*]

@[simp] theorem execRecordRead_ok {s : State} (h : State.Ok Q ps s) :
    OutOk Q ps (execRecordRead s) := by
  unfold execRecordRead; simp (maxDischargeDepth := 40) (contextual := true) [*]

@[simp] theorem execRestart_ok {s : State} (h : State.Ok Q ps s) :
    OutOk Q ps (execRestart s) := by
  unfold execRestart; simp (maxDischargeDepth := 40) (contextual := true) [*]

@[simp] theorem execSelftestRequest_ok {s : State} (h : State.Ok Q ps s) :
    OutOk Q ps (execSelftestRequest s) := by
  unfold execSelftestRequest; simp (maxDischargeDepth := 40) (contextual := true) [*]

@[simp] theorem execSelftestPrepared_ok {s : State} (h : State.Ok Q ps s) :
    OutOk Q ps (execSelftestPrepared s) := by
  unfold execSelftestPrepared; simp (maxDischargeDepth := 40) (contextual := true) [*]

@[simp] theorem execSelftestResult_ok {s : State} (h : State.Ok Q ps s) :
    OutOk Q ps (execSelftestResult s) := by
  unfold execSelftestResult; simp (maxDischargeDepth := 40) (contextual := true) [*]

@[simp] theorem State.stage_ok {s : State} {x2 : Bundle} (h : State.Ok Q ps s) :
    State.Ok Q ps (State.stage s x2) := by
  unfold State.stage; simp (maxDischargeDepth := 40) (contextual := true) [*]

@[simp] theorem State.bundlePassed_ok {s : State} {x2 : Bundle} (h : State.Ok Q ps s) :
    State.Ok Q ps (State.bundlePassed s x2) := by
  unfold State.bundlePassed; simp (maxDischargeDepth := 40) (contextual := true) [*]

@[simp] theorem execVerificationDone_ok {lmsOk eccOk credSigOk badPage : Bool} {s : State} (h : State.Ok Q ps s) :
    OutOk Q ps (execVerificationDone lmsOk eccOk credSigOk badPage s) := by
  unfold execVerificationDone; (repeat' split) <;> simp (maxDischargeDepth := 40) (contextual := true) [*]

@[simp] theorem State.logCopy_ok {s : State} {code : Nat} {x3 : Install} {bank : Nat} (h : State.Ok Q ps s) :
    State.Ok Q ps (State.logCopy s code x3 bank) := by
  unfold State.logCopy; simp (maxDischargeDepth := 40) (contextual := true) [*]

@[simp] theorem State.installWheel_ok {s : State} {x2 : Bundle} {ok : Bool} (h : State.Ok Q ps s) :
    State.Ok Q ps (State.installWheel s x2 ok) := by
  unfold State.installWheel; simp (maxDischargeDepth := 40) (contextual := true) [*]

@[simp] theorem State.raiseApplet_ok {s : State} {x2 : Bundle} (h : State.Ok Q ps s) :
    State.Ok Q ps (State.raiseApplet s x2) := by
  unfold State.raiseApplet; simp (maxDischargeDepth := 40) (contextual := true) [*]

@[simp] theorem State.installApplet_ok {s : State} {x2 : Bundle} {ok1 ok2 : Bool} (h : State.Ok Q ps s) :
    State.Ok Q ps (State.installApplet s x2 ok1 ok2) := by
  unfold State.installApplet; simp (maxDischargeDepth := 40) (contextual := true) [*]

@[simp] theorem execInstallDone_ok {ok1 ok2 : Bool} {s : State} (h : State.Ok Q ps s) :
    OutOk Q ps (execInstallDone ok1 ok2 s) := by
  unfold execInstallDone; simp (maxDischargeDepth := 40) (contextual := true) [*]

@[simp] theorem execScheduledRun_ok {s : State} (h : State.Ok Q ps s) :
    OutOk Q ps (execScheduledRun s) := by
  unfold execScheduledRun; simp (maxDischargeDepth := 40) (contextual := true) [*]

@[simp] theorem State.runOn_ok {s : State} {r : StRun} (h : State.Ok Q ps s) :
    State.Ok Q ps (State.runOn s r) := by
  unfold State.runOn; simp (maxDischargeDepth := 40) (contextual := true) [*]

@[simp] theorem State.afterTest_ok {s : State} {k : Nat} (h : State.Ok Q ps s) :
    State.Ok Q ps (State.afterTest s k) := by
  unfold State.afterTest; simp (maxDischargeDepth := 40) (contextual := true) [*]

@[simp] theorem execPartitionTestDone_ok {k : Nat} {sig : Bytes} {faulty : Bool} {bad : List Nat} {s : State} (h : State.Ok Q ps s) :
    OutOk Q ps (execPartitionTestDone k sig faulty bad s) := by
  unfold execPartitionTestDone; (repeat' split) <;> simp (maxDischargeDepth := 40) (contextual := true) [*]

@[simp] theorem execRunWindowClose_ok {s : State} (h : State.Ok Q ps s) :
    OutOk Q ps (execRunWindowClose s) := by
  unfold execRunWindowClose; (repeat' split) <;> simp (maxDischargeDepth := 40) (contextual := true) [*]

end Sys2Proof.Machine
end

