-- ==== Sys2Proof/Laws/KeepCommands.lean ====
section
/-! SUPPORT. Every operation and every meaning keeps the queue and the invariant (part 5 of 5): one lemma for each, in the order of the
model. -/

namespace Sys2Proof.Machine

open Sys2Proof

variable {Q : Prop} {ps : List Instr}

@[simp] theorem execHeartbeat_ok {s : State} (h : State.Ok Q ps s) :
    OutOk Q ps (execHeartbeat s) := by
  unfold execHeartbeat; (repeat' split) <;> simp (maxDischargeDepth := 40) (contextual := true) [*]

@[simp] theorem State.ringMessages_ok {s : State} (h : State.Ok Q ps s) :
    State.Ok Q ps (State.ringMessages s) := by
  unfold State.ringMessages; simp (maxDischargeDepth := 40) (contextual := true) [*]

@[simp] theorem State.cntMsg_ok {s : State} {group index : Nat} {l : List Nat} (h : State.Ok Q ps s) :
    State.Ok Q ps (State.cntMsg s group index l) := by
  unfold State.cntMsg; simp (maxDischargeDepth := 40) (contextual := true) [*]

@[simp] theorem State.cntMessages_ok {s : State} (h : State.Ok Q ps s) :
    State.Ok Q ps (State.cntMessages s) := by
  unfold State.cntMessages; (repeat' split) <;> simp (maxDischargeDepth := 40) (contextual := true) [*]

@[simp] theorem execOccPeriod_ok {window : Nat} {busy : List Nat} {s : State} (h : State.Ok Q ps s) :
    OutOk Q ps (execOccPeriod window busy s) := by
  unfold execOccPeriod; (repeat' split) <;> simp (maxDischargeDepth := 40) (contextual := true) [*]

@[simp] theorem State.pcMsg_ok {s : State} {k : Fin 2} (h : State.Ok Q ps s) :
    State.Ok Q ps (State.pcMsg s k) := by
  unfold State.pcMsg; (repeat' split) <;> simp (maxDischargeDepth := 40) (contextual := true) [*]

@[simp] theorem execPcSample_ok {s : State} (h : State.Ok Q ps s) :
    OutOk Q ps (execPcSample s) := by
  unfold execPcSample; simp (maxDischargeDepth := 40) (contextual := true) [*]

@[simp] theorem execOccSnap_ok {window : Nat} {busy : List Nat} {s : State} (h : State.Ok Q ps s) :
    OutOk Q ps (execOccSnap window busy s) := by
  unfold execOccSnap; simp (maxDischargeDepth := 40) (contextual := true) [*]

@[simp] theorem State.rerun_ok {s : State} {e : Eng} {k : Nat} {tmo : Bool} (h : State.Ok Q ps s) :
    State.Ok Q ps (State.rerun s e k tmo) := by
  unfold State.rerun; (repeat' split) <;> simp (maxDischargeDepth := 40) (contextual := true) [*]

@[simp] theorem State.releaseDma_ok {s : State} (h : State.Ok Q ps s) :
    State.Ok Q ps (State.releaseDma s) := by
  unfold State.releaseDma
  refine foldl_ok (fun t x ht => ?_) h _
  split <;> simp (maxDischargeDepth := 40) (contextual := true) [*]

@[simp] theorem State.regCapture_ok {s : State} {b o : Nat} (h : State.Ok Q ps s) :
    State.Ok Q ps (State.regCapture s b o) := by
  unfold State.regCapture; simp (maxDischargeDepth := 40) (contextual := true) [*]

@[simp] theorem landed_ok {s : State} {o : Out} (h : State.Ok Q ps s) (h2 : OutOk Q ps o) :
    State.Ok Q ps (landed s o) := by
  unfold landed
  split
  · exact h2
  · exact h

@[simp] theorem State.writeChan_ok {s : State} {c : Fin 16} {o v : Nat} (h : State.Ok Q ps s) :
    State.Ok Q ps (State.writeChan s c o v) := by
  unfold State.writeChan; (repeat' split) <;> simp (maxDischargeDepth := 40) (contextual := true) [*]

@[simp] theorem State.writeProt_ok {s : State} {k : Fin 2} {o v : Nat} (h : State.Ok Q ps s) :
    State.Ok Q ps (State.writeProt s k o v) := by
  unfold State.writeProt; (repeat' split) <;> simp (maxDischargeDepth := 40) (contextual := true) [*]

@[simp] theorem State.writeOwn_ok {s : State} {e : Eng} {o v : Nat} (h : State.Ok Q ps s) :
    State.Ok Q ps (State.writeOwn s e o v) := by
  unfold State.writeOwn; (repeat' split) <;> simp (maxDischargeDepth := 40) (contextual := true) [*]

@[simp] theorem State.writeEngReg_ok {s : State} {e : Eng} {o v : Nat} (h : State.Ok Q ps s) :
    State.Ok Q ps (State.writeEngReg s e o v) := by
  unfold State.writeEngReg; (repeat' split) <;> simp (maxDischargeDepth := 40) (contextual := true) [*]

@[simp] theorem State.writeSpy_ok {s : State} {o v : Nat} (h : State.Ok Q ps s) :
    State.Ok Q ps (State.writeSpy s o v) := by
  unfold State.writeSpy; (repeat' split) <;> simp (maxDischargeDepth := 40) (contextual := true) [*]

@[simp] theorem State.regStore_ok {s : State} {k : Fin 2} {b o v : Nat} (h : State.Ok Q ps s) :
    State.Ok Q ps (State.regStore s k b o v) := by
  unfold State.regStore; (repeat' split) <;> simp (maxDischargeDepth := 40) (contextual := true) [*]

@[simp] theorem State.regWrite_ok {s : State} {k : Fin 2} {x3 n v : Nat} (h : State.Ok Q ps s) :
    State.Ok Q ps (State.regWrite s k x3 n v) := by
  unfold State.regWrite; simp (maxDischargeDepth := 40) (contextual := true) [*]

@[simp] theorem State.setReg_ok {s : State} {k : Fin 2} {rd : Fin 32} {v : Nat} (h : State.Ok Q ps s) :
    State.Ok Q ps (State.setReg s k rd v) := by
  unfold State.setReg; simp (maxDischargeDepth := 40) (contextual := true) [*]

@[simp] theorem State.retire_ok {s : State} {k : Fin 2} {n : Nat} (h : State.Ok Q ps s) :
    State.Ok Q ps (State.retire s k n) := by
  unfold State.retire; simp (maxDischargeDepth := 40) (contextual := true) [*]

@[simp] theorem State.exception_ok {s : State} {k : Fin 2} {cause tval : Nat} (h : State.Ok Q ps s) :
    State.Ok Q ps (State.exception s k cause tval) := by
  unfold State.exception; (repeat' split) <;> simp (maxDischargeDepth := 40) (contextual := true) [*]

@[simp] theorem State.accessFault_ok {s : State} {k : Fin 2} {w : Who} {t : AccType} {kind addr : Nat} (h : State.Ok Q ps s) :
    State.Ok Q ps (State.accessFault s k w t kind addr) := by
  unfold State.accessFault; simp (maxDischargeDepth := 40) (contextual := true) [*]

@[simp] theorem State.sramBad_ok {s : State} {x2 : Nat} (h : State.Ok Q ps s) :
    State.Ok Q ps (State.sramBad s x2) := h

@[simp] theorem State.ldmSpoil_ok {s : State} {k : Fin 2} {x3 : Nat} (h : State.Ok Q ps s) :
    State.Ok Q ps (State.ldmSpoil s k x3) := h

@[simp] theorem State.sramStore_ok {s : State} {e : StoreEnt} {ecc : Ecc} (h : State.Ok Q ps s) :
    State.Ok Q ps (State.sramStore s e ecc) := by
  have h1 : State.Ok Q ps { s with mem := storeWrite s.mem e } := by
    rw [ok_mk]
    exact okF_mem h (fun hb => storeWrite_wf (h.2 hb).1 _)
  unfold State.sramStore
  dsimp only
  repeat' split
  all_goals exact h1

@[simp] theorem State.drainOne_ok {s : State} {k : Fin 2} {ecc : Ecc} (h : State.Ok Q ps s) :
    State.Ok Q ps (State.drainOne s k ecc) := by
  unfold State.drainOne
  split
  · exact h
  · rename_i e l hl
    have h1 : ((s.sramStore e ecc).updCore k (fun c => { c with sbuf := l })).Ok Q ps := by
      refine State.updCore_val_ok (State.sramStore_ok h) k (fun hb => ?_)
      have := h.core hb k
      unfold Core.Ok at this
      rw [hl] at this
      exact Nat.le_of_succ_le this
    dsimp only
    split <;> simp (maxDischargeDepth := 40) (contextual := true) [*]

@[simp] theorem State.drainAll_ok {s : State} {k : Fin 2} (h : State.Ok Q ps s) :
    State.Ok Q ps (State.drainAll s k) := by
  unfold State.drainAll; simp (maxDischargeDepth := 40) (contextual := true) [*]

@[simp] theorem State.loaded_ok {s : State} {k : Fin 2} {v n : Nat} {signed : Bool} {rd : Fin 32} (h : State.Ok Q ps s) :
    State.Ok Q ps (State.loaded s k v n signed rd) := by
  unfold State.loaded; simp (maxDischargeDepth := 40) (contextual := true) [*]

@[simp] theorem State.loadSram_ok {s : State} {k : Fin 2} {w : Who} {x4 n : Nat} {signed : Bool} {rd : Fin 32} {ecc : Ecc} (h : State.Ok Q ps s) :
    State.Ok Q ps (State.loadSram s k w x4 n signed rd ecc) := by
  unfold State.loadSram; simp (maxDischargeDepth := 40) (contextual := true) [*]

@[simp] theorem State.loadFlash_ok {s : State} {k : Fin 2} {w : Who} {x4 n : Nat} {signed : Bool} {rd : Fin 32} {ecc : Ecc} (h : State.Ok Q ps s) :
    State.Ok Q ps (State.loadFlash s k w x4 n signed rd ecc) := by
  unfold State.loadFlash; simp (maxDischargeDepth := 40) (contextual := true) [*]

@[simp] theorem State.loadLdm_ok {s : State} {k : Fin 2} {w : Who} {x4 n : Nat} {signed : Bool} {rd : Fin 32} {ecc : Ecc} (h : State.Ok Q ps s) :
    State.Ok Q ps (State.loadLdm s k w x4 n signed rd ecc) := by
  unfold State.loadLdm; simp (maxDischargeDepth := 40) (contextual := true) [*]

@[simp] theorem State.loadReg_ok {s : State} {k : Fin 2} {x3 n : Nat} {signed : Bool} {rd : Fin 32} (h : State.Ok Q ps s) :
    State.Ok Q ps (State.loadReg s k x3 n signed rd) := by
  unfold State.loadReg
  exact State.loaded_ok (State.regCapture_ok (State.drainAll_ok h))

@[simp] theorem State.performLoad_ok {s : State} {k : Fin 2} {w : Who} {x4 n : Nat} {signed : Bool} {rd : Fin 32} {ecc : Ecc} (h : State.Ok Q ps s) :
    State.Ok Q ps (State.performLoad s k w x4 n signed rd ecc) := by
  unfold State.performLoad; (repeat' split) <;> simp (maxDischargeDepth := 40) (contextual := true) [*]

@[simp] theorem State.coreLoad_ok {s : State} {k : Fin 2} {x3 n : Nat} {signed : Bool} {rd : Fin 32} {ecc : Ecc} (h : State.Ok Q ps s) :
    State.Ok Q ps (State.coreLoad s k x3 n signed rd ecc) := by
  unfold State.coreLoad; simp (maxDischargeDepth := 40) (contextual := true) [*]

@[simp] theorem State.storeLdm_ok {s : State} {k : Fin 2} {x3 n v : Nat} {ecc : Ecc} (h : State.Ok Q ps s) :
    State.Ok Q ps (State.storeLdm s k x3 n v ecc) := by
  have h1 : State.Ok Q ps { s with ldm := s.ldm.set k (writeBytes s.ldm[k] x3 (leBytes n v)) } := by
    rw [ok_mk]
    exact okF_ldm h (fun hb => ldm_set_wf h hb _ _ _)
  unfold State.storeLdm
  dsimp only
  repeat' split
  all_goals exact h1

@[simp] theorem State.performStore_ok {s : State} {k : Fin 2} {w : Who} {x4 n v : Nat} {ecc : Ecc} (h : State.Ok Q ps s) :
    State.Ok Q ps (State.performStore s k w x4 n v ecc) := by
  unfold State.performStore
  repeat' split
  · simp (maxDischargeDepth := 40) (contextual := true) [*]
  · rename_i h1
    refine State.retire_ok (State.updCore_val_ok h k (fun hb => ?_))
    simp only [State.storeEnters, Bool.and_eq_true, decide_eq_true_eq] at h1
    show List.length (_ ++ _) ≤ 4
    rw [List.length_append]
    simp only [List.length_cons, List.length_nil]
    omega
  all_goals simp (maxDischargeDepth := 40) (contextual := true) [*]

@[simp] theorem State.unstall_ok {s : State} {k : Fin 2} (h : State.Ok Q ps s) :
    State.Ok Q ps (State.unstall s k) := by
  unfold State.unstall; (repeat' split) <;> simp (maxDischargeDepth := 40) (contextual := true) [*]

@[simp] theorem State.coreStore_ok {s : State} {k : Fin 2} {x3 n v : Nat} {ecc : Ecc} (h : State.Ok Q ps s) :
    State.Ok Q ps (State.coreStore s k x3 n v ecc) := by
  unfold State.coreStore; simp (maxDischargeDepth := 40) (contextual := true) [*]

@[simp] theorem State.dropHeld_ok {s : State} {h : HeldAcc} (h0 : State.Ok Q ps s) :
    State.Ok Q ps (State.dropHeld s h) := h0

@[simp] theorem State.resume_ok {s : State} {h : HeldAcc} (h0 : State.Ok Q ps s) :
    State.Ok Q ps (State.resume s h) := by
  unfold State.resume; (repeat' split) <;> simp (maxDischargeDepth := 40) (contextual := true) [*]

@[simp] theorem State.resumeCores_ok {s : State} (h : State.Ok Q ps s) :
    State.Ok Q ps (State.resumeCores s) := by
  unfold State.resumeCores; simp (maxDischargeDepth := 40) (contextual := true) [*]

@[simp] theorem State.timeoutHeld_ok {s : State} {h : HeldAcc} (h0 : State.Ok Q ps s) :
    State.Ok Q ps (State.timeoutHeld s h) := by
  unfold State.timeoutHeld; (repeat' split) <;> simp (maxDischargeDepth := 40) (contextual := true) [*]

@[simp] theorem State.serveIrq_ok {s : State} {en : Nat} (h : State.Ok Q ps s) :
    State.Ok Q ps (State.serveIrq s en) := h

@[simp] theorem State.takeInterrupt_ok {s : State} {k : Fin 2} (h : State.Ok Q ps s) :
    State.Ok Q ps (State.takeInterrupt s k) := by
  unfold State.takeInterrupt
  dsimp only
  repeat' split
  all_goals simp (maxDischargeDepth := 40) (contextual := true) [*]

@[simp] theorem execCoreLoad_ok {k : Fin 2} {addr : Word} {size : AccSize} {signed : Bool} {rd : Fin 32} {ecc : Ecc} {s : State} (h : State.Ok Q ps s) :
    OutOk Q ps (execCoreLoad k addr size signed rd ecc s) := by
  unfold execCoreLoad; simp (maxDischargeDepth := 40) (contextual := true) [*]

@[simp] theorem State.doStore_ok {s : State} {k : Fin 2} {x3 n v : Nat} {ecc : Ecc} (h : State.Ok Q ps s) :
    State.Ok Q ps (State.doStore s k x3 n v ecc) := by
  unfold State.doStore; simp (maxDischargeDepth := 40) (contextual := true) [*]

@[simp] theorem execCoreStore_ok {k : Fin 2} {addr : Word} {size : AccSize} {v : Word} {ecc : Ecc} {s : State} (h : State.Ok Q ps s) :
    OutOk Q ps (execCoreStore k addr size v ecc s) := by
  unfold execCoreStore; simp (maxDischargeDepth := 40) (contextual := true) [*]

@[simp] theorem execStoreDrain_ok {k : Fin 2} {ecc : Ecc} {s : State} (h : State.Ok Q ps s) :
    OutOk Q ps (execStoreDrain k ecc s) := by
  unfold execStoreDrain; simp (maxDischargeDepth := 40) (contextual := true) [*]

@[simp] theorem execFence_ok {k : Fin 2} {w r : Bool} {s : State} (h : State.Ok Q ps s) :
    OutOk Q ps (execFence k w r s) := by
  unfold execFence; simp (maxDischargeDepth := 40) (contextual := true) [*]

@[simp] theorem execFenceI_ok {k : Fin 2} {s : State} (h : State.Ok Q ps s) :
    OutOk Q ps (execFenceI k s) := by
  unfold execFenceI; simp (maxDischargeDepth := 40) (contextual := true) [*]

@[simp] theorem execException_ok {k : Fin 2} {cause : Fin 8} {mtval : Word} {kind : Fin 9} {s : State} (h : State.Ok Q ps s) :
    OutOk Q ps (execException k cause mtval kind s) := by
  unfold execException; (repeat' split) <;> simp (maxDischargeDepth := 40) (contextual := true) [*]

@[simp] theorem execInterrupt_ok {k : Fin 2} {s : State} (h : State.Ok Q ps s) :
    OutOk Q ps (execInterrupt k s) := by
  unfold execInterrupt; simp (maxDischargeDepth := 40) (contextual := true) [*]

@[simp] theorem execCacheParityError_ok {k : Fin 2} {addr : Word} {s : State} (h : State.Ok Q ps s) :
    OutOk Q ps (execCacheParityError k addr s) := by
  unfold execCacheParityError; simp (maxDischargeDepth := 40) (contextual := true) [*]

@[simp] theorem State.csrAccess_ok {s : State} {k : Fin 2} {f : State → State} (h : State.Ok Q ps s) (h2 : ∀ (a : State), State.Ok Q ps a → State.Ok Q ps (f a)) :
    State.Ok Q ps (State.csrAccess s k f) := by
  unfold State.csrAccess; simp (maxDischargeDepth := 40) (contextual := true) [*]

@[simp] theorem State.handover_ok {s : State} {k : Fin 2} (h : State.Ok Q ps s) :
    State.Ok Q ps (State.handover s k) := by
  unfold State.handover; simp (maxDischargeDepth := 40) (contextual := true) [*]

@[simp] theorem execPHandover_ok {k : Fin 2} {s : State} (h : State.Ok Q ps s) :
    OutOk Q ps (execPHandover k s) := by
  unfold execPHandover; simp (maxDischargeDepth := 40) (contextual := true) [*]

@[simp] theorem State.ipiRaise_ok {s : State} {k : Fin 2} (h : State.Ok Q ps s) :
    State.Ok Q ps (State.ipiRaise s k) := by
  unfold State.ipiRaise; simp (maxDischargeDepth := 40) (contextual := true) [*]

@[simp] theorem execIpiRaise_ok {k : Fin 2} {s : State} (h : State.Ok Q ps s) :
    OutOk Q ps (execIpiRaise k s) := by
  unfold execIpiRaise; simp (maxDischargeDepth := 40) (contextual := true) [*]

@[simp] theorem execIpiClear_ok {k : Fin 2} {s : State} (h : State.Ok Q ps s) :
    OutOk Q ps (execIpiClear k s) := by
  unfold execIpiClear; simp (maxDischargeDepth := 40) (contextual := true) [*]

@[simp] theorem execProtCommit_ok {k : Fin 2} {s : State} (h : State.Ok Q ps s) :
    OutOk Q ps (execProtCommit k s) := by
  unfold execProtCommit; simp (maxDischargeDepth := 40) (contextual := true) [*]

@[simp] theorem State.commitInstant_ok {s : State} (h : State.Ok Q ps s) :
    State.Ok Q ps (State.commitInstant s) := by
  have h1 : ((s.drainAll 0).drainAll 1).Ok Q ps := State.drainAll_ok (State.drainAll_ok h)
  have h2 : State.Ok Q ps { (s.drainAll 0).drainAll 1 with prot := ((s.drainAll 0).drainAll 1).prot.apply, core := ((s.drainAll 0).drainAll 1).core.map (fun (c : Core) => { c with icache := [] }) } := by
    rw [ok_mk]
    exact okF_core h1 (fun hb => core_map_ok (fun x hx => hx) h1 hb)
  exact State.resumeCores_ok (State.releaseDma_ok (State.unstall_ok (State.unstall_ok h2)))

@[simp] theorem execCommitInstant_ok {s : State} (h : State.Ok Q ps s) :
    OutOk Q ps (execCommitInstant s) := by
  unfold execCommitInstant; simp (maxDischargeDepth := 40) (contextual := true) [*]

@[simp] theorem execProtUpdate_ok {k : Fin 2} {v : Word} {s : State} (h : State.Ok Q ps s) :
    OutOk Q ps (execProtUpdate k v s) := by
  unfold execProtUpdate; simp (maxDischargeDepth := 40) (contextual := true) [*]

@[simp] theorem execHeldAccessTimeout_ok {s : State} (h : State.Ok Q ps s) :
    OutOk Q ps (execHeldAccessTimeout s) := by
  unfold execHeldAccessTimeout; (repeat' split) <;> simp (maxDischargeDepth := 40) (contextual := true) [*]

@[simp] theorem execProtProbe_ok {k : Fin 2} {v : Word} {s : State} (h : State.Ok Q ps s) :
    OutOk Q ps (execProtProbe k v s) := by
  unfold execProtProbe; simp (maxDischargeDepth := 40) (contextual := true) [*]

@[simp] theorem execRegionWrite_ok {k : Fin 2} {r : RegionReg} {v : Word} {s : State} (h : State.Ok Q ps s) :
    OutOk Q ps (execRegionWrite k r v s) := by
  unfold execRegionWrite; simp (maxDischargeDepth := 40) (contextual := true) [*]

@[simp] theorem State.csrStore_ok {s : State} {k : Fin 2} {x3 v : Nat} (h : State.Ok Q ps s) :
    State.Ok Q ps (State.csrStore s k x3 v) := by
  unfold State.csrStore
  split
  · split <;> simp (maxDischargeDepth := 40) (contextual := true) [*]
  · dsimp only
    repeat' split
    all_goals simp (maxDischargeDepth := 40) (contextual := true) [*]
  · split
    · rename_i c hc
      exact State.updCore_val_ok h k (fun hb => Core.csrWrite_ok (h.core hb k) _ _ hc)
    · exact h

@[simp] theorem execRegisterWrite_ok {k : Fin 2} {r : RegTarget} {v : Word} {s : State} (h : State.Ok Q ps s) :
    OutOk Q ps (execRegisterWrite k r v s) := by
  unfold execRegisterWrite; (repeat' split) <;> simp (maxDischargeDepth := 40) (contextual := true) [*]

@[simp] theorem State.callReturn_ok {s : State} {c : KCall} {code a1 : Nat} (h : State.Ok Q ps s) :
    State.Ok Q ps (State.callReturn s c code a1) := by
  unfold State.callReturn; simp (maxDischargeDepth := 40) (contextual := true) [*]

@[simp] theorem State.callRefuse_ok {s : State} {c : KCall} {code : Code} (h : State.Ok Q ps s) :
    State.Ok Q ps (State.callRefuse s c code) := by
  unfold State.callRefuse; simp (maxDischargeDepth := 40) (contextual := true) [*]

@[simp] theorem State.callWaits_ok {s : State} {c : KCall} {n : Nat} (h : State.Ok Q ps s) :
    State.Ok Q ps (State.callWaits s c n) := by
  unfold State.callWaits; simp (maxDischargeDepth := 40) (contextual := true) [*]

@[simp] theorem State.callNoted_ok {s : State} {c : KCall} (h : State.Ok Q ps s) :
    State.Ok Q ps (State.callNoted s c) := h

@[simp] theorem State.withBufs_ok {s : State} {c : KCall} {l : List CallBuf} {f : State → State} (h : State.Ok Q ps s) (h2 : ∀ (a : State), State.Ok Q ps a → State.Ok Q ps (f a)) :
    State.Ok Q ps (State.withBufs s c l f) := by
  unfold State.withBufs; simp (maxDischargeDepth := 40) (contextual := true) [*]

@[simp] theorem State.callChan_ok {s : State} {c : KCall} {n : Nat} {f : Fin 16 → State} (h : State.Ok Q ps s) (h2 : ∀ (a : Fin 16), State.Ok Q ps (f a)) :
    State.Ok Q ps (State.callChan s c n f) := by
  unfold State.callChan; simp (maxDischargeDepth := 40) (contextual := true) [*]

@[simp] theorem State.callWait_ok {s : State} {c : KCall} (h : State.Ok Q ps s) :
    State.Ok Q ps (State.callWait s c) := by
  unfold State.callWait; simp (maxDischargeDepth := 40) (contextual := true) [*]

@[simp] theorem State.callTime_ok {s : State} {c : KCall} (h : State.Ok Q ps s) :
    State.Ok Q ps (State.callTime s c) := by
  unfold State.callTime; simp (maxDischargeDepth := 40) (contextual := true) [*]

@[simp] theorem State.callQuiesce_ok {s : State} {c : KCall} (h : State.Ok Q ps s) :
    State.Ok Q ps (State.callQuiesce s c) := by
  unfold State.callQuiesce; simp (maxDischargeDepth := 40) (contextual := true) [*]

@[simp] theorem State.callChStatus_ok {s : State} {c : KCall} (h : State.Ok Q ps s) :
    State.Ok Q ps (State.callChStatus s c) := by
  unfold State.callChStatus; simp (maxDischargeDepth := 40) (contextual := true) [*]

@[simp] theorem State.callChEvent_ok {s : State} {c : KCall} (h : State.Ok Q ps s) :
    State.Ok Q ps (State.callChEvent s c) := by
  unfold State.callChEvent
  refine State.callChan_ok h (fun n => State.withBufs_ok h (fun t ht => ?_))
  split
  · simp (maxDischargeDepth := 40) (contextual := true) [*]
  · rename_i e l _
    have h1 : ((t.appStore c.core (c.a 1) (leBytes 8 e.word.toNat)).chOp n (fun x => { x with fifo := x.fifo.drop 1 })).Ok Q ps :=
      State.chOp_ok (f := fun x => { x with fifo := x.fifo.drop 1 }) (fun x hx => chanF_drop 1 hx) (State.appStore_ok ht) n
    have h2 : ∀ (q : Prop) [Decidable q] (u : State), u.Ok Q ps → State.Ok Q ps (if q then u else u.eventRecord n) := by
      intro q _ u hu
      split
      · exact hu
      · exact State.eventRecord_ok hu
    exact State.callReturn_ok (h2 _ _ (State.updLnk_ok h1))

@[simp] theorem State.callDecides_ok {s : State} {d n : Fin 16} (h : State.Ok Q ps s) :
    State.Ok Q ps (State.callDecides s d n) := by
  unfold State.callDecides; simp (maxDischargeDepth := 40) (contextual := true) [*]

@[simp] theorem State.callGrant_ok {s : State} {c : KCall} (h : State.Ok Q ps s) :
    State.Ok Q ps (State.callGrant s c) := by
  unfold State.callGrant; simp (maxDischargeDepth := 40) (contextual := true) [*]

@[simp] theorem State.callWithdraw_ok {s : State} {c : KCall} (h : State.Ok Q ps s) :
    State.Ok Q ps (State.callWithdraw s c) := by
  unfold State.callWithdraw; simp (maxDischargeDepth := 40) (contextual := true) [*]

@[simp] theorem State.callLinkReq_ok {s : State} {c : KCall} (h : State.Ok Q ps s) :
    State.Ok Q ps (State.callLinkReq s c) := by
  unfold State.callLinkReq; simp (maxDischargeDepth := 40) (contextual := true) [*]

@[simp] theorem State.callLinkAtn_ok {s : State} {c : KCall} (h : State.Ok Q ps s) :
    State.Ok Q ps (State.callLinkAtn s c) := by
  unfold State.callLinkAtn
  refine State.callChan_ok h (fun n => State.withBufs_ok h (fun t ht => ?_))
  split <;> simp (maxDischargeDepth := 40) (contextual := true) [*]

@[simp] theorem State.callLinkState_ok {s : State} {c : KCall} (h : State.Ok Q ps s) :
    State.Ok Q ps (State.callLinkState s c) := by
  unfold State.callLinkState; simp (maxDischargeDepth := 40) (contextual := true) [*]

@[simp] theorem State.callReport_ok {s : State} {c : KCall} (h : State.Ok Q ps s) :
    State.Ok Q ps (State.callReport s c) := by
  unfold State.callReport; simp (maxDischargeDepth := 40) (contextual := true) [*]

@[simp] theorem State.onKsm_ok {s0 : State} {c : KCall} {n : Nat} {counter : Bool} {f : State → State} (h : State.Ok Q ps s0) (h2 : ∀ (a : State), State.Ok Q ps a → State.Ok Q ps (f a)) :
    State.Ok Q ps (State.onKsm s0 c n counter f) := by
  unfold State.onKsm; simp (maxDischargeDepth := 40) (contextual := true) [*]

@[simp] theorem State.newCallKey_ok {s : State} {c : KCall} {d : Desc} {b : Bytes} (h : State.Ok Q ps s) :
    State.Ok Q ps (State.newCallKey s c d b) := by
  unfold State.newCallKey; dsimp only; (repeat' split) <;> simp (maxDischargeDepth := 40) (contextual := true) [*]

@[simp] theorem State.callKeyGen_ok {s : State} {c : KCall} (h : State.Ok Q ps s) :
    State.Ok Q ps (State.callKeyGen s c) := by
  unfold State.callKeyGen
  refine State.onKsm_ok h (fun t ht => ?_)
  dsimp only
  repeat' split
  all_goals simp (maxDischargeDepth := 40) (contextual := true) [*]

@[simp] theorem State.callKeyDerive_ok {s : State} {c : KCall} (h : State.Ok Q ps s) :
    State.Ok Q ps (State.callKeyDerive s c) := by
  unfold State.callKeyDerive
  dsimp only
  split
  · simp (maxDischargeDepth := 40) (contextual := true) [*]
  · refine State.withBufs_ok h (fun t0 h0 => State.onKsm_ok h0 (fun t ht => ?_))
    repeat' split
    all_goals simp (maxDischargeDepth := 40) (contextual := true) [*]

@[simp] theorem State.callKeyDelete_ok {s : State} {c : KCall} (h : State.Ok Q ps s) :
    State.Ok Q ps (State.callKeyDelete s c) := by
  unfold State.callKeyDelete
  split
  · simp (maxDischargeDepth := 40) (contextual := true) [*]
  · refine State.onKsm_ok h (fun t ht => ?_)
    repeat' split
    all_goals simp (maxDischargeDepth := 40) (contextual := true) [*]

@[simp] theorem State.callKeySign_ok {s : State} {c : KCall} (h : State.Ok Q ps s) :
    State.Ok Q ps (State.callKeySign s c) := by
  unfold State.callKeySign
  split
  · simp (maxDischargeDepth := 40) (contextual := true) [*]
  · refine State.withBufs_ok h (fun t0 h0 => State.onKsm_ok h0 (fun t ht => ?_))
    dsimp only
    split <;> simp (maxDischargeDepth := 40) (contextual := true) [*]

@[simp] theorem State.callCntRead_ok {s : State} {c : KCall} (h : State.Ok Q ps s) :
    State.Ok Q ps (State.callCntRead s c) := by
  unfold State.callCntRead; simp (maxDischargeDepth := 40) (contextual := true) [*]

@[simp] theorem State.callCntInc_ok {s : State} {c : KCall} (h : State.Ok Q ps s) :
    State.Ok Q ps (State.callCntInc s c) := by
  unfold State.callCntInc; simp (maxDischargeDepth := 40) (contextual := true) [*]

@[simp] theorem State.callMeasure_ok {s : State} {c : KCall} (h : State.Ok Q ps s) :
    State.Ok Q ps (State.callMeasure s c) := by
  unfold State.callMeasure; simp (maxDischargeDepth := 40) (contextual := true) [*]

@[simp] theorem State.callMetroLoad_ok {s : State} {c : KCall} (h : State.Ok Q ps s) :
    State.Ok Q ps (State.callMetroLoad s c) := by
  unfold State.callMetroLoad; simp (maxDischargeDepth := 40) (contextual := true) [*]

@[simp] theorem State.callFlashProg_ok {s : State} {c : KCall} (h : State.Ok Q ps s) :
    State.Ok Q ps (State.callFlashProg s c) := by
  unfold State.callFlashProg; simp (maxDischargeDepth := 40) (contextual := true) [*]

@[simp] theorem State.callFlashErase_ok {s : State} {c : KCall} (h : State.Ok Q ps s) :
    State.Ok Q ps (State.callFlashErase s c) := by
  unfold State.callFlashErase; simp (maxDischargeDepth := 40) (contextual := true) [*]

@[simp] theorem State.ecallEntry_ok {s : State} {k : Fin 2} (h : State.Ok Q ps s) :
    State.Ok Q ps (State.ecallEntry s k) := by
  unfold State.ecallEntry; simp (maxDischargeDepth := 40) (contextual := true) [*]

@[simp] theorem State.kernelCall_ok {s : State} {n : Nat} {c : KCall} (h : State.Ok Q ps s) :
    State.Ok Q ps (State.kernelCall s n c) := by
  have hT : ∀ n f, callTable n = some f → ∀ t c, State.Ok Q ps t → State.Ok Q ps (f t c) := by
    intro n f hf t c ht
    unfold callTable at hf
    split at hf
    all_goals first
      | (cases hf; simp (maxDischargeDepth := 40) (contextual := true) [*])
      | (simp at hf)
  unfold State.kernelCall
  dsimp only
  repeat' split
  all_goals first
    | (refine hT _ _ ‹_› _ _ ?_; simp (maxDischargeDepth := 40) (contextual := true) [*])
    | simp (maxDischargeDepth := 40) (contextual := true) [*]

@[simp] theorem State.callNo_ok {s : State} {k : Fin 2} {n : Nat} (h : State.Ok Q ps s) :
    State.Ok Q ps (State.callNo s k n) := by
  unfold State.callNo; (repeat' split) <;> simp (maxDischargeDepth := 40) (contextual := true) [*]

@[simp] theorem State.retryCall_ok {s : State} {d : Fin 16} {k : Fin 2} (h : State.Ok Q ps s) :
    State.Ok Q ps (State.retryCall s d k) := by
  have hT : ∀ n f, callTable n = some f → ∀ t c, State.Ok Q ps t → State.Ok Q ps (f t c) := by
    intro n f hf t c ht
    unfold callTable at hf
    split at hf
    all_goals first
      | (cases hf; simp (maxDischargeDepth := 40) (contextual := true) [*])
      | (simp at hf)
  unfold State.retryCall
  repeat' split
  all_goals first
    | exact h
    | (refine hT _ _ ‹_› _ _ ?_; simp (maxDischargeDepth := 40) (contextual := true) [*])

@[simp] theorem State.retryCalls_ok {s : State} (h : State.Ok Q ps s) :
    State.Ok Q ps (State.retryCalls s) := by
  unfold State.retryCalls; simp (maxDischargeDepth := 40) (contextual := true) [*]

@[simp] theorem execEcall_ok {k : Fin 2} {s : State} (h : State.Ok Q ps s) :
    OutOk Q ps (execEcall k s) := by
  unfold execEcall; (repeat' split) <;> simp (maxDischargeDepth := 40) (contextual := true) [*]

@[simp] theorem execWait_ok {k : Fin 2} {s : State} (h : State.Ok Q ps s) :
    OutOk Q ps (execWait k s) := by
  unfold execWait; simp (maxDischargeDepth := 40) (contextual := true) [*]

@[simp] theorem execWaitReturn_ok {d : Fin 16} {k : Fin 2} {s : State} (h : State.Ok Q ps s) :
    OutOk Q ps (execWaitReturn d k s) := by
  unfold execWaitReturn; (repeat' split) <;> simp (maxDischargeDepth := 40) (contextual := true) [*]

@[simp] theorem execCallTime_ok {k : Fin 2} {s : State} (h : State.Ok Q ps s) :
    OutOk Q ps (execCallTime k s) := by
  unfold execCallTime; simp (maxDischargeDepth := 40) (contextual := true) [*]

@[simp] theorem execQuiesce_ok {k : Fin 2} {s : State} (h : State.Ok Q ps s) :
    OutOk Q ps (execQuiesce k s) := by
  unfold execQuiesce; simp (maxDischargeDepth := 40) (contextual := true) [*]

@[simp] theorem execChStatus_ok {k : Fin 2} {s : State} (h : State.Ok Q ps s) :
    OutOk Q ps (execChStatus k s) := by
  unfold execChStatus; simp (maxDischargeDepth := 40) (contextual := true) [*]

@[simp] theorem execChEvent_ok {k : Fin 2} {s : State} (h : State.Ok Q ps s) :
    OutOk Q ps (execChEvent k s) := by
  unfold execChEvent; simp (maxDischargeDepth := 40) (contextual := true) [*]

@[simp] theorem execCallGrant_ok {k : Fin 2} {s : State} (h : State.Ok Q ps s) :
    OutOk Q ps (execCallGrant k s) := by
  unfold execCallGrant; simp (maxDischargeDepth := 40) (contextual := true) [*]

@[simp] theorem execCallWithdraw_ok {k : Fin 2} {s : State} (h : State.Ok Q ps s) :
    OutOk Q ps (execCallWithdraw k s) := by
  unfold execCallWithdraw; simp (maxDischargeDepth := 40) (contextual := true) [*]

@[simp] theorem execLinkReq_ok {k : Fin 2} {s : State} (h : State.Ok Q ps s) :
    OutOk Q ps (execLinkReq k s) := by
  unfold execLinkReq; simp (maxDischargeDepth := 40) (contextual := true) [*]

@[simp] theorem execLinkAtn_ok {k : Fin 2} {s : State} (h : State.Ok Q ps s) :
    OutOk Q ps (execLinkAtn k s) := by
  unfold execLinkAtn; simp (maxDischargeDepth := 40) (contextual := true) [*]

@[simp] theorem execLinkState_ok {k : Fin 2} {s : State} (h : State.Ok Q ps s) :
    OutOk Q ps (execLinkState k s) := by
  unfold execLinkState; simp (maxDischargeDepth := 40) (contextual := true) [*]

@[simp] theorem execReport_ok {k : Fin 2} {s : State} (h : State.Ok Q ps s) :
    OutOk Q ps (execReport k s) := by
  unfold execReport; simp (maxDischargeDepth := 40) (contextual := true) [*]

@[simp] theorem execKeyGen_ok {k : Fin 2} {s : State} (h : State.Ok Q ps s) :
    OutOk Q ps (execKeyGen k s) := by
  unfold execKeyGen; simp (maxDischargeDepth := 40) (contextual := true) [*]

@[simp] theorem execKeyDerive_ok {k : Fin 2} {s : State} (h : State.Ok Q ps s) :
    OutOk Q ps (execKeyDerive k s) := by
  unfold execKeyDerive; simp (maxDischargeDepth := 40) (contextual := true) [*]

@[simp] theorem execKeyDelete_ok {k : Fin 2} {s : State} (h : State.Ok Q ps s) :
    OutOk Q ps (execKeyDelete k s) := by
  unfold execKeyDelete; simp (maxDischargeDepth := 40) (contextual := true) [*]

@[simp] theorem execKeySign_ok {k : Fin 2} {s : State} (h : State.Ok Q ps s) :
    OutOk Q ps (execKeySign k s) := by
  unfold execKeySign; simp (maxDischargeDepth := 40) (contextual := true) [*]

@[simp] theorem execCallCntRead_ok {k : Fin 2} {s : State} (h : State.Ok Q ps s) :
    OutOk Q ps (execCallCntRead k s) := by
  unfold execCallCntRead; simp (maxDischargeDepth := 40) (contextual := true) [*]

@[simp] theorem execCallCntInc_ok {k : Fin 2} {s : State} (h : State.Ok Q ps s) :
    OutOk Q ps (execCallCntInc k s) := by
  unfold execCallCntInc; simp (maxDischargeDepth := 40) (contextual := true) [*]

@[simp] theorem execCallMeasure_ok {k : Fin 2} {s : State} (h : State.Ok Q ps s) :
    OutOk Q ps (execCallMeasure k s) := by
  unfold execCallMeasure; simp (maxDischargeDepth := 40) (contextual := true) [*]

@[simp] theorem execMetroLoad_ok {k : Fin 2} {s : State} (h : State.Ok Q ps s) :
    OutOk Q ps (execMetroLoad k s) := by
  unfold execMetroLoad; simp (maxDischargeDepth := 40) (contextual := true) [*]

@[simp] theorem execFlashProg_ok {k : Fin 2} {s : State} (h : State.Ok Q ps s) :
    OutOk Q ps (execFlashProg k s) := by
  unfold execFlashProg; simp (maxDischargeDepth := 40) (contextual := true) [*]

@[simp] theorem execFlashErase_ok {k : Fin 2} {s : State} (h : State.Ok Q ps s) :
    OutOk Q ps (execFlashErase k s) := by
  unfold execFlashErase; simp (maxDischargeDepth := 40) (contextual := true) [*]

@[simp] theorem State.stuck_ok {s : State} {d : Fin 16} {k : Fin 2} (h : State.Ok Q ps s) :
    State.Ok Q ps (State.stuck s d k) := by
  unfold State.stuck; simp (maxDischargeDepth := 40) (contextual := true) [*]

@[simp] theorem execAppletStuck_ok {k : Fin 2} {s : State} (h : State.Ok Q ps s) :
    OutOk Q ps (execAppletStuck k s) := by
  unfold execAppletStuck; (repeat' split) <;> simp (maxDischargeDepth := 40) (contextual := true) [*]

@[simp] theorem execCpuWindow_ok {s : State} (h : State.Ok Q ps s) :
    OutOk Q ps (execCpuWindow s) := by
  unfold execCpuWindow; simp (maxDischargeDepth := 40) (contextual := true) [*]

@[simp] theorem execCpuBudgetUsed_ok {k : Fin 2} {s : State} (h : State.Ok Q ps s) :
    OutOk Q ps (execCpuBudgetUsed k s) := by
  unfold execCpuBudgetUsed; (repeat' split) <;> simp (maxDischargeDepth := 40) (contextual := true) [*]

@[simp] theorem execTimeSlice_ok {k : Fin 2} {s : State} (h : State.Ok Q ps s) :
    OutOk Q ps (execTimeSlice k s) := by
  unfold execTimeSlice; (repeat' split) <;> simp (maxDischargeDepth := 40) (contextual := true) [*]

@[simp] theorem State.abandonExchange_ok {s : State} {d : Fin 16} (h : State.Ok Q ps s) :
    State.Ok Q ps (State.abandonExchange s d) := by
  unfold State.abandonExchange; simp (maxDischargeDepth := 40) (contextual := true) [*]

@[simp] theorem execQuiesceTimeout_ok {d : Fin 16} {s : State} (h : State.Ok Q ps s) :
    OutOk Q ps (execQuiesceTimeout d s) := by
  unfold execQuiesceTimeout; (repeat' split) <;> simp (maxDischargeDepth := 40) (contextual := true) [*]

@[simp] theorem State.decideFor_ok {s : State} {d : Fin 16} (h : State.Ok Q ps s) :
    State.Ok Q ps (State.decideFor s d) := by
  unfold State.decideFor; simp (maxDischargeDepth := 40) (contextual := true) [*]

@[simp] theorem execDecideTimeout_ok {d : Fin 16} {s : State} (h : State.Ok Q ps s) :
    OutOk Q ps (execDecideTimeout d s) := by
  unfold execDecideTimeout; (repeat' split) <;> simp (maxDischargeDepth := 40) (contextual := true) [*]

@[simp] theorem execLoadResult_ok {f : SjRx} {s : State} (h : State.Ok Q ps s) :
    OutOk Q ps (execLoadResult f s) := by
  unfold execLoadResult; simp (maxDischargeDepth := 40) (contextual := true) [*]

@[simp] theorem execMeasure_ok {f : SjRx} {s : State} (h : State.Ok Q ps s) :
    OutOk Q ps (execMeasure f s) := by
  unfold execMeasure; simp (maxDischargeDepth := 40) (contextual := true) [*]

@[simp] theorem State.setClass_ok {s : State} {c : Fin 16} {k : EClass} {marginal : Bool} (h : State.Ok Q ps s) :
    State.Ok Q ps (State.setClass s c k marginal) := h

@[simp] theorem State.connectLamp_ok {s : State} {c : Fin 16} {marginal : Bool} (h : State.Ok Q ps s) :
    State.Ok Q ps (State.connectLamp s c marginal) := by
  unfold State.connectLamp; simp (maxDischargeDepth := 40) (contextual := true) [*]

@[simp] theorem State.parkFused_ok {s : State} {c : Fin 16} (h : State.Ok Q ps s) :
    State.Ok Q ps (State.parkFused s c) := by
  unfold State.parkFused; simp (maxDischargeDepth := 40) (contextual := true) [*]

@[simp] theorem State.firstPassCh_ok {s : State} {c : Fin 16} (h : State.Ok Q ps s) :
    State.Ok Q ps (State.firstPassCh s c) := by
  unfold State.firstPassCh; (repeat' split) <;> simp (maxDischargeDepth := 40) (contextual := true) [*]

@[simp] theorem execCodeFirstPass_ok {samples : List (Option Nat)} {s : State} (h : State.Ok Q ps s) :
    OutOk Q ps (execCodeFirstPass samples s) := by
  unfold execCodeFirstPass; simp (maxDischargeDepth := 40) (contextual := true) [*]

@[simp] theorem State.secondPassCh_ok {s : State} {c : Fin 16} (h : State.Ok Q ps s) :
    State.Ok Q ps (State.secondPassCh s c) := by
  unfold State.secondPassCh; dsimp only; (repeat' split) <;> simp (maxDischargeDepth := 40) (contextual := true) [*]

@[simp] theorem State.settleSherd_ok {s : State} (h : State.Ok Q ps s) :
    State.Ok Q ps (State.settleSherd s) := by
  unfold State.settleSherd; simp (maxDischargeDepth := 40) (contextual := true) [*]

@[simp] theorem execCodeSecondPass_ok {samples : List (Option Nat)} {s : State} (h : State.Ok Q ps s) :
    OutOk Q ps (execCodeSecondPass samples s) := by
  unfold execCodeSecondPass; simp (maxDischargeDepth := 40) (contextual := true) [*]

@[simp] theorem State.rereadPin_ok {s : State} {k : Fin 12} {x3 b : Option Nat} (h : State.Ok Q ps s) :
    State.Ok Q ps (State.rereadPin s k x3 b) := by
  unfold State.rereadPin; simp (maxDischargeDepth := 40) (contextual := true) [*]

@[simp] theorem execCodeRereadPass_ok {first second : List (Option Nat)} {s : State} (h : State.Ok Q ps s) :
    OutOk Q ps (execCodeRereadPass first second s) := by
  unfold execCodeRereadPass; simp (maxDischargeDepth := 40) (contextual := true) [*]

@[simp] theorem execTestEnHigh_ok {s : State} (h : State.Ok Q ps s) :
    OutOk Q ps (execTestEnHigh s) := by
  unfold execTestEnHigh; simp (maxDischargeDepth := 40) (contextual := true) [*]

@[simp] theorem execSvcAcceptedLow_ok {s : State} (h : State.Ok Q ps s) :
    OutOk Q ps (execSvcAcceptedLow s) := by
  unfold execSvcAcceptedLow; simp (maxDischargeDepth := 40) (contextual := true) [*]

@[simp] theorem State.svcLong_ok {s : State} {since_ : Nat} (h : State.Ok Q ps s) :
    State.Ok Q ps (State.svcLong s since_) := by
  unfold State.svcLong; simp (maxDischargeDepth := 40) (contextual := true) [*]

@[simp] theorem execSvcLongPress_ok {s : State} (h : State.Ok Q ps s) :
    OutOk Q ps (execSvcLongPress s) := by
  unfold execSvcLongPress; (repeat' split) <;> simp (maxDischargeDepth := 40) (contextual := true) [*]

@[simp] theorem execSvcStuck_ok {s : State} (h : State.Ok Q ps s) :
    OutOk Q ps (execSvcStuck s) := by
  unfold execSvcStuck; (repeat' split) <;> simp (maxDischargeDepth := 40) (contextual := true) [*]

@[simp] theorem execSvcPress_ok {s : State} (h : State.Ok Q ps s) :
    OutOk Q ps (execSvcPress s) := by
  unfold execSvcPress; (repeat' split) <;> simp (maxDischargeDepth := 40) (contextual := true) [*]

@[simp] theorem execDoorOpen_ok {s : State} (h : State.Ok Q ps s) :
    OutOk Q ps (execDoorOpen s) := by
  unfold execDoorOpen; simp (maxDischargeDepth := 40) (contextual := true) [*]

@[simp] theorem execDoorClose_ok {s : State} (h : State.Ok Q ps s) :
    OutOk Q ps (execDoorClose s) := by
  unfold execDoorClose; simp (maxDischargeDepth := 40) (contextual := true) [*]

@[simp] theorem exec_ok {i : Instr} {s : State} (h : State.Ok Q ps s) :
    OutOk Q ps (exec i s) := by
  cases i <;> (unfold exec; simp (maxDischargeDepth := 40) (contextual := true) [*])

@[simp] theorem State.spyDrain_ok {s : State} (h : State.Ok Q ps s) :
    State.Ok Q ps (State.spyDrain s) := by
  unfold State.spyDrain; simp (maxDischargeDepth := 40) (contextual := true) [*]

@[simp] theorem State.sleepIfDue_ok {s : State} (h : State.Ok Q ps s) :
    State.Ok Q ps (State.sleepIfDue s) := by
  unfold State.sleepIfDue; simp (maxDischargeDepth := 40) (contextual := true) [*]

@[simp] theorem State.idle_ok {s : State} (h : State.Ok Q ps s) :
    State.Ok Q ps (State.idle s) := by
  unfold State.idle; simp (maxDischargeDepth := 40) (contextual := true) [*]

@[simp] theorem State.withFetchWord_ok {s : State} {nbits w : Nat} (h : State.Ok Q ps s) :
    State.Ok Q ps (State.withFetchWord s nbits w) := h

end Sys2Proof.Machine
end

