-- ==== Sys2Proof/Laws/Logged.lean ====
section
/-! SUPPORT. What logging, reporting and the Spyhole leave alone: each of their operations leads to a `Logged` state. -/

namespace Sys2Proof.Machine

open Sys2Proof

theorem Logged.rfl' (s : State) : Logged s s := ⟨rfl, .inl rfl, .inl rfl⟩

theorem Logged.trans {s t u : State} (a : Logged s t) (b : Logged t u) : Logged s u := by
  obtain ⟨a1, a2, a3⟩ := a
  obtain ⟨b1, b2, b3⟩ := b
  refine ⟨by rw [b1, a1], ?_, ?_⟩
  · clear a1 b1 a3 b3; rcases b2 with b | ⟨b, b'⟩ <;> rcases a2 with a | ⟨a, a'⟩ <;> simp_all
  · clear a1 b1 a2 b2; rcases b3 with b | ⟨b, b'⟩ <;> rcases a3 with a | ⟨a, a'⟩ <;> simp_all

theorem wakeMain_logged (s : State) : Logged s s.wakeMain := by
  unfold State.wakeMain; split
  · rename_i h; exact ⟨rfl, .inr ⟨by simpa using h, rfl⟩, .inl rfl⟩
  · exact .rfl' _

theorem wakeKiln_logged (s : State) : Logged s s.wakeKiln := by
  unfold State.wakeKiln; split
  · rename_i h; exact ⟨rfl, .inl rfl, .inr ⟨by simp at h; exact h.2, rfl⟩⟩
  · exact .rfl' _

theorem emit_logged (s : State) (e : Emit) : Logged s (s.emit e) := ⟨rfl, .inl rfl, .inl rfl⟩
theorem tick1_logged (s : State) : Logged s s.tick1 := ⟨rfl, .inl rfl, .inl rfl⟩
theorem burn_logged (s : State) (w m : Nat) : Logged s (s.burn w m) := ⟨rfl, .inl rfl, .inl rfl⟩

theorem compactDue_logged (s : State) : Logged s s.compactDue := by
  unfold State.compactDue; dsimp only; (repeat' split) <;> first | exact ⟨rfl, .inl rfl, .inl rfl⟩

theorem journalProgram_logged (s : State) : Logged s s.journalProgram := by
  unfold State.journalProgram
  refine .trans ?_ (compactDue_logged _)
  unfold Ksm.program; split <;> exact ⟨rfl, .inl rfl, .inl rfl⟩

theorem journalAdd_logged (s : State) (e : JEntry) : Logged s (s.journalAdd e) := by
  unfold State.journalAdd; dsimp only; split
  · exact .trans ⟨rfl, .inl rfl, .inl rfl⟩ (journalProgram_logged _)
  · exact ⟨rfl, .inl rfl, .inl rfl⟩

theorem setCnt_logged (s : State) (k v : Nat) : Logged s { s with ksm := s.ksm.setCnt k v } := ⟨rfl, .inl rfl, .inl rfl⟩

theorem cntInc_logged (s : State) (k : Nat) : Logged s (s.cntInc k) := by
  unfold State.cntInc; dsimp only
  have h := (setCnt_logged s k (s.ksm.cntOf k + 1)).trans (journalAdd_logged _ (.inc k (s.ksm.cntOf k + 1)))
  split
  · exact h.trans (journalProgram_logged _)
  · exact h

theorem drbg_logged (s : State) : Logged s s.drbg := by
  unfold State.drbg Ksm.request; dsimp only; split <;> exact ⟨rfl, .inl rfl, .inl rfl⟩

theorem sign_logged (s : State) (r : Rec) : Logged s (s.sign r).1 := drbg_logged s

theorem programLog_logged (s : State) : Logged s s.programLog := by
  unfold State.programLog Kiln.programTail; dsimp only; (repeat' split) <;> exact ⟨rfl, .inl rfl, .inl rfl⟩

theorem writeEntry_logged (s : State) (c g o : Nat) (d : Bytes) (n : Bool) : Logged s (s.writeEntry c g o d n) := by
  unfold State.writeEntry; dsimp only; split
  · exact .trans ⟨rfl, .inl rfl, .inl rfl⟩ (programLog_logged _)
  · exact ⟨rfl, .inl rfl, .inl rfl⟩

/-- The fields of the uplink that a new record touches. -/
def SameUpl (u v : Upl) : Prop :=
  v = { u with ring := v.ring, wptr := v.wptr, held := v.held, dropped := v.dropped, todo := v.todo }

theorem upl_logged (s : State) (v : Upl) (h : SameUpl s.upl v) : Logged s { s with upl := v } :=
  ⟨congrArg (fun v => ({ s with upl := v } : State)) h, .inl rfl, .inl rfl⟩

theorem SameUpl.trans {u v w : Upl} (a : SameUpl u v) (b : SameUpl v w) : SameUpl u w := by
  unfold SameUpl at *; rw [b, a]

theorem eraseBlock_same (u : Upl) (b : Nat) : SameUpl u (u.eraseBlock b) := by
  unfold Upl.eraseBlock; dsimp only; split <;> rfl

theorem append_same (u : Upl) (r : Rec) : SameUpl u (u.append r) := by
  unfold Upl.append; dsimp only
  split <;> split
  · exact ((eraseBlock_same _ _).trans (eraseBlock_same _ _)).trans rfl
  · exact (eraseBlock_same _ _).trans rfl
  · exact (eraseBlock_same _ _).trans rfl
  · rfl

theorem retain_logged (s : State) (r : Rec) : Logged s (s.retain r) := by
  unfold State.retain; dsimp only; split
  · exact (wakeKiln_logged s).trans (writeEntry_logged _ _ _ _ _ _)
  · exact ((cntInc_logged s 1).trans (sign_logged _ _)).trans (upl_logged _ _ (append_same _ _))

theorem report_logged (s : State) (n : Nat) (b : Bytes) : Logged s (s.report n b) := by
  unfold State.report; dsimp only; (repeat' split)
  · exact wakeMain_logged s
  · exact (wakeMain_logged s).trans (upl_logged _ _ rfl)
  · exact (wakeMain_logged s).trans (retain_logged _ _)
  · exact (wakeMain_logged s).trans (upl_logged _ _ rfl)

theorem logEv_logged (s : State) (c g o : Nat) (d : Bytes) (r n : Bool) : Logged s (s.logEv c g o d r n) := by
  unfold State.logEv; dsimp only; (repeat' split)
  · exact ((wakeKiln_logged s).trans (writeEntry_logged _ _ _ _ _ _)).trans (report_logged _ _ _)
  · exact (wakeKiln_logged s).trans (writeEntry_logged _ _ _ _ _ _)
  · exact ⟨rfl, .inl rfl, .inl rfl⟩

theorem klog_logged (s : State) (c : Nat) (d : Bytes) : Logged s (s.klog c d) := logEv_logged _ _ _ _ _ _ _
theorem klogRep_logged (s : State) (c : Nat) (d : Bytes) : Logged s (s.klogRep c d) := logEv_logged _ _ _ _ _ _ _
theorem watch_logged (s : State) (c : Nat) (d : Bytes) : Logged s (s.watch c d) := logEv_logged _ _ _ _ _ _ _
theorem wlog_logged (s : State) (c g : Nat) (d : Bytes) (r : Bool) : Logged s (s.wlog c g d r) := logEv_logged _ _ _ _ _ _ _

theorem spySend_logged (s : State) (n : Nat) (p : Bytes) (l : Bool) : Logged s (s.spySend n p l) := by
  unfold State.spySend; dsimp only; (repeat' split) <;> first
    | exact .rfl' _
    | exact ⟨rfl, .inl rfl, .inl rfl⟩
    | exact (wakeKiln_logged s).trans ⟨rfl, .inl rfl, .inl rfl⟩

theorem spyEvent_logged (s : State) (a b c d e : Nat) (f : Bytes) : Logged s (s.spyEvent a b c d e f) := spySend_logged _ _ _ _

theorem foldl_logged {α : Type} (f : State → α → State) (h : ∀ s a, Logged s (f s a)) (l : List α) (s : State) : Logged s (l.foldl f s) := by
  induction l generalizing s with
  | nil => exact .rfl' s
  | cons a l ih => exact (h s a).trans (ih _)

theorem drainReports_logged (s : State) : Logged s s.drainReports := by
  unfold State.drainReports; dsimp only; split
  · exact .rfl' s
  · have h1 : Logged s { s with upl := { s.upl with held := [], todo := [] } } := upl_logged s { s.upl with held := [], todo := [] } rfl
    have h2 : ∀ (t : State) (r : Rec), Logged t (if t.canSign r then t.retain r else { t with upl := { t.upl with held := t.upl.held ++ [r] } }) := by
      intro t r; split
      · exact retain_logged t r
      · exact upl_logged t { t.upl with held := t.upl.held ++ [r] } rfl
    have h3 := foldl_logged _ h2 s.upl.held { s with upl := { s.upl with held := [], todo := [] } }
    have h4 := foldl_logged (fun (t : State) (e : Nat × Bytes) => t.report e.1 e.2) (fun t e => report_logged t e.1 e.2) s.upl.todo
    exact (h1.trans h3).trans (h4 _)

theorem drainLog_logged (s : State) : Logged s s.drainLog := by
  unfold State.drainLog; dsimp only; split
  · have h1 : Logged s { s with kiln := { s.kiln with todo := [] } } := ⟨rfl, .inl rfl, .inl rfl⟩
    exact h1.trans (foldl_logged (fun t p => t.logEv p.code p.grade p.source p.detail p.report)
      (fun t p => logEv_logged t p.code p.grade p.source p.detail p.report false) s.kiln.todo _)
  · exact .rfl' s

/-! ## What such a state reads as -/

section

variable {s t : State} (h : Logged s t)

include h

theorem Logged.pending : t.pending = s.pending := by rw [h.1]
theorem Logged.rails : t.rails = s.rails := by rw [h.1]
theorem Logged.tick : t.tick = s.tick := by rw [h.1]
theorem Logged.tickHi : t.tickHi = s.tickHi := by rw [h.1]
theorem Logged.straps : t.straps = s.straps := by rw [h.1]
theorem Logged.bins : t.bins = s.bins := by rw [h.1]
theorem Logged.clk : t.clk = s.clk := by rw [h.1]
theorem Logged.ch : t.ch = s.ch := by rw [h.1]
theorem Logged.link : t.link = s.link := by rw [h.1]
theorem Logged.opt : t.opt = s.opt := by rw [h.1]
theorem Logged.life : t.life = s.life := by rw [h.1]
theorem Logged.tamp : t.tamp = s.tamp := by rw [h.1]
theorem Logged.core : t.core = s.core := by rw [h.1]
theorem Logged.mem : t.mem = s.mem := by rw [h.1]
theorem Logged.ldm : t.ldm = s.ldm := by rw [h.1]
theorem Logged.memBad : t.memBad = s.memBad := by rw [h.1]
theorem Logged.ldmBad : t.ldmBad = s.ldmBad := by rw [h.1]
theorem Logged.memCorrected : t.memCorrected = s.memCorrected := by rw [h.1]
theorem Logged.memError : t.memError = s.memError := by rw [h.1]
theorem Logged.longScrubs : t.longScrubs = s.longScrubs := by rw [h.1]
theorem Logged.irq : t.irq = s.irq := by rw [h.1]
theorem Logged.prot : t.prot = s.prot := by rw [h.1]
theorem Logged.eng : t.eng = s.eng := by rw [h.1]
theorem Logged.aes : t.aes = s.aes := by rw [h.1]
theorem Logged.dig : t.dig = s.dig := by rw [h.1]
theorem Logged.wmu : t.wmu = s.wmu := by rw [h.1]
theorem Logged.flc : t.flc = s.flc := by rw [h.1]
theorem Logged.app : t.app = s.app := by rw [h.1]
theorem Logged.selft : t.selft = s.selft := by rw [h.1]
theorem Logged.met : t.met = s.met := by rw [h.1]
theorem Logged.sjm : t.sjm = s.sjm := by rw [h.1]
theorem Logged.chan (c : Fin 16) : t.chan c = s.chan c := by rw [h.1]; rfl
theorem Logged.lnk (c : Fin 16) : t.lnk c = s.lnk c := by rw [h.1]; rfl
theorem Logged.contract (c : Fin 16) : t.contract c = s.contract c := by rw [h.1]; rfl
theorem Logged.linkContract (c : Fin 16) : t.linkContract c = s.linkContract c := by rw [h.1]; rfl
theorem Logged.crazed : t.crazed = s.crazed := by rw [h.1]; rfl
theorem Logged.uplA : t.upl.a = s.upl.a := by rw [h.1]
theorem Logged.uplB : t.upl.b = s.upl.b := by rw [h.1]
theorem Logged.slots : t.ksm.slots = s.ksm.slots := by rw [h.1]
theorem Logged.phase : t.pwr.phase = s.pwr.phase := by rw [h.1]
theorem Logged.timeSt : t.kiln.timeSt = s.kiln.timeSt := by rw [h.1]

theorem Logged.mainUp : t.mainUp = s.mainUp := by
  obtain ⟨-, h, -⟩ := h
  unfold State.mainUp
  rcases h with h | ⟨h, h'⟩ <;> simp_all

theorem Logged.wheelUp : t.wheelUp = s.wheelUp := by
  unfold State.wheelUp; rw [h.mainUp, h.phase, h.life]

theorem Logged.mainRuns (r : s.mainRuns = true) : t.mainRuns = true := by
  obtain ⟨-, h, -⟩ := h
  unfold State.mainRuns at *
  rcases h with h | ⟨h, h'⟩ <;> simp_all

theorem Logged.linkServed (c : Fin 16) : t.linkServed c = s.linkServed c := by
  unfold State.linkServed; rw [h.wheelUp, h.chan, h.lnk]

end

end Sys2Proof.Machine
end

