-- ==== Sys2Proof/Laws/LinkOps.lean ====
section
/-! SUPPORT. What each shared operation of the field link does to the link it is for. -/

namespace Sys2Proof.Machine

open Sys2Proof

@[simp] theorem lnk_setLnk (s : State) (c d : Fin 16) (x : Link) : (s.setLnk c x).lnk d = if d = c then x else s.lnk d := vget_set _ _ _ _
@[simp] theorem lnk_updLnk (s : State) (c d : Fin 16) (f : Link → Link) : (s.updLnk c f).lnk d = if d = c then f (s.lnk c) else s.lnk d := vget_set _ _ _ _
@[simp] theorem chan_setLnk (s : State) (c d : Fin 16) (x : Link) : (s.setLnk c x).chan d = s.chan d := rfl
@[simp] theorem chan_updLnk (s : State) (c d : Fin 16) (f : Link → Link) : (s.updLnk c f).chan d = s.chan d := rfl
@[simp] theorem lnk_setCh (s : State) (c d : Fin 16) (x : Chan) : (s.setCh c x).lnk d = s.lnk d := rfl
@[simp] theorem lnk_updCh (s : State) (c d : Fin 16) (f : Chan → Chan) : (s.updCh c f).lnk d = s.lnk d := rfl
@[simp] theorem lnk_emit (s : State) (c : Fin 16) (e : Emit) : (s.emit e).lnk c = s.lnk c := rfl
@[simp] theorem lnk_tick1 (s : State) (c : Fin 16) : s.tick1.lnk c = s.lnk c := rfl
@[simp] theorem lnk_advanceTo (s : State) (c : Fin 16) (k : Nat) : (s.advanceTo k).lnk c = s.lnk c := rfl
@[simp] theorem lnk_drbg (s : State) (c : Fin 16) : s.drbg.lnk c = s.lnk c := (drbg_logged s).lnk c
@[simp] theorem lnk_wakeMain (s : State) (c : Fin 16) : s.wakeMain.lnk c = s.lnk c := (wakeMain_logged s).lnk c
@[simp] theorem lnk_report (s : State) (c : Fin 16) (n : Nat) (b : Bytes) : (s.report n b).lnk c = s.lnk c := (report_logged s n b).lnk c
@[simp] theorem lnk_wlog (s : State) (c : Fin 16) (n g : Nat) (b : Bytes) (r : Bool) : (s.wlog n g b r).lnk c = s.lnk c := (wlog_logged s n g b r).lnk c
@[simp] theorem lnk_updApp (s : State) (c d : Fin 16) (f : App → App) : (s.updApp d f).lnk c = s.lnk c := rfl
@[simp] theorem lnk_updCpu (s : State) (c d : Fin 16) (k : Fin 2) (f : AppCore → AppCore) : (s.updCpu d k f).lnk c = s.lnk c := rfl

@[simp] theorem lnk_chOp (s : State) (c d : Fin 16) (f : Chan → Chan) : (s.chOp c f).lnk d = s.lnk d := by
  unfold State.chOp; dsimp only; split <;> simp

theorem lnk_eachCh (f : Fin 16 → State → State) (c : Fin 16) (h : ∀ d t, (f d t).lnk c = t.lnk c) (s : State) : (s.eachCh f).lnk c = s.lnk c := by
  unfold State.eachCh
  generalize List.finRange 16 = l
  induction l generalizing s with
  | nil => rfl
  | cons a l ih => rw [List.foldl_cons, ih, h]

@[simp] theorem lnk_closeWindows (s : State) (c : Fin 16) : s.closeWindows.lnk c = s.lnk c := lnk_eachCh _ c (fun d t => by simp) s

/-! ## The line: what waits goes out -/

/-- The attempt with its request's start and its session's send counter moved on. -/
def Hs.Moved (a b : Hs) : Prop := ∃ m n, b = { a with startedAt := m, sess := a.sess.map (fun y => { y with ctrTx := y.ctrTx + n }) }

/-- A link that has at most sent what it had to send. -/
def Link.Sent (a b : Link) : Prop :=
  b = { a with txn := b.txn, waiting := b.waiting, pollWakes := b.pollWakes, lineBusy := b.lineBusy, hs := b.hs, sess := b.sess } ∧
  (a.hs = none → b.hs = none) ∧ (∀ h, a.hs = some h → ∃ g, b.hs = some g ∧ h.Moved g) ∧
  (a.sess = none → b.sess = none) ∧ (∀ y, a.sess = some y → ∃ n, b.sess = some { y with ctrTx := y.ctrTx + n })

theorem sess_zero (o : Option Sess) : o.map (fun y => { y with ctrTx := y.ctrTx + 0 }) = o := by cases o <;> rfl

theorem Hs.Moved.rfl' (a : Hs) : a.Moved a := by
  exact ⟨a.startedAt, 0, by rw [sess_zero]⟩

theorem Hs.Moved.trans {a b c : Hs} (h : a.Moved b) (g : b.Moved c) : a.Moved c := by
  obtain ⟨m, n, rfl⟩ := h
  obtain ⟨m', n', rfl⟩ := g
  refine ⟨m', n + n', ?_⟩
  rcases a with ⟨⟩
  rename_i o _ _
  cases o <;> simp [Nat.add_assoc]

theorem Link.Sent.rfl' (a : Link) : a.Sent a := ⟨rfl, id, fun h e => ⟨h, e, .rfl' h⟩, id, fun _ e => ⟨0, e⟩⟩

theorem Link.Sent.trans {a b c : Link} (h : a.Sent b) (g : b.Sent c) : a.Sent c := by
  obtain ⟨h1, h2, h3, h4, h5⟩ := h
  obtain ⟨g1, g2, g3, g4, g5⟩ := g
  refine ⟨by rw [g1, h1], fun e => g2 (h2 e), ?_, fun e => g4 (h4 e), ?_⟩
  · intro x e
    obtain ⟨y, e1, m1⟩ := h3 x e
    obtain ⟨z, e2, m2⟩ := g3 y e1
    exact ⟨z, e2, m1.trans m2⟩
  · intro x e
    obtain ⟨n, e1⟩ := h5 x e
    obtain ⟨m, e2⟩ := g5 _ e1
    exact ⟨n + m, by rw [e2]; simp [Nat.add_assoc]⟩

theorem sendTxn_sent (s : State) (c : Fin 16) : (s.lnk c).Sent ((s.sendTxn c).lnk c) := by
  unfold State.sendTxn; dsimp only; split
  · split
    · rename_i x hx _
      simp only [lnk_emit, lnk_setLnk, if_true]
      refine ⟨rfl, ?_, ?_, id, fun _ e => ⟨0, e⟩⟩
      · intro e; dsimp only; split <;> simp [e]
      · intro h e
        dsimp only
        split
        · simp only [e, Option.map_some]
          refine ⟨_, rfl, ?_⟩
          split
          · exact ⟨s.tick, 0, by rw [sess_zero]⟩
          · exact .rfl' _
        · exact ⟨h, e, .rfl' h⟩
    · exact .rfl' _
  · exact .rfl' _

theorem openTxn_sent (s : State) (c : Fin 16) (n : Nat) (p : Bytes) (a : Bool) : (s.lnk c).Sent ((s.openTxn c n p a).lnk c) := by
  have key : ∀ (m : Link) (f : Bytes), (s.lnk c).Sent m →
      (s.lnk c).Sent (((s.setLnk c { m with pollWakes := 0, txn := some { type := n, frame := f, retries := 0, sent := false, applet := a } }).sendTxn c).lnk c) := by
    intro m f h
    refine .trans ?_ (sendTxn_sent _ c)
    simp only [lnk_setLnk, if_true]
    exact h.trans ⟨rfl, id, fun h e => ⟨h, e, .rfl' h⟩, id, fun _ e => ⟨0, e⟩⟩
  unfold State.openTxn; dsimp only
  split
  · split
    · rename_i h e
      split
      · rename_i x hx
        refine key { s.lnk c with hs := some { h with sess := some { x with ctrTx := x.ctrTx + 1 } } } _ ⟨rfl, by simp [e], ?_, id, fun _ e => ⟨0, e⟩⟩
        intro h' e'
        rw [e] at e'; cases e'
        refine ⟨_, rfl, h.startedAt, 1, ?_⟩
        rcases h with ⟨⟩; simp at hx; subst hx; rfl
      · exact .rfl' _
    · exact .rfl' _
  · split
    · split
      · rename_i x hx
        refine key { s.lnk c with sess := some { x with ctrTx := x.ctrTx + 1 } } _ ⟨rfl, id, fun h e => ⟨h, e, .rfl' h⟩, by simp [hx], ?_⟩
        intro y e; rw [hx] at e; cases e; exact ⟨1, rfl⟩
      · exact .rfl' _
    · exact key (s.lnk c) _ (.rfl' _)

theorem pumpLink_sent (s : State) (c : Fin 16) : (s.lnk c).Sent ((s.pumpLink c).lnk c) := by
  unfold State.pumpLink; dsimp only
  split
  · exact sendTxn_sent s c
  · split
    · split
      · exact .rfl' _
      · rename_i t p a rest _
        have h1 : (s.lnk c).Sent ((s.setLnk c { s.lnk c with waiting := rest }).lnk c) := by
          simp only [lnk_setLnk, if_true]
          exact ⟨rfl, id, fun h e => ⟨h, e, .rfl' h⟩, id, fun _ e => ⟨0, e⟩⟩
        split
        · simp only [lnk_emit, lnk_updLnk, if_true]
          exact h1.trans ⟨rfl, id, fun h e => ⟨h, e, .rfl' h⟩, id, fun _ e => ⟨0, e⟩⟩
        · exact h1.trans (openTxn_sent _ c t p a)
    · exact .rfl' _

theorem ask_sent (s : State) (c : Fin 16) (n : Nat) (p : Bytes) (a : Bool) : (s.lnk c).Sent ((s.ask c n p a).lnk c) := by
  unfold State.ask
  refine .trans ?_ (pumpLink_sent _ c)
  simp only [lnk_updLnk, if_true]
  exact ⟨rfl, id, fun h e => ⟨h, e, .rfl' h⟩, id, fun _ e => ⟨0, e⟩⟩

/-! ## Applets that wait -/

/-- From `s` to `t` only applets, the cores they run on and memory have changed. -/
def Ran (s t : State) : Prop := t = { s with app := t.app, core := t.core, mem := t.mem, memBad := t.memBad, ldm := t.ldm }

theorem Ran.trans {s t u : State} (a : Ran s t) (b : Ran t u) : Ran s u := by unfold Ran at *; rw [b, a]
theorem Ran.lnk {s t : State} (a : Ran s t) (c : Fin 16) : t.lnk c = s.lnk c := by unfold Ran at a; rw [a]; rfl
theorem Ran.chan {s t : State} (a : Ran s t) (c : Fin 16) : t.chan c = s.chan c := by unfold Ran at a; rw [a]; rfl

theorem putOn_ran (s : State) (k : Fin 2) (d : Fin 16) : Ran s (s.putOn k d) := rfl

theorem takeOff_ran (s : State) (k : Fin 2) (st : AppSt) : Ran s (s.takeOff k st) := by
  unfold State.takeOff; dsimp only; (repeat' split) <;> rfl

theorem schedule_ran (s : State) (k : Fin 2) : Ran s (s.schedule k) := by
  unfold State.schedule; (repeat' split)
  · rfl
  · rfl
  · exact putOn_ran _ _ _
  · exact (takeOff_ran _ _ _).trans (putOn_ran _ _ _)
  · rfl

theorem reschedule_ran (s : State) : Ran s s.reschedule := (schedule_ran s 0).trans (schedule_ran _ 1)

theorem linkReturnOne_ran (s : State) (d : Fin 16) (k : Fin 2) (c : Fin 16) (n : Nat) (b : Bytes) : Ran s (s.linkReturnOne d k c n b) := by
  unfold State.linkReturnOne State.appStore; (repeat' split) <;> rfl

theorem linkReturn_ran (s : State) (c : Fin 16) (x : Code) (b : Bytes) : Ran s (s.linkReturn c x b) := by
  unfold State.linkReturn; dsimp only; (repeat' split)
  · exact ((linkReturnOne_ran _ _ _ _ _ _).trans (linkReturnOne_ran _ _ _ _ _ _)).trans (reschedule_ran _)
  · exact (linkReturnOne_ran _ _ _ _ _ _).trans (reschedule_ran _)
  · rfl

theorem noteApp_ran (s : State) (c : Fin 16) (n : Nat) : Ran s (s.noteApp c n) := by
  unfold State.noteApp; split <;> rfl

@[simp] theorem lnk_linkReturn (s : State) (c d : Fin 16) (x : Code) (b : Bytes) : (s.linkReturn c x b).lnk d = s.lnk d := (linkReturn_ran s c x b).lnk d
@[simp] theorem lnk_noteApp (s : State) (c d : Fin 16) (n : Nat) : (s.noteApp c n).lnk d = s.lnk d := (noteApp_ran s c n).lnk d
@[simp] theorem lnk_lostSession (s : State) (c d : Fin 16) (h : Bool) : (s.lostSession c h).lnk d = s.lnk d := lnk_chOp _ _ _ _
@[simp] theorem lnk_linkHeartbeat (s : State) (c d : Fin 16) : (s.linkHeartbeat c).lnk d = s.lnk d := lnk_chOp _ _ _ _
@[simp] theorem lnk_partnerRecord (s : State) (c d : Fin 16) (p : PState) (n : Nat) : (s.partnerRecord c p n).lnk d = s.lnk d := by
  unfold State.partnerRecord; simp

/-! ## Sessions that end, and partner states -/

/-- A link whose session or attempt may have ended and whose partner state may have changed. -/
def Link.Ended (a b : Link) : Prop :=
  b = { a with
    txn := b.txn, waiting := b.waiting, pollWakes := b.pollWakes, lineBusy := b.lineBusy, hs := b.hs, sess := b.sess, pstate := b.pstate
    hostileAt := b.hostileAt, wf := b.wf, kept := b.kept, rekeyDue := b.rekeyDue, rsp := b.rsp, closedSid := b.closedSid
    attemptK := b.attemptK, lastAttempt := b.lastAttempt } ∧
  (a.hs = none → b.hs = none) ∧ (∀ g, b.hs = some g → ∃ h, a.hs = some h ∧ h.Moved g) ∧ (a.sess = none → b.sess = none)

theorem Link.Ended.rfl' (a : Link) : a.Ended a := ⟨rfl, id, fun g e => ⟨g, e, .rfl' g⟩, id⟩

theorem Link.Ended.trans {a b c : Link} (h : a.Ended b) (g : b.Ended c) : a.Ended c := by
  refine ⟨by rw [g.1, h.1], fun e => g.2.1 (h.2.1 e), ?_, fun e => g.2.2.2 (h.2.2.2 e)⟩
  intro z e
  obtain ⟨y, e1, m1⟩ := g.2.2.1 z e
  obtain ⟨x, e2, m2⟩ := h.2.2.1 y e1
  exact ⟨x, e2, m2.trans m1⟩

theorem Link.Sent.ended {a b : Link} (h : a.Sent b) : a.Ended b := by
  refine ⟨by rw [h.1], h.2.1, ?_, h.2.2.2.1⟩
  intro g e
  cases ha : a.hs with
  | none => rw [h.2.1 ha] at e; cases e
  | some x =>
    obtain ⟨y, e1, m⟩ := h.2.2.1 x ha
    rw [e] at e1; cases e1
    exact ⟨x, rfl, m⟩

theorem closeSess_ended (s : State) (c : Fin 16) (n : Nat) : (s.lnk c).Ended ((s.closeSess c n).lnk c) := by
  unfold State.closeSess; dsimp only; split
  · exact .rfl' _
  · refine .trans ?_ (pumpLink_sent _ c).ended
    simp only [lnk_linkReturn, lnk_setLnk, if_true]
    exact ⟨rfl, id, fun g e => ⟨g, e, .rfl' g⟩, fun _ => rfl⟩

@[simp] theorem closeSess_sess (s : State) (c : Fin 16) (n : Nat) : ((s.closeSess c n).lnk c).sess = none := by
  unfold State.closeSess; dsimp only; split
  · assumption
  · apply (pumpLink_sent _ c).2.2.2.1
    simp

@[simp] theorem closeSess_pstate (s : State) (c : Fin 16) (n : Nat) : ((s.closeSess c n).lnk c).pstate = (s.lnk c).pstate := by
  unfold State.closeSess; dsimp only; split
  · rfl
  · rw [(pumpLink_sent _ c).1]; simp

theorem endLink_ended (s : State) (c : Fin 16) (n : Nat) : (s.lnk c).Ended ((s.endLink c n).lnk c) := by
  unfold State.endLink; split
  · rw [lnk_lostSession]; exact closeSess_ended s c n
  · exact .rfl' _

@[simp] theorem endLink_sess (s : State) (c : Fin 16) (n : Nat) : ((s.endLink c n).lnk c).sess = none := by
  unfold State.endLink; split
  · simp
  · simp_all

@[simp] theorem endLink_pstate (s : State) (c : Fin 16) (n : Nat) : ((s.endLink c n).lnk c).pstate = (s.lnk c).pstate := by
  unfold State.endLink; split <;> simp

theorem dropAttempt_ended (s : State) (c : Fin 16) : (s.lnk c).Ended ((s.dropAttempt c).lnk c) := by
  unfold State.dropAttempt
  simp only [lnk_updLnk, if_true]
  exact ⟨rfl, fun _ => rfl, by simp, id⟩

@[simp] theorem dropAttempt_hs (s : State) (c : Fin 16) : ((s.dropAttempt c).lnk c).hs = none := by unfold State.dropAttempt; simp
@[simp] theorem dropAttempt_pstate (s : State) (c : Fin 16) : ((s.dropAttempt c).lnk c).pstate = (s.lnk c).pstate := by unfold State.dropAttempt; simp
@[simp] theorem dropAttempt_sess (s : State) (c : Fin 16) : ((s.dropAttempt c).lnk c).sess = (s.lnk c).sess := by unfold State.dropAttempt; simp

theorem toPartner_ended (s : State) (c : Fin 16) (p : PState) (n : Nat) : (s.lnk c).Ended ((s.toPartner c p n).lnk c) := by
  have h1 : (s.lnk c).Ended ((((s.setLnk c { s.lnk c with pstate := p, hostileAt := if p = .hostile then some s.tick else (s.lnk c).hostileAt }).partnerRecord c
      (s.lnk c).pstate n).noteApp c 3).lnk c) := by
    simp only [lnk_noteApp, lnk_partnerRecord, lnk_setLnk, if_true]
    exact ⟨rfl, id, fun g e => ⟨g, e, .rfl' g⟩, id⟩
  unfold State.toPartner; dsimp only; split
  · exact .rfl' _
  · split
    · exact h1
    · exact h1
    · refine .trans (.trans h1 ?_) (dropAttempt_ended _ c)
      exact .trans (by rw [lnk_lostSession]; exact .rfl' _) (closeSess_ended _ c 2)
    · exact h1.trans (endLink_ended _ c 2)

theorem toPartner_pstate (s : State) (c : Fin 16) (p : PState) (n : Nat) :
    ((s.toPartner c p n).lnk c).pstate = if (s.lnk c).pstate.mayEnter p then p else (s.lnk c).pstate := by
  unfold State.toPartner; dsimp only
  cases h : (s.lnk c).pstate.mayEnter p
  · simp
  · cases p <;> simp

@[simp] theorem toPartner_hostile (s : State) (c : Fin 16) (n : Nat) : ((s.toPartner c .hostile n).lnk c).pstate = .hostile := by
  rw [toPartner_pstate]; cases (s.lnk c).pstate <;> rfl

@[simp] theorem toPartner_present (s : State) (c : Fin 16) (n : Nat) : ((s.toPartner c .present n).lnk c).pstate = .present := by
  rw [toPartner_pstate]; cases (s.lnk c).pstate <;> rfl

/-- Becoming Present ends nothing. -/
theorem toPartner_present_lnk (s : State) (c : Fin 16) (n : Nat) : (s.toPartner c .present n).lnk c = { s.lnk c with pstate := .present } := by
  unfold State.toPartner; dsimp only
  cases h : (s.lnk c).pstate <;> simp [PState.mayEnter]
  rw [← h]

/-! ## Faults and attempts -/

theorem linkCount_lnk (s : State) (c : Fin 16) (k : LStat) : (s.linkCount c k).lnk c = (s.lnk c).count k := by
  unfold State.linkCount; simp

/-- A fault keeps everything but the partner state's own, and notes its instant. -/
theorem linkFault_ended (s : State) (c : Fin 16) (k : Option LStat) :
    ({ (match k with | some x => (s.lnk c).count x | none => s.lnk c) with
      faultAt := s.tick :: within ticks60s s.tick (s.lnk c).faultAt } : Link).Ended ((s.linkFault c k).lnk c) := by
  unfold State.linkFault; dsimp only
  have h : ∀ u : State, ((u.updLnk c (fun l => { l with faultAt := s.tick :: within ticks60s s.tick l.faultAt })).lnk c) =
      { u.lnk c with faultAt := s.tick :: within ticks60s s.tick (u.lnk c).faultAt } := by intro u; simp
  cases k with
  | none =>
    dsimp only; split
    · rw [← h s]; exact toPartner_ended _ c _ _
    · rw [h s]; exact .rfl' _
  | some x =>
    dsimp only
    have e : ({ (s.lnk c).count x with faultAt := s.tick :: within ticks60s s.tick (s.lnk c).faultAt } : Link) =
        ((s.linkCount c x).updLnk c (fun l => { l with faultAt := s.tick :: within ticks60s s.tick l.faultAt })).lnk c := by
      rw [h, linkCount_lnk]; rfl
    split
    · rw [e]; exact toPartner_ended _ c _ _
    · rw [e]; exact .rfl' _

/-- A failed attempt is over and counted. -/
theorem hsFail_ended (s : State) (c : Fin 16) (h : Hs) (e : (s.lnk c).hs = some h) :
    ({ ({ (s.lnk c) with noBurst := if h.sawBurst then 0 else (s.lnk c).noBurst + 1 } : Link).count .hsFail with hs := none }).Ended ((s.hsFail c).lnk c) := by
  unfold State.hsFail; rw [e]; dsimp only
  generalize hn : (if h.sawBurst = true then 0 else (s.lnk c).noBurst + 1) = nb
  have h1 : ({ ({ (s.lnk c) with noBurst := nb } : Link).count .hsFail with hs := none }).Ended
      (((s.dropAttempt c).updLnk c (fun l => ({ l with lastAttempt := some s.tick, attemptK := l.attemptK + 1, noBurst := nb }).count .hsFail)).lnk c) := by
    unfold State.dropAttempt
    simp only [lnk_updLnk, if_true]
    exact ⟨rfl, fun _ => rfl, by simp [Link.count], id⟩
  refine .trans ?_ (pumpLink_sent _ c).ended
  split
  · exact h1.trans (toPartner_ended _ c _ _)
  · exact h1

/-! ## Receipt -/

/-- The link as the receive checks find it: the line is busy, and the attempt and the transaction have seen a burst. -/
def Link.heard (l : Link) : Link :=
  { l with lineBusy := true, hs := l.hs.map (fun h => { h with sawBurst := true }), txn := l.txn.map (fun x => { x with saw := true }) }

theorem crcOk_length {b : Bytes} (h : crcOk b = true) : 22 ≤ b.length := by
  unfold crcOk at h; simp at h; exact h.1

theorem served_setLnk (s : State) (c : Fin 16) (x : Link) (h : x.supStopped = (s.lnk c).supStopped) : (s.setLnk c x).linkServed c = s.linkServed c := by
  unfold State.linkServed
  simp only [chan_setLnk, lnk_setLnk, if_true, h]
  rfl

/-- A whole burst that is not early goes through the receive checks. -/
theorem receive_take (s : State) (c : Fin 16) (b : Burst) (ok : Bool) (h : s.Listens c) (he : b.err = none) (hi : b.inverted = false)
    (h0 : b.body ≠ []) (hn : b.body.length ≤ 288)
    (hk : ∀ x k, (s.lnk c).txn = some x → x.sent = true → b.start = some k → 8 ≤ k) :
    s.receive c b ok = (s.updLnk c (fun l => { l with lineBusy := true })).linkTake c b ok := by
  obtain ⟨h1, h2, h3, h4⟩ := h
  have e1 : (s.updLnk c (fun l => { l with lineBusy := true })).crazed = false := h4
  have e2 : (s.updLnk c (fun l => { l with lineBusy := true })).linkServed c = true := by rw [← h3]; exact served_setLnk s c _ rfl
  have e3 : (s.updLnk c (fun l => { l with lineBusy := true })).mainRuns = true := h2
  have hb : b.body.isEmpty = false := by cases hq : b.body; exact absurd hq h0; rfl
  have hc : decide (288 < b.body.length) = false := by simp; omega
  have hd : (match ((s.updLnk c (fun l => { l with lineBusy := true })).lnk c).answers b.start, b.start with | some _, some k => decide (k < 8) | _, _ => false) = false := by
    unfold Link.answers
    simp only [lnk_updLnk, if_true]
    cases ht : (s.lnk c).txn with
    | none => rfl
    | some x =>
      cases hs : b.start with
      | none => rfl
      | some k =>
        dsimp only
        by_cases hx : (x.sent && decide (k < 8192)) = true
        · have := hk x k ht (by simp at hx; exact hx.1) hs
          simp [hx]; omega
        · simp [hx]
  unfold State.receive
  dsimp only
  generalize s.updLnk c (fun l => { l with lineBusy := true }) = u at *
  rw [h1, e1, e2, he, hi]
  simp only [Bool.not_true, Bool.false_eq_true, if_false]
  rw [if_neg (by simp [hb, hc]), if_neg (by rw [Bool.not_eq_true]; exact hd), e3, if_pos rfl]

theorem heard_upd (s : State) (c : Fin 16) :
    ((s.updLnk c (fun l => { l with lineBusy := true })).updLnk c (fun l =>
      { l with hs := l.hs.map (fun h => { h with sawBurst := true }), txn := l.txn.map (fun x => { x with saw := true }) })) = s.updLnk c Link.heard := by
  unfold State.updLnk State.setLnk State.lnk
  simp [Link.heard]

theorem Link.Awaits.answers {l : Link} {b : Burst} {q : Nat} (h : l.Awaits b q) :
    ∃ x k, l.heard.answers b.start = some x ∧ x.type = q ∧ b.start = some k ∧ k < 1024 ∧ ∃ y, l.txn = some y ∧ x = { y with saw := true } := by
  obtain ⟨x, k, h1, h2, h3, h4, h5, h6⟩ := h
  refine ⟨{ x with saw := true }, k, ?_, h3, h4, h6, x, h1, rfl⟩
  unfold Link.answers Link.heard
  simp only [h1, h4, Option.map_some]
  rw [if_pos]; simp [h2]; omega

/-- A whole unprotected reply in its time is accepted. -/
theorem receive_plain (s : State) (c : Fin 16) (b : Burst) (ok : Bool) (t n q : Nat) (h : s.Listens c) (hb : b.Holds t n) (hp : b.Plain)
    (ha : (s.lnk c).Awaits b q) (hf : fProtected t = false) (h32 : t ≠ 0x32)
    (hq : (t == replyOf q || (isHs q && (t == 0x1E || t == 0x1F))) = true) :
    ∃ x y, x.type = q ∧ (s.lnk c).txn = some y ∧ x = { y with saw := true } ∧
      s.receive c b ok = (s.updLnk c Link.heard).acceptFrame c t (fPayload b.body) (some x) ok := by
  obtain ⟨b1, b2, b3, b4, b5, b6, b7, b8⟩ := hb
  have hl := crcOk_length b3
  rw [hf] at b8
  have hn : b.body.length ≤ 288 := by rw [b8]; simp; omega
  have h0 : b.body ≠ [] := by intro e; rw [e] at hl; simp at hl
  have hk : ∀ x k, (s.lnk c).txn = some x → x.sent = true → b.start = some k → 8 ≤ k := by
    obtain ⟨x, k, -, -, -, a4, a5, -⟩ := ha
    intro x' k' _ _ e; rw [a4] at e; cases e; exact a5
  obtain ⟨x, k, a1, a2, a3, a4, y, a5, a6⟩ := ha.answers
  refine ⟨x, y, a2, a5, a6, ?_⟩
  rw [receive_take s c b ok h b1 b2 h0 hn hk]
  unfold State.linkTake
  rw [heard_upd]
  have hx : ((s.updLnk c Link.heard).lnk c) = (s.lnk c).heard := by simp
  dsimp only
  rw [hx, b5, b4, b3, a1, a3]
  have hlate : decide (1024 ≤ k) = false := by simp; omega
  have hexp : (s.lnk c).heard.expects (some x) t = true := by unfold Link.expects; simpa [a2] using hq
  obtain ⟨p1, p2⟩ := hp
  rw [b5] at p2
  have hlc : ∀ acc, (s.updLnk c Link.heard).linkCheck c b.body acc = acc (s.updLnk c Link.heard) (fPayload b.body) := by
    intro acc
    unfold State.linkCheck
    simp [b5, b6, hf, p1, p2, b8]
    omega
  simp [hlate, hexp, h32, hlc]

/-- A whole genuine reply in its time is accepted, and moves its session's receive counter. -/
theorem receive_prot (s : State) (c : Fin 16) (b : Burst) (ok : Bool) (t n q : Nat) (y : Sess) (h : s.Listens c) (hb : b.Holds t n)
    (hg : b.Genuine y) (ha : (s.lnk c).Awaits b q) (hf : fProtected t = true) (hq : t = replyOf q) (hy : (s.lnk c).heard.rxSess t = some y) :
    ∃ x z, x.type = q ∧ (s.lnk c).txn = some z ∧ x = { z with saw := true } ∧
      s.receive c b ok = ((s.updLnk c Link.heard).updLnk c (fun l => l.rxNote t (fCtr b.body) b.body)).acceptFrame c t (b.clear y) (some x) ok := by
  obtain ⟨b1, b2, b3, b4, b5, b6, b7, b8⟩ := hb
  have hl := crcOk_length b3
  rw [hf] at b8
  have hn : b.body.length ≤ 288 := by rw [b8]; simp; omega
  have h0 : b.body ≠ [] := by intro e; rw [e] at hl; simp at hl
  have hk : ∀ x k, (s.lnk c).txn = some x → x.sent = true → b.start = some k → 8 ≤ k := by
    obtain ⟨x, k, -, -, -, a4, a5, -⟩ := ha
    intro x' k' _ _ e; rw [a4] at e; cases e; exact a5
  obtain ⟨x, k, a1, a2, a3, a4, z, a5, a6⟩ := ha.answers
  refine ⟨x, z, a2, a5, a6, ?_⟩
  rw [receive_take s c b ok h b1 b2 h0 hn hk]
  unfold State.linkTake
  rw [heard_upd]
  have hx : ((s.updLnk c Link.heard).lnk c) = (s.lnk c).heard := by simp
  dsimp only
  rw [hx, b5, b4, b3, a1, a3]
  have hlate : decide (1024 ≤ k) = false := by simp; omega
  have hexp : (s.lnk c).heard.expects (some x) t = true := by unfold Link.expects; simp [a2, hq]
  have h32 : t ≠ 0x32 := by intro e; rw [e] at hf; simp [fProtected] at hf
  obtain ⟨g1, g2, g3, g4, g5, g6⟩ := hg
  rw [b6] at g3 g4
  rw [b5] at g3 g6
  have g5' : (match y.ctrRx with | some k => decide (fCtr b.body ≤ k) | none => false) = false := by
    cases e : y.ctrRx with
    | none => rfl
    | some k => have := g5 k e; simp; omega
  have hlc : ∀ acc, (s.updLnk c Link.heard).linkCheck c b.body acc =
      acc ((s.updLnk c Link.heard).updLnk c (fun l => l.rxNote t (fCtr b.body) b.body)) (b.clear y) := by
    intro acc
    unfold State.linkCheck
    rw [hx]
    simp only [b5, b6, hf, b8, hy, if_true]
    rw [if_neg (by omega), if_neg (by simp), if_neg (by simp [g1])]
    unfold State.linkCheckProt
    simp only [b5, b6]
    rw [if_neg g2, if_neg (by simp [g3]), if_neg (by simp [g4]), if_neg (by rw [Bool.not_eq_true]; exact g5'), if_neg]
    · rfl
    have g6' : contentOk t (aesCtr y.encEp (linkBlock 0x45 y.sid (fCtr b.body)) (fPayload b.body)) = true := g6
    simp [g6']
  simp [hlate, hexp, h32, hlc]

end Sys2Proof.Machine
end

