-- ==== Sys2Proof/Laws/State.lean ====
section
/-! SUPPORT. The fields of the state after each basic update, and what an update leaves of a safe state. -/

namespace Sys2Proof.Machine

open Sys2Proof

/-! ## Fields after an update -/

@[simp] theorem State.setCh_pending (s : State) (c : Fin 16) (x : Chan) : (s.setCh c x).pending = s.pending := rfl
@[simp] theorem State.setCh_freeCount (s : State) (c : Fin 16) (x : Chan) : (s.setCh c x).freeCount = s.freeCount := rfl
@[simp] theorem State.setCh_out (s : State) (c : Fin 16) (x : Chan) : (s.setCh c x).out = s.out := rfl
@[simp] theorem State.setCh_rails (s : State) (c : Fin 16) (x : Chan) : (s.setCh c x).rails = s.rails := rfl
@[simp] theorem State.setCh_tick (s : State) (c : Fin 16) (x : Chan) : (s.setCh c x).tick = s.tick := rfl
@[simp] theorem State.setCh_tickHi (s : State) (c : Fin 16) (x : Chan) : (s.setCh c x).tickHi = s.tickHi := rfl
@[simp] theorem State.setCh_straps (s : State) (c : Fin 16) (x : Chan) : (s.setCh c x).straps = s.straps := rfl
@[simp] theorem State.setCh_bins (s : State) (c : Fin 16) (x : Chan) : (s.setCh c x).bins = s.bins := rfl
@[simp] theorem State.setCh_clk (s : State) (c : Fin 16) (x : Chan) : (s.setCh c x).clk = s.clk := rfl
@[simp] theorem State.setCh_pwr (s : State) (c : Fin 16) (x : Chan) : (s.setCh c x).pwr = s.pwr := rfl
@[simp] theorem State.setCh_ch (s : State) (c : Fin 16) (x : Chan) : (s.setCh c x).ch = s.ch.set c x := rfl
@[simp] theorem State.setCh_link (s : State) (c : Fin 16) (x : Chan) : (s.setCh c x).link = s.link := rfl
@[simp] theorem State.setCh_upl (s : State) (c : Fin 16) (x : Chan) : (s.setCh c x).upl = s.upl := rfl
@[simp] theorem State.setCh_fuses (s : State) (c : Fin 16) (x : Chan) : (s.setCh c x).fuses = s.fuses := rfl
@[simp] theorem State.setCh_opt (s : State) (c : Fin 16) (x : Chan) : (s.setCh c x).opt = s.opt := rfl
@[simp] theorem State.setCh_life (s : State) (c : Fin 16) (x : Chan) : (s.setCh c x).life = s.life := rfl
@[simp] theorem State.setCh_tamp (s : State) (c : Fin 16) (x : Chan) : (s.setCh c x).tamp = s.tamp := rfl
@[simp] theorem State.setCh_kiln (s : State) (c : Fin 16) (x : Chan) : (s.setCh c x).kiln = s.kiln := rfl
@[simp] theorem State.setCh_ksm (s : State) (c : Fin 16) (x : Chan) : (s.setCh c x).ksm = s.ksm := rfl
@[simp] theorem State.setCh_core (s : State) (c : Fin 16) (x : Chan) : (s.setCh c x).core = s.core := rfl
@[simp] theorem State.setCh_mem (s : State) (c : Fin 16) (x : Chan) : (s.setCh c x).mem = s.mem := rfl
@[simp] theorem State.setCh_ldm (s : State) (c : Fin 16) (x : Chan) : (s.setCh c x).ldm = s.ldm := rfl
@[simp] theorem State.setCh_memBad (s : State) (c : Fin 16) (x : Chan) : (s.setCh c x).memBad = s.memBad := rfl
@[simp] theorem State.setCh_ldmBad (s : State) (c : Fin 16) (x : Chan) : (s.setCh c x).ldmBad = s.ldmBad := rfl
@[simp] theorem State.setCh_memCorrected (s : State) (c : Fin 16) (x : Chan) : (s.setCh c x).memCorrected = s.memCorrected := rfl
@[simp] theorem State.setCh_memError (s : State) (c : Fin 16) (x : Chan) : (s.setCh c x).memError = s.memError := rfl
@[simp] theorem State.setCh_longScrubs (s : State) (c : Fin 16) (x : Chan) : (s.setCh c x).longScrubs = s.longScrubs := rfl
@[simp] theorem State.setCh_irq (s : State) (c : Fin 16) (x : Chan) : (s.setCh c x).irq = s.irq := rfl
@[simp] theorem State.setCh_prot (s : State) (c : Fin 16) (x : Chan) : (s.setCh c x).prot = s.prot := rfl
@[simp] theorem State.setCh_eng (s : State) (c : Fin 16) (x : Chan) : (s.setCh c x).eng = s.eng := rfl
@[simp] theorem State.setCh_aes (s : State) (c : Fin 16) (x : Chan) : (s.setCh c x).aes = s.aes := rfl
@[simp] theorem State.setCh_dig (s : State) (c : Fin 16) (x : Chan) : (s.setCh c x).dig = s.dig := rfl
@[simp] theorem State.setCh_wmu (s : State) (c : Fin 16) (x : Chan) : (s.setCh c x).wmu = s.wmu := rfl
@[simp] theorem State.setCh_flc (s : State) (c : Fin 16) (x : Chan) : (s.setCh c x).flc = s.flc := rfl
@[simp] theorem State.setCh_app (s : State) (c : Fin 16) (x : Chan) : (s.setCh c x).app = s.app := rfl
@[simp] theorem State.setCh_selft (s : State) (c : Fin 16) (x : Chan) : (s.setCh c x).selft = s.selft := rfl
@[simp] theorem State.setCh_spy (s : State) (c : Fin 16) (x : Chan) : (s.setCh c x).spy = s.spy := rfl
@[simp] theorem State.setCh_met (s : State) (c : Fin 16) (x : Chan) : (s.setCh c x).met = s.met := rfl
@[simp] theorem State.setCh_sjm (s : State) (c : Fin 16) (x : Chan) : (s.setCh c x).sjm = s.sjm := rfl

@[simp] theorem State.updCh_pending (s : State) (c : Fin 16) (f : Chan → Chan) : (s.updCh c f).pending = s.pending := rfl
@[simp] theorem State.updCh_freeCount (s : State) (c : Fin 16) (f : Chan → Chan) : (s.updCh c f).freeCount = s.freeCount := rfl
@[simp] theorem State.updCh_out (s : State) (c : Fin 16) (f : Chan → Chan) : (s.updCh c f).out = s.out := rfl
@[simp] theorem State.updCh_rails (s : State) (c : Fin 16) (f : Chan → Chan) : (s.updCh c f).rails = s.rails := rfl
@[simp] theorem State.updCh_tick (s : State) (c : Fin 16) (f : Chan → Chan) : (s.updCh c f).tick = s.tick := rfl
@[simp] theorem State.updCh_tickHi (s : State) (c : Fin 16) (f : Chan → Chan) : (s.updCh c f).tickHi = s.tickHi := rfl
@[simp] theorem State.updCh_straps (s : State) (c : Fin 16) (f : Chan → Chan) : (s.updCh c f).straps = s.straps := rfl
@[simp] theorem State.updCh_bins (s : State) (c : Fin 16) (f : Chan → Chan) : (s.updCh c f).bins = s.bins := rfl
@[simp] theorem State.updCh_clk (s : State) (c : Fin 16) (f : Chan → Chan) : (s.updCh c f).clk = s.clk := rfl
@[simp] theorem State.updCh_pwr (s : State) (c : Fin 16) (f : Chan → Chan) : (s.updCh c f).pwr = s.pwr := rfl
@[simp] theorem State.updCh_ch (s : State) (c : Fin 16) (f : Chan → Chan) : (s.updCh c f).ch = s.ch.set c (f (s.chan c)) := rfl
@[simp] theorem State.updCh_link (s : State) (c : Fin 16) (f : Chan → Chan) : (s.updCh c f).link = s.link := rfl
@[simp] theorem State.updCh_upl (s : State) (c : Fin 16) (f : Chan → Chan) : (s.updCh c f).upl = s.upl := rfl
@[simp] theorem State.updCh_fuses (s : State) (c : Fin 16) (f : Chan → Chan) : (s.updCh c f).fuses = s.fuses := rfl
@[simp] theorem State.updCh_opt (s : State) (c : Fin 16) (f : Chan → Chan) : (s.updCh c f).opt = s.opt := rfl
@[simp] theorem State.updCh_life (s : State) (c : Fin 16) (f : Chan → Chan) : (s.updCh c f).life = s.life := rfl
@[simp] theorem State.updCh_tamp (s : State) (c : Fin 16) (f : Chan → Chan) : (s.updCh c f).tamp = s.tamp := rfl
@[simp] theorem State.updCh_kiln (s : State) (c : Fin 16) (f : Chan → Chan) : (s.updCh c f).kiln = s.kiln := rfl
@[simp] theorem State.updCh_ksm (s : State) (c : Fin 16) (f : Chan → Chan) : (s.updCh c f).ksm = s.ksm := rfl
@[simp] theorem State.updCh_core (s : State) (c : Fin 16) (f : Chan → Chan) : (s.updCh c f).core = s.core := rfl
@[simp] theorem State.updCh_mem (s : State) (c : Fin 16) (f : Chan → Chan) : (s.updCh c f).mem = s.mem := rfl
@[simp] theorem State.updCh_ldm (s : State) (c : Fin 16) (f : Chan → Chan) : (s.updCh c f).ldm = s.ldm := rfl
@[simp] theorem State.updCh_memBad (s : State) (c : Fin 16) (f : Chan → Chan) : (s.updCh c f).memBad = s.memBad := rfl
@[simp] theorem State.updCh_ldmBad (s : State) (c : Fin 16) (f : Chan → Chan) : (s.updCh c f).ldmBad = s.ldmBad := rfl
@[simp] theorem State.updCh_memCorrected (s : State) (c : Fin 16) (f : Chan → Chan) : (s.updCh c f).memCorrected = s.memCorrected := rfl
@[simp] theorem State.updCh_memError (s : State) (c : Fin 16) (f : Chan → Chan) : (s.updCh c f).memError = s.memError := rfl
@[simp] theorem State.updCh_longScrubs (s : State) (c : Fin 16) (f : Chan → Chan) : (s.updCh c f).longScrubs = s.longScrubs := rfl
@[simp] theorem State.updCh_irq (s : State) (c : Fin 16) (f : Chan → Chan) : (s.updCh c f).irq = s.irq := rfl
@[simp] theorem State.updCh_prot (s : State) (c : Fin 16) (f : Chan → Chan) : (s.updCh c f).prot = s.prot := rfl
@[simp] theorem State.updCh_eng (s : State) (c : Fin 16) (f : Chan → Chan) : (s.updCh c f).eng = s.eng := rfl
@[simp] theorem State.updCh_aes (s : State) (c : Fin 16) (f : Chan → Chan) : (s.updCh c f).aes = s.aes := rfl
@[simp] theorem State.updCh_dig (s : State) (c : Fin 16) (f : Chan → Chan) : (s.updCh c f).dig = s.dig := rfl
@[simp] theorem State.updCh_wmu (s : State) (c : Fin 16) (f : Chan → Chan) : (s.updCh c f).wmu = s.wmu := rfl
@[simp] theorem State.updCh_flc (s : State) (c : Fin 16) (f : Chan → Chan) : (s.updCh c f).flc = s.flc := rfl
@[simp] theorem State.updCh_app (s : State) (c : Fin 16) (f : Chan → Chan) : (s.updCh c f).app = s.app := rfl
@[simp] theorem State.updCh_selft (s : State) (c : Fin 16) (f : Chan → Chan) : (s.updCh c f).selft = s.selft := rfl
@[simp] theorem State.updCh_spy (s : State) (c : Fin 16) (f : Chan → Chan) : (s.updCh c f).spy = s.spy := rfl
@[simp] theorem State.updCh_met (s : State) (c : Fin 16) (f : Chan → Chan) : (s.updCh c f).met = s.met := rfl
@[simp] theorem State.updCh_sjm (s : State) (c : Fin 16) (f : Chan → Chan) : (s.updCh c f).sjm = s.sjm := rfl

@[simp] theorem State.setLnk_pending (s : State) (c : Fin 16) (x : Link) : (s.setLnk c x).pending = s.pending := rfl
@[simp] theorem State.setLnk_freeCount (s : State) (c : Fin 16) (x : Link) : (s.setLnk c x).freeCount = s.freeCount := rfl
@[simp] theorem State.setLnk_out (s : State) (c : Fin 16) (x : Link) : (s.setLnk c x).out = s.out := rfl
@[simp] theorem State.setLnk_rails (s : State) (c : Fin 16) (x : Link) : (s.setLnk c x).rails = s.rails := rfl
@[simp] theorem State.setLnk_tick (s : State) (c : Fin 16) (x : Link) : (s.setLnk c x).tick = s.tick := rfl
@[simp] theorem State.setLnk_tickHi (s : State) (c : Fin 16) (x : Link) : (s.setLnk c x).tickHi = s.tickHi := rfl
@[simp] theorem State.setLnk_straps (s : State) (c : Fin 16) (x : Link) : (s.setLnk c x).straps = s.straps := rfl
@[simp] theorem State.setLnk_bins (s : State) (c : Fin 16) (x : Link) : (s.setLnk c x).bins = s.bins := rfl
@[simp] theorem State.setLnk_clk (s : State) (c : Fin 16) (x : Link) : (s.setLnk c x).clk = s.clk := rfl
@[simp] theorem State.setLnk_pwr (s : State) (c : Fin 16) (x : Link) : (s.setLnk c x).pwr = s.pwr := rfl
@[simp] theorem State.setLnk_ch (s : State) (c : Fin 16) (x : Link) : (s.setLnk c x).ch = s.ch := rfl
@[simp] theorem State.setLnk_link (s : State) (c : Fin 16) (x : Link) : (s.setLnk c x).link = s.link.set c x := rfl
@[simp] theorem State.setLnk_upl (s : State) (c : Fin 16) (x : Link) : (s.setLnk c x).upl = s.upl := rfl
@[simp] theorem State.setLnk_fuses (s : State) (c : Fin 16) (x : Link) : (s.setLnk c x).fuses = s.fuses := rfl
@[simp] theorem State.setLnk_opt (s : State) (c : Fin 16) (x : Link) : (s.setLnk c x).opt = s.opt := rfl
@[simp] theorem State.setLnk_life (s : State) (c : Fin 16) (x : Link) : (s.setLnk c x).life = s.life := rfl
@[simp] theorem State.setLnk_tamp (s : State) (c : Fin 16) (x : Link) : (s.setLnk c x).tamp = s.tamp := rfl
@[simp] theorem State.setLnk_kiln (s : State) (c : Fin 16) (x : Link) : (s.setLnk c x).kiln = s.kiln := rfl
@[simp] theorem State.setLnk_ksm (s : State) (c : Fin 16) (x : Link) : (s.setLnk c x).ksm = s.ksm := rfl
@[simp] theorem State.setLnk_core (s : State) (c : Fin 16) (x : Link) : (s.setLnk c x).core = s.core := rfl
@[simp] theorem State.setLnk_mem (s : State) (c : Fin 16) (x : Link) : (s.setLnk c x).mem = s.mem := rfl
@[simp] theorem State.setLnk_ldm (s : State) (c : Fin 16) (x : Link) : (s.setLnk c x).ldm = s.ldm := rfl
@[simp] theorem State.setLnk_memBad (s : State) (c : Fin 16) (x : Link) : (s.setLnk c x).memBad = s.memBad := rfl
@[simp] theorem State.setLnk_ldmBad (s : State) (c : Fin 16) (x : Link) : (s.setLnk c x).ldmBad = s.ldmBad := rfl
@[simp] theorem State.setLnk_memCorrected (s : State) (c : Fin 16) (x : Link) : (s.setLnk c x).memCorrected = s.memCorrected := rfl
@[simp] theorem State.setLnk_memError (s : State) (c : Fin 16) (x : Link) : (s.setLnk c x).memError = s.memError := rfl
@[simp] theorem State.setLnk_longScrubs (s : State) (c : Fin 16) (x : Link) : (s.setLnk c x).longScrubs = s.longScrubs := rfl
@[simp] theorem State.setLnk_irq (s : State) (c : Fin 16) (x : Link) : (s.setLnk c x).irq = s.irq := rfl
@[simp] theorem State.setLnk_prot (s : State) (c : Fin 16) (x : Link) : (s.setLnk c x).prot = s.prot := rfl
@[simp] theorem State.setLnk_eng (s : State) (c : Fin 16) (x : Link) : (s.setLnk c x).eng = s.eng := rfl
@[simp] theorem State.setLnk_aes (s : State) (c : Fin 16) (x : Link) : (s.setLnk c x).aes = s.aes := rfl
@[simp] theorem State.setLnk_dig (s : State) (c : Fin 16) (x : Link) : (s.setLnk c x).dig = s.dig := rfl
@[simp] theorem State.setLnk_wmu (s : State) (c : Fin 16) (x : Link) : (s.setLnk c x).wmu = s.wmu := rfl
@[simp] theorem State.setLnk_flc (s : State) (c : Fin 16) (x : Link) : (s.setLnk c x).flc = s.flc := rfl
@[simp] theorem State.setLnk_app (s : State) (c : Fin 16) (x : Link) : (s.setLnk c x).app = s.app := rfl
@[simp] theorem State.setLnk_selft (s : State) (c : Fin 16) (x : Link) : (s.setLnk c x).selft = s.selft := rfl
@[simp] theorem State.setLnk_spy (s : State) (c : Fin 16) (x : Link) : (s.setLnk c x).spy = s.spy := rfl
@[simp] theorem State.setLnk_met (s : State) (c : Fin 16) (x : Link) : (s.setLnk c x).met = s.met := rfl
@[simp] theorem State.setLnk_sjm (s : State) (c : Fin 16) (x : Link) : (s.setLnk c x).sjm = s.sjm := rfl

@[simp] theorem State.updLnk_pending (s : State) (c : Fin 16) (f : Link → Link) : (s.updLnk c f).pending = s.pending := rfl
@[simp] theorem State.updLnk_freeCount (s : State) (c : Fin 16) (f : Link → Link) : (s.updLnk c f).freeCount = s.freeCount := rfl
@[simp] theorem State.updLnk_out (s : State) (c : Fin 16) (f : Link → Link) : (s.updLnk c f).out = s.out := rfl
@[simp] theorem State.updLnk_rails (s : State) (c : Fin 16) (f : Link → Link) : (s.updLnk c f).rails = s.rails := rfl
@[simp] theorem State.updLnk_tick (s : State) (c : Fin 16) (f : Link → Link) : (s.updLnk c f).tick = s.tick := rfl
@[simp] theorem State.updLnk_tickHi (s : State) (c : Fin 16) (f : Link → Link) : (s.updLnk c f).tickHi = s.tickHi := rfl
@[simp] theorem State.updLnk_straps (s : State) (c : Fin 16) (f : Link → Link) : (s.updLnk c f).straps = s.straps := rfl
@[simp] theorem State.updLnk_bins (s : State) (c : Fin 16) (f : Link → Link) : (s.updLnk c f).bins = s.bins := rfl
@[simp] theorem State.updLnk_clk (s : State) (c : Fin 16) (f : Link → Link) : (s.updLnk c f).clk = s.clk := rfl
@[simp] theorem State.updLnk_pwr (s : State) (c : Fin 16) (f : Link → Link) : (s.updLnk c f).pwr = s.pwr := rfl
@[simp] theorem State.updLnk_ch (s : State) (c : Fin 16) (f : Link → Link) : (s.updLnk c f).ch = s.ch := rfl
@[simp] theorem State.updLnk_link (s : State) (c : Fin 16) (f : Link → Link) : (s.updLnk c f).link = s.link.set c (f (s.lnk c)) := rfl
@[simp] theorem State.updLnk_upl (s : State) (c : Fin 16) (f : Link → Link) : (s.updLnk c f).upl = s.upl := rfl
@[simp] theorem State.updLnk_fuses (s : State) (c : Fin 16) (f : Link → Link) : (s.updLnk c f).fuses = s.fuses := rfl
@[simp] theorem State.updLnk_opt (s : State) (c : Fin 16) (f : Link → Link) : (s.updLnk c f).opt = s.opt := rfl
@[simp] theorem State.updLnk_life (s : State) (c : Fin 16) (f : Link → Link) : (s.updLnk c f).life = s.life := rfl
@[simp] theorem State.updLnk_tamp (s : State) (c : Fin 16) (f : Link → Link) : (s.updLnk c f).tamp = s.tamp := rfl
@[simp] theorem State.updLnk_kiln (s : State) (c : Fin 16) (f : Link → Link) : (s.updLnk c f).kiln = s.kiln := rfl
@[simp] theorem State.updLnk_ksm (s : State) (c : Fin 16) (f : Link → Link) : (s.updLnk c f).ksm = s.ksm := rfl
@[simp] theorem State.updLnk_core (s : State) (c : Fin 16) (f : Link → Link) : (s.updLnk c f).core = s.core := rfl
@[simp] theorem State.updLnk_mem (s : State) (c : Fin 16) (f : Link → Link) : (s.updLnk c f).mem = s.mem := rfl
@[simp] theorem State.updLnk_ldm (s : State) (c : Fin 16) (f : Link → Link) : (s.updLnk c f).ldm = s.ldm := rfl
@[simp] theorem State.updLnk_memBad (s : State) (c : Fin 16) (f : Link → Link) : (s.updLnk c f).memBad = s.memBad := rfl
@[simp] theorem State.updLnk_ldmBad (s : State) (c : Fin 16) (f : Link → Link) : (s.updLnk c f).ldmBad = s.ldmBad := rfl
@[simp] theorem State.updLnk_memCorrected (s : State) (c : Fin 16) (f : Link → Link) : (s.updLnk c f).memCorrected = s.memCorrected := rfl
@[simp] theorem State.updLnk_memError (s : State) (c : Fin 16) (f : Link → Link) : (s.updLnk c f).memError = s.memError := rfl
@[simp] theorem State.updLnk_longScrubs (s : State) (c : Fin 16) (f : Link → Link) : (s.updLnk c f).longScrubs = s.longScrubs := rfl
@[simp] theorem State.updLnk_irq (s : State) (c : Fin 16) (f : Link → Link) : (s.updLnk c f).irq = s.irq := rfl
@[simp] theorem State.updLnk_prot (s : State) (c : Fin 16) (f : Link → Link) : (s.updLnk c f).prot = s.prot := rfl
@[simp] theorem State.updLnk_eng (s : State) (c : Fin 16) (f : Link → Link) : (s.updLnk c f).eng = s.eng := rfl
@[simp] theorem State.updLnk_aes (s : State) (c : Fin 16) (f : Link → Link) : (s.updLnk c f).aes = s.aes := rfl
@[simp] theorem State.updLnk_dig (s : State) (c : Fin 16) (f : Link → Link) : (s.updLnk c f).dig = s.dig := rfl
@[simp] theorem State.updLnk_wmu (s : State) (c : Fin 16) (f : Link → Link) : (s.updLnk c f).wmu = s.wmu := rfl
@[simp] theorem State.updLnk_flc (s : State) (c : Fin 16) (f : Link → Link) : (s.updLnk c f).flc = s.flc := rfl
@[simp] theorem State.updLnk_app (s : State) (c : Fin 16) (f : Link → Link) : (s.updLnk c f).app = s.app := rfl
@[simp] theorem State.updLnk_selft (s : State) (c : Fin 16) (f : Link → Link) : (s.updLnk c f).selft = s.selft := rfl
@[simp] theorem State.updLnk_spy (s : State) (c : Fin 16) (f : Link → Link) : (s.updLnk c f).spy = s.spy := rfl
@[simp] theorem State.updLnk_met (s : State) (c : Fin 16) (f : Link → Link) : (s.updLnk c f).met = s.met := rfl
@[simp] theorem State.updLnk_sjm (s : State) (c : Fin 16) (f : Link → Link) : (s.updLnk c f).sjm = s.sjm := rfl

@[simp] theorem State.updApp_pending (s : State) (d : Fin 16) (f : App → App) : (s.updApp d f).pending = s.pending := rfl
@[simp] theorem State.updApp_freeCount (s : State) (d : Fin 16) (f : App → App) : (s.updApp d f).freeCount = s.freeCount := rfl
@[simp] theorem State.updApp_out (s : State) (d : Fin 16) (f : App → App) : (s.updApp d f).out = s.out := rfl
@[simp] theorem State.updApp_rails (s : State) (d : Fin 16) (f : App → App) : (s.updApp d f).rails = s.rails := rfl
@[simp] theorem State.updApp_tick (s : State) (d : Fin 16) (f : App → App) : (s.updApp d f).tick = s.tick := rfl
@[simp] theorem State.updApp_tickHi (s : State) (d : Fin 16) (f : App → App) : (s.updApp d f).tickHi = s.tickHi := rfl
@[simp] theorem State.updApp_straps (s : State) (d : Fin 16) (f : App → App) : (s.updApp d f).straps = s.straps := rfl
@[simp] theorem State.updApp_bins (s : State) (d : Fin 16) (f : App → App) : (s.updApp d f).bins = s.bins := rfl
@[simp] theorem State.updApp_clk (s : State) (d : Fin 16) (f : App → App) : (s.updApp d f).clk = s.clk := rfl
@[simp] theorem State.updApp_pwr (s : State) (d : Fin 16) (f : App → App) : (s.updApp d f).pwr = s.pwr := rfl
@[simp] theorem State.updApp_ch (s : State) (d : Fin 16) (f : App → App) : (s.updApp d f).ch = s.ch := rfl
@[simp] theorem State.updApp_link (s : State) (d : Fin 16) (f : App → App) : (s.updApp d f).link = s.link := rfl
@[simp] theorem State.updApp_upl (s : State) (d : Fin 16) (f : App → App) : (s.updApp d f).upl = s.upl := rfl
@[simp] theorem State.updApp_fuses (s : State) (d : Fin 16) (f : App → App) : (s.updApp d f).fuses = s.fuses := rfl
@[simp] theorem State.updApp_opt (s : State) (d : Fin 16) (f : App → App) : (s.updApp d f).opt = s.opt := rfl
@[simp] theorem State.updApp_life (s : State) (d : Fin 16) (f : App → App) : (s.updApp d f).life = s.life := rfl
@[simp] theorem State.updApp_tamp (s : State) (d : Fin 16) (f : App → App) : (s.updApp d f).tamp = s.tamp := rfl
@[simp] theorem State.updApp_kiln (s : State) (d : Fin 16) (f : App → App) : (s.updApp d f).kiln = s.kiln := rfl
@[simp] theorem State.updApp_ksm (s : State) (d : Fin 16) (f : App → App) : (s.updApp d f).ksm = s.ksm := rfl
@[simp] theorem State.updApp_core (s : State) (d : Fin 16) (f : App → App) : (s.updApp d f).core = s.core := rfl
@[simp] theorem State.updApp_mem (s : State) (d : Fin 16) (f : App → App) : (s.updApp d f).mem = s.mem := rfl
@[simp] theorem State.updApp_ldm (s : State) (d : Fin 16) (f : App → App) : (s.updApp d f).ldm = s.ldm := rfl
@[simp] theorem State.updApp_memBad (s : State) (d : Fin 16) (f : App → App) : (s.updApp d f).memBad = s.memBad := rfl
@[simp] theorem State.updApp_ldmBad (s : State) (d : Fin 16) (f : App → App) : (s.updApp d f).ldmBad = s.ldmBad := rfl
@[simp] theorem State.updApp_memCorrected (s : State) (d : Fin 16) (f : App → App) : (s.updApp d f).memCorrected = s.memCorrected := rfl
@[simp] theorem State.updApp_memError (s : State) (d : Fin 16) (f : App → App) : (s.updApp d f).memError = s.memError := rfl
@[simp] theorem State.updApp_longScrubs (s : State) (d : Fin 16) (f : App → App) : (s.updApp d f).longScrubs = s.longScrubs := rfl
@[simp] theorem State.updApp_irq (s : State) (d : Fin 16) (f : App → App) : (s.updApp d f).irq = s.irq := rfl
@[simp] theorem State.updApp_prot (s : State) (d : Fin 16) (f : App → App) : (s.updApp d f).prot = s.prot := rfl
@[simp] theorem State.updApp_eng (s : State) (d : Fin 16) (f : App → App) : (s.updApp d f).eng = s.eng := rfl
@[simp] theorem State.updApp_aes (s : State) (d : Fin 16) (f : App → App) : (s.updApp d f).aes = s.aes := rfl
@[simp] theorem State.updApp_dig (s : State) (d : Fin 16) (f : App → App) : (s.updApp d f).dig = s.dig := rfl
@[simp] theorem State.updApp_wmu (s : State) (d : Fin 16) (f : App → App) : (s.updApp d f).wmu = s.wmu := rfl
@[simp] theorem State.updApp_flc (s : State) (d : Fin 16) (f : App → App) : (s.updApp d f).flc = s.flc := rfl
@[simp] theorem State.updApp_app (s : State) (d : Fin 16) (f : App → App) : (s.updApp d f).app = s.app.set d (f (s.appOf d)) := rfl
@[simp] theorem State.updApp_selft (s : State) (d : Fin 16) (f : App → App) : (s.updApp d f).selft = s.selft := rfl
@[simp] theorem State.updApp_spy (s : State) (d : Fin 16) (f : App → App) : (s.updApp d f).spy = s.spy := rfl
@[simp] theorem State.updApp_met (s : State) (d : Fin 16) (f : App → App) : (s.updApp d f).met = s.met := rfl
@[simp] theorem State.updApp_sjm (s : State) (d : Fin 16) (f : App → App) : (s.updApp d f).sjm = s.sjm := rfl

@[simp] theorem State.updCore_pending (s : State) (k : Fin 2) (f : Core → Core) : (s.updCore k f).pending = s.pending := rfl
@[simp] theorem State.updCore_freeCount (s : State) (k : Fin 2) (f : Core → Core) : (s.updCore k f).freeCount = s.freeCount := rfl
@[simp] theorem State.updCore_out (s : State) (k : Fin 2) (f : Core → Core) : (s.updCore k f).out = s.out := rfl
@[simp] theorem State.updCore_rails (s : State) (k : Fin 2) (f : Core → Core) : (s.updCore k f).rails = s.rails := rfl
@[simp] theorem State.updCore_tick (s : State) (k : Fin 2) (f : Core → Core) : (s.updCore k f).tick = s.tick := rfl
@[simp] theorem State.updCore_tickHi (s : State) (k : Fin 2) (f : Core → Core) : (s.updCore k f).tickHi = s.tickHi := rfl
@[simp] theorem State.updCore_straps (s : State) (k : Fin 2) (f : Core → Core) : (s.updCore k f).straps = s.straps := rfl
@[simp] theorem State.updCore_bins (s : State) (k : Fin 2) (f : Core → Core) : (s.updCore k f).bins = s.bins := rfl
@[simp] theorem State.updCore_clk (s : State) (k : Fin 2) (f : Core → Core) : (s.updCore k f).clk = s.clk := rfl
@[simp] theorem State.updCore_pwr (s : State) (k : Fin 2) (f : Core → Core) : (s.updCore k f).pwr = s.pwr := rfl
@[simp] theorem State.updCore_ch (s : State) (k : Fin 2) (f : Core → Core) : (s.updCore k f).ch = s.ch := rfl
@[simp] theorem State.updCore_link (s : State) (k : Fin 2) (f : Core → Core) : (s.updCore k f).link = s.link := rfl
@[simp] theorem State.updCore_upl (s : State) (k : Fin 2) (f : Core → Core) : (s.updCore k f).upl = s.upl := rfl
@[simp] theorem State.updCore_fuses (s : State) (k : Fin 2) (f : Core → Core) : (s.updCore k f).fuses = s.fuses := rfl
@[simp] theorem State.updCore_opt (s : State) (k : Fin 2) (f : Core → Core) : (s.updCore k f).opt = s.opt := rfl
@[simp] theorem State.updCore_life (s : State) (k : Fin 2) (f : Core → Core) : (s.updCore k f).life = s.life := rfl
@[simp] theorem State.updCore_tamp (s : State) (k : Fin 2) (f : Core → Core) : (s.updCore k f).tamp = s.tamp := rfl
@[simp] theorem State.updCore_kiln (s : State) (k : Fin 2) (f : Core → Core) : (s.updCore k f).kiln = s.kiln := rfl
@[simp] theorem State.updCore_ksm (s : State) (k : Fin 2) (f : Core → Core) : (s.updCore k f).ksm = s.ksm := rfl
@[simp] theorem State.updCore_core (s : State) (k : Fin 2) (f : Core → Core) : (s.updCore k f).core = s.core.set k (f (s.coreOf k)) := rfl
@[simp] theorem State.updCore_mem (s : State) (k : Fin 2) (f : Core → Core) : (s.updCore k f).mem = s.mem := rfl
@[simp] theorem State.updCore_ldm (s : State) (k : Fin 2) (f : Core → Core) : (s.updCore k f).ldm = s.ldm := rfl
@[simp] theorem State.updCore_memBad (s : State) (k : Fin 2) (f : Core → Core) : (s.updCore k f).memBad = s.memBad := rfl
@[simp] theorem State.updCore_ldmBad (s : State) (k : Fin 2) (f : Core → Core) : (s.updCore k f).ldmBad = s.ldmBad := rfl
@[simp] theorem State.updCore_memCorrected (s : State) (k : Fin 2) (f : Core → Core) : (s.updCore k f).memCorrected = s.memCorrected := rfl
@[simp] theorem State.updCore_memError (s : State) (k : Fin 2) (f : Core → Core) : (s.updCore k f).memError = s.memError := rfl
@[simp] theorem State.updCore_longScrubs (s : State) (k : Fin 2) (f : Core → Core) : (s.updCore k f).longScrubs = s.longScrubs := rfl
@[simp] theorem State.updCore_irq (s : State) (k : Fin 2) (f : Core → Core) : (s.updCore k f).irq = s.irq := rfl
@[simp] theorem State.updCore_prot (s : State) (k : Fin 2) (f : Core → Core) : (s.updCore k f).prot = s.prot := rfl
@[simp] theorem State.updCore_eng (s : State) (k : Fin 2) (f : Core → Core) : (s.updCore k f).eng = s.eng := rfl
@[simp] theorem State.updCore_aes (s : State) (k : Fin 2) (f : Core → Core) : (s.updCore k f).aes = s.aes := rfl
@[simp] theorem State.updCore_dig (s : State) (k : Fin 2) (f : Core → Core) : (s.updCore k f).dig = s.dig := rfl
@[simp] theorem State.updCore_wmu (s : State) (k : Fin 2) (f : Core → Core) : (s.updCore k f).wmu = s.wmu := rfl
@[simp] theorem State.updCore_flc (s : State) (k : Fin 2) (f : Core → Core) : (s.updCore k f).flc = s.flc := rfl
@[simp] theorem State.updCore_app (s : State) (k : Fin 2) (f : Core → Core) : (s.updCore k f).app = s.app := rfl
@[simp] theorem State.updCore_selft (s : State) (k : Fin 2) (f : Core → Core) : (s.updCore k f).selft = s.selft := rfl
@[simp] theorem State.updCore_spy (s : State) (k : Fin 2) (f : Core → Core) : (s.updCore k f).spy = s.spy := rfl
@[simp] theorem State.updCore_met (s : State) (k : Fin 2) (f : Core → Core) : (s.updCore k f).met = s.met := rfl
@[simp] theorem State.updCore_sjm (s : State) (k : Fin 2) (f : Core → Core) : (s.updCore k f).sjm = s.sjm := rfl

@[simp] theorem State.updEng_pending (s : State) (e : Eng) (f : EngSt → EngSt) : (s.updEng e f).pending = s.pending := rfl
@[simp] theorem State.updEng_freeCount (s : State) (e : Eng) (f : EngSt → EngSt) : (s.updEng e f).freeCount = s.freeCount := rfl
@[simp] theorem State.updEng_out (s : State) (e : Eng) (f : EngSt → EngSt) : (s.updEng e f).out = s.out := rfl
@[simp] theorem State.updEng_rails (s : State) (e : Eng) (f : EngSt → EngSt) : (s.updEng e f).rails = s.rails := rfl
@[simp] theorem State.updEng_tick (s : State) (e : Eng) (f : EngSt → EngSt) : (s.updEng e f).tick = s.tick := rfl
@[simp] theorem State.updEng_tickHi (s : State) (e : Eng) (f : EngSt → EngSt) : (s.updEng e f).tickHi = s.tickHi := rfl
@[simp] theorem State.updEng_straps (s : State) (e : Eng) (f : EngSt → EngSt) : (s.updEng e f).straps = s.straps := rfl
@[simp] theorem State.updEng_bins (s : State) (e : Eng) (f : EngSt → EngSt) : (s.updEng e f).bins = s.bins := rfl
@[simp] theorem State.updEng_clk (s : State) (e : Eng) (f : EngSt → EngSt) : (s.updEng e f).clk = s.clk := rfl
@[simp] theorem State.updEng_pwr (s : State) (e : Eng) (f : EngSt → EngSt) : (s.updEng e f).pwr = s.pwr := rfl
@[simp] theorem State.updEng_ch (s : State) (e : Eng) (f : EngSt → EngSt) : (s.updEng e f).ch = s.ch := rfl
@[simp] theorem State.updEng_link (s : State) (e : Eng) (f : EngSt → EngSt) : (s.updEng e f).link = s.link := rfl
@[simp] theorem State.updEng_upl (s : State) (e : Eng) (f : EngSt → EngSt) : (s.updEng e f).upl = s.upl := rfl
@[simp] theorem State.updEng_fuses (s : State) (e : Eng) (f : EngSt → EngSt) : (s.updEng e f).fuses = s.fuses := rfl
@[simp] theorem State.updEng_opt (s : State) (e : Eng) (f : EngSt → EngSt) : (s.updEng e f).opt = s.opt := rfl
@[simp] theorem State.updEng_life (s : State) (e : Eng) (f : EngSt → EngSt) : (s.updEng e f).life = s.life := rfl
@[simp] theorem State.updEng_tamp (s : State) (e : Eng) (f : EngSt → EngSt) : (s.updEng e f).tamp = s.tamp := rfl
@[simp] theorem State.updEng_kiln (s : State) (e : Eng) (f : EngSt → EngSt) : (s.updEng e f).kiln = s.kiln := rfl
@[simp] theorem State.updEng_ksm (s : State) (e : Eng) (f : EngSt → EngSt) : (s.updEng e f).ksm = s.ksm := rfl
@[simp] theorem State.updEng_core (s : State) (e : Eng) (f : EngSt → EngSt) : (s.updEng e f).core = s.core := rfl
@[simp] theorem State.updEng_mem (s : State) (e : Eng) (f : EngSt → EngSt) : (s.updEng e f).mem = s.mem := rfl
@[simp] theorem State.updEng_ldm (s : State) (e : Eng) (f : EngSt → EngSt) : (s.updEng e f).ldm = s.ldm := rfl
@[simp] theorem State.updEng_memBad (s : State) (e : Eng) (f : EngSt → EngSt) : (s.updEng e f).memBad = s.memBad := rfl
@[simp] theorem State.updEng_ldmBad (s : State) (e : Eng) (f : EngSt → EngSt) : (s.updEng e f).ldmBad = s.ldmBad := rfl
@[simp] theorem State.updEng_memCorrected (s : State) (e : Eng) (f : EngSt → EngSt) : (s.updEng e f).memCorrected = s.memCorrected := rfl
@[simp] theorem State.updEng_memError (s : State) (e : Eng) (f : EngSt → EngSt) : (s.updEng e f).memError = s.memError := rfl
@[simp] theorem State.updEng_longScrubs (s : State) (e : Eng) (f : EngSt → EngSt) : (s.updEng e f).longScrubs = s.longScrubs := rfl
@[simp] theorem State.updEng_irq (s : State) (e : Eng) (f : EngSt → EngSt) : (s.updEng e f).irq = s.irq := rfl
@[simp] theorem State.updEng_prot (s : State) (e : Eng) (f : EngSt → EngSt) : (s.updEng e f).prot = s.prot := rfl
@[simp] theorem State.updEng_eng (s : State) (e : Eng) (f : EngSt → EngSt) : (s.updEng e f).eng = s.eng.set (engIx e) (f (s.engOf e)) := rfl
@[simp] theorem State.updEng_aes (s : State) (e : Eng) (f : EngSt → EngSt) : (s.updEng e f).aes = s.aes := rfl
@[simp] theorem State.updEng_dig (s : State) (e : Eng) (f : EngSt → EngSt) : (s.updEng e f).dig = s.dig := rfl
@[simp] theorem State.updEng_wmu (s : State) (e : Eng) (f : EngSt → EngSt) : (s.updEng e f).wmu = s.wmu := rfl
@[simp] theorem State.updEng_flc (s : State) (e : Eng) (f : EngSt → EngSt) : (s.updEng e f).flc = s.flc := rfl
@[simp] theorem State.updEng_app (s : State) (e : Eng) (f : EngSt → EngSt) : (s.updEng e f).app = s.app := rfl
@[simp] theorem State.updEng_selft (s : State) (e : Eng) (f : EngSt → EngSt) : (s.updEng e f).selft = s.selft := rfl
@[simp] theorem State.updEng_spy (s : State) (e : Eng) (f : EngSt → EngSt) : (s.updEng e f).spy = s.spy := rfl
@[simp] theorem State.updEng_met (s : State) (e : Eng) (f : EngSt → EngSt) : (s.updEng e f).met = s.met := rfl
@[simp] theorem State.updEng_sjm (s : State) (e : Eng) (f : EngSt → EngSt) : (s.updEng e f).sjm = s.sjm := rfl

@[simp] theorem State.emit_pending (s : State) (e : Emit) : (s.emit e).pending = s.pending := rfl
@[simp] theorem State.emit_freeCount (s : State) (e : Emit) : (s.emit e).freeCount = s.freeCount := rfl
@[simp] theorem State.emit_out (s : State) (e : Emit) : (s.emit e).out = e :: s.out := rfl
@[simp] theorem State.emit_rails (s : State) (e : Emit) : (s.emit e).rails = s.rails := rfl
@[simp] theorem State.emit_tick (s : State) (e : Emit) : (s.emit e).tick = s.tick := rfl
@[simp] theorem State.emit_tickHi (s : State) (e : Emit) : (s.emit e).tickHi = s.tickHi := rfl
@[simp] theorem State.emit_straps (s : State) (e : Emit) : (s.emit e).straps = s.straps := rfl
@[simp] theorem State.emit_bins (s : State) (e : Emit) : (s.emit e).bins = s.bins := rfl
@[simp] theorem State.emit_clk (s : State) (e : Emit) : (s.emit e).clk = s.clk := rfl
@[simp] theorem State.emit_pwr (s : State) (e : Emit) : (s.emit e).pwr = s.pwr := rfl
@[simp] theorem State.emit_ch (s : State) (e : Emit) : (s.emit e).ch = s.ch := rfl
@[simp] theorem State.emit_link (s : State) (e : Emit) : (s.emit e).link = s.link := rfl
@[simp] theorem State.emit_upl (s : State) (e : Emit) : (s.emit e).upl = s.upl := rfl
@[simp] theorem State.emit_fuses (s : State) (e : Emit) : (s.emit e).fuses = s.fuses := rfl
@[simp] theorem State.emit_opt (s : State) (e : Emit) : (s.emit e).opt = s.opt := rfl
@[simp] theorem State.emit_life (s : State) (e : Emit) : (s.emit e).life = s.life := rfl
@[simp] theorem State.emit_tamp (s : State) (e : Emit) : (s.emit e).tamp = s.tamp := rfl
@[simp] theorem State.emit_kiln (s : State) (e : Emit) : (s.emit e).kiln = s.kiln := rfl
@[simp] theorem State.emit_ksm (s : State) (e : Emit) : (s.emit e).ksm = s.ksm := rfl
@[simp] theorem State.emit_core (s : State) (e : Emit) : (s.emit e).core = s.core := rfl
@[simp] theorem State.emit_mem (s : State) (e : Emit) : (s.emit e).mem = s.mem := rfl
@[simp] theorem State.emit_ldm (s : State) (e : Emit) : (s.emit e).ldm = s.ldm := rfl
@[simp] theorem State.emit_memBad (s : State) (e : Emit) : (s.emit e).memBad = s.memBad := rfl
@[simp] theorem State.emit_ldmBad (s : State) (e : Emit) : (s.emit e).ldmBad = s.ldmBad := rfl
@[simp] theorem State.emit_memCorrected (s : State) (e : Emit) : (s.emit e).memCorrected = s.memCorrected := rfl
@[simp] theorem State.emit_memError (s : State) (e : Emit) : (s.emit e).memError = s.memError := rfl
@[simp] theorem State.emit_longScrubs (s : State) (e : Emit) : (s.emit e).longScrubs = s.longScrubs := rfl
@[simp] theorem State.emit_irq (s : State) (e : Emit) : (s.emit e).irq = s.irq := rfl
@[simp] theorem State.emit_prot (s : State) (e : Emit) : (s.emit e).prot = s.prot := rfl
@[simp] theorem State.emit_eng (s : State) (e : Emit) : (s.emit e).eng = s.eng := rfl
@[simp] theorem State.emit_aes (s : State) (e : Emit) : (s.emit e).aes = s.aes := rfl
@[simp] theorem State.emit_dig (s : State) (e : Emit) : (s.emit e).dig = s.dig := rfl
@[simp] theorem State.emit_wmu (s : State) (e : Emit) : (s.emit e).wmu = s.wmu := rfl
@[simp] theorem State.emit_flc (s : State) (e : Emit) : (s.emit e).flc = s.flc := rfl
@[simp] theorem State.emit_app (s : State) (e : Emit) : (s.emit e).app = s.app := rfl
@[simp] theorem State.emit_selft (s : State) (e : Emit) : (s.emit e).selft = s.selft := rfl
@[simp] theorem State.emit_spy (s : State) (e : Emit) : (s.emit e).spy = s.spy := rfl
@[simp] theorem State.emit_met (s : State) (e : Emit) : (s.emit e).met = s.met := rfl
@[simp] theorem State.emit_sjm (s : State) (e : Emit) : (s.emit e).sjm = s.sjm := rfl

@[simp] theorem State.tick1_pending (s : State) : (s.tick1).pending = s.pending := rfl
@[simp] theorem State.tick1_freeCount (s : State) : (s.tick1).freeCount = s.freeCount + 1 := rfl
@[simp] theorem State.tick1_out (s : State) : (s.tick1).out = s.out := rfl
@[simp] theorem State.tick1_rails (s : State) : (s.tick1).rails = s.rails := rfl
@[simp] theorem State.tick1_tick (s : State) : (s.tick1).tick = s.tick := rfl
@[simp] theorem State.tick1_tickHi (s : State) : (s.tick1).tickHi = s.tickHi := rfl
@[simp] theorem State.tick1_straps (s : State) : (s.tick1).straps = s.straps := rfl
@[simp] theorem State.tick1_bins (s : State) : (s.tick1).bins = s.bins := rfl
@[simp] theorem State.tick1_clk (s : State) : (s.tick1).clk = s.clk := rfl
@[simp] theorem State.tick1_pwr (s : State) : (s.tick1).pwr = s.pwr := rfl
@[simp] theorem State.tick1_ch (s : State) : (s.tick1).ch = s.ch := rfl
@[simp] theorem State.tick1_link (s : State) : (s.tick1).link = s.link := rfl
@[simp] theorem State.tick1_upl (s : State) : (s.tick1).upl = s.upl := rfl
@[simp] theorem State.tick1_fuses (s : State) : (s.tick1).fuses = s.fuses := rfl
@[simp] theorem State.tick1_opt (s : State) : (s.tick1).opt = s.opt := rfl
@[simp] theorem State.tick1_life (s : State) : (s.tick1).life = s.life := rfl
@[simp] theorem State.tick1_tamp (s : State) : (s.tick1).tamp = s.tamp := rfl
@[simp] theorem State.tick1_kiln (s : State) : (s.tick1).kiln = s.kiln := rfl
@[simp] theorem State.tick1_ksm (s : State) : (s.tick1).ksm = s.ksm := rfl
@[simp] theorem State.tick1_core (s : State) : (s.tick1).core = s.core := rfl
@[simp] theorem State.tick1_mem (s : State) : (s.tick1).mem = s.mem := rfl
@[simp] theorem State.tick1_ldm (s : State) : (s.tick1).ldm = s.ldm := rfl
@[simp] theorem State.tick1_memBad (s : State) : (s.tick1).memBad = s.memBad := rfl
@[simp] theorem State.tick1_ldmBad (s : State) : (s.tick1).ldmBad = s.ldmBad := rfl
@[simp] theorem State.tick1_memCorrected (s : State) : (s.tick1).memCorrected = s.memCorrected := rfl
@[simp] theorem State.tick1_memError (s : State) : (s.tick1).memError = s.memError := rfl
@[simp] theorem State.tick1_longScrubs (s : State) : (s.tick1).longScrubs = s.longScrubs := rfl
@[simp] theorem State.tick1_irq (s : State) : (s.tick1).irq = s.irq := rfl
@[simp] theorem State.tick1_prot (s : State) : (s.tick1).prot = s.prot := rfl
@[simp] theorem State.tick1_eng (s : State) : (s.tick1).eng = s.eng := rfl
@[simp] theorem State.tick1_aes (s : State) : (s.tick1).aes = s.aes := rfl
@[simp] theorem State.tick1_dig (s : State) : (s.tick1).dig = s.dig := rfl
@[simp] theorem State.tick1_wmu (s : State) : (s.tick1).wmu = s.wmu := rfl
@[simp] theorem State.tick1_flc (s : State) : (s.tick1).flc = s.flc := rfl
@[simp] theorem State.tick1_app (s : State) : (s.tick1).app = s.app := rfl
@[simp] theorem State.tick1_selft (s : State) : (s.tick1).selft = s.selft := rfl
@[simp] theorem State.tick1_spy (s : State) : (s.tick1).spy = s.spy := rfl
@[simp] theorem State.tick1_met (s : State) : (s.tick1).met = s.met := rfl
@[simp] theorem State.tick1_sjm (s : State) : (s.tick1).sjm = s.sjm := rfl

@[simp] theorem State.advanceTo_pending (s : State) (k : Nat) : (s.advanceTo k).pending = s.pending := rfl
@[simp] theorem State.advanceTo_freeCount (s : State) (k : Nat) : (s.advanceTo k).freeCount = s.freeCount := rfl
@[simp] theorem State.advanceTo_out (s : State) (k : Nat) : (s.advanceTo k).out = s.out := rfl
@[simp] theorem State.advanceTo_rails (s : State) (k : Nat) : (s.advanceTo k).rails = s.rails := rfl
@[simp] theorem State.advanceTo_tick (s : State) (k : Nat) : (s.advanceTo k).tick = max s.tick (min k (2 ^ 48 - 1)) := rfl
@[simp] theorem State.advanceTo_tickHi (s : State) (k : Nat) : (s.advanceTo k).tickHi = s.tickHi := rfl
@[simp] theorem State.advanceTo_straps (s : State) (k : Nat) : (s.advanceTo k).straps = s.straps := rfl
@[simp] theorem State.advanceTo_bins (s : State) (k : Nat) : (s.advanceTo k).bins = s.bins := rfl
@[simp] theorem State.advanceTo_clk (s : State) (k : Nat) : (s.advanceTo k).clk = s.clk := rfl
@[simp] theorem State.advanceTo_pwr (s : State) (k : Nat) : (s.advanceTo k).pwr = s.pwr := rfl
@[simp] theorem State.advanceTo_ch (s : State) (k : Nat) : (s.advanceTo k).ch = s.ch := rfl
@[simp] theorem State.advanceTo_link (s : State) (k : Nat) : (s.advanceTo k).link = s.link := rfl
@[simp] theorem State.advanceTo_upl (s : State) (k : Nat) : (s.advanceTo k).upl = s.upl := rfl
@[simp] theorem State.advanceTo_fuses (s : State) (k : Nat) : (s.advanceTo k).fuses = s.fuses := rfl
@[simp] theorem State.advanceTo_opt (s : State) (k : Nat) : (s.advanceTo k).opt = s.opt := rfl
@[simp] theorem State.advanceTo_life (s : State) (k : Nat) : (s.advanceTo k).life = s.life := rfl
@[simp] theorem State.advanceTo_tamp (s : State) (k : Nat) : (s.advanceTo k).tamp = s.tamp := rfl
@[simp] theorem State.advanceTo_kiln (s : State) (k : Nat) : (s.advanceTo k).kiln = s.kiln := rfl
@[simp] theorem State.advanceTo_ksm (s : State) (k : Nat) : (s.advanceTo k).ksm = s.ksm := rfl
@[simp] theorem State.advanceTo_core (s : State) (k : Nat) : (s.advanceTo k).core = s.core := rfl
@[simp] theorem State.advanceTo_mem (s : State) (k : Nat) : (s.advanceTo k).mem = s.mem := rfl
@[simp] theorem State.advanceTo_ldm (s : State) (k : Nat) : (s.advanceTo k).ldm = s.ldm := rfl
@[simp] theorem State.advanceTo_memBad (s : State) (k : Nat) : (s.advanceTo k).memBad = s.memBad := rfl
@[simp] theorem State.advanceTo_ldmBad (s : State) (k : Nat) : (s.advanceTo k).ldmBad = s.ldmBad := rfl
@[simp] theorem State.advanceTo_memCorrected (s : State) (k : Nat) : (s.advanceTo k).memCorrected = s.memCorrected := rfl
@[simp] theorem State.advanceTo_memError (s : State) (k : Nat) : (s.advanceTo k).memError = s.memError := rfl
@[simp] theorem State.advanceTo_longScrubs (s : State) (k : Nat) : (s.advanceTo k).longScrubs = s.longScrubs := rfl
@[simp] theorem State.advanceTo_irq (s : State) (k : Nat) : (s.advanceTo k).irq = s.irq := rfl
@[simp] theorem State.advanceTo_prot (s : State) (k : Nat) : (s.advanceTo k).prot = s.prot := rfl
@[simp] theorem State.advanceTo_eng (s : State) (k : Nat) : (s.advanceTo k).eng = s.eng := rfl
@[simp] theorem State.advanceTo_aes (s : State) (k : Nat) : (s.advanceTo k).aes = s.aes := rfl
@[simp] theorem State.advanceTo_dig (s : State) (k : Nat) : (s.advanceTo k).dig = s.dig := rfl
@[simp] theorem State.advanceTo_wmu (s : State) (k : Nat) : (s.advanceTo k).wmu = s.wmu := rfl
@[simp] theorem State.advanceTo_flc (s : State) (k : Nat) : (s.advanceTo k).flc = s.flc := rfl
@[simp] theorem State.advanceTo_app (s : State) (k : Nat) : (s.advanceTo k).app = s.app := rfl
@[simp] theorem State.advanceTo_selft (s : State) (k : Nat) : (s.advanceTo k).selft = s.selft := rfl
@[simp] theorem State.advanceTo_spy (s : State) (k : Nat) : (s.advanceTo k).spy = s.spy := rfl
@[simp] theorem State.advanceTo_met (s : State) (k : Nat) : (s.advanceTo k).met = s.met := rfl
@[simp] theorem State.advanceTo_sjm (s : State) (k : Nat) : (s.advanceTo k).sjm = s.sjm := rfl

@[simp] theorem State.burn_pending (s : State) (w mask : Nat) : (s.burn w mask).pending = s.pending := rfl
@[simp] theorem State.burn_freeCount (s : State) (w mask : Nat) : (s.burn w mask).freeCount = s.freeCount := rfl
@[simp] theorem State.burn_out (s : State) (w mask : Nat) : (s.burn w mask).out = s.out := rfl
@[simp] theorem State.burn_rails (s : State) (w mask : Nat) : (s.burn w mask).rails = s.rails := rfl
@[simp] theorem State.burn_tick (s : State) (w mask : Nat) : (s.burn w mask).tick = s.tick := rfl
@[simp] theorem State.burn_tickHi (s : State) (w mask : Nat) : (s.burn w mask).tickHi = s.tickHi := rfl
@[simp] theorem State.burn_straps (s : State) (w mask : Nat) : (s.burn w mask).straps = s.straps := rfl
@[simp] theorem State.burn_bins (s : State) (w mask : Nat) : (s.burn w mask).bins = s.bins := rfl
@[simp] theorem State.burn_clk (s : State) (w mask : Nat) : (s.burn w mask).clk = s.clk := rfl
@[simp] theorem State.burn_pwr (s : State) (w mask : Nat) : (s.burn w mask).pwr = s.pwr := rfl
@[simp] theorem State.burn_ch (s : State) (w mask : Nat) : (s.burn w mask).ch = s.ch := rfl
@[simp] theorem State.burn_link (s : State) (w mask : Nat) : (s.burn w mask).link = s.link := rfl
@[simp] theorem State.burn_upl (s : State) (w mask : Nat) : (s.burn w mask).upl = s.upl := rfl
@[simp] theorem State.burn_opt (s : State) (w mask : Nat) : (s.burn w mask).opt = s.opt := rfl
@[simp] theorem State.burn_life (s : State) (w mask : Nat) : (s.burn w mask).life = s.life := rfl
@[simp] theorem State.burn_tamp (s : State) (w mask : Nat) : (s.burn w mask).tamp = s.tamp := rfl
@[simp] theorem State.burn_kiln (s : State) (w mask : Nat) : (s.burn w mask).kiln = s.kiln := rfl
@[simp] theorem State.burn_ksm (s : State) (w mask : Nat) : (s.burn w mask).ksm = s.ksm := rfl
@[simp] theorem State.burn_core (s : State) (w mask : Nat) : (s.burn w mask).core = s.core := rfl
@[simp] theorem State.burn_mem (s : State) (w mask : Nat) : (s.burn w mask).mem = s.mem := rfl
@[simp] theorem State.burn_ldm (s : State) (w mask : Nat) : (s.burn w mask).ldm = s.ldm := rfl
@[simp] theorem State.burn_memBad (s : State) (w mask : Nat) : (s.burn w mask).memBad = s.memBad := rfl
@[simp] theorem State.burn_ldmBad (s : State) (w mask : Nat) : (s.burn w mask).ldmBad = s.ldmBad := rfl
@[simp] theorem State.burn_memCorrected (s : State) (w mask : Nat) : (s.burn w mask).memCorrected = s.memCorrected := rfl
@[simp] theorem State.burn_memError (s : State) (w mask : Nat) : (s.burn w mask).memError = s.memError := rfl
@[simp] theorem State.burn_longScrubs (s : State) (w mask : Nat) : (s.burn w mask).longScrubs = s.longScrubs := rfl
@[simp] theorem State.burn_irq (s : State) (w mask : Nat) : (s.burn w mask).irq = s.irq := rfl
@[simp] theorem State.burn_prot (s : State) (w mask : Nat) : (s.burn w mask).prot = s.prot := rfl
@[simp] theorem State.burn_eng (s : State) (w mask : Nat) : (s.burn w mask).eng = s.eng := rfl
@[simp] theorem State.burn_aes (s : State) (w mask : Nat) : (s.burn w mask).aes = s.aes := rfl
@[simp] theorem State.burn_dig (s : State) (w mask : Nat) : (s.burn w mask).dig = s.dig := rfl
@[simp] theorem State.burn_wmu (s : State) (w mask : Nat) : (s.burn w mask).wmu = s.wmu := rfl
@[simp] theorem State.burn_flc (s : State) (w mask : Nat) : (s.burn w mask).flc = s.flc := rfl
@[simp] theorem State.burn_app (s : State) (w mask : Nat) : (s.burn w mask).app = s.app := rfl
@[simp] theorem State.burn_selft (s : State) (w mask : Nat) : (s.burn w mask).selft = s.selft := rfl
@[simp] theorem State.burn_spy (s : State) (w mask : Nat) : (s.burn w mask).spy = s.spy := rfl
@[simp] theorem State.burn_met (s : State) (w mask : Nat) : (s.burn w mask).met = s.met := rfl
@[simp] theorem State.burn_sjm (s : State) (w mask : Nat) : (s.burn w mask).sjm = s.sjm := rfl

end Sys2Proof.Machine
end

