-- ==== Sys2Proof/Tests/Slice0.lean ====
section
/-! SUPPORT. The model's own tests: well-formedness, one step on small states, and a state for every hypothesis of the statements. Expected
values come from the rules cited; a witness shows that the hypotheses of a clause can hold together. -/

namespace Sys2Proof.Tests

open Sys2Proof Sys2Proof.Machine

set_option Elab.async false

/-! ## Well-formedness: each check refuses a term -/

/-- A burst body one byte over the longest (R334, R336). -/
def longBurst : Burst := { body := zeros 289 }

/-- A Slip Joint frame whose CREDIT does not exist (R481). -/
def badFrame : SjRx := { lseq := 0, ack := 0, credit := 9, crcOk := true, ctr := 0, mac := [], payload := [] }

theorem test_wf_passes : [Instr.codeFirstPass [], .codeSecondPass [], .codeRereadPass [] (List.replicate 12 none),
    .codeRereadPass (List.replicate 12 none) [], .temperatureSample [], .beacon .a [] true (2 ^ 48) 0, .beacon .a [] true 0 (2 ^ 32),
    .windowClose [], .spareSlot (some 16)].all (fun c => !c.wf) = true := by decide +kernel

theorem test_wf_bursts : [Instr.burstDecoded 0 longBurst true, .probeRsp 0 longBurst true, .crp 0 longBurst true, .krp 0 longBurst true,
    .frp 0 longBurst, .busy 0 longBurst, .hsErr 0 longBurst, .rsp 0 longBurst, .atn 0 longBurst, .cla 0 longBurst].all (fun c => !c.wf) = true := by
  decide +kernel

theorem test_wf_frames : [Instr.helloM badFrame, .helloO badFrame, .confirm .main badFrame, .press badFrame, .time badFrame, .block badFrame,
    .hack badFrame, .extractReq badFrame, .load badFrame, .loadResult badFrame, .measure badFrame, .idle .main badFrame].all (fun c => !c.wf) = true := by
  decide +kernel

theorem test_wf_frame_fields : [{ badFrame with credit := 0, lseq := 2 ^ 16 }, { badFrame with credit := 0, ack := 2 ^ 16 }, badFrame,
    { badFrame with credit := 0, ctr := 2 ^ 32 }, { badFrame with credit := 0, payload := zeros 1057 }].all (fun f => !f.wf) = true := by
  decide +kernel

theorem test_wf_rings : [Instr.doorbell .fae 8 0, .ringEnable .sae 2 0, .ringDisable .dig 8 0, .ringConfigWrite .wmu 4 .base 0, .enc .fae 8,
    .dec .sae 2, .encXin .fae 8, .encXout .fae 8, .decXout .sae 2, .verdict .fae 8, .saggarExpiry 8, .hash 8, .hmac 8, .result 8, .compare 8,
    .free 8, .extend 8, .extendCtx 8, .mul 4, .mac 4, .rowmac 4, .wmuYield 4, .generate 2, .importPublic 2, .unwrap 2, .agree 2, .derive 2,
    .sign 2, .publicKey 2, .delete 2, .random 2, .wakeLoad 2, .cntRead 2, .cntInc 2, .cntAdvance 2, .cntSync 2, .cntMode 2, .program 4 .ends [] 0,
    .erase 4 .starts, .blank 4 [], .margin 4 [], .info 4].all (fun c => !c.wf) = true := by decide +kernel

theorem test_wf_accepts : [Instr.idle .main { badFrame with credit := 8 }, .doorbell .kiln 0 0, .windowClose (List.replicate 16 ⟨0, 0, 0⟩), .info 3].all Instr.wf = true := by
  decide +kernel

/-! ## Small states -/

/-- A Fired part in service with all rails valid. -/
def on : State :=
  { State.reset with
    rails := { vao := true, vio := true, vcore := true, vmet := true }
    pwr := { State.reset.pwr with main := .running, kiln := .running, phase := .done }
    life := { State.reset.life with firing := .fired } }

/-- The same with channel 0 in state `x`. -/
def onCh (x : Chan) : State := { on with ch := on.ch.set 0 x }

/-- A class A channel in service with its contract, under demand. -/
def chanA : Chan :=
  { known := true, eclass := .a, service := true, contracted := true, setup := true, dmd := true
    fenPad := { cur := .conn .g }, lnkPad := { cur := .conn .t } }

/-- A lamp channel. -/
def chanL : Chan := { known := true, eclass := .l, setup := true, fenPad := { cur := .conn .p }, lnkPad := { cur := .conn .t } }

/-- The same part with no tick source. -/
def noTick (x : Chan) : State := { onCh x with clk := { on.clk with tickSrc := none } }

/-! ## Channels -/

theorem witness_edges : ((onCh chanL).due 0).inputs = true ∧ (onCh chanL).aoTicks = true ∧ ((onCh chanL).due 0).dmd = false ∧
    ((onCh chanL).due 0).fbk = false ∧ ((onCh chanL).due 0).known = true := by decide +kernel

theorem witness_falls : let x : Chan := { chanL with dmd := true, fbk := true, fen := true }
    ((onCh x).due 0).inputs = true ∧ (onCh x).aoTicks = true ∧ ((onCh x).due 0).dmd = true ∧ ((onCh x).due 0).fbk = true ∧
    ((onCh x).due 0).fen = true := by decide +kernel

theorem witness_bypass : ((noTick chanL).due 0).inputs = true ∧ (noTick chanL).rails.vao = true ∧ (noTick chanL).clk.tickSrc = none ∧
    ((noTick chanL).due 0).dmd = false ∧ ((noTick chanL).due 0).stamps = true ∧ ((noTick chanL).due 0).fifo.length < 16 := by decide +kernel

theorem witness_windows : let k := 2 ^ 48 - 1
    (onCh chanL).aoTicks = true ∧ k < 2 ^ 48 ∧
    ((onCh { chanL with conf := some k }).chan 0).conf = some k ∧ ((onCh { chanL with conf := some k }).chan 0).keep = .idle ∧
    ((onCh { chanA with keep := .heartbeat k }).chan 0).keep = .heartbeat k ∧ ((onCh { chanA with keep := .heartbeat k }).lnk 0).sess = none ∧
    ((onCh { chanA with keep := .hold k, latch := true }).chan 0).keep = .hold k := by decide +kernel

theorem witness_guard_writes : let s := onCh { chanA with latch := true }
    s.wheelWrites = true ∧ (s.due 0).eclass.guarded = true ∧ (s.due 0).fused = false ∧ (s.due 0).frozen = false ∧ (s.due 0).grantable = true ∧
    (s.due 0).retired = false ∧ (s.due 0).fenPad.cur = .conn .g ∧ (s.due 0).eclass = .a ∧ (s.due 0).latch = true ∧ (s.due 0).dmd = true ∧
    (s.due 0).keep = .idle := by decide +kernel

theorem witness_guard_refusals : let f : Freeze := { provisional := true, main := true }
    ((onCh { chanA with fused := true }).due 0).fused = true ∧ (onCh chanA).wheelWrites = true ∧
    ((onCh chanL).due 0).fused = false ∧ ((onCh chanL).due 0).eclass.guarded = false ∧
    ((onCh { chanA with frz := f }).due 0).frozen = true ∧ ((onCh { chanA with frz := f }).due 0).awaiting = false ∧
    ((onCh { chanA with frz := f }).due 0).frz.provisionalAlone = false ∧ ((onCh { chanA with frz := f }).due 0).fused = false ∧
    ((onCh { chanA with frz := f }).due 0).eclass.guarded = true := by decide +kernel

theorem witness_service : let s := onCh { chanA with service := false }
    s.wheelWrites = true ∧ (s.due 0).fused = false ∧ (s.due 0).eclass.guarded = true ∧ (s.due 0).retired = false ∧ (s.due 0).service = false ∧
    ((onCh chanA).due 0).service = true ∧ (BitVec.ofNat 32 (2 ^ 24 - 1)).toNat % 2 ^ 24 ≠ 0 ∧ (BitVec.ofNat 32 (2 ^ 24)).toNat % 2 ^ 24 = 0 := by
  decide +kernel

theorem witness_pads : let k := 2 ^ 48 - 2
    let s := onCh { chanA with fenPad := { cur := .conn .g, req := some (some .p, k) }, lnkPad := { cur := .conn .t, req := some (some .e, k) } }
    let w := onCh { chanA with fenPad := { cur := .switching 0 (some .p) }, lnkPad := { cur := .switching 0 (some .e) } }
    s.aoTicks = true ∧ k + 1 < 2 ^ 48 ∧ (s.chan 0).fenPad.startable = some (some .p, k) ∧ (s.chan 0).lnkPad.startable = some (some .e, k) ∧
    (s.lnk 0).txn = none ∧ (w.chan 0).fenPad.cur = .switching 0 (some .p) ∧ (w.chan 0).lnkPad.cur = .switching 0 (some .e) ∧
    (onCh chanA).drives 0 = true ∧ ((onCh chanA).lnk 0).sess = none ∧ (onCh { chanL with padRetired := true }).drives 0 = true ∧
    ((onCh { chanL with padRetired := true }).chan 0).padRetired = true := by decide +kernel

/-! ## Field link -/

/-- A frame's body from its fields and payload, with its CRC (R363). -/
def plain (t : Nat) (p : Bytes) : Bytes :=
  let b := beBytes 1 t ++ beBytes 1 1 ++ beBytes 2 p.length ++ zeros 14 ++ p
  b ++ beBytes 4 (crc32 b)

/-- A session that has accepted CTR 4. -/
def sessT : Sess :=
  { sid := 7, encPe := [], macPe := [], encEp := List.replicate 16 2, macEp := List.replicate 16 3, wake := List.replicate 16 4, ctrRx := some 4 }

/-- A protected frame of that session with CTR 5 and payload `p` (R363, R378). -/
def sealed (t : Nat) (p : Bytes) : Bytes :=
  let h := beBytes 1 t ++ beBytes 1 1 ++ beBytes 2 p.length ++ beBytes 4 7 ++ beBytes 6 5 ++ linkWtag sessT.wake 0x45 7 5 p.length t ++
    aesCtr sessT.encEp (linkBlock 0x45 7 5) p
  let b := h ++ cmac sessT.macEp h
  b ++ beBytes 4 (crc32 b)

theorem crcOk_appended (b : Bytes) (h : 18 ≤ b.length) : crcOk (b ++ beBytes 4 (crc32 b)) = true := by
  have e : (beBytes 4 (crc32 b)).length = 4 := by simp
  simp only [crcOk, List.length_append, e, Nat.add_sub_cancel, List.drop_left, List.take_left, beq_self_eq_true, Bool.and_true]
  simp; omega

/-- A key of the curve: its base point. -/
def pointG : Bytes :=
  beBytes 32 0x6B17D1F2E12C4247F8BCE6E563A440F277037D812DEB33A0F4A13945D898C296 ++
  beBytes 32 0x4FE342E2FE1A7F9B8EE7EB4A7C0F9E162BCE33576B315ECECBB6406837BF51F5

/-- A credential of a partner by the issuer whose key is the one byte 1 (R370); `pad` makes it well formed. -/
def credT (pad : Bytes) : Bytes :=
  [0x43, 0x4C, 1, 1] ++ zeros 16 ++ (sha2 .sha256 [1]).take 8 ++ zeros 8 ++ pointG ++ zeros 24 ++ pad ++ zeros 64

/-- A contract that allows that partner. -/
def contractT : Contract := { cls := .a, allow := [zeros 16], refPoints := [] }

/-- Channel 0 in state `x` with its link in state `l`, under the contract. -/
def onLink (x : Chan) (l : Link) : State :=
  { onCh x with
    link := on.link.set 0 l
    life := { on.life with contracts := on.life.contracts.set 0 (some contractT), issuers := [[1]] }
    ksm := { on.ksm with drbgReady := true, trng := .ok, slots := [(0, { st := .live })] } }

/-- A request of type `q` on the line. -/
def txnT (q : Nat) : Txn := { type := q, frame := [], retries := 0 }

/-- An attempt that awaits `st`. -/
def hsT (st : HsStage) : Hs := { stage := st, np := [], crq := [], startedAt := 0, sess := some sessT }

theorem listensT (x : Chan) (l : Link) (h : (onLink x l).hears 0 = true ∧ (onLink x l).linkServed 0 = true) : (onLink x l).Listens 0 :=
  ⟨h.1, rfl, h.2, rfl⟩

theorem witness_crp (k : Nat) (h : k = 8 ∨ k = 1023) :
    let s := onLink chanA { hs := some (hsT .crp), txn := some (txnT 0x11) }
    let b : Burst := { body := plain 0x12 (zeros 16 ++ credT (zeros 4)), start := some k }
    s.Listens 0 ∧ (s.lnk 0).hs = some (hsT .crp) ∧ b.Holds 0x12 208 ∧ b.Plain ∧ (s.lnk 0).Awaits b 0x11 ∧
    (s.checkCred (some contractT.allow) true (credT (zeros 4))).1 = .ok ∧ (s.checkCred (some contractT.allow) false (credT (zeros 4))).1 = .hostile ∧
    (s.checkCred (some contractT.allow) true (credT [1, 0, 0, 0])).1 = .faulty ∧ s.linkContract 0 = some contractT := by
  refine ⟨listensT _ _ (by decide +kernel), by decide +kernel, ⟨rfl, rfl, crcOk_appended _ (by decide +kernel), ?_⟩, ⟨?_, ?_⟩,
    ⟨txnT 0x11, k, by decide +kernel, rfl, rfl, rfl, by omega, by omega⟩, ?_⟩
  all_goals first | decide +kernel | (rcases h with rfl | rfl <;> decide +kernel)

theorem witness_krp : let s := onLink chanA { hs := some (hsT .krp), txn := some (txnT 0x13) }
    let b : Burst := { body := plain 0x14 (pointG ++ zeros 64), start := some 8 }
    s.Listens 0 ∧ (s.lnk 0).hs = some (hsT .krp) ∧ b.Holds 0x14 128 ∧ b.Plain ∧ (s.lnk 0).Awaits b 0x13 ∧
    p256Valid ((fPayload b.body).take 64) = true ∧ (p256Valid ((fPayload b.body).take 64) && false) = false := by
  refine ⟨listensT _ _ (by decide +kernel), by decide +kernel, ⟨rfl, rfl, crcOk_appended _ (by decide +kernel), ?_⟩, ⟨?_, ?_⟩,
    ⟨txnT 0x13, 8, by decide +kernel, rfl, rfl, rfl, by omega, by omega⟩, ?_⟩ <;> decide +kernel

theorem genuineT : Burst.Genuine { body := sealed 0x16 [], start := some 8 } sessT := by unfold Burst.Genuine; decide +kernel

theorem witness_frp : let s := onLink chanA { hs := some (hsT .frp), txn := some (txnT 0x15) }
    let b : Burst := { body := sealed 0x16 [], start := some 8 }
    s.Listens 0 ∧ (s.lnk 0).hs = some (hsT .frp) ∧ (hsT .frp).sess = some sessT ∧ b.Holds 0x16 0 ∧ b.Genuine sessT ∧ (s.lnk 0).Awaits b 0x15 := by
  refine ⟨listensT _ _ (by decide +kernel), by decide +kernel, rfl, ⟨rfl, rfl, crcOk_appended _ (by decide +kernel), ?_⟩, genuineT,
    ⟨txnT 0x15, 8, by decide +kernel, rfl, rfl, rfl, by omega, by omega⟩⟩
  decide +kernel

theorem witness_delays (w : Nat) (hw : w = 1 ∨ w = 4000) : let s := onLink chanA { hs := some (hsT .crp), txn := some (txnT 0x11) }
    let b : Burst := { body := plain 0x1E (beBytes 2 w), start := some 8 }
    let e : Burst := { body := plain 0x1F [3], start := some 8 }
    s.Listens 0 ∧ (s.lnk 0).Awaits b 0x11 ∧ (s.lnk 0).Awaits e 0x11 ∧ b.Holds 0x1E 2 ∧ e.Holds 0x1F 1 ∧ b.Plain ∧ e.Plain := by
  rcases hw with rfl | rfl <;>
  refine ⟨listensT _ _ (by decide +kernel), ⟨txnT 0x11, 8, by decide +kernel, rfl, rfl, rfl, by omega, by omega⟩,
    ⟨txnT 0x11, 8, by decide +kernel, rfl, rfl, rfl, by omega, by omega⟩, ⟨rfl, rfl, crcOk_appended _ (by decide +kernel), ?_⟩,
    ⟨rfl, rfl, crcOk_appended _ (by decide +kernel), ?_⟩, ⟨?_, ?_⟩, ?_, ?_⟩ <;> decide +kernel

theorem witness_resend : let h : Hs := { hsT .crp with busyUntil := some 9 }
    let s := onLink chanA { hs := some h, txn := some { txnT 0x11 with sent := false } }
    (s.lnk 0).hs = some h ∧ h.busyUntil = some 9 ∧ s.mainUp = true ∧ s.crazed = false ∧ (s.lnk 0).txn = some { txnT 0x11 with sent := false } ∧
    s.lineFree 0 = true := by decide +kernel

theorem witness_session : let l : Link := { sess := some sessT, txn := some (txnT 0x21) }
    let b : Burst := { body := sealed 0x22 [9], start := some 1023 }
    let a : Burst := { body := sealed 0x23 [9] }
    (onLink chanA l).Listens 0 ∧ (onLink chanA { sess := some sessT }).Listens 0 ∧ b.Holds 0x22 1 ∧ a.Holds 0x23 1 ∧ b.Genuine sessT ∧ a.Genuine sessT ∧
    ((onLink chanA l).lnk 0).Awaits b 0x21 ∧ ((onLink chanA { sess := some sessT }).lnk 0).txn = none := by
  refine ⟨listensT _ _ (by decide +kernel), listensT _ _ (by decide +kernel), ⟨rfl, rfl, crcOk_appended _ (by decide +kernel), ?_⟩,
    ⟨rfl, rfl, crcOk_appended _ (by decide +kernel), ?_⟩, ?_, ?_, ⟨txnT 0x21, 1023, by decide +kernel, rfl, rfl, rfl, by omega, by omega⟩, ?_⟩
  all_goals first | decide +kernel | (unfold Burst.Genuine; decide +kernel)

theorem witness_probe : let s := onLink chanL { txn := some (txnT 0x01) }
    let b : Burst := { body := plain 0x02 (credT (zeros 4)), start := some 8 }
    s.Listens 0 ∧ b.Holds 0x02 192 ∧ b.Plain ∧ (s.lnk 0).Awaits b 0x01 ∧ (s.checkCred none true (credT (zeros 4))).1 = .ok ∧
    (s.checkCred none false (credT (zeros 4))).1 = .hostile := by
  refine ⟨listensT _ _ (by decide +kernel), ⟨rfl, rfl, crcOk_appended _ (by decide +kernel), ?_⟩, ⟨?_, ?_⟩,
    ⟨txnT 0x01, 8, by decide +kernel, rfl, rfl, rfl, by omega, by omega⟩, ?_⟩ <;> decide +kernel

theorem witness_cla : let b : Burst := { body := plain 0x32 [] }
    (onLink chanA { closedSid := some 0 }).Listens 0 ∧ (onLink chanA {}).Listens 0 ∧ b.Holds 0x32 0 ∧
    ((onLink chanA { closedSid := some 0 }).lnk 0).closedSid = some (fSid b.body) ∧ ((onLink chanA {}).lnk 0).closedSid ≠ some (fSid b.body) ∧
    ((onLink chanA {}).lnk 0).txn = none ∧ ((onLink chanA {}).lnk 0).hs = none := by
  refine ⟨listensT _ _ (by decide +kernel), listensT _ _ (by decide +kernel), ⟨rfl, rfl, crcOk_appended _ (by decide +kernel), ?_⟩, ?_⟩ <;> decide +kernel

theorem witness_line : let s := onLink chanA {}
    let c : State := { s with tamp := { s.tamp with grade := .crazed } }
    s.Listens 0 ∧ crcOk [1] = false ∧ c.hears 0 = true ∧ c.crazed = true ∧ s.mainUp = true ∧ (s.lnk 0).txn = none ∧ (s.lnk 0).waiting = [] := by
  refine ⟨listensT _ _ (by decide +kernel), ?_⟩; decide +kernel

theorem witness_unsent : let x : Txn := { txnT 0x21 with sent := false }
    let s := onLink chanA { txn := some x, lineBusy := true }
    (s.lnk 0).txn = some x ∧ (s.chan 0).lnkPad.cur = .conn .t ∧ (s.chan 0).lnkPad.req = none ∧ (s.lnk 0).busyWait = false ∧
    nRetryOf (s.linkContract 0) ≤ x.retries ∧ nRetryOf none = 2 ∧ (onLink chanL { txn := some (txnT 1) }).linkContract 0 = none := by decide +kernel

theorem witness_attempts : let l : Link := { sess := some sessT, rekeyDue := some 0 }
    (onLink chanA {}).mayAttempt 0 = true ∧ (onLink chanA { sess := some sessT }).linkServed 0 = true ∧
    (onLink chanA { sess := some sessT }).linkContract 0 = some contractT ∧ ((onLink chanA l).lnk 0).rekeyDue = some 0 ∧
    ((onLink chanA l).lnk 0).sess = some sessT := by decide +kernel

theorem witness_fingerprints : let r := onLink chanL { fp := { occ := some .reportOnly, retryFrom := some 0 } }
    let m := onLink { chanA with lnkPad := { cur := .conn .e } } { fp := { occ := some .beforeHandshake, running := true, attempts := 6 } }
    (onLink chanL {}).linkServed 0 = true ∧ (onLink chanL {}).fpDue 0 = some (.reportOnly, 0) ∧ ((onLink chanL {}).chan 0).lnkPad.locked = false ∧
    (r.lnk 0).fp.occ = some .reportOnly ∧ (r.lnk 0).fp.retryFrom = some 0 ∧ m.linkServed 0 = true ∧ m.crazed = false ∧ m.measuring 0 = true ∧
    (m.lnk 0).fp.attempts + 1 < 8 ∧ (m.lnk 0).fp.occ = some .beforeHandshake := by decide +kernel

/-! ## Uplink -/

/-- A part with XO25 up and port A in state `x`. -/
def onPort (x : PortSt) : State :=
  { on with
    clk := { on.clk with xo25 := { up := true, adopted := true } }
    upl := { on.upl with a := x }
    life := { on.life with concKeys := [(1, [])] } }

/-- A linked port. -/
def portT : PortSt := { linked := true }

/-- The limit of faults but one. -/
def faults63 : PortSt := { portT with faults := List.replicate 63 0 }

/-- An ACK of records 1 to 1 under KEY_ID 1 (R423). -/
def ackT : Bytes := [0x49, 0x46, 1, 2, 1, 1, 0, 0] ++ zeros 16 ++ beBytes 8 1 ++ beBytes 8 1 ++ zeros 64

/-- A BEACON of BSEQ 1 under KEY_ID 1 (R426). -/
def beaconT : Bytes := [0x49, 0x46, 1, 3, 1, 0, 0, 0] ++ zeros 16 ++ beBytes 8 1 ++ zeros 24 ++ zeros 64

/-- The last chunk of a bundle of `n` chunks, one byte long (R430). -/
def chunkT (n : Nat) : Bytes := [0x49, 0x46, 1, 4] ++ zeros 16 ++ beBytes 4 (1024 * (n - 1) + 1) ++ beBytes 2 (n - 1) ++ [0, 0, 9]

/-- An intake of that bundle that has its first chunk. -/
def intakeT (n : Nat) : Intake := { id := zeros 16, total := 1024 * (n - 1) + 1, chunks := [(0, [])] }

theorem witness_ports : (onPort {}).phyUp = true ∧ ((onPort {}).port .a).linked = false ∧ ((onPort portT).port .a).linked = true ∧
    (onPort portT).clk.tickSrc.isSome = true ∧ (onPort portT).crazed = false ∧ (onPort portT).inboundOpen .a = true ∧
    ((onPort portT).frameOk false [] && envelopeOk (framePayload []) && lengthOk (framePayload [])) = false ∧
    (((onPort faults63).port .a).faults.filter (fun k => decide ((onPort faults63).tick < k + 1966080))).length = 63 ∧
    ((onPort { portT with addr := some (0, 0) }).port .a).addr.isSome = true ∧
    ((onPort { portT with quarantine := some 0 }).port .a).quarantine = some 0 ∧ (onPort portT).rails.vao = true := by decide +kernel

theorem witness_acks : let s := onPort portT
    let c : State := { s with tamp := { s.tamp with grade := .crazed } }
    s.inboundOpen .a = true ∧ c.inboundOpen .a = true ∧ s.ackFormed ackT = true ∧ c.ackFormed ackT = true ∧ s.keyAccepted (beAt ackT 4 1) = true ∧
    c.keyAccepted (beAt ackT 4 1) = true ∧ ((s.port .a).verWindow s.tick).verAcks < 10 ∧ s.crazed = false ∧ c.crazed = true ∧
    ((onPort { portT with verAcks := 9 }).port .a).verAcks < 10 := by decide +kernel

theorem witness_beacons : let s := onPort portT
    let c : State := { s with tamp := { s.tamp with grade := .crazed } }
    let d : State := { s with upl := { s.upl with seen := [beaconT] } }
    s.life.firing ≠ .sherd ∧ s.beaconFormed beaconT = true ∧ c.beaconFormed beaconT = true ∧ d.beaconFormed beaconT = true ∧ beaconT ∈ d.upl.seen ∧
    beaconT ∉ s.upl.seen ∧ ((s.port .a).verWindow s.tick).verBeacons < 1 ∧ beAt beaconT 4 1 ≠ 0 ∧
    s.upl.floors[1]? = some ⟨0, 0⟩ ∧ 0 < beAt beaconT 24 8 ∧ 0 ≤ beAt beaconT 32 4 := by decide +kernel

theorem witness_chunks : let s := onPort portT
    let t : State := { s with upl := { s.upl with intake := some (intakeT 3), ackPending := some (zeros 16, 2049, 0), chunkAckAt := some 0 } }
    s.inboundOpen .a = true ∧ envelopeOk (chunkT 2) = true ∧ beAt (chunkT 2) 3 1 = 4 ∧ lengthOk (chunkT 2) = true ∧ zeroAt (chunkT 2) 26 2 = true ∧
    beAt (chunkT 2) 20 4 = 1025 ∧ beAt (chunkT 2) 24 2 = 1 ∧ chunkCount 1025 = 2 ∧ ((chunkT 2).drop 28).length = min 1024 (1025 - 1024 * 1) ∧
    s.upl.complete = none ∧ s.upl.intake = none ∧ 1 < 64 - s.upl.buf.length ∧ t.upl.intake = some (intakeT 3) ∧
    (intakeT 3).id = slice 4 16 (chunkT 3) ∧ (intakeT 3).total = beAt (chunkT 3) 20 4 ∧ (intakeT 3).chunks.length + 1 < chunkCount 2049 ∧
    (∀ e ∈ (intakeT 3).chunks, e.1 ≠ 2) ∧ (intakeT 3).next ≤ 2 ∧ 2 < (intakeT 3).next + (64 - t.upl.buf.length) ∧ t.wheelUp = true ∧ t.mainUp = true ∧
    (intakeT 3).chunks.length < chunkCount (intakeT 3).total ∧ t.upl.chunkAckAt = some 0 := by decide +kernel

theorem witness_sending : let s := onPort { portT with addr := some (0, 0), paceSent := 99 }
    let u : State := { onPort portT with life := { on.life with firing := .sherd } }
    s.wheelUp = true ∧ s.linkedTo .a = true ∧ (s.port .a).addr.isSome = true ∧ (s.port .a).paceFrom = s.tick / 32768 * 32768 ∧
    ((onPort portT).port .a).addr = none ∧ announces (onPort portT).life.firing = true ∧ u.life.firing = .sherd ∧ u.mainUp = true ∧
    u.linkedTo .a = true := by decide +kernel

/-- A bundle of a kind, by a signer, with a body (R812). -/
def bundleT (kind signer : Nat) (body : Bytes) : Bytes :=
  beBytes 4 0x54524B42 ++ beBytes 2 1 ++ beBytes 1 kind ++ beBytes 1 signer ++ zeros 16 ++ beBytes 8 (if kind = 1 then 1 else 0) ++ zeros 4 ++
  beBytes 4 body.length ++ beBytes 4 (64 + body.length) ++ beBytes 1 (if kind = 5 then 1 else 0) ++ zeros 19 ++ body ++
  beBytes 4 8 ++ beBytes 4 4 ++ zeros 145 ++ zeros 4 ++ beBytes 4 4 ++ zeros 1120 ++ beBytes 4 8 ++ zeros 736

/-- A Wheel image of 32 bytes (R811). -/
def wheelT : Bytes := leBytes 4 0x57484C31 ++ zeros 4 ++ leBytes 4 32 ++ zeros 20

/-- The hash of the two keys of such a bundle in the fuse words of root `w`. -/
def rootT (w : Nat) : List (Nat × Nat) :=
  let h := sha2 .sha384 (beBytes 4 8 ++ beBytes 4 4 ++ zeros 145)
  (List.range 12).map (fun i => (w + i, beAt h (4 * i) 4))

/-- The bundle `d` stored, in machine state `st`, with the root at word `w`. -/
def onBundle (d : Bytes) (st : BundleSt) (w : Nat) : State :=
  { on with
    upl := { on.upl with complete := some { id := zeros 16, total := d.length, status := .verifying, data := d } }
    kiln := { on.kiln with bundle := st, verifying := some (0, d.length, zeros 16) }
    fuses := { on.fuses with res := rootT w } }

theorem witness_bundles_refused : let s := onBundle [] .verifying 0x08
    s.pwr.kiln = .running ∧ s.crazed = false ∧ s.kiln.bundle = .verifying ∧ s.kiln.verifying = some (0, 0, zeros 16) ∧
    s.bundleFail 0 true true true false = some (8, 1) := by decide +kernel

theorem witness_bundles_image : let s := onBundle (bundleT 1 1 wheelT) .verifying 0x08
    let x := bundleOf s.bundleData
    s.bundleFail 2117 true true true false = none ∧ x.kind ≤ 2 ∧ s.installedAlready x = false ∧ s.entryFree x = true := by decide +kernel

theorem witness_bundles_sherd : let s := onBundle (bundleT 5 2 []) .verifying 0x14
    let x := bundleOf s.bundleData
    s.bundleFail 2085 true true true false = none ∧ 3 < x.kind ∧ s.stagedOpen = false ∧ s.burnOk = false := by decide +kernel

theorem witness_bundles_install : let s := onBundle (bundleT 1 1 wheelT) .installing 0x08
    let u := onBundle (bundleT 2 1 []) .installing 0x08
    s.kiln.bundle = .installing ∧ s.provisional = false ∧ (bundleOf s.bundleData).kind = 1 ∧ (bundleOf u.bundleData).kind ≠ 1 ∧
    (u.appOf (dom (bundleOf u.bundleData).domain)).man = none := by decide +kernel

/-! ## Rings -/

/-- Tables that open shared SRAM, local data memory and flash to every level for every access. -/
def openProt : Prot :=
  let r : Region := { start := 0x20000000, stop := 24, perm := 0x800001FF }
  let f : Region := { start := 0x10000000, stop := 26, perm := 0x800001FF }
  let l : Region := { start := 0x04000000, stop := 18, perm := 0x800001FF }
  { ipt := on.prot.ipt.set 0 { start := 0x10000000, stop := 0x20C00000, perm := 0x800001FF }
    gate := ((((on.prot.gate.set 176 r).set 160 f).set 168 f).set 192 l).set 200 l }

/-- A part whose ring `k` of engine `e` runs with the descriptor `d` in progress, owned by P0 unless said, in 16 slots at the start of memory. -/
def onJob (e : Eng) (k : Nat) (d : Desc) (level : Nat := 0) : State :=
  ({ on with prot := openProt } : State).updEng e (fun x => { x with rings := x.rings.modify k (fun r =>
    { r with base := 0x20000000, log2 := 4, enable := true, ownerLevel := level, prod := 1, fetch := 1, st := .running, cur := some d }) })

/-- The same part with ring `k` of engine `e` changed by `f`. -/
def onRing (s : State) (e : Eng) (k : Nat) (f : Ring → Ring) : State :=
  s.updEng e (fun x => { x with rings := x.rings.modify k f })

/-- A descriptor without buffers. -/
def descT (op : Nat) (param : Bytes) : Desc :=
  { opcode := op, flags := 0, zero02 := 0, length := 0, inA := 0, inCount := 0, zero0D := 0, outA := 0, outCount := 0, zero15 := 0, param := padTo 24 param }

/-- A descriptor with `n` bytes of input at 0x20001000 and of output at 0x20002000. -/
def descIO (op flags n : Nat) (param : Bytes) : Desc :=
  { descT op param with flags := flags, length := n, inFr := [(0x20001000, n)], outFr := [(0x20002000, n)] }

theorem witness_ring_registers : let s := onJob .fae 7 (descT 1 [])
    let h := onRing s .fae 7 (fun r => { r with prod := 0, fetch := 0, st := .halted, cur := none })
    let i := onRing h .fae 7 (fun r => { r with st := .running })
    s.mainRuns = true ∧ 7 < (s.engOf .fae).rings.length ∧ ringOwn .fae 7 = false ∧ ringOwn .flc 3 = true ∧ (s.ring .fae 7).cur.isSome = true ∧
    (s.ring .fae 7).indexOk 16 = true ∧ (s.ring .fae 7).indexOk 17 = false ∧ (s.ring .fae 7).indexOk 1 = true ∧ (s.ring .fae 7).indexOk 0 = false ∧
    (s.ring .fae 7).seenOk 0 = true ∧ (s.ring .fae 7).seenOk 1 = false ∧ (h.ring .fae 7).st ≠ .running ∧
    (h.ring .fae 7).configurable = true ∧ (h.ring .fae 7).prod = (h.ring .fae 7).cons ∧
    ((h.ring .fae 7).policyWrite .fae (0 + 2 ^ 31)).enableOk .fae = true ∧ ((h.ring .fae 7).policyWrite .fae (0x30 + 2 ^ 31)).enableOk .fae = false ∧
    (i.ring .fae 7).st = .running ∧ (i.ring .fae 7).cur = none ∧ (s.ring .fae 7).pending = 1 ∧ (s.ring .fae 7).held = [] := by decide +kernel

theorem witness_engine_reset : let s := onJob .fae 7 (descT 1 [])
    ∀ j, j < 9 → (s.ring .fae j).held = [] ∧ ((s.ring .fae j).cur.isSome = true → (s.ring .fae j).pending ≠ 0) := by decide +kernel

/-- The clearance of the buffers of a Kiln descriptor. -/
def kilnClears (s : State) (d : Desc) : Prop := s.Clears .kiln 0 (d.inBufs d.length ++ d.outBufs 1 0)

theorem witness_kiln_clear : kilnClears (onJob .kiln 0 (descIO 1 0 24 [])) (descIO 1 0 24 []) ∧
    kilnClears (onJob .kiln 0 (descT 1 [])) (descT 1 []) := by
  unfold kilnClears State.Clears
  decide +kernel

theorem witness_kiln_reads : (∀ op ∈ [1, 2, 3, 6, 8], (onJob .kiln 0 (descT op [])).InHand .kiln 0 op (descT op [])) ∧
    (onJob .kiln 0 (descT 10 [3])).InHand .kiln 0 10 (descT 10 [3]) ∧ (descT 10 [3]).p 0x18 1 = 3 ∧
    wheelCode (beAt [0x09, 0x01, 1] 0 2) = true ∧ beAt [0x09, 0x01, 1] 2 1 ≤ 1 ∧ wheelCode 0 = false ∧ 1 < beAt [0, 0, 2] 2 1 := by
  unfold State.InHand
  decide +kernel

/-- The Kiln machine on a job with a bundle in state `st`. -/
def onKiln (d : Desc) (st : BundleSt) : State := { onJob .kiln 0 d with kiln := { on.kiln with bundle := st } }

theorem witness_kiln_acts : (∀ op ∈ [4, 5, 9], (onJob .kiln 0 (descT op [])).InHand .kiln 0 op (descT op [])) ∧ on.life.firing ≠ .sherd ∧
    (onKiln (descT 5 []) .none).bundleBusy = false ∧ (onKiln (descT 5 []) .installing).bundleBusy = true ∧ on.recentExpiries < 2 ∧
    on.noExchange = true := by
  unfold State.InHand
  decide +kernel

theorem witness_bundle_applied : let b := onBundle (bundleT 1 1 wheelT) .staged 0x08
    let d := descT 7 []
    let s : State := { onJob .kiln 0 d with upl := b.upl, kiln := b.kiln }
    s.InHand .kiln 0 7 d ∧ slice 0 16 d.param = padTo 16 s.bundleKey.1 ∧ s.kiln.bundle = .staged ∧ leAt s.bundleData 6 1 < 3 := by
  unfold State.InHand
  decide +kernel

/-- A part that may test itself, with a self-test descriptor in progress. -/
def onTest (d : Desc) (r : Option StRun) : State :=
  { onJob .kiln 0 d with
    pwr := { on.pwr with optCopy := some 0 }
    selft := { on.selft with run := r } }

theorem witness_selftest : let a := descT 10 ([1] ++ zeros 7 ++ [2])
    let b := descT 10 [2, 0]
    let s := onTest a none
    s.InHand .kiln 0 10 a ∧ a.p 0x18 1 = 1 ∧ (maskParts (a.p 0x20 8)).all partReserved = false ∧ s.mayTest = true ∧ s.selft.run = none ∧
    b.p 0x18 1 = 2 ∧ (onTest b (some ⟨.request, [0], 0, none⟩)).InHand .kiln 0 10 b ∧
    (onTest b (some ⟨.request, [0], 0, none⟩)).requested = some (b.p 0x19 1) := by
  unfold State.InHand
  decide +kernel

/-! ## Cipher, digest and multiplier -/

/-- A LIVE key slot of a class and usage, with GEN 1. -/
def slotT (cls usage n : Nat) : Slot := { st := .live, cls := cls, usage := usage, gen := 1, mat := zeros n }

/-- The same state with that slot as slot 16. -/
def withKey (s : State) (x : Slot) : State := { s with ksm := { s.ksm with slots := [(16, x)], kfaClean := true } }

/-- PARAM of a cipher descriptor: slot 16, GEN 1, X buffer at 0x20003000. -/
def cipherP : Bytes := leBytes 2 16 ++ leBytes 2 1 ++ leBytes 4 0x20003000

theorem witness_cipher : let d := descIO 0x01 0 32 cipherP
    let s := withKey (onJob .fae 7 d) (slotT 1 3 16)
    s.InHand .fae 7 1 d ∧ d.saggar = false ∧ s.keyCheck (s.ring .fae 7) 16 1 (fun x => x == 1 || (x == 2 && Eng.fae == .fae)) (cipherUsage 1) true = none ∧
    s.provisional = false ∧ s.Clears .fae 7 (d.inBufs 16 ++ [d.xbuf] ++ d.outBufs 0 16) ∧
    (onJob .fae 7 d).keyCheck (s.ring .fae 7) 16 1 (fun x => x == 1) (cipherUsage 1) true = some 2 := by
  unfold State.InHand State.Clears
  decide +kernel

theorem witness_saggar : let d : Desc := { descT 0x02 cipherP with flags := 4, length := 32, inFr := [(0x20001000, 32)] }
    let s := withKey (onJob .fae 7 d) (slotT 1 7 16)
    let u : State := { s with aes := { s.aes with saggar := some (7, zeros 16) } }
    u.InHand .fae 7 2 d ∧ d.saggar = true ∧ u.saggarBusy 7 = false ∧ s.saggarBusy 7 = false ∧ d.outFr = [] ∧
    u.keyCheck (u.ring .fae 7) 16 1 (fun x => x == 1 || x == 2) (cipherUsage 2) false = none ∧ u.Clears .fae 7 (d.inBufs 16 ++ [d.xbuf] ++ d.outBufs 0 16) := by
  unfold State.InHand State.Clears
  decide +kernel

/-- A VERDICT over 16 bytes against 0x20003000; `a` and `n` are its range. -/
def verdictT (flags a n : Nat) : Desc :=
  { descT 0x10 (leBytes 4 0 ++ leBytes 4 0x20003000 ++ leBytes 4 a ++ leBytes 4 n) with
    flags := flags, length := 16, inFr := [(0x20001000, 16)], outFr := if flags = 4 then [(0x20002000, n)] else [] }

/-- The buffers of such a VERDICT. -/
def verdictBufs (d : Desc) : List Buf :=
  d.inBufs 16 ++ [⟨0x20003000, 16, .read, 0x300, 0, 16, false⟩, ⟨d.p 0x20 4, d.p 0x24 4, .write, 0x301, 0, 0, false⟩]

theorem witness_verdict : let d := verdictT 8 0x20004000 64
    let s := onJob .fae 7 d
    let u : State := { s with mem := writeBytes s.mem 0x20003000 [1] }
    s.InHand .fae 7 0x10 d ∧ d.saggar = false ∧ d.zeroMode = true ∧ s.Clears .fae 7 (verdictBufs d) ∧ u.Clears .fae 7 (verdictBufs d) ∧
    s.input .fae 7 d = s.memRead (s.ring .fae 7).who 0x20003000 16 ∧ u.input .fae 7 d ≠ u.memRead (u.ring .fae 7).who 0x20003000 16 ∧
    s.wbAt .fae 7 + 16 ≤ 0x20004000 := by
  unfold State.InHand State.Clears
  decide +kernel

theorem witness_verdict_saggar : let d := verdictT 4 0 64
    let s : State := { onJob .fae 7 d with aes := { on.aes with saggar := some (7, zeros 64) } }
    s.InHand .fae 7 0x10 d ∧ d.saggar = true ∧ s.Clears .fae 7 (d.outBufs 0 0 ++ d.inBufs 16 ++ [⟨0x20003000, 16, .read, 0x300, 0, 16, false⟩]) ∧
    (zeros 64).length = d.p 0x24 4 := by
  unfold State.InHand State.Clears
  decide +kernel

theorem witness_saggar_expiry : let s : State := { on with aes := { on.aes with saggar := some (0, []), waiting := [1] } }
    let t : State := { s with eng := (onJob .fae 1 (descIO 1 4 128 [])).eng }
    t.aes.saggar = some (0, []) ∧ 1 ∈ t.aes.waiting ∧ (t.ring .fae 1).cur.isSome = true ∧ (t.ring .fae 0).cur = none := by decide +kernel

/-- PARAM of a digest descriptor: context 15, an algorithm, slot 16 with GEN 1, register `r`. -/
def digP (alg r : Nat) : Bytes := leBytes 1 15 ++ leBytes 1 alg ++ leBytes 2 16 ++ leBytes 2 1 ++ leBytes 1 r

/-- The state with context 15 as `c`. -/
def withCtx (s : State) (c : DigCtx) : State := { s with dig := { s.dig with ctx := s.dig.ctx.set 15 c } }

theorem witness_hash : let d := descIO 1 4 128 (digP 1 0)
    let e := descIO 1 8 64 (digP 1 0)
    let s := onJob .dig 7 d
    let u := withCtx (onJob .dig 7 e) { st := .open_, alg := 1 }
    s.digCheck (s.ring .dig 7) d = none ∧ d.ctx < 16 ∧ s.InHand .dig 7 1 d ∧ s.Clears .dig 7 (d.inBufs 64 ++ d.outBufs 2 0) ∧ d.last = false ∧
    u.digCheck (u.ring .dig 7) e = none ∧ u.InHand .dig 7 1 e ∧ u.Clears .dig 7 (e.inBufs 64 ++ e.outBufs 1 0) ∧ e.last = true ∧ e.outFr ≠ [] := by
  unfold State.InHand State.Clears
  decide +kernel

theorem witness_hmac : let d : Desc := { descT 2 (digP 2 0) with flags := 12 }
    let s := withKey (onJob .dig 7 d) (slotT 3 8 48)
    s.digCheck (s.ring .dig 7) d = none ∧ d.ctx < 16 ∧ s.InHand .dig 7 2 d ∧ s.Clears .dig 7 (d.inBufs 128 ++ d.outBufs 0 0) ∧
    s.provisional = false ∧ d.last = true ∧ d.outFr = [] := by
  unfold State.InHand State.Clears
  decide +kernel

theorem witness_digest_ends : let r := descIO 3 0 32 (digP 1 0)
    let c := descIO 4 0 32 (digP 1 0)
    let f := descT 5 (digP 1 0)
    let x : DigCtx := { st := .final, alg := 1, digest := zeros 32 }
    let y : DigCtx := { st := .open_, alg := 1 }
    let s := withCtx (onJob .dig 7 r) x
    s.digCheck (s.ring .dig 7) r = none ∧ s.InHand .dig 7 3 r ∧ s.Clears .dig 7 (r.outBufs 0 0) ∧ (s.dig.ctxOf 15).st = .final ∧
    (withCtx s y).digCheck (s.ring .dig 7) r = none ∧ ((withCtx s y).dig.ctxOf 15).st ≠ .final ∧
    (withCtx (onJob .dig 7 c) x).digCheck (s.ring .dig 7) c = none ∧ (withCtx (onJob .dig 7 c) x).InHand .dig 7 4 c ∧
    (withCtx (onJob .dig 7 c) x).Clears .dig 7 (c.inBufs 32) ∧ (withCtx (onJob .dig 7 c) x).input .dig 7 c = zeros 32 ∧
    (withCtx (onJob .dig 7 c) { x with digest := zeros 31 ++ [1] }).input .dig 7 c ≠ zeros 31 ++ [1] ∧
    (withCtx (onJob .dig 7 f) x).digCheck (s.ring .dig 7) f = none ∧ (withCtx (onJob .dig 7 f) x).InHand .dig 7 5 f := by
  unfold State.InHand State.Clears
  decide +kernel

theorem witness_measure : let d : Desc := { descT 0x20 (digP 1 3) with length := 32, inFr := [(0x20001000, 32)] }
    let e := descT 0x21 (digP 1 3)
    let s := onJob .dig 7 d
    let u := withCtx (onJob .dig 7 e) { st := .final, alg := 1, digest := zeros 32 }
    s.digCheck (s.ring .dig 7) d = none ∧ d.ctx < 16 ∧ d.reg = 3 ∧ s.InHand .dig 7 0x20 d ∧ s.Clears .dig 7 (d.inBufs 32) ∧
    u.digCheck (u.ring .dig 7) e = none ∧ e.ctx < 16 ∧ e.reg = 3 ∧ u.InHand .dig 7 0x21 e ∧ on.mainRuns = true := by
  unfold State.InHand State.Clears
  decide +kernel

/-- A modulus register with the modulus 2^256 − 189. -/
def modT : Modulus := { value := 2 ^ 256 - 189, size := 0, valid := true }

/-- PARAM of a multiplier descriptor: SIZE 0, modulus 7. -/
def wmuP : Bytes := [0, 7, 1]

/-- The state with modulus register 7 so. -/
def withMod (s : State) : State := { s with wmu := { s.wmu with mods := s.wmu.mods.set 7 modT } }

theorem witness_wide : let d := descIO 1 4 64 wmuP
    let s := withMod (onJob .wmu 3 d)
    let v : State := { s with mem := writeBytes s.mem 0x20001000 ([2] ++ zeros 31 ++ [3]) }
    s.InHand .wmu 3 1 d ∧ s.wmuBlocked 3 = false ∧ (onJob .wmu 3 d).modFault d = some 1 ∧ s.modFault d = none ∧ s.Clears .wmu 3 (d.inBufs 1) ∧
    s.Clears .wmu 3 (d.outBufs 0 0) ∧ d.field = true ∧ wmuFieldFault 1 0 (s.wmu.modOf 7).value (s.input .wmu 3 d) = some 0x10 ∧
    v.Clears .wmu 3 (d.inBufs 1) ∧ wmuFieldFault 1 0 (v.wmu.modOf 7).value (v.input .wmu 3 d) = none := by
  unfold State.InHand State.Clears
  decide +kernel

theorem witness_yield : let d := descIO 1 0 64 wmuP
    let s := onRing (onJob .wmu 3 d) .wmu 0 (fun r => { r with cur := some d })
    let u : State := { s with wmu := { s.wmu with yielded := some (3, 32) } }
    s.mainRuns = true ∧ (s.ring .wmu 0).cur = some d ∧ (s.ring .wmu 3).cur = some d ∧ s.wmuBlocked 3 = false ∧ s.passes11 d = true ∧
    u.wmu.yielded = some (3, 32) ∧ on.ring0Idle = true := by decide +kernel

theorem witness_moduli : on.mainRuns = true ∧ (0 : Word).getLsbD 9 = false ∧ (0 : Word).getLsbD 8 = false ∧ (on.wmu.mods[7]).valid = false ∧
    ((withMod on).wmu.mods[7]).valid = true ∧ (3 : Word).toNat % 4 ≠ ((withMod on).wmu.mods[7]).size := by decide +kernel

/-! ## Keys, counters and flash -/

/-- The generator of P-256, a valid public key. -/
def p256G : Bytes :=
  beBytes 32 0x6B17D1F2E12C4247F8BCE6E563A440F277037D812DEB33A0F4A13945D898C296 ++
  beBytes 32 0x4FE342E2FE1A7F9B8EE7EB4A7C0F9E162BCE33576B315ECECBB6406837BF51F5

/-- PARAM of a key-store descriptor: source slot 16 with GEN 1, target slot 255 with GEN 0, CLASS, USAGE, KLEN. -/
def ksmP (cls usage klen : Nat) : Bytes :=
  leBytes 2 16 ++ leBytes 2 1 ++ leBytes 2 255 ++ leBytes 2 0 ++ leBytes 2 cls ++ leBytes 2 usage ++ leBytes 2 (256 * klen) ++ [4, 0]

/-- A key-store job on a part with the slot `x`, a random generator, and the bytes `b` at 0x20001000. -/
def onKey (d : Desc) (x : Slot) (b : Bytes) : State :=
  let s := withKey (onJob .ksm 1 d) x
  { s with ksm := { s.ksm with drbgReady := true }, mem := writeBytes s.mem 0x20001000 b }

/-- What the statements about the key store ask of such a job. -/
def keyReady (s : State) (d : Desc) : Prop :=
  s.ksm.compWait = false ∧ s.provisional = false ∧ s.ksmCheck (s.ring .ksm 1) d = none ∧ s.InHand .ksm 1 d.opcode d ∧
    s.Clears .ksm 1 (if d.opcode = 9 then d.outBufs 0 0 else d.inBufs d.length ++ d.outBufs 1 0)

/-- A descriptor with input only. -/
def descI (op n : Nat) (param : Bytes) : Desc := { descT op param with length := n, inFr := [(0x20001000, n)] }

theorem witness_generate : keyReady (onKey (descT 1 (ksmP 4 0x1FF 64)) {} []) (descT 1 (ksmP 4 0x1FF 64)) := by
  unfold keyReady State.InHand State.Clears
  decide +kernel

theorem witness_import : let d := descI 2 64 (ksmP 7 0 64)
    keyReady (onKey d {} p256G) d ∧ p256Valid ((onKey d {} p256G).input .ksm 1 d) = true ∧
    keyReady (onKey d {} []) d ∧ p256Valid ((onKey d {} []).input .ksm 1 d) = false := by
  unfold keyReady State.InHand State.Clears
  decide +kernel

theorem witness_agree : let d := descI 4 64 (ksmP 4 0x10 0)
    keyReady (onKey d (slotT 5 0x40 32) p256G) d ∧ p256Valid ((onKey d (slotT 5 0x40 32) p256G).input .ksm 1 d) = true := by
  unfold keyReady State.InHand State.Clears
  decide +kernel

theorem witness_derive : let d := descI 5 8 (ksmP 2 3 32)
    let e := { descIO 5 0 8 (leBytes 2 16 ++ leBytes 2 1 ++ leBytes 2 0xFFFF ++ zeros 7 ++ [8, 4]) with outFr := [(0x20002000, 8)] }
    keyReady (onKey d (slotT 4 0x10 32) []) d ∧ d.outFr = [] ∧ keyReady (onKey e (slotT 4 0x110 32) []) e ∧ e.outFr ≠ [] := by
  unfold keyReady State.InHand State.Clears
  decide +kernel

theorem witness_uses : let g := descIO 6 0 32 (ksmP 0 0 0)
    let p := descIO 7 0 0 (ksmP 0 0 0)
    let l := descT 8 (ksmP 0 0 0)
    let r : Desc := { descT 9 [] with length := 32, outFr := [(0x20002000, 32)] }
    let w := descT 10 (leBytes 2 16 ++ leBytes 2 1 ++ zeros 12 ++ leBytes 2 15)
    keyReady (onKey g (slotT 5 0x20 32) []) g ∧ keyReady (onKey p (slotT 7 0x100 64) []) p ∧ keyReady (onKey l (slotT 7 0 64) []) l ∧
    keyReady (onKey r {} []) r ∧ keyReady (onKey w (slotT 1 0x80 16) []) w ∧ (15 : Fin 16).val = w.p 0x28 2 % 16 := by
  unfold keyReady State.InHand State.Clears
  decide +kernel

theorem witness_trng : on.mainRuns = true ∧ ({ on with ksm := { on.ksm with trngFailAt := [1, 0] } } : State).ksm.trngFailAt.length = 2 := by decide +kernel

/-- A counter job of OPCODE `op` on counter `i` with DELTA `n`, whose value is `v`. -/
def onCnt (op i n v : Nat) : State :=
  let s := onJob .ksm 1 (descT op (zeros 16 ++ leBytes 2 i ++ leBytes 2 n))
  { s with ksm := { s.ksm with cnt := [(i, v)] } }

theorem witness_counters : (∀ op ∈ [0x20, 0x21, 0x22, 0x23, 0x24], keyReady (onCnt op 16 1 7) (descT op (zeros 16 ++ leBytes 2 16 ++ leBytes 2 1))) ∧
    ((onCnt 0x21 16 1 (cntMax - 1)).ksm.cntOf 16 < cntMax) ∧ cntMax ≤ (onCnt 0x21 16 1 cntMax).ksm.cntOf 16 ∧
    (onCnt 0x22 16 1 (cntMax - 1)).ksm.cntOf 16 + 1 ≤ cntMax ∧ cntMax < (onCnt 0x22 16 2 (cntMax - 1)).ksm.cntOf 16 + 2 := by
  unfold keyReady State.InHand State.Clears
  decide +kernel

/-- A flash job on ring 0: OPCODE, flash address, length. -/
def flashT (op a n : Nat) : Desc :=
  { descT op (leBytes 4 a ++ [0, 0] ++ leBytes 2 1) with length := n, inFr := if op = 1 then [(0x20001000, n)] else [] }

/-- A page of key block 2 that holds zeros, its block's pointer past it. -/
def withPage (s : State) : State :=
  { s with flc := { s.flc with blocks := [(2, { wp := 1 })], pages := [(1024, zeros 512)] } }

/-- An answer of the page check, as data that can be compared. -/
def pageOk {α β : Type} [DecidableEq α] [DecidableEq β] (x : Except α β) (y : α ⊕ β) : Bool :=
  match x, y with
  | .ok b, .inr c => decide (b = c)
  | .error a, .inl c => decide (a = c)
  | _, _ => false

theorem pageOk_ok {α β : Type} [DecidableEq α] [DecidableEq β] {x : Except α β} {b : β} (h : pageOk x (.inr b) = true) : x = .ok b := by
  cases x <;> simp_all [pageOk]

theorem pageOk_error {α β : Type} [DecidableEq α] [DecidableEq β] {x : Except α β} {a : α} (h : pageOk x (.inl a) = true) : x = .error a := by
  cases x <;> simp_all [pageOk]

/-- The page job of the witnesses, on the state `s`. -/
def pageJob (s : State) : Except (Code × Nat) (Nat × List (Nat × Bytes)) :=
  let d := flashT 1 0x10080000 512
  s.pageCheck [] d.fpages d.fpage (s.input .flc 0 d) 0

theorem witness_program : let d := flashT 1 0x10080000 512
    let s := onJob .flc 0 d
    s.flashBusy 0 d = false ∧ s.targetEnd (s.ring .flc 0).who false d = .clear ∧ s.InHand .flc 0 1 d ∧ s.flc.progOf 0 = none ∧
    s.Clears .flc 0 (d.inBufs 512) ∧ d.length ≤ (s.input .flc 0 d).length := by
  unfold State.InHand State.Clears
  decide +kernel

theorem witness_program_pages : let s := onJob .flc 0 (flashT 1 0x10080000 512)
    let u := withPage s
    let w : State := { u with mem := writeBytes u.mem 0x20001000 [1] }
    pageJob s = .ok (0, [(1024, zeros 512)]) ∧ pageJob u = .ok (1, []) ∧ pageJob w = .error (.order, 0) :=
  ⟨pageOk_ok (by decide +kernel), pageOk_ok (by decide +kernel), pageOk_error (by decide +kernel)⟩

theorem witness_erase : let d := flashT 2 0x10080000 0
    let s := onJob .flc 0 d
    let u := withPage s
    s.flashBusy 0 d = false ∧ s.targetEnd (s.ring .flc 0).who false d = .clear ∧ s.InHand .flc 0 2 d ∧ s.provisional = false ∧
    (s.flc.eraseView (d.fpage / 512) 0).own = false ∧ (s.flc.eraseView (d.fpage / 512) 0).stuck = false ∧ s.flc.blockBlank (d.fpage / 512) = true ∧
    u.flc.blockBlank (d.fpage / 512) = false ∧ (u.flc.blk (d.fpage / 512)).worn = false := by
  unfold State.InHand
  decide +kernel

theorem witness_flash_queries : (∀ op ∈ [3, 4, 5], let d := flashT op 0x10080000 0
      let s := withPage (onJob .flc 0 d)
      s.flashBusy 0 d = false ∧ s.targetEnd (s.ring .flc 0).who false d = .clear ∧ s.InHand .flc 0 op d) ∧
    (∀ p ∈ (flashT 4 0x10080000 0).queryPages, on.flc.poisoned p = false ∧ lookupD 0 (p % 512) [(0, 8)] ≤ 8) := by
  unfold State.InHand
  decide +kernel

theorem witness_flash_control : let j : EraseJob := { ring := 0, block := 255, mode := 0, suspended := true }
    let s : State := { on with flc := { on.flc with eraseB := some j } }
    let u : State := { on with flc := { on.flc with scrub := some (2 ^ 48 - 2) } }
    s.flc.eraseOf (128 * (1 : Fin 2).val) = some j ∧ j.suspended = true ∧ s.provisional = false ∧ on.mainRuns = true ∧ on.kilnReady = true ∧
    on.wheelRuns = true ∧ on.crazed = false ∧ on.flc.scrub = none ∧ u.flc.scrub = some (2 ^ 48 - 2) := by decide +kernel

/-- Attributes of a wrapped slot: slot 255, class HMAC, USAGE 8, 64 bytes. -/
def wrapAttr : Bytes := [255, 3] ++ beBytes 2 8 ++ [0, 0, 64] ++ zeros 9

/-- What a wrapped record of 64 zero bytes carries before its tag. -/
def wrapMsg : Bytes := p256G ++ wrapAttr ++ zeros 64

/-- A wrapped record for a part, with the tag under the key that part derives. -/
def wrapT (s : State) : Bytes :=
  wrapMsg ++ cmac ((hkdf s.deviceId (Config.ecdh (s.ksm.slot 0).mat p256G) (kwrapInfo ++ wrapAttr) 32).drop 16) wrapMsg

theorem wrapMsg_length : wrapMsg.length = 144 := by decide +kernel

theorem wrapMsg_slice (o n : Nat) (t : Bytes) (h : o + n ≤ 144) : slice o n (wrapMsg ++ t) = slice o n wrapMsg := by
  have hl := wrapMsg_length
  unfold slice
  rw [List.drop_append_of_le_length (by omega), List.take_append_of_le_length (by simp only [List.length_drop]; omega)]

theorem witness_unwrap_bytes (s : State) : ∃ mat, s.unwrap 255 (wrapT s) = .ok (wrapAttr, mat) := by
  have h1 : (wrapT s).take 64 = p256G := (wrapMsg_slice 0 64 _ (by omega)).trans (by decide +kernel)
  have h2 : slice 64 16 (wrapT s) = wrapAttr := (wrapMsg_slice 64 16 _ (by omega)).trans (by decide +kernel)
  have h4 : (wrapT s).take 144 = wrapMsg := (wrapMsg_slice 0 144 _ (by omega)).trans (by decide +kernel)
  have h5 : (wrapT s).drop 144 = cmac ((hkdf s.deviceId (Config.ecdh (s.ksm.slot 0).mat p256G) (kwrapInfo ++ wrapAttr) 32).drop 16) wrapMsg := by
    have hl := wrapMsg_length
    rw [wrapT, List.drop_append_of_le_length (by omega), List.drop_of_length_le (by omega)]; rfl
  have hp : p256Valid p256G = true := by decide +kernel
  have ha : (beAt wrapAttr 0 1 == 255 && decide (16 ≤ 255) && zeroAt wrapAttr 7 9 &&
      attrOk [1, 2, 3, 4, 5, 6, 7] (beAt wrapAttr 1 1) (beAt wrapAttr 2 2) (beAt wrapAttr 5 1) &&
      klenOk (beAt wrapAttr 1 1) (beAt wrapAttr 6 1) false) = true := by decide +kernel
  have hk : beAt wrapAttr 6 1 = 64 := by decide +kernel
  unfold State.unwrap
  simp only [h1, h2, h4, h5, hp, hk, Bool.not_true, if_false, bne_self_eq_false, reduceCtorEq]
  rw [hk] at ha
  rw [if_pos]
  · exact ⟨_, rfl⟩
  · rw [Bool.and_eq_true]
    refine ⟨ha, ?_⟩
    rw [List.drop_of_length_le]
    · rfl
    · simp only [aesCtr, xorBytes, slice, List.length_zipWith, List.length_take]
      omega

/-- The job that unwraps a record of 160 bytes into slot 255. -/
theorem witness_unwrap : let d := descI 3 160 (ksmP 0 0 0)
    let s := onJob .ksm 1 d
    keyReady { s with ksm := { s.ksm with slots := [(0, slotT 5 0x40 32)] } } d := by
  unfold keyReady State.InHand State.Clears
  decide +kernel

/-! ## The Ocnoix die and the Slip Joint -/

/-- A part whose joint is up at both ends, with a live session under zero keys at both, and the die in state `m`. -/
def onSlip (m : Met) (live : Bool := true) : State :=
  let e : SjEnd := { up := true, sess := some { kTx := zeros 16, kRx := zeros 16, live := live } }
  { on with
    met := { m with running := true, sj := e }
    sjm := { on.sjm with sj := e }
    pwr := { on.pwr with phase := .done } }

/-- An authentic session frame of that session. -/
def frameT (type : Nat) (p : Bytes) : SjRx := { lseq := 0, ack := 0, mac := slipMac (zeros 16) type 0 p, payload := p }

/-- The live session of `onSlip`. -/
def liveT : SjSess := { kTx := zeros 16, kRx := zeros 16, live := true }

theorem frameT_authentic (m : Met) (d : SjSide) (type : Nat) (p : Bytes) : (onSlip m).Authentic d type (frameT type p) liveT := by
  cases d <;> exact ⟨⟨rfl, rfl, rfl, rfl, rfl⟩, rfl, rfl, rfl⟩

/-- That part with `fs` sent and not acknowledged by end `main`. -/
def sentT (fs : List SjFrame) : State :=
  let s := onSlip {}
  { s with sjm := { s.sjm with sj := { s.sjm.sj with unacked := fs } } }

theorem witness_joint : let f : SjRx := { lseq := 0, ack := 65535 }
    let x : SjFrame := { lseq := 65535, type := 0x11, payload := [] }
    let y : SjFrame := { x with lseq := 0, sends := 32 }
    (sentT [x, y]).slipPowered = true ∧ (sentT [x, y]).Receives .main f ∧ ((sentT [x, y]).slipEnd .main).unacked = [] ++ x :: [y] ∧ x.lseq = f.ack ∧
    (sentT [x]).slipPowered = true ∧ ((sentT [x]).slipEnd .main).unacked ≠ [] ∧ (∀ z ∈ ((sentT [x]).slipEnd .main).unacked, z.sends < 32) ∧
    (∃ z ∈ ((sentT [x, y]).slipEnd .main).unacked, 32 ≤ z.sends) ∧ ({ f with crcOk := false } : SjRx).crcOk = false ∧
    ({ f with lseq := 65535 } : SjRx).lseq % 65536 ≠ ((sentT [x]).slipEnd .main).expect ∧ (sentT [x]).sjm.sj.up = true ∧ (sentT [x]).met.sj.up = true := by
  unfold State.Receives
  decide +kernel

theorem witness_joint_down : let s : State := { on with met := { on.met with running := true } }
    s.slipPowered = true ∧ s.sjm.sj.up = false := by decide +kernel

theorem witness_wrong_mac : let s := onSlip {}
    s.Receives .ocnoix { frameT 0x10 [] with ctr := 1 } ∧ s.Receives .ocnoix (frameT 0x11 []) ∧ s.met.sj.sess.isSome = true ∧
    ({ frameT 0x10 [] with ctr := 1 } : SjRx).ctr ≠ 0 ∧ (frameT 0x11 []).mac ≠ slipMac (zeros 16) 0x10 0 [] := by
  unfold State.Receives
  decide +kernel

theorem witness_hello : let f : SjRx := { lseq := 0, ack := 0, payload := zeros 16 }
    let g : SjRx := { lseq := 0, ack := 0, payload := zeros 40 }
    let s := onSlip {}
    let e : SjEnd := { up := true, nm := zeros 16 }
    let u : State := { s with sjm := { s.sjm with sj := e }, ksm := { s.ksm with slots := [(3, slotT 1 0 16)] } }
    s.Receives .ocnoix f ∧ s.met.keysLost = false ∧ s.met.crazed = false ∧ f.payload.length = 16 ∧ u.Receives .main g ∧ u.wheelRuns = true ∧
    u.crazed = false ∧ u.pairKey = some (zeros 16) ∧ u.sjm.sj.nm ≠ [] ∧ u.sjm.sj.sess = none ∧ g.payload.length = 40 ∧ u.dig.count[9] < 2 ^ 32 - 1 := by
  unfold State.Receives
  decide +kernel

/-- The session before its CONFIRM. -/
def freshT : SjSess := { kTx := zeros 16, kRx := zeros 16 }

theorem witness_confirm (d : SjSide) (type : Nat) (p : Bytes) : (onSlip {} false).Authentic d type (frameT type p) freshT := by
  cases d <;> exact ⟨⟨rfl, rfl, rfl, rfl, rfl⟩, rfl, rfl, rfl⟩

/-- A TIME frame. -/
def timeT (secs quality : Nat) : SjRx := frameT 0x11 (beBytes 4 secs ++ [0, 0] ++ beBytes 1 quality ++ [0])

theorem witness_time : let s := onSlip { mtime := 900 }
    let new (f : SjRx) : Int := (beAt f.payload 0 4 * 1000 + beAt f.payload 4 2 * 1000 / 65536 : Nat)
    let gap (f : SjRx) : Int := new f - (s.met.mtime * 1000 + s.met.mfrac : Nat)
    (∀ n q, s.Authentic .ocnoix 0x11 (timeT n q) liveT) ∧
    (∀ f ∈ [timeT 902 0, timeT 901 1, timeT 902 1, timeT 898 1], f.payload.length = 8) ∧
    beAt (timeT 902 0).payload 6 1 ≠ 1 ∧ (gap (timeT 901 1)).natAbs < 2000 ∧ 2000 ≤ (gap (timeT 902 1)).natAbs ∧ 2000 ≤ (gap (timeT 898 1)).natAbs := by
  exact ⟨fun _ _ => frameT_authentic _ _ _ _, by decide +kernel⟩

theorem witness_handover : let f := frameT 0x13 (beBytes 8 7 ++ beBytes 8 7)
    let e : Bytes := zeros 256
    let s := onSlip { evIdx := 1, evLog := [e], blocks := [(7, .event, 0, 1, false)] }
    let g := frameT 0x14 ([3, 0, 0, 0] ++ beBytes 4 0 ++ beBytes 2 1)
    s.Authentic .ocnoix 0x13 f liveT ∧ s.Authentic .ocnoix 0x14 g liveT ∧
    f.payload.length = 16 ∧ (7, LArea.event, 0, 1, false) ∈ s.met.blocks ∧ beAt f.payload 0 8 ≤ 7 ∧
    7 ≤ beAt f.payload 8 8 ∧ s.met.ptr .event = 0 ∧
    (∀ b ∈ (onSlip { blocks := [(6, .event, 0, 1, false)] }).met.blocks, (b.1 < beAt f.payload 0 8 ∨ beAt f.payload 8 8 < b.1) ∧ b.2.2.2.2 = false) ∧
    g.payload.length = 10 ∧ s.met.crazed = false ∧ s.met.keysLost = false ∧ beAt g.payload 0 1 = LArea.event.code ∧
    zeroAt g.payload 1 3 = true ∧ 0 < beAt g.payload 8 2 ∧ beAt g.payload 8 2 ≤ LArea.event.perBlock ∧ [e].length = beAt g.payload 8 2 ∧
    (∀ j, j < [e].length → s.met.entryAt .event (beAt g.payload 4 4 + j) = [e][j]?) := by
  exact ⟨frameT_authentic _ _ _ _, frameT_authentic _ _ _ _, by decide +kernel⟩

/-- A LOAD frame: kind, chunk number, total, data. -/
def loadT (kind idx total : Nat) (data : Bytes) : SjRx := frameT 0x15 (beBytes 1 kind ++ [0] ++ beBytes 2 idx ++ beBytes 4 total ++ data)

/-- A parameter set of version 1 for a blank part, with its tag under the zero key. -/
def lrpsT : Bytes :=
  let b := beBytes 4 0x4F4C5250 ++ beBytes 4 1 ++ zeros 16 ++ beBytes 4 1 ++ zeros 292
  b ++ cmac (zeros 16) b

/-- A firmware image of 128 bytes for a blank part, with its tag under the zero key. -/
def fwT : Bytes :=
  let b := beBytes 4 0x4F465743 ++ beBytes 2 1 ++ zeros 22 ++ beBytes 4 128 ++ zeros 96
  b ++ cmac (zeros 16) b

theorem witness_load : let l : MetLoad := { kind := 1, total := 336, next := 1, data := zeros 100 }
    let s := onSlip { sealOpen := true, load := some l }
    let f := loadT 1 1 336 (zeros 235)
    s.Authentic .ocnoix 0x15 f liveT ∧ (onSlip {}).Authentic .ocnoix 0x15 f liveT ∧
    8 ≤ f.payload.length ∧ s.met.sealOpen = true ∧ beAt f.payload 1 1 = 0 ∧ (f.payload.drop 8).length = 235 ∧
    s.met.load = some l ∧ l.kind = beAt f.payload 0 1 ∧ l.total = beAt f.payload 4 4 ∧ l.next = beAt f.payload 2 2 ∧ l.data.length + 235 < l.total ∧
    (onSlip {}).met.sealOpen = false := by
  exact ⟨frameT_authentic _ _ _ _, frameT_authentic _ _ _ _, by decide +kernel⟩

theorem witness_load_parameters : let s := onSlip { sealOpen := true }
    let f := loadT 1 0 336 lrpsT
    s.Authentic .ocnoix 0x15 f liveT ∧
    s.met.load = none ∧ beAt f.payload 2 2 = 0 ∧ f.payload.drop 8 = lrpsT ∧ beAt f.payload 4 4 = lrpsT.length ∧
    beAt f.payload 0 1 = 1 ∧ lrpsT.length = 336 ∧ beAt lrpsT 0 4 = 0x4F4C5250 ∧ beAt lrpsT 4 4 = 1 ∧ slice 8 16 lrpsT = s.met.mid ∧
    beAt lrpsT 30 2 = 0 ∧ s.met.lrpsVersion < beAt lrpsT 24 4 ∧ s.met.keysLost = false ∧ cmac s.met.ka (lrpsT.take 320) = slice 320 16 lrpsT := by
  exact ⟨frameT_authentic _ _ _ _, by decide +kernel⟩

theorem witness_load_firmware : let s := onSlip { sealOpen := true }
    let f := loadT 2 0 144 fwT
    s.Authentic .ocnoix 0x15 f liveT ∧
    s.met.load = none ∧ beAt f.payload 2 2 = 0 ∧ f.payload.drop 8 = fwT ∧ beAt f.payload 4 4 = fwT.length ∧
    beAt f.payload 0 1 = 2 ∧ s.met.judgeFw fwT = 0 := by
  exact ⟨frameT_authentic _ _ _ _, by decide +kernel⟩

/-- A parameter set that fits channel 15 alone. -/
def fit15 : Lrps := { version := 1, fitted := 0x8000, offset := [], gain := List.replicate 32 1, surgeFloor := [], tag := [] }

theorem witness_press : let f := frameT 0x18 []
    let s := onSlip { lrps := some fit15 }
    s.Receives .ocnoix f ∧ s.met.mpSel = .off ∧ s.met.readout = false ∧ s.met.fitted.testBit 15 = true ∧ (∀ j, j < 15 → s.met.fitted.testBit j = false) ∧
    (∀ j, 16 ≤ j → j < 16 → s.met.fitted.testBit j = false) ∧ (onSlip { readout := true }).Receives .ocnoix f := by
  unfold State.Receives
  decide +kernel

/-- Its ledger key and random generator ready. -/
def signingT : State :=
  let s := onSlip {}
  { s with ksm := { s.ksm with drbgReady := true, slots := [(1, slotT 5 0x20 32)] } }

theorem signingT_authentic (type : Nat) (p : Bytes) : signingT.Authentic .main type (frameT type p) liveT :=
  ⟨⟨rfl, rfl, rfl, rfl, rfl⟩, rfl, rfl, rfl⟩

theorem witness_reports : let f := frameT 0x12 (zeros 80)
    let s := signingT
    let body := beBytes 1 (beAt f.payload 0 1) ++ [0] ++ beBytes 2 f.payload.length ++ f.payload
    s.Authentic .main 0x12 f liveT ∧ s.Authentic .main 0x16 (frameT 0x16 (zeros 8)) liveT ∧ s.Authentic .main 0x17 (frameT 0x17 (zeros 196)) liveT ∧
    s.wheelRuns = true ∧ liveT.live = true ∧ 80 ≤ f.payload.length ∧ s.canSign (s.buildRec 0x07 body false) = true ∧
    s.ksm.cntOf 1 < cntMax ∧ s.upl.todo = [] ∧ s.upl.held = [] := by
  exact ⟨signingT_authentic _ _, signingT_authentic _ _, signingT_authentic _ _, by decide +kernel⟩

/-- A running die in state `m`. -/
def onMet (m : Met) : State := { on with met := { m with running := true } }

theorem witness_metering : let s := onMet { lrps := some fit15, xom := true, mpSel := .ch 15, mpBacklog := 1000 }
    let e (q : Int) : Int := q * (fit15.gain.getD 31 0 : Nat) * (fit15.gain.getD 15 0 : Nat)
    let y := s.met.m[(15 : Fin 16)]
    s.metUp = true ∧ s.met.lrps = some fit15 ∧ fit15.fitted.testBit 15 = true ∧ y.hi ≠ .stuck ∧ y.hv ≠ .stuck ∧ y.chainFault = false ∧ s.met.xom = true ∧
    s.met.skipWin = false ∧ 0 < e 1 ∧ e (-1) < 0 ∧ fit15.fitted.testBit 14 = false ∧ s.met.slew = 0 ∧ s.met.mfrac < 1000 ∧ s.met.mtime + 1 < 2 ^ 32 ∧
    s.met.mpSel = .ch 15 ∧ s.met.readout = false ∧ s.met.mpBacklog + 1 ≤ 1001 ∧ 1001 < s.met.mpBacklog + 2 ∧ s.met.mpSel ≠ .off := by decide +kernel

theorem witness_chains : let m : Met := { lrps := some fit15, slot := 15, xom := true }
    (∀ b ∈ [none, some (15, true), some (15, false), some (14, true)], let s := onMet { m with mism := b }
      s.metUp = true ∧ s.met.spareFault = false ∧ s.met.spareFor = none ∧ s.met.slot = (15 : Fin 16).val ∧ s.met.fitted.testBit 15 = true ∧
      (s.met.otpWord 5).testBit 15 = false) ∧
    (onMet m).met.surge = false ∧ (onMet m).rails.vao = true ∧ (onMet m).met.grade = .none ∧ (onMet m).met.crazedAt.length < 8 ∧
    (onMet {}).met.xom = false := by decide +kernel

theorem witness_health : (∀ h ∈ [(Health.ok, Health.stuck), (.ok, .overrange), (.overrange, .stuck), (.stuck, .ok), (.overrange, .ok)],
    let s := onMet { m := Vector.replicate 16 { hi := h.1, hv := h.1 } }
    s.metUp = true ∧ (if true then s.met.m[(15 : Fin 16)].hv else s.met.m[(15 : Fin 16)].hi) = h.1) := by decide +kernel

theorem witness_supply : let j : MetJournal := { sealcnt := 0xFFFE }
    let s (m : Met) : State := { on with rails := { on.rails with vmet := false }, met := { m with journal := some j } }
    (s {}).rails.vmet = false ∧ (s {}).met.journal = some j ∧ (s {}).met.otpHeld = false ∧ (s {}).met.startBank = none ∧
    (s { otp := [(0, { pl := 1, ph := 1 })] }).met.otpHeld = true ∧ (s { fwB := { ok := true } }).met.startBank = some 1 ∧
    (onMet {}).rails.vmet = true ∧ (onMet {}).met.running = true := by decide +kernel

theorem witness_seal : (onMet {}).metPowered = true ∧ (onMet {}).met.sealOpen = false ∧ (onMet {}).met.sec < (onMet {}).met.sessEnd + 600 ∧
    (onMet { sec := 600 }).met.sessEnd + 600 ≤ (onMet { sec := 600 }).met.sec ∧ (onMet {}).met.live = false ∧
    (onMet { sealOpen := true }).met.sealOpen = true ∧ (onMet {}).met.load = none := by decide +kernel

theorem witness_die_grades : let c := onMet { grade := .crazed }
    (onMet {}).metPowered = true ∧ (onMet {}).met.grade = .none ∧ (onMet {}).met.crazedAt.length < 8 ∧ (onMet {}).met.surge = false ∧
    (onMet {}).met.sealOpen = false ∧ (onMet { sealOpen := true, surge := true }).met.sealOpen = true ∧ c.metPowered = true ∧ c.met.grade = .crazed ∧
    c.met.selfCheck = false ∧ (onMet { grade := .crazed, selfCheck := true, selfCheckTrip := true }).met.selfCheck = true ∧ c.rails.vao = true ∧
    c.sjm.metfault ≠ false ∧ c.sjm.sealstate ≠ true := by decide +kernel

/-! ## Cores and access protection -/

/-- Both cores as `c`, with the tables open. -/
def onCore (c : Core) : State := { on with prot := openProt, core := Vector.replicate 2 c }

/-- A core at P1 with a buffered store that covers the last byte of the word at 0x20000000. -/
def coreT : Core := { level := .p1, pLevel := true, sbuf := [{ addr := 0x20000000, mask := 8, data := 0xAB000000 }] }

/-- Who makes the accesses of core 1 so. -/
def who1 : Who := ⟨1, 0, some 1⟩

theorem witness_loads : let s := onCore coreT
    let u : State := { s with prot := { s.prot with update := 2 ^ 22 } }
    s.coreActive 1 = true ∧ coreT.level ≠ .p2 ∧ 0x20000001 % 2 ≠ 0 ∧ s.accWho 1 = who1 ∧ u.coreActive 1 = true ∧
    u.prot.holds { who1 with level := 2 } 0x20000000 4 = true ∧
    s.prot.holds who1 0x20C00000 4 = false ∧ s.prot.check who1 .read false 0x20C00000 4 = some (3, 0x20C00000) ∧
    s.Allows 1 .read 0x20000000 4 ∧ s.Allows 1 .read 0x20BFFFFC 4 ∧ s.badWord 0x20000000 = false ∧ (onCore { coreT with sbuf := [] }).Allows 1 .read 0x20000000 1 ∧
    s.Allows 1 .read 0x0403FFFC 4 ∧ (0x0403FFFC / 4 * 4 ∉ (s.ldmBad[(1 : Fin 2)] : List Nat)) ∧ s.Allows 1 .read 0x10000000 4 ∧
    ({ s with flc := { s.flc with poison := [0] } } : State).flc.poisoned (0x10000000 % 0x10000000 / 512) = true := by
  unfold State.Allows
  decide +kernel

theorem witness_held_load : let s := onCore { coreT with level := .p2 }
    let u : State := { s with prot := { s.prot with update := 2 ^ 22 } }
    u.coreActive 1 = true ∧ u.prot.holds (u.accWho 1) 0x20000000 4 = true := by decide +kernel

theorem witness_stores : let s := onCore coreT
    let f := onCore { coreT with sbuf := List.replicate 4 { addr := 0x20000000, mask := 15, data := 0 } }
    let w : State := { s with prot := { s.prot with commits := [0] } }
    s.coreActive 1 = true ∧ s.prot.held = [] ∧ 0x20000002 % 4 ≠ 0 ∧ s.prot.holds (s.accWho 1) 0x00000000 4 = false ∧
    s.prot.check (s.accWho 1) .write false 0x00000000 4 = some (5, 0) ∧ s.Allows 1 .write 0x20BFFFFC 4 ∧ coreT.sbuf.length < 4 ∧ s.prot.commits = [] ∧
    f.coreActive 1 = true ∧ f.Allows 1 .write 0x20000000 1 ∧ 4 ≤ f.core[(1 : Fin 2)].sbuf.length ∧ w.coreActive 1 = true ∧ w.prot.commits ≠ [] ∧
    s.Allows 1 .write 0x04000000 2 ∧ s.mainRuns = true ∧ coreT.stalled = none ∧ coreT.sbuf = { addr := 0x20000000, mask := 8, data := 0xAB000000 } :: [] ∧
    (onCore { coreT with fence := true }).mainRuns = true ∧ coreT.sbuf ≠ [] := by
  unfold State.Allows
  decide +kernel

/-- A part with an applet of domain 15 in U mode on core 1. -/
def onApp (a : App) : State :=
  let x : App := { a with cpu := Vector.replicate 2 { st := .running, runSince := 0 } }
  { onCore { coreT with level := .p2, sbuf := [], domain := 15 } with app := on.app.set 15 x }

theorem witness_traps : let s := onCore { coreT with level := .p2 }
    let t := onApp { faults := [0, 0] }
    s.coreActive 1 = true ∧ s.core[(1 : Fin 2)].level = .p2 ∧ s.running 1 = none ∧ (7 : Fin 8) ≠ 0 ∧ t.coreActive 1 = true ∧ t.core[(1 : Fin 2)].level = .p2 ∧
    t.running 1 = some 15 ∧ (t.app[(15 : Fin 16)]).fresh = false ∧ 2 ≤ (t.app[(15 : Fin 16)]).faults.length ∧
    (∀ x ∈ (t.app[(15 : Fin 16)]).faults, t.powered < x + 2831155200) ∧ ((onApp { fresh := true }).app[(15 : Fin 16)]).fresh = true ∧
    (onApp { fresh := true }).running 1 = some 15 := by decide +kernel

theorem witness_interrupts : let c : Core := { coreT with meie := true, mie := true, ienable := 1, icache := [0x20000020] }
    let s : State := { onCore c with irq := 1 }
    (onCore coreT).meipOf 1 = false ∧ s.mainRuns = true ∧ s.meipOf 1 = true ∧ c.meie = true ∧ c.wfi = false ∧ c.mie = true ∧ s.coreActive 1 = true ∧
    (0x2000003F : Word).toNat / 32 * 32 ∈ c.icache := by decide +kernel

theorem witness_machine : let s := onCore {}
    let t := onCore coreT
    s.coreActive 0 = true ∧ s.core[(0 : Fin 2)].level ≠ .p2 ∧ s.core[(0 : Fin 2)].pLevel = false ∧ s.core[(1 : Fin 2)].msip = false ∧
    t.coreActive 1 = true ∧ t.core[(1 : Fin 2)].pLevel = true ∧ (onCore { coreT with level := .p2 }).coreActive 1 = true ∧
    (onCore { coreT with level := .p2 }).running 1 = none ∧ t.mainRuns = true ∧ t.prot.held = [] := by decide +kernel

/-- The same with the active region `n` of the IPT and of the gates locked. -/
def lockedT (n : Fin 64) (i : Fin 208) : State :=
  let s := onCore coreT
  { s with prot := { s.prot with ipt := s.prot.ipt.set n { perm := 2 ^ 30 }, gate := s.prot.gate.set i { perm := 2 ^ 30 } } }

theorem witness_regions : let s := onCore coreT
    let u := lockedT 63 207
    s.coreActive 1 = true ∧ s.prot.held = [] ∧ (25 : Fin 26) ≠ 3 ∧ (25 : Fin 26) ≠ 4 ∧
    (∀ x ∈ [RegionReg.iptStart 63, .iptEnd 63, .iptPerm 63, .gateBase 25 7, .gatePerm 25 7], s.Allows 1 .write (regionAddr x) 4 ∧ u.Allows 1 .write (regionAddr x) 4) ∧
    (s.prot.ipt[(63 : Fin 64)]).perm / 2 ^ 30 % 2 = 0 ∧ (u.prot.ipt[(63 : Fin 64)]).perm / 2 ^ 30 % 2 = 1 ∧ u.coreActive 1 = true ∧
    (s.prot.gate.toList.getD 207 {}).perm / 2 ^ 30 % 2 = 0 ∧ (u.prot.gate.toList.getD 207 {}).perm / 2 ^ 30 % 2 = 1 := by
  unfold State.Allows
  decide +kernel

theorem witness_commits : let s := onCore coreT
    let b : State := { s with prot := { s.prot with iptS := s.prot.iptS.set 63 { perm := 2 ^ 31 } } }
    let w : State := { s with prot := { s.prot with commits := [0] } }
    let x : State := { s with prot := { s.prot with commits := [1] } }
    s.coreActive 1 = true ∧ s.prot.held = [] ∧ s.Allows 1 .write 0x30030804 4 ∧ s.prot.commits = [] ∧ s.prot.commitFault = 0 ∧ w.coreActive 1 = true ∧
    w.Allows 1 .write 0x30030804 4 ∧ w.prot.commits ≠ [] ∧ b.coreActive 1 = true ∧ b.Allows 1 .write 0x30030804 4 ∧
    (b.prot.iptS[(63 : Fin 64)]).perm / 2 ^ 31 % 2 = 1 ∧ (b.prot.iptS[(63 : Fin 64)]).stop ≤ (b.prot.iptS[(63 : Fin 64)]).start ∧
    x.prot.commits = [1] ∧ (∀ j : Fin 2, x.core[j].stalled = none) ∧ s.Allows 1 .write 0x30030800 4 ∧ s.Allows 1 .write 0x30030848 4 := by
  unfold State.Allows
  decide +kernel

theorem witness_commit_region : ∀ m : Fin 64, m < 63 → (on.prot.iptS[m]).perm / 2 ^ 31 % 2 = 0 ∧ (on.prot.ipt[m]).perm / 2 ^ 30 % 2 = 0 := by
  decide +kernel

theorem witness_protection_probe : let s := onCore coreT
    let p : Prot := { s.prot with probeBase := 0x20BFFFFF, probeLen := 1 }
    let q : Prot := { p with probeLen := 2 }
    p.check ⟨1, 0, some 1⟩ .read false p.probeBase p.probeLen = none ∧ 0 < p.probeLen ∧ p.probeBase + p.probeLen ≤ 2 ^ 32 ∧
    q.check ⟨1, 0, some 1⟩ .read false q.probeBase q.probeLen = some (3, 0x20C00000) := by decide +kernel

theorem witness_held_timeout : let s := onCore coreT
    let u : State := { s with prot := { s.prot with held := [.load 1 0x20000000 4 false 31] } }
    u.prot.held = .load 1 0x20000000 4 false 31 :: [] ∧ u.running 1 = none := by decide +kernel

/-! ## Kernel calls and applets -/

/-- An applet of domain 15 that may make every call, governs channel 0, and owns a counter group and a data block. -/
def manT : Manifest := { domain := 15, channels := [0], calls := 2 ^ 256 - 1, slots := 1, counters := 1, dataBlocks := 1, cpuUs := 1, quiesceMax := 1, decideMax := 1 }

/-- The six arguments of a call. -/
def argsT (l : List Nat) : List Nat := (List.range 6).map (fun i => l.getD i 0)

/-- That applet on core 1, about to make call `n` with these arguments. -/
def onCall (n : Nat) (l : List Nat) (a : App := {}) : State :=
  let r := ((List.range 6).foldl (fun (v : Vector Word 32) i => v.setIfInBounds (10 + i) (BitVec.ofNat 32 (l.getD i 0))) (Vector.replicate 32 0)).set 17 (BitVec.ofNat 32 n)
  { onApp { a with man := some manT, cntFrom := 16, blockFrom := 122 } with
    core := Vector.replicate 2 { coreT with level := .p2, sbuf := [], domain := 15, regs := r }
    ch := on.ch.set 0 { chanA with fifo := [{ code := 1, tick := 7 }] } }

/-- The call it makes. -/
def callT (l : List Nat) : KCall := { core := 1, dom := 15, args := argsT l }

theorem witness_calls : (∀ n ∈ [0x01, 0x02, 0x03, 0x10, 0x11, 0x12, 0x13, 0x20, 0x21, 0x22, 0x30, 0x40, 0x41, 0x42, 0x43, 0x50, 0x51, 0x60, 0x61, 0x70, 0x71],
    (onCall n []).Calls n (callT [])) := by
  unfold State.Calls
  decide +kernel

theorem witness_no_call : (onCall 0x100 []).caller 1 = some (0x100, callT []) ∧ (onCall 0xFF []).caller 1 = some (0xFF, callT []) ∧ callTable 0xFF = none ∧
    (let s : State := onCall 1 []
     let u : State := { s with app := s.app.set 15 { s.app[(15 : Fin 16)] with man := none } }
     u.caller 1 = some (1, callT []) ∧ u.callAllowed 15 1 = false) := by decide +kernel

theorem witness_wait : let s := onCall 1 [127]
    s.Calls 1 (callT [127]) ∧ (127 &&& s.waitEvents 15 ≠ 0) ∧ (onCall 1 [2]).Calls 1 (callT [2]) ∧ (2 &&& (onCall 1 [2]).waitEvents 15 = 0) := by
  unfold State.Calls
  decide +kernel

theorem witness_buffers : let a := 0x20BFFF00
    let b := 0x0403FF00
    (onCall 2 [a]).Calls 2 (callT [a]) ∧ (onCall 2 [a]).Buf (callT [a]) .write a 16 ∧ (onCall 2 [b]).Buf (callT [b]) .write b 240 ∧
    (onCall 0x11 [0, a]).Calls 0x11 (callT [0, a]) ∧ (onCall 0x11 [0, a]).Buf (callT [0, a]) .write a 8 ∧
    (onCall 0x20 [0, a, 8, b]).Calls 0x20 (callT [0, a, 8, b]) ∧ (onCall 0x20 [0, a, 8, b]).Buf (callT [0, a, 8, b]) .read a 8 := by
  unfold State.Calls State.Buf
  decide +kernel

theorem witness_channel_calls : let s := onCall 0x11 [0, 0x20000000]
    let e := onCh { chanA with fifo := [] }
    (callT [0, 0x20000000]).a 0 = (0 : Fin 16).val ∧ (0 : Fin 16) ∈ s.governed 15 ∧ (s.chan 0).fifo ≠ [] ∧ (e.chan 0).fifo = [] ∧ (s.due 0).fused = false ∧
    (s.due 0).frozen = false ∧ (s.due 0).eclass.guarded = true ∧ (s.due 0).grantable = true ∧ ((onCh { chanA with fused := false, service := false }).due 0).grantable = false ∧
    s.mayWithdraw 0 = false ∧ (onCh { chanA with dmd := false }).mayWithdraw 0 = true := by decide +kernel

theorem witness_link_calls : let s := onCall 0x20 [0, 0, 0, 0x20000000]
    let c := callT [0, 0, 0, 0x20000000]
    let f (l : Link) : State := { s with link := s.link.set 0 l }
    s.Calls 0x20 c ∧ c.a 2 = 0 ∧ s.Buf c .write (c.a 3) 240 ∧ (s.lnk 0).sess = none ∧ ((f { sess := some sessT }).lnk 0).sess ≠ none ∧
    (f { sess := some sessT }).Calls 0x20 c ∧ (s.lnk 0).atn = [] ∧ ((f { atn := [zeros 240] }).lnk 0).atn = zeros 240 :: [] ∧ (zeros 240).length ≤ 240 := by
  unfold State.Calls State.Buf
  decide +kernel

/-- A call of that applet on a part that may sign, with key slot 16 of the applet. -/
def onKeyCall (n : Nat) (l : List Nat) (x : Slot) : State :=
  let s := onCall n l
  { s with ksm := { s.ksm with drbgReady := true, slots := [(1, slotT 5 0x20 32), (16, { x with owner := 15 })], cnt := [(16, 7)] } }

theorem witness_report : let l := [0xFF, 0x20000000, 1024]
    let s := onKeyCall 0x30 l {}
    let c := callT l
    let body := beBytes 1 15 ++ [0xFF] ++ beBytes 2 1024 ++ (s.drainAll 1).memRead c.who 0x20000000 1024
    s.Calls 0x30 c ∧ c.a 0 = 0xFF ∧ c.a 2 ≤ 1024 ∧ s.Buf c .read (c.a 1) (c.a 2) ∧ s.wheelRuns = true ∧ s.ksm.cntOf 1 < cntMax ∧
    s.canSign (s.buildRec 0x0D body false) = true := by
  unfold State.Calls State.Buf
  decide +kernel

/-- The ring under which the Wheel checks the key calls of domain 15. -/
def ring15 : Ring := { ownerLevel := 1, ownerDomain := 15 }

/-- The slots the Wheel may give an applet. -/
def freeSlots (s : State) : List Nat :=
  (List.range 240).map (· + 16) |>.filter (fun n => (s.ksm.slot n).st == .empty && (s.ksm.slot n).gen != 0xFFFF)

theorem budgetSlot_some (s : State) (d : Fin 16) (m : Manifest) (P : Nat → Prop) (hm : (s.appOf d).man = some m) (hu : s.slotsUsed d < m.slots)
    (hl : 0 < (freeSlots s).length) (hp : ∀ i ∈ freeSlots s, P i) : ∃ i, s.budgetSlot d = some i ∧ P i := by
  have hi : Config.freeNat s.freeCount % (freeSlots s).length < (freeSlots s).length := Nat.mod_lt _ hl
  refine ⟨(freeSlots s)[Config.freeNat s.freeCount % (freeSlots s).length], ?_, hp _ (List.getElem_mem hi)⟩
  have he : (freeSlots s).isEmpty = false := by
    cases h : freeSlots s with
    | nil => rw [h] at hl; exact absurd hl (by decide)
    | cons => rfl
  have hf : s.freeSlot = (freeSlots s)[Config.freeNat s.freeCount % (freeSlots s).length]? := by
    show (if (freeSlots s).isEmpty then none else _) = _
    rw [he]
    rfl
  unfold State.budgetSlot
  rw [hm]
  show (if s.slotsUsed d < m.slots then s.freeSlot else none) = _
  rw [if_pos hu, hf, List.getElem?_eq_getElem hi]

/-- Arguments of KEY_GEN. -/
def genT : List Nat := [4, 0x1FF, 1, 64]

theorem witness_key_gen : let s := onKeyCall 0x40 genT {}
    let p : State := { s with tamp := { s.tamp with grade := .crazed } }
    s.Calls 0x40 (callT genT) ∧ s.ksm.compWait = false ∧ s.crazed = false ∧ s.provisional = false ∧ p.crazed = true ∧ p.Calls 0x40 (callT genT) := by
  unfold State.Calls
  decide +kernel

theorem witness_key_gen_slot : let s := onKeyCall 0x40 genT {}
    ∃ i, s.budgetSlot 15 = some i ∧ s.ksmCheck ring15 (ksmDesc 1 0 0 i (s.ksm.slot i).gen 4 1 0x1FF 15 64 0 0) = none :=
  budgetSlot_some _ _ manT _ (by decide +kernel) (by decide +kernel) (by decide +kernel) (by decide +kernel)

/-- A slot of the applet that it may derive from, and has room beside. -/
def onDerive (l : List Nat) : State :=
  let s := onKeyCall 0x41 l (slotT 4 0x10 32)
  { s with app := s.app.set 15 { s.app[(15 : Fin 16)] with man := some { manT with slots := 2 } } }

/-- Arguments of KEY_DERIVE: from slot 16, GEN 1, a salt of 4 bytes, to a key of class AES256 and USAGE 3. -/
def deriveT : List Nat := [0x100001, 0x20000000, 8, 4, 0x02000320]

theorem witness_key_derive : let s := onDerive deriveT
    let c := callT deriveT
    s.Calls 0x41 c ∧ s.ownsSlot c 16 = true ∧ s.Buf c .read (c.a 1) (c.a 2) ∧ c.a 3 ≤ 64 ∧ c.a 3 ≤ c.a 2 := by
  unfold State.Calls State.Buf
  decide +kernel

theorem witness_key_derive_slot : let s := onDerive deriveT
    let c := callT deriveT
    ∃ i, s.budgetSlot 15 = some i ∧
      s.ksmCheck ring15 (ksmDesc 5 16 (c.a 0 % 2 ^ 16) i (s.ksm.slot i).gen (c.a 4 / 2 ^ 24 % 256) 0 (c.a 4 / 2 ^ 8 % 2 ^ 16) 15 (c.a 4 % 256) (c.a 3) (c.a 2)) = none :=
  budgetSlot_some _ _ { manT with slots := 2 } _ (by decide +kernel) (by decide +kernel) (by decide +kernel) (by decide +kernel)

theorem witness_key_uses : let l := [16, 1, 0x20000000, 0x20000100]
    let s := onKeyCall 0x43 l (slotT 6 0x20 48)
    let c := callT l
    let d := onKeyCall 0x42 [16, 1] (slotT 5 0 32)
    s.Calls 0x43 c ∧ s.ownsSlot c 16 = true ∧ s.Buf c .read (c.a 2) 48 ∧ s.Buf c .write (c.a 3) 96 ∧
    s.ksmCheck ring15 (ksmDesc 6 16 1 0 0 0 0 0 0 0 0 48) = none ∧ d.Calls 0x42 (callT [16, 1]) ∧ d.ownsSlot (callT [16, 1]) 16 = true ∧
    d.ksmCheck ring15 (ksmDesc 8 16 1 0 0 0 0 0 0 0 0 0) = none := by
  unfold State.Calls State.Buf
  decide +kernel

theorem witness_counter_calls : let l := [16, 0x20000000]
    let s := onKeyCall 0x51 l {}
    let f : State := { s with ksm := { s.ksm with cnt := [(16, cntMax)] } }
    s.Calls 0x51 (callT l) ∧ s.ownsCnt (callT l) 16 = true ∧ s.Buf (callT l) .write 0x20000000 8 ∧ s.ksm.cntOf 16 < cntMax ∧ cntMax ≤ f.ksm.cntOf 16 ∧
    f.Calls 0x51 (callT l) := by
  unfold State.Calls State.Buf
  decide +kernel

theorem witness_metrology_calls : let l := [1, 0, 2048, 0x20000000, 1024]
    let s := onCall 0x61 l
    let u : State := { s with met := (onSlip {}).met, sjm := { (onSlip {}).sjm with measure := zeros 196 } }
    s.Calls 0x61 (callT l) ∧ s.sjm.loadOwner = none ∧ s.Buf (callT l) .read 0x20000000 1024 ∧ s.crazed = false ∧ s.sjm.sj.sess = none ∧
    u.Calls 0x61 (callT l) ∧ u.sjm.sj.sess = some liveT ∧ liveT.live = true ∧ u.slipPowered = true ∧ 0 + 1 < (2048 + 1023) / 1024 ∧
    (2048 + 1023) / 1024 ≤ 1 + 1 ∧ u.sjm.measure.length = 196 := by
  unfold State.Calls State.Buf
  decide +kernel

theorem witness_flash_calls : let a := 0x10000000 + 122 * 0x40000
    let l := [a, 0x20000000, 512]
    let run (s : State) : State := onRing s .flc 1 (fun r => { r with st := .running, log2 := 4, prod := 15 })
    let s := run (onCall 0x70 l)
    let t := run (onCall 0x71 [a, 2])
    s.Calls 0x70 (callT l) ∧ s.ownsFlcRing (callT l) = false ∧ (s.ring .flc 1).st = .running ∧ (s.ring .flc 1).pending < 2 ^ (s.ring .flc 1).log2 ∧
    s.ownsFlash (callT l) a 512 = true ∧ a % 512 = 0 ∧ s.Buf (callT l) .read 0x20000000 512 ∧ t.Calls 0x71 (callT [a, 2]) ∧
    t.ownsFlash (callT [a, 2]) a 1 = true ∧ a % 0x40000 = 0 := by
  unfold State.Calls State.Buf
  decide +kernel

theorem witness_waiting : let c : AppCore := { st := .waiting, runSince := 5, call := some (1, [2, 10]) }
    let s := onApp {}
    let w : State := { s with app := s.app.set 15 { man := some manT, cpu := Vector.replicate 2 c, events := 8 } }
    let v : State := { s with app := s.app.set 15 { man := some manT, cpu := Vector.replicate 2 { c with call := some (1, [8, 0]) }, events := 8 } }
    w.wheelRuns = true ∧ w.waitingOn 15 1 = some (2, some 15) ∧ (w.cpuOf 15 1).st = .waiting ∧ (2 &&& w.waitEvents 15 = 0) ∧ w.clk.tickSrc ≠ none ∧
    v.waitingOn 15 1 = some (8, none) ∧ (8 &&& v.waitEvents 15 ≠ 0) := by decide +kernel

theorem witness_scheduling : let s := onApp { man := some manT }
    let u : State := { s with app := s.app.set 3 { man := some { manT with domain := 3 }, cpu := Vector.replicate 2 { st := .ready } } }
    s.wheelRuns = true ∧ s.running 1 = some 15 ∧ (s.app[(15 : Fin 16)]).man = some manT ∧ s.clk.tickSrc ≠ none ∧ (s.app[(15 : Fin 16)]).fresh = false ∧
    u.coreUp 1 = true ∧ u.running 1 = some 15 ∧ (∀ e, e ≠ 15 → (u.cpuOf e 1).st ≠ .running) ∧ u.core[(1 : Fin 2)].domain = (15 : Fin 16).val ∧
    (∃ f, f ≠ (15 : Fin 16) ∧ (u.cpuOf f 1).st = .ready ∧ u.priority 15 ≤ u.priority f) ∧ s.tick < 2 ^ 47 := by decide +kernel

theorem witness_exchange : let s := onCall 3 [] { xstep := .requested, incoming := some manT }
    let u := onCall 3 [] { startedAt := some 0 }
    let r : Manifest := { manT with rings := [(.fae, 0, 4, false)] }
    let j := onRing s .fae 0 (fun x => { x with st := .running, prod := 1 })
    let w : State := { j with app := j.app.set 15 { j.app[(15 : Fin 16)] with man := some r } }
    u.Calls 3 (callT []) ∧ (u.app[(15 : Fin 16)]).xstep ≠ .requested ∧ w.Calls 3 (callT []) ∧ (w.app[(15 : Fin 16)]).xstep = .requested ∧
    w.drained r = false ∧ (w.app[(15 : Fin 16)]).man = some r ∧ s.wheelRuns = true ∧ s.clk.tickSrc ≠ none ∧ (u.app[(15 : Fin 16)]).startedAt = some 0 := by
  unfold State.Calls
  decide +kernel

/-! ## Self-test and observation -/

/-- An option copy whose self-test schedule is one second. -/
def optT : Bytes := zeros 8 ++ leBytes 4 8 ++ zeros 52 ++ leBytes 4 1 ++ zeros 4

/-- A part that may test itself, with a run `r`. -/
def onRun (r : Option StRun) : State :=
  { on with
    pwr := { on.pwr with optCopy := some 0 }
    opt := on.opt.set 0 optT
    selft := { on.selft with run := r } }

theorem witness_partition : let r : StRun := { trigger := .schedule, todo := [32, 61], started := 0, close := some (2 ^ 48 - 1) }
    let s := onRun (some r)
    s.selft.run = some r ∧ 61 ∈ r.todo ∧ s.provisional = false ∧ s.crazed = false ∧ s.kilnRuns = true ∧ s.partIdle 61 = true ∧ s.partIdle 32 = true ∧
    (∃ j ∈ r.todo, j ≠ 61) ∧ (∃ j ∈ r.todo, j ≠ 32) ∧ partChannel 32 = some 0 ∧ (s.chan 0).fused = false ∧
    ({ s with straps := { s.straps with cls := s.straps.cls.set 0 .h } } : State).straps.cls[(0 : Fin 16)] ∈ [EClass.h, EClass.a] ∧
    r.close = some (2 ^ 48 - 1) ∧ s.clk.tickSrc ≠ none ∧ s.selft.kept = none := by decide +kernel

theorem witness_scheduled_run : let s := onRun none
    s.mayTest = true ∧ s.selft.run = none ∧ s.schedInterval ≠ 0 ∧ s.clk.tickSrc ≠ none := by decide +kernel

theorem witness_spyhole : let s : State := { onApp { man := some manT } with spy := { on.spy with pcPeriod := 1, occPeriod := 1, fill := 3039 } }
    let g : State := { s with life := { s.life with firing := .greenware } }
    let u : State := { s with spy := { s.spy with fill := 3022 } }
    u.kilnReady = true ∧ u.clk.tickSrc ≠ none ∧ u.selft.factory = false ∧ u.MaySend 1 40 ∧ s.mainUp = true ∧ s.MaySend 3 23 ∧ s.spy.occPeriod ≠ 0 ∧
    g.spy.pcPeriod ≠ 0 ∧ g.mainRuns = true ∧ ({ g with spy := { g.spy with fill := 3040 } } : State).MaySend 6 22 ∧ g.running 1 = some 15 ∧
    g.core[(1 : Fin 2)].level = .p2 ∧ g.core[(1 : Fin 2)].wfi = false := by
  unfold State.MaySend
  decide +kernel

/-! ## Rails, resets and starts -/

/-- The same part with these rails. -/
def onRails (r : Rails) : State := { on with rails := r }

theorem witness_rails : State.reset.rails.vao = false ∧ (onRails { vao := true, vcore := true }).rails.vio = false ∧
    (onRails { vao := true, vio := true }).rails.vcore = false ∧ on.rails.vao = true ∧ on.rails.vio = true ∧ on.rails.vcore = true ∧
    on.pwr.vcoreLoss = .none ∧ on.pwr.flushDone = false ∧ on.kilnRuns = true ∧ ({ on.pwr with flushDone := true } : Pwr).flushDone = true ∧
    ({ on.pwr with vcoreLoss := .unordered 7 } : Pwr).vcoreLoss = .unordered 7 := by decide +kernel

theorem witness_power_fail : let w (p : Pwr) : State := { on with bins := { on.bins with pfailHighSince := some (2 ^ 48 - 3278) }, pwr := p }
    let c := w { on.pwr with phase := .c }
    let f := w { on.pwr with flushDone := true, main := .off, kiln := .off }
    let h := w { on.pwr with flushDone := true, main := .hold .kilnLoop, kiln := .off }
    on.rails.vao = true ∧ on.bins.pfailLow = false ∧ on.railsOk = true ∧ on.bins.nrstLow = false ∧ on.pwr.flushDone = false ∧ on.startWaits = false ∧
    ({ on.bins with pfailLow := true } : Bins).pfailLow = true ∧ c.bins.pfailHighSince = some (2 ^ 48 - 3278) ∧ c.clk.tickSrc ≠ none ∧ c.starting = true ∧
    f.starting = false ∧ f.pwr.flushDone = true ∧ f.pwr.main = .off ∧ f.pwr.holdReason ≠ some .fuseMarginal ∧ h.starting = false ∧
    h.pwr.main = .hold .kilnLoop ∧ (onRails { vao := true }).railsOk = false := by decide +kernel

theorem witness_watchdogs : let w (l : List Nat) : State := { on with pwr := { on.pwr with mainWdogFrom := some 0, mainWdogAt := l, kilnWdogAt := l } }
    let c : State := { on with pwr := { on.pwr with phase := .c } }
    (w [0, 0]).pwr.mainWdogFrom = some 0 ∧ (w [0, 0]).mainRuns = true ∧
    ((w [0, 0]).pwr.mainWdogAt.filter (fun j => decide ((w [0, 0]).wdogPeriod < j + 19660800))).length < 3 ∧
    3 ≤ ((w [0, 0, 0]).pwr.mainWdogAt.filter (fun j => decide ((w [0, 0, 0]).wdogPeriod < j + 19660800))).length ∧ on.kilnRuns = true ∧
    ((w [0, 0]).pwr.kilnWdogAt.filter (fun j => decide (on.tick < j + 19660800))).length < 3 ∧ (w [0, 0]).startWaits = false ∧ c.startWaits = true ∧
    3 ≤ ((w [0, 0, 0]).pwr.kilnWdogAt.filter (fun j => decide (on.tick < j + 19660800))).length := by decide +kernel

/-- A start of that part in phase `p`, its straps read as far as `r`. -/
def onPhase (p : Phase) (r : ReadingPhase) : State := { on with pwr := { on.pwr with phase := p }, straps := { on.straps with phase := r } }

theorem witness_starts : let b : State := { onPhase .b .none with fuses := { on.fuses with words := [(2, { pl := 1, ph := 1 })] } }
    ({ on with bins := { on.bins with nrstLow := true } } : State).startBlocked = true ∧ b.startBlocked = false ∧ (on.pwr.phase = .done) ∧ b.pwr.phase = .b ∧
    b.fuseHold ≠ none ∧ (onPhase .selftest .none).startBlocked = false ∧ (onPhase .selftest .none).straps.phase = .none ∧
    (onPhase .d .none).startBlocked = false ∧ (onPhase .e .first).startBlocked = false ∧ (onPhase .e .first).straps.phase ≠ .settled ∧
    (onPhase .e .settled).straps.phase = .settled ∧ (onPhase .e .settled).recordStraps.banks = [] ∧
    ({ on.bins with pfailLow := true } : Bins).pfailLow = true := by decide +kernel

theorem witness_no_options : (onPhase .d .none).seedAll.logOptions.measureRom.optChoice = none := by decide +kernel

/-! ## Straps -/

/-- That part with its straps read as far as `r` and its binary straps so. -/
def onBins (r : ReadingPhase) (b : Bins) : State := { onPhase .done r with bins := b }

theorem witness_straps : (onBins .none {}).rails.vao = true ∧ (onBins .none {}).clk.tickSrc ≠ none ∧ (onBins .none {}).straps.phase = .none ∧
    (onBins .first {}).straps.phase = .first ∧ (onBins .settled {}).straps.phase = .settled ∧ ((onBins .none {}).chan 15).fused = false ∧
    ((onBins .first {}).chan 15).known = false ∧ on.life.firing ≠ .sherd ∧ on.kiln.retired.testBit 15 = false ∧ (classAt 12 15).guarded = true ∧
    (onBins .none {}).bins.testEn = false ∧ (onBins .none {}).bins.doorOpen = false ∧ (onBins .none {}).bins.svcLow = false ∧
    (onBins .none { doorOpen := true }).bins.doorOpen = true ∧ (onBins .none { svcLow := true, svcSince := some 0 }).bins.svcSince = some 0 ∧
    (onBins .none { svcLow := true, svcSince := some 0 }).bins.svcLow = true ∧ (onBins .none { svcLow := true, svcSince := some 0 }).bins.svcIgnored = false ∧
    (onBins .none { svcLow := true, svcSince := some 0 }).bins.svcLongDone = false := by decide +kernel

/-! ## Attack sensing -/

/-- That part with the sensors' state so. -/
def onTamp (t : Tamp) : State := { on with tamp := t }

theorem witness_sensors : let sherd : State := { on with life := { on.life with firing := .sherd } }
    let noKiln : State := { on with pwr := { on.pwr with kiln := .reset } }
    on.rails.vao = true ∧ (∀ c ∈ [2, 3, 4, 5, 9, 0x0E, 0x11], sensorCause c = true) ∧ on.sensed 2 = true ∧ sensorCause 9 = true ∧ on.kilnReady = true ∧
    on.life.firing ≠ .sherd ∧ on.crazed = false ∧ on.tamp.crazedAt.length < 8 ∧ causeGrade .fired 2 = .crazed ∧ causeGrade .fired 3 = .crazed ∧
    (onTamp { glitchAt := [0] }).tamp.glitchAt.length < 2 ∧ causeGrade .fired 0x0B = .shattered ∧ on.railsOk = true ∧ on.tamp.grade ≠ .shattered ∧
    sherd.kilnReady = true ∧ sherd.life.firing = .sherd ∧ sherd.sensed 2 = true ∧ noKiln.kilnReady = false ∧ noKiln.sensed 2 = true := by decide +kernel

theorem witness_anomalies : let x : State := onTamp { refSurge := some 0 }
    let u : State := onTamp { suspendedUntil := some 1 }
    on.clk.tickSrc ≠ none ∧ anomalyCause 8 35 = true ∧ u.suspended = true ∧ u.kilnReady = true ∧ u.crazed = false ∧ on.suspended = false ∧
    on.tamp.excusing on.tick = none ∧ x.suspended = false ∧ x.tamp.excusing x.tick ≠ none ∧ on.rails.vmet = true ∧ u.tamp.suspendedUntil = some 1 := by
  decide +kernel

theorem witness_hold_expiry : let s := onTamp { holds := [⟨6, 0, 0⟩] }
    s.tamp.holds = ⟨6, 0, 0⟩ :: [] ∧ s.clk.tickSrc ≠ none ∧ s.kilnReady = true ∧ s.life.firing ≠ .sherd ∧ s.crazed = false ∧ s.tamp.crazedAt.length < 8 ∧
    causeGrade s.life.firing 6 = .crazed := by decide +kernel

theorem witness_quiet : let s := onTamp { grade := .crazed }
    let c := onTamp { grade := .crazed, selfCheck := true }
    let w : State := { c with pwr := { c.pwr with crazedWait := true } }
    s.tamp.grade = .crazed ∧ s.railsOk = true ∧ s.kilnReady = true ∧ s.tamp.holds = [] ∧ s.tamp.selfCheck = false ∧ c.tamp.selfCheck = true ∧
    c.tamp.selfCheckTrip = false ∧ c.pwr.crazedWait = false ∧ c.life.staged = none ∧ c.selft.factoryDue = none ∧ w.pwr.crazedWait = true ∧ w.tamp.holds = [] := by
  decide +kernel

theorem witness_temperatures : let v : List Int := [2232, 4231, 3000, 3000]
    let s := onTamp { temps := Vector.replicate 4 (List.replicate 50 3000) }
    let h := onTamp { tempHi := Vector.replicate 4 1 }
    v.length = 4 ∧ (∀ i : Fin 4, 2231 < v.getD i.val 0 ∧ v.getD i.val 0 ≤ 4231 ∧ rateTrips on.tamp.temps[i] (v.getD i.val 0) = false) ∧
    rateTrips s.tamp.temps[(3 : Fin 4)] 3075 = false ∧ h.kilnReady = true ∧ h.crazed = false ∧
    (∃ i : Fin 4, h.tamp.tempHi[i] = 1 ∧ (4231 : Int) < [4232, 4232, 4232, 4232].getD i.val 0) := by decide +kernel

/-! ## Clocks and sleep -/

/-- That part with its clocks so. -/
def onClk (c : Clk) : State := { on with clk := c }

theorem witness_clocks : let up : Xtal := { up := true, adopted := true }
    let k : Clk := { tickSrc := some .xo32, xo32 := up, xo25 := up, fpllXo25 := true, fpllLocked := true, lastBeacon := some 0, beaconQual := true }
    (onClk { tickSrc := none }).clk.tickSrc = none ∧ on.clk.tickSrc = some .rc32 ∧ on.clk.xo32.adopted = false ∧ on.clk.tickSwitch = none ∧
    (onClk k).clk.tickSrc = some .xo32 ∧ on.xo25Runs = true ∧ on.clk.xo25.adopted = false ∧ on.clk.fpllSwitch = none ∧ on.clk.fpllXo25 = false ∧
    (onClk k).clk.xo32.up = true ∧ (onClk k).clk.rc32 = true ∧ (onClk k).clk.xo25.up = true ∧ (onClk k).clk.fpllXo25 = true ∧ (onClk k).clk.lastBeacon = some 0 ∧
    (onClk k).clk.beaconQual = true ∧ (onClk k).clk.xo32.qualified = false ∧ (onClk { k with xo32 := { up with qualified := true } }).clk.xo32.qualified = true ∧
    (onClk k).clk.xo25.qualified = false ∧ (onClk { beaconRun := 3 }).clk.beaconQual = false ∧ 3 ≤ (onClk { beaconRun := 3 }).clk.beaconRun := by decide +kernel

theorem witness_switches : let f := onClk { fpllFailedAt := some 0 }
    let c : State := { f with pwr := { f.pwr with phase := .c } }
    (onClk { tickSwitch := some .xo32 }).clk.tickSwitch = some .xo32 ∧ (onClk { tickSwitch := some .xo32 }).clk.held = [] ∧
    (onClk { fpllSwitch := some true }).clk.fpllSwitch = some true ∧ on.clk.fpllLocked = false ∧ on.pwr.phase ≠ .c ∧ c.pwr.phase = .c ∧
    c.clk.fpllFailedAt = some 0 ∧ c.clk.fpllLocked = false ∧ c.clk.tickSrc ≠ none := by decide +kernel

theorem witness_sleep : let c : Core := { wfi := true, pLevel := true }
    let s : State := { on with core := Vector.replicate 2 c }
    let u : State := { s with aes := { s.aes with waiting := [1] } }
    on.rails.vao = true ∧ on.pwr.flushing = false ∧ wakesMain .kernelTick = true ∧ on.mainUp = true ∧ wakesKiln .kilnTimer = true ∧ s.mayRetain = true ∧
    u.mayRetain = false ∧ u.wheelRuns = true ∧ on.kilnIdle = true ∧ ({ on.pwr with kilnTimerArmed := true } : Pwr).kilnTimerArmed = true ∧
    on.kilnReady = true ∧ on.clk.tickSrc ≠ none := by decide +kernel

/-! ## The queue, the step and the invariant -/

theorem witness_empty_queue : on.pending = [] ∧ State.reset.rails.vao = false ∧ State.reset.pending = [] := by decide +kernel

theorem reset_inv : State.reset.Inv := by
  unfold State.Inv Core.Ok Chan.Ok
  refine ⟨rfl, by decide +kernel, by decide +kernel, by decide +kernel, fun c => ?_⟩
  fin_cases c <;> exact ⟨by decide, fun _ h => nomatch h⟩

theorem witness_step : ∃ t, step State.reset = .next t ∧ State.reset.Inv := ⟨_, rfl, reset_inv⟩

theorem witness_outside : Instr.outside (.linkState 0) = true ∧ ∃ t, exec (.linkState 0) on = .next t := ⟨rfl, _, rfl⟩

/-! ## Answers known from outside the model -/

/-- The 16 bytes 00 to 0F, and on. -/
def upTo (n : Nat) : Bytes := (List.range n).map (BitVec.ofNat 8)

/-- FIPS 197, appendix C.1 and C.3. -/
theorem test_aes : let pt := beBytes 16 0x00112233445566778899AABBCCDDEEFF
    aesEnc (upTo 16) pt = beBytes 16 0x69C4E0D86A7B0430D8CDB78070B4C55A ∧ aesDec (upTo 16) (beBytes 16 0x69C4E0D86A7B0430D8CDB78070B4C55A) = pt ∧
    aesEnc (upTo 32) pt = beBytes 16 0x8EA2B7CA516745BFEAFC49904B496089 := by decide +kernel

/-- FIPS 180-4, the message "abc". -/
theorem test_sha2 : let abc : Bytes := [0x61, 0x62, 0x63]
    sha2 .sha256 abc = beBytes 32 0xBA7816BF8F01CFEA414140DE5DAE2223B00361A396177A9CB410FF61F20015AD ∧
    sha2 .sha384 abc = beBytes 48 0xCB00753F45A35E8BB5A03D699AC65007272C32AB0EDED1631A8B605A43FF5BED8086072BA1E7CC2358BAECA134C825A7 ∧
    sha2 .sha512 abc = beBytes 64 0xDDAF35A193617ABACC417349AE20413112E6FA4E89A97EA20A9EEEE64B55D39A2192992A274FC1A836BA3C23A3FEEBBD454D4423643CE80E2A9AC94FA54CA49F := by
  decide +kernel

/-- RFC 4493, examples 1 and 2. -/
theorem test_cmac : let k := beBytes 16 0x2B7E151628AED2A6ABF7158809CF4F3C
    cmac k [] = beBytes 16 0xBB1D6929E95937287FA37D129B756746 ∧
    cmac k (beBytes 16 0x6BC1BEE22E409F96E93D7E117393172A) = beBytes 16 0x070A16B46B4D4144F79BDD9DD04A287C := by decide +kernel

/-- RFC 5869, test case 1. -/
theorem test_hkdf : hkdf (upTo 13) (List.replicate 22 0x0B) ((List.range 10).map (fun i => BitVec.ofNat 8 (0xF0 + i))) 42 =
    beBytes 42 0x3CB25F25FAACD57A90434F64D0362F2A2D2D0A90CF1A5A4C5DB02D56ECC4C5BF34007208D5B887185865 := by decide +kernel

/-! ## One step on small states -/

/-- The answer of a command is a next state of which `p` holds. -/
def after (c : Instr) (s : State) (p : State → Bool) : Bool := match exec c s with | .next t => p t | _ => false

theorem test_queue : (match step { on with pending := [.measSnap, .measLock] } with | .next t => decide (t.pending = [.measLock]) | _ => false) = true := by
  decide +kernel

/-- The resistors of cabinet 0x2A7 (spec/03_straps.md, wiring a TN1612 cabinet). -/
def wiringT : List (Option Nat) := [12100, 12100, 42200, 6490, 12100, 33200, 200000, 200000, 20500, 42200, 4220, 12100].map some

/-- That cabinet: channels 12 to 15 are fused. -/
def cabinetT : State :=
  { onPhase .done .none with ch := Vector.ofFn (fun c : Fin 16 => { fused := decide (12 ≤ c.val) }) }

/-- The state a command answers, for a chain of two. -/
def next (c : Instr) (s : State) : State := match exec c s with | .next t => t | _ => s

theorem test_wiring : after (.codeSecondPass wiringT) (next (.codeFirstPass wiringT) cabinetT) (fun t => t.straps.cabinet == 0x2A7 &&
    t.straps.cls.toList == [.l, .l, .l, .l, .h, .h, .a, .u, .l, .l, .l, .h, .u, .u, .u, .u]) = true := by decide +kernel

/-- A hold met at its boundary (spec/08_channels.md, worked case, step 7). -/
theorem test_hold_boundary :
    let x : Chan := { chanA with keep := .hold 82022, latch := true, dmd := true, fbk := true, fen := true, tconfLen := 328, fifo := [] }
    let s : State := { onCh x with tick := 82021 }
    after (.holdExpired 0) s (fun t => t.tick == 82022 && !(t.chan 0).latch && !(t.chan 0).fen && (t.chan 0).conf == some 82350 &&
      (t.chan 0).fifo.map (fun e => (e.code, e.tick)) == [(0x0B, 82022), (0x06, 82022)]) = true := by decide +kernel

theorem test_grant_refused : after (.grantSet 0) (onCh chanL) (fun t => !(t.chan 0).latch) = true := by decide +kernel

/-- The regions of spec/14_protection.md, a fragment that straddles two applet regions. -/
def straddleT : Prot :=
  { ipt := ((on.prot.ipt.set 2 ⟨0x20000000, 0x20800000, 0x80000018⟩).set 20 ⟨0x20040000, 0x20044000, 0x800130D8⟩).set 21 ⟨0x20043F00, 0x20044100, 0x80013058⟩
    gate := on.prot.gate.set 176 ⟨0x20000000, 24, 0x800000F8⟩ }

theorem test_straddle : straddleT.check ⟨2, 3, none⟩ .write false 0x20043E00 640 = some (1, 0x20043F00) ∧
    straddleT.check ⟨2, 3, none⟩ .read false 0x20043E00 640 = none ∧ straddleT.check ⟨2, 4, none⟩ .write false 0x20043E00 640 = some (1, 0x20043E00) := by
  decide +kernel

/-- A doorbell across the index wrap (spec/15_rings.md, worked case). -/
theorem test_doorbell_wrap : let s := onRing (onJob .dig 1 (descT 1 [])) .dig 1 (fun r => { r with prod := 65534, cons := 65530 })
    let e := onRing s .dig 1 (fun r => { r with cons := 65534, seen := 65534 })
    after (.doorbell .dig 1 0x0000FFFF) s (fun t => (t.ring .dig 1).prod == 65535) = true ∧
    after (.doorbell .dig 1 0xFFFE0000) e (fun t => (t.ring .dig 1).prod == 0 && !(t.ring .dig 1).doorbellRefused) = true ∧
    after (.doorbell .dig 1 0xFFFE000F) e (fun t => (t.ring .dig 1).doorbellRefused) = true := by decide +kernel

theorem test_modulus : after (.modSet 2 0) { on with wmu := { on.wmu with mods := on.wmu.mods.set 2 { value := p256P } } } (fun t => (t.wmu.mods[(2 : Fin 8)]).valid) = true ∧
    after (.modSet 2 0) { on with wmu := { on.wmu with mods := on.wmu.mods.set 2 { value := p256P - 1 } } }
      (fun t => !(t.wmu.mods[(2 : Fin 8)]).valid && t.wmu.refused) = true := by decide +kernel

/-- MUL of 2 and 3 without FIELD: 72 bytes of the product, CARRY 0. -/
theorem test_mul : let d : Desc := { descIO 1 0 64 [0, 0, 1] with outFr := [(0x20002000, 72)] }
    let s := onJob .wmu 0 d
    after (.mul 0) { s with mem := writeBytes s.mem 0x20001000 ([2] ++ zeros 31 ++ [3]) }
      (fun t => readBytes t.mem 0x20002000 72 == [6] ++ zeros 71 && (t.ring .wmu 0).cons == 1) = true := by decide +kernel

/-- ENC of the block of FIPS 197 in the ring's own buffers. -/
theorem test_enc : let d := descIO 1 0 16 cipherP
    let s := withKey (onJob .fae 7 d) { slotT 1 3 16 with mat := upTo 16 }
    after (.enc .fae 7) { s with mem := writeBytes s.mem 0x20001000 (beBytes 16 0x00112233445566778899AABBCCDDEEFF) }
      (fun t => readBytes t.mem 0x20002000 16 == beBytes 16 0x69C4E0D86A7B0430D8CDB78070B4C55A && beAt (readBytes t.mem 0x20000030 1) 0 1 == 0) = true := by decide +kernel

theorem test_counter_exhausted : after (.cntInc 1) (onCnt 0x21 16 1 cntMax) (fun t => t.ksm.cntOf 16 == cntMax && (t.ring .ksm 1).cons == 1) = true ∧
    after (.cntInc 1) (onCnt 0x21 16 1 (cntMax - 1)) (fun t => t.ksm.cntOf 16 == cntMax) = true := by decide +kernel

theorem test_store_forwarding : after (.coreLoad 1 0x20000000 .word false 31 .clean) (onCore coreT)
    (fun t => t.core[(1 : Fin 2)].regs[(31 : Fin 32)] == 0xAB000000 && (t.core[(1 : Fin 2)]).sbuf.length == 1) = true ∧
    after (.storeDrain 1 .clean) (onCore coreT) (fun t => readByte t.mem 0x20000003 == 0xAB && readByte t.mem 0x20000000 == 0) = true := by decide +kernel

theorem test_call_time : after (.ecall 1) (onCall 2 [0x20000000]) (fun t => (t.core[(1 : Fin 2)]).regs[(10 : Fin 32)] == 0 && (t.core[(1 : Fin 2)]).pc == 4) = true ∧
    after (.ecall 1) (onCall 2 [0x20BFFFFE]) (fun t => (t.core[(1 : Fin 2)]).regs[(10 : Fin 32)] != 0) = true := by decide +kernel

theorem test_mesh_trip : after (.sensorTrip 2 0) on (fun t => t.tamp.grade == .crazed && t.ksm.sealed) = true ∧
    after (.sensorTrip 0x0E 0) on (fun t => t.life.firing == .sherd) = true := by decide +kernel

theorem test_power_fail : after .pfailFall on (fun t => t.pwr.flushDone && t.pwr.kiln == .off && t.tamp.refPfail == some 0) = true := by decide +kernel

end Sys2Proof.Tests
end

section
/-! The queue and the step (00_scope.md R13, R26): what a step takes from the queue, and that every command answers a next state with the
rest of the queue as it was. -/

namespace Sys2Proof.Machine

open Sys2Proof

/-! ## The step -/

theorem step_of_pending_cons {c : Instr} {rest : List Instr} {s : State} (h : s.pending = c :: rest) :
    step s = exec c { s with pending := rest } := by
  unfold step
  rw [h]

/-! ## Every command answers -/

/-- Each meaning is a `.next` at its head, on every path (the model's choice, assumption log 10): what an event that cannot occur leaves is
decided inside it. -/
theorem exec_answers_next (c : Instr) (s : State) : ∃ t, exec c s = .next t := by
  cases c <;> exact ⟨_, rfl⟩

/-- `exec_ok` speaks of the queue and of the invariant; the queue's half holds of every state, safe or not. -/
theorem exec_keeps_pending {c : Instr} {s t : State} (h : exec c s = .next t) : t.pending = s.pending := by
  have start : State.Ok False s.pending s := ⟨rfl, False.elim⟩
  have answer : OutOk False s.pending (exec c s) := exec_ok start
  rw [h, outOk_next] at answer
  exact answer.1

/-! ## The obligations -/

/-- Settles O3: every meaning answers a next state, and its operations keep the queue. -/
theorem everyCommandAnswers : Obligations.EveryCommandAnswers := by
  intro c s
  obtain ⟨t, ht⟩ := exec_answers_next c s
  exact ⟨t, ht, exec_keeps_pending ht⟩

/-- Settles O1, by the step on a queue that is not empty. -/
theorem stepTakesTheFront : Obligations.StepTakesTheFront := by
  intro c rest s
  exact step_of_pending_cons rfl

end Sys2Proof.Machine
end

section
/-! An island that is awake stays awake (spec/04_power_clocks.md R145, R160, R162): no work the Wheel or the Kiln takes up at a wake moves the
tick counter, puts the main island back to sleep, asks for sleep, or stops the Kiln. -/

namespace Sys2Proof.Machine

open Sys2Proof

/-! ## The predicate -/

/-- At tick `n` the main island runs or is held, its sleep request is `b`, and, where `K` holds, the Kiln runs. -/
structure PwrAwake (n : Nat) (b : Bool) (K : Prop) (tick : Nat) (p : Pwr) : Prop where
  tick_eq : tick = n
  main : p.main = .running ∨ ∃ r, p.main = .hold r
  sleepReq : p.sleepReq = b
  kiln : K → p.kiln = .running ∨ p.kiln = .rom

/-- `PwrAwake` of a state: of its tick counter and its islands alone, so that an update of anything else keeps it by definition. -/
def State.Awake (n : Nat) (b : Bool) (K : Prop) (s : State) : Prop := PwrAwake n b K s.tick s.pwr

theorem kilnRuns_iff (s : State) : s.kilnRuns = true ↔ s.pwr.kiln = .running ∨ s.pwr.kiln = .rom := by
  simp [State.kilnRuns]

variable {n : Nat} {b : Bool} {K : Prop} {s t : State}

theorem State.Awake.of_eq (h : s.Awake n b K) (htick : t.tick = s.tick) (hpwr : t.pwr = s.pwr) : t.Awake n b K := by
  unfold State.Awake; rw [htick, hpwr]; exact h

theorem State.Awake.ne_retention (h : s.Awake n b K) : s.pwr.main ≠ .retention := by
  rcases h.main with e | ⟨r, e⟩ <;> rw [e] <;> nofun

/-! ## Updates that touch neither the tick counter nor the islands -/

theorem State.Awake.withUpl {x : Upl} (h : s.Awake n b K) : State.Awake n b K { s with upl := x } := h

theorem State.Awake.withLife {x : Life} (h : s.Awake n b K) : State.Awake n b K { s with life := x } := h

theorem State.Awake.withKsm {x : Ksm} (h : s.Awake n b K) : State.Awake n b K { s with ksm := x } := h

theorem State.Awake.withFuses {x : Fuses} (h : s.Awake n b K) : State.Awake n b K { s with fuses := x } := h

theorem State.Awake.withKiln {x : Kiln} (h : s.Awake n b K) : State.Awake n b K { s with kiln := x } := h

theorem State.Awake.withTamp {x : Tamp} (h : s.Awake n b K) : State.Awake n b K { s with tamp := x } := h

theorem State.Awake.withSelft {x : SelfT} (h : s.Awake n b K) : State.Awake n b K { s with selft := x } := h

theorem State.Awake.withFlc {x : Flc} (h : s.Awake n b K) : State.Awake n b K { s with flc := x } := h

theorem State.Awake.withMet {x : Met} (h : s.Awake n b K) : State.Awake n b K { s with met := x } := h

theorem State.Awake.withSjm {x : Sjm} (h : s.Awake n b K) : State.Awake n b K { s with sjm := x } := h

theorem State.Awake.withKsmLife {x : Ksm} {y : Life} (h : s.Awake n b K) : State.Awake n b K { s with ksm := x, life := y } := h

theorem State.Awake.withEngines {x : Flc} {y : Wmu} {z : Dig} {w : Aes} (h : s.Awake n b K) :
    State.Awake n b K { s with flc := x, wmu := y, dig := z, aes := w } := h

theorem State.Awake.withMem {x : Mem} (h : s.Awake n b K) : State.Awake n b K { s with mem := x } := h

theorem State.Awake.withDig {x : Dig} (h : s.Awake n b K) : State.Awake n b K { s with dig := x } := h

theorem State.Awake.tick1 (h : s.Awake n b K) : s.tick1.Awake n b K := h

theorem State.Awake.ite {p : Prop} {_ : Decidable p} (hs : s.Awake n b K) (ht : t.Awake n b K) : (if p then s else t).Awake n b K := by
  split
  · exact hs
  · exact ht

/-! ## Logging, reporting, waking -/

/-- A `Logged` state may only have woken an island. -/
theorem State.Awake.logged (h : s.Awake n b K) (l : Logged s t) : t.Awake n b K := by
  have htick := l.tick
  obtain ⟨e, hmain, hkiln⟩ := l
  refine ⟨htick.trans h.tick_eq, ?_, ?_, fun k => ?_⟩
  · rcases hmain with hm | ⟨hm, -⟩
    · rw [hm]; exact h.main
    · exact absurd hm h.ne_retention
  · rw [e]; exact h.sleepReq
  · rcases hkiln with hk | ⟨-, hk⟩
    · rw [hk]; exact h.kiln k
    · exact .inl hk

theorem State.Awake.foldl {α : Type} {f : State → α → State} {l : List α} (h : s.Awake n b K)
    (hf : ∀ t x, t.Awake n b K → (f t x).Awake n b K) : (l.foldl f s).Awake n b K := by
  induction l generalizing s with
  | nil => exact h
  | cons a l ih => exact ih (hf s a h)

theorem State.Awake.eachCh {f : Fin 16 → State → State} (h : s.Awake n b K) (hf : ∀ c t, t.Awake n b K → (f c t).Awake n b K) :
    (s.eachCh f).Awake n b K := h.foldl fun t c ht => hf c t ht

theorem State.Awake.wakeMain (h : s.Awake n b K) : s.wakeMain.Awake n b K := h.logged (wakeMain_logged s)

theorem State.Awake.wakeKiln (h : s.Awake n b K) : s.wakeKiln.Awake n b K := h.logged (wakeKiln_logged s)

theorem State.Awake.report {type : Nat} {body : Bytes} (h : s.Awake n b K) : (s.report type body).Awake n b K := h.logged (report_logged _ _ _)

theorem State.Awake.logEv {code grade source : Nat} {detail : Bytes} {rep now : Bool} (h : s.Awake n b K) :
    (s.logEv code grade source detail rep now).Awake n b K := h.logged (logEv_logged _ _ _ _ _ _ _)

theorem State.Awake.klog {code : Nat} {detail : Bytes} (h : s.Awake n b K) : (s.klog code detail).Awake n b K := h.logEv

theorem State.Awake.klogRep {code : Nat} {detail : Bytes} (h : s.Awake n b K) : (s.klogRep code detail).Awake n b K := h.logEv

theorem State.Awake.wlog {code grade : Nat} {detail : Bytes} {rep : Bool} (h : s.Awake n b K) : (s.wlog code grade detail rep).Awake n b K :=
  h.logEv

theorem State.Awake.spyEvent {kind code index grade tick : Nat} {detail : Bytes} (h : s.Awake n b K) :
    (s.spyEvent kind code index grade tick detail).Awake n b K := h.logged (spyEvent_logged _ _ _ _ _ _ _)

theorem State.Awake.journalAdd {e : JEntry} (h : s.Awake n b K) : (s.journalAdd e).Awake n b K := h.logged (journalAdd_logged _ _)

/-! ## Channels and measurements -/

theorem State.Awake.chOp {c : Fin 16} {f : Chan → Chan} (h : s.Awake n b K) : (s.chOp c f).Awake n b K := by
  unfold State.chOp; dsimp only; split
  · exact State.Awake.wakeMain h
  · exact h

theorem State.Awake.freezeAll {x : FreezeSrc} (h : s.Awake n b K) : (s.freezeAll x).Awake n b K := h.eachCh fun _ _ ht => ht.chOp

theorem State.Awake.releaseAll {x : FreezeSrc} (h : s.Awake n b K) : (s.releaseAll x).Awake n b K := h.eachCh fun _ _ ht => ht.chOp

theorem State.Awake.measure {k : Fin 24} {level event : Nat} {msg : Bytes} (h : s.Awake n b K) : (s.measure k level event msg).Awake n b K := by
  unfold State.measure; split <;> exact h

/-! ## Rings and aborts (chapter 15) -/

theorem State.Awake.updRing {e : Eng} {k : Nat} {f : Machine.Ring → Machine.Ring} (h : s.Awake n b K) : (s.updRing e k f).Awake n b K := by
  have set : (s.updEng e (fun x => { x with rings := x.rings.modify k f })).Awake n b K := h
  unfold State.updRing; dsimp only; split
  · exact set
  · exact set.logged (spySend_logged _ _ _ _)

theorem State.Awake.complete {e : Eng} {k : Nat} {d : Done} (h : s.Awake n b K) : (s.complete e k d).Awake n b K := by
  unfold State.complete; exact State.Awake.updRing h

theorem State.Awake.finishPage {j : ProgJob} (h : s.Awake n b K) : (s.finishPage j).1.Awake n b K := by
  unfold State.finishPage; split <;> exact h

theorem State.Awake.abortFlash {k : Nat} {tamper : Bool} (h : s.Awake n b K) : (s.abortFlash k tamper).1.Awake n b K := by
  unfold State.abortFlash; dsimp only
  split
  · split
    · exact h.finishPage.withFlc
    · dsimp only; split <;> exact h
  · repeat' split
    all_goals exact h

theorem State.Awake.abortOne {e : Eng} {k : Nat} {code : Code} (h : s.Awake n b K) : (s.abortOne e k code).Awake n b K := by
  unfold State.abortOne; dsimp only; split
  · split
    · have aborted := h.abortFlash (k := k) (tamper := code == .abortTamper)
      split <;> rename_i eq <;> rw [eq] at aborted <;> exact aborted.complete
    · exact h.complete
  · split
    · exact h.complete
    · exact State.Awake.updRing h

theorem State.Awake.abortMany {m : Nat} {e : Eng} {k : Nat} {code : Code} (h : s.Awake n b K) : (State.abortMany m s e k code).Awake n b K := by
  induction m generalizing s with
  | zero => exact h
  | succ m ih => exact ih h.abortOne

theorem State.Awake.abortEngine {e : Eng} {code : Code} (h : s.Awake n b K) : (s.abortEngine e code).Awake n b K := by
  unfold State.abortEngine; exact h.foldl fun _ _ ht => ht.abortMany.of_eq rfl rfl

theorem State.Awake.abortEngines {l : List Eng} {code : Code} (h : s.Awake n b K) : (s.abortEngines l code).Awake n b K := by
  unfold State.abortEngines; exact h.foldl fun _ _ ht => ht.abortEngine

/-! ## Entry into Hold (R200) -/

theorem State.Awake.dropSessions (h : s.Awake n b K) : s.dropSessions.Awake n b K := by
  have dropped := h.eachCh (f := fun c t => (t.updLnk c Link.dropSession).updCh c (fun x => x.pairBack t.tick)) fun _ _ ht => ht
  exact dropped.of_eq rfl rfl

theorem State.Awake.dropSlip (h : s.Awake n b K) : s.dropSlip.Awake n b K := h.of_eq rfl rfl

theorem State.Awake.portsDown (h : s.Awake n b K) : s.portsDown.Awake n b K := h.of_eq rfl rfl

theorem State.Awake.freezeMain (h : s.Awake n b K) : s.freezeMain.Awake n b K := h.freezeAll

theorem State.Awake.abandonRun (h : s.Awake n b K) : s.abandonRun.Awake n b K := by
  unfold State.abandonRun; split <;> exact h

theorem State.Awake.flushing {x : Bool} (h : s.Awake n b K) : State.Awake n b K { s with pwr := { s.pwr with flushing := x } } :=
  ⟨h.tick_eq, h.main, h.sleepReq, h.kiln⟩

theorem State.Awake.drainStores (h : s.Awake n b K) : s.drainStores.Awake n b K := h.of_eq rfl rfl

theorem State.Awake.journalClose (h : s.Awake n b K) : s.journalClose.Awake n b K := h.journalAdd.of_eq rfl rfl

theorem State.Awake.flushPages (h : s.Awake n b K) : s.flushPages.Awake n b K := by
  unfold State.flushPages; dsimp only
  have closed := (h.flushing (x := true)).drainStores.journalClose
  have flushed := closed.of_eq (t := State.flushLog (State.flushPointers _)) rfl rfl
  exact flushed.flushing

theorem State.Awake.holds {r : HoldReason} (h : s.Awake n b K) :
    State.Awake n b K { s with pwr := { s.pwr with main := .hold r, holdReason := some r, phase := .idle, mainWdogFrom := none } } :=
  ⟨h.tick_eq, .inr ⟨r, rfl⟩, h.sleepReq, h.kiln⟩

/-- A Hold is no sleep. -/
theorem State.Awake.enterHold {r : HoldReason} (h : s.Awake n b K) : (s.enterHold r).Awake n b K := by
  unfold State.enterHold; dsimp only
  have flushed : (if s.mainUp && !s.starting then s.flushPages else s.flushLog).Awake n b K := by
    split
    · exact h.flushPages
    · exact h.of_eq rfl rfl
  exact flushed.abortEngines.abandonRun.logEv.dropSessions.dropSlip.portsDown.holds.freezeMain

/-! ## Fetching (R595, R611) -/

theorem State.Awake.freeSaggar {k : Nat} (h : s.Awake n b K) : (s.freeSaggar k).Awake n b K := by
  unfold State.freeSaggar; repeat' split
  all_goals exact h

theorem State.Awake.saggarOnStop {e : Eng} {k : Nat} (h : s.Awake n b K) : (s.saggarOnStop e k).Awake n b K := by
  unfold State.saggarOnStop; split
  · exact h.freeSaggar
  · exact h.freeSaggar
  · exact h

theorem State.Awake.haltRing {e : Eng} {k i reason : Nat} (h : s.Awake n b K) : (s.haltRing e k i reason).Awake n b K := by
  unfold State.haltRing; dsimp only; split
  · exact h.updRing.enterHold
  · exact h.updRing.updRing.saggarOnStop

theorem State.Awake.finishDesc {e : Eng} {k : Nat} {d : Done} (h : s.Awake n b K) : (s.finishDesc e k d).Awake n b K := by
  unfold State.finishDesc; exact h.complete.saggarOnStop

theorem State.Awake.malformed {e : Eng} {k reason : Nat} (h : s.Awake n b K) : (s.malformed e k reason).Awake n b K := by
  unfold State.malformed; exact h.complete.haltRing

theorem State.Awake.holdDma {e : Eng} {k : Nat} (h : s.Awake n b K) : (s.holdDma e k).Awake n b K := by
  unfold State.holdDma; split <;> exact h

theorem State.Awake.takeDesc {e : Eng} {k : Nat} {d : Desc} (h : s.Awake n b K) : (s.takeDesc e k d).Awake n b K := h.updRing

theorem State.Awake.recordFault {e : Eng} {k kind addr : Nat} {y : AccType} (h : s.Awake n b K) :
    (s.recordFault e k y kind addr).Awake n b K := h.of_eq rfl rfl

theorem State.Awake.dropDma {e : Eng} {k : Nat} (h : s.Awake n b K) : (s.dropDma e k).Awake n b K := h.of_eq rfl rfl

theorem State.Awake.newWait {e : Eng} {k : Nat} (h : s.Awake n b K) : (s.newWait e k).Awake n b K := by
  unfold State.newWait; split <;> exact h

theorem State.Awake.formStep {e : Eng} {k : Nat} {d : Desc} {tmo : Bool} (h : s.Awake n b K) : (s.formStep e k d tmo).Awake n b K := by
  unfold State.formStep; split
  · exact h.takeDesc
  · exact h.malformed
  · split
    · exact h.takeDesc
    · exact h.malformed
    · exact h.recordFault.finishDesc
    · exact h.finishDesc
    · exact h.takeDesc.holdDma
    · exact h.finishDesc

theorem State.Awake.fetchStep {e : Eng} {k : Nat} {tmo : Bool} (h : s.Awake n b K) : (s.fetchStep e k tmo).Awake n b K := by
  unfold State.fetchStep; dsimp only; split
  · exact h.holdDma
  · exact h.dropDma.recordFault.haltRing
  · split
    · exact h.dropDma.recordFault.haltRing
    · split
      · exact h.dropDma.haltRing
      · split
        · exact h.dropDma.newWait.takeDesc.finishDesc
        · exact h.dropDma.newWait.takeDesc.formStep

theorem State.Awake.fetchLoop {m : Nat} {e : Eng} {k : Nat} (h : s.Awake n b K) : (State.fetchLoop m s e k).Awake n b K := by
  induction m generalizing s with
  | zero => exact h
  | succ m ih =>
    unfold State.fetchLoop; split
    · exact ih h.fetchStep
    · exact h

theorem State.Awake.fetchNext {e : Eng} {k : Nat} (h : s.Awake n b K) : (s.fetchNext e k).Awake n b K := h.fetchLoop

theorem State.Awake.fetchEngine {e : Eng} (h : s.Awake n b K) : (s.fetchEngine e).Awake n b K := by
  unfold State.fetchEngine; exact h.foldl fun _ _ ht => ht.fetchNext

theorem State.Awake.fetchAll (h : s.Awake n b K) : s.fetchAll.Awake n b K := by
  unfold State.fetchAll; exact h.foldl fun _ _ ht => ht.fetchEngine

/-! ## Applets that wait (R781, R785) -/

theorem State.Awake.takeOff {k : Fin 2} {st : AppSt} (h : s.Awake n b K) : (s.takeOff k st).Awake n b K := by
  unfold State.takeOff; split <;> exact h

theorem State.Awake.putOn {k : Fin 2} {d : Fin 16} (h : s.Awake n b K) : (s.putOn k d).Awake n b K := h.of_eq rfl rfl

theorem State.Awake.schedule {k : Fin 2} (h : s.Awake n b K) : (s.schedule k).Awake n b K := by
  unfold State.schedule; split
  · exact h
  · split
    · exact h
    · split
      · exact h.putOn
      · split
        · exact h.takeOff.putOn
        · exact h

theorem State.Awake.reschedule (h : s.Awake n b K) : s.reschedule.Awake n b K := h.schedule.schedule

theorem State.Awake.pollWait {d : Fin 16} {k : Fin 2} (h : s.Awake n b K) : (s.pollWait d k).Awake n b K := by
  unfold State.pollWait; repeat' split
  all_goals exact h

theorem State.Awake.updCpu {d : Fin 16} {k : Fin 2} {f : AppCore → AppCore} (h : s.Awake n b K) : (s.updCpu d k f).Awake n b K := h.of_eq rfl rfl

theorem State.Awake.sramWrite {a : Nat} {x : Bytes} (h : s.Awake n b K) : (s.sramWrite a x).Awake n b K := h.of_eq rfl rfl

theorem State.Awake.pollFlash {d : Fin 16} {k : Fin 2} (h : s.Awake n b K) : (s.pollFlash d k).Awake n b K := by
  unfold State.pollFlash; dsimp only; split
  · split
    · exact h
    · split
      · split
        · exact h.sramWrite.updRing.updCpu.fetchNext
        · exact h
      · split
        · exact h
        · exact h.updRing.updCpu
  · exact h

theorem State.Awake.pollWaits (h : s.Awake n b K) : s.pollWaits.Awake n b K := by
  unfold State.pollWaits; split
  · exact (h.foldl fun _ _ ht => ht.pollWait.pollWait.pollFlash.pollFlash).reschedule
  · exact h

theorem State.Awake.cpuWindow (h : s.Awake n b K) : s.cpuWindow.Awake n b K := by
  unfold State.cpuWindow; dsimp only; exact State.Awake.reschedule h

end Sys2Proof.Machine
end

section
/-! Awake, continued: links, applets, commits, zeroization, the Slip Joint, and the Wheel's work at a periodic wake. -/

namespace Sys2Proof.Machine

open Sys2Proof

variable {n : Nat} {b : Bool} {K : Prop} {s : State}

/-! ## The field link (chapter 10) -/

theorem State.Awake.setLnk {c : Fin 16} {l : Link} (h : s.Awake n b K) : (s.setLnk c l).Awake n b K := h.of_eq rfl rfl

theorem State.Awake.updLnk {c : Fin 16} {f : Link → Link} (h : s.Awake n b K) : (s.updLnk c f).Awake n b K := h.of_eq rfl rfl

theorem State.Awake.updCh {c : Fin 16} {f : Chan → Chan} (h : s.Awake n b K) : (s.updCh c f).Awake n b K := h.of_eq rfl rfl

theorem State.Awake.sendTxn {c : Fin 16} (h : s.Awake n b K) : (s.sendTxn c).Awake n b K := by
  unfold State.sendTxn; dsimp only; repeat' split
  all_goals exact h

theorem State.Awake.openTxn {c : Fin 16} {type : Nat} {p : Bytes} {applet : Bool} (h : s.Awake n b K) :
    (s.openTxn c type p applet).Awake n b K := by
  unfold State.openTxn; dsimp only; split
  · split
    · split
      · exact h.setLnk.sendTxn
      · exact h
    · exact h
  · split
    · split
      · exact h.setLnk.sendTxn
      · exact h
    · exact h.setLnk.sendTxn

theorem State.Awake.pumpLink {c : Fin 16} (h : s.Awake n b K) : (s.pumpLink c).Awake n b K := by
  unfold State.pumpLink; dsimp only; split
  · exact h.sendTxn
  · split
    · split
      · exact h
      · split
        · exact h.of_eq rfl rfl
        · exact h.setLnk.openTxn
    · exact h

theorem State.Awake.ask {c : Fin 16} {type : Nat} {p : Bytes} {applet : Bool} (h : s.Awake n b K) : (s.ask c type p applet).Awake n b K :=
  h.updLnk.pumpLink

theorem State.Awake.appStore {k : Fin 2} {a : Nat} {x : Bytes} (h : s.Awake n b K) : (s.appStore k a x).Awake n b K := by
  unfold State.appStore; split <;> exact h

theorem State.Awake.linkReturnOne {d c : Fin 16} {k : Fin 2} {code : Nat} {reply : Bytes} (h : s.Awake n b K) :
    (s.linkReturnOne d k c code reply).Awake n b K := by
  unfold State.linkReturnOne; split
  · split
    · exact h.appStore.updCpu
    · exact h
  · exact h

theorem State.Awake.linkReturn {c : Fin 16} {code : Code} {reply : Bytes} (h : s.Awake n b K) : (s.linkReturn c code reply).Awake n b K := by
  unfold State.linkReturn; split
  · dsimp only; split
    · exact h.linkReturnOne.linkReturnOne.reschedule
    · exact h.linkReturnOne.reschedule
  · exact h

theorem State.Awake.noteApp {c : Fin 16} {bit : Nat} (h : s.Awake n b K) : (s.noteApp c bit).Awake n b K := by
  unfold State.noteApp; split <;> exact h

theorem State.Awake.closeSess {c : Fin 16} {reason : Nat} (h : s.Awake n b K) : (s.closeSess c reason).Awake n b K := by
  unfold State.closeSess; dsimp only; split
  · exact h
  · exact h.setLnk.linkReturn.pumpLink

theorem State.Awake.lostSession {c : Fin 16} {hostile : Bool} (h : s.Awake n b K) : (s.lostSession c hostile).Awake n b K := h.chOp

theorem State.Awake.endLink {c : Fin 16} {reason : Nat} (h : s.Awake n b K) : (s.endLink c reason).Awake n b K := by
  unfold State.endLink; split
  · exact h.closeSess.lostSession
  · exact h

theorem State.Awake.dropAttempt {c : Fin 16} (h : s.Awake n b K) : (s.dropAttempt c).Awake n b K := h.updLnk

theorem State.Awake.partnerRecord {c : Fin 16} {prev : PState} {cause : Nat} (h : s.Awake n b K) :
    (s.partnerRecord c prev cause).Awake n b K := by
  unfold State.partnerRecord; exact h.wlog.report

theorem State.Awake.toPartner {c : Fin 16} {st : PState} {cause : Nat} (h : s.Awake n b K) : (s.toPartner c st cause).Awake n b K := by
  unfold State.toPartner; dsimp only; split
  · exact h
  · split
    · exact h.setLnk.partnerRecord.noteApp
    · exact h.setLnk.partnerRecord.noteApp
    · exact h.setLnk.partnerRecord.noteApp.lostSession.closeSess.dropAttempt
    · exact h.setLnk.partnerRecord.noteApp.endLink

theorem State.Awake.hbNotice {c : Fin 16} (h : s.Awake n b K) : (s.hbNotice c).Awake n b K := by
  unfold State.hbNotice; split
  · split
    · exact h.toPartner
    · exact h
  · exact h

theorem State.Awake.linkWake {c : Fin 16} (h : s.Awake n b K) : (s.linkWake c).Awake n b K := by
  have noticed := h.hbNotice (c := c)
  unfold State.linkWake; dsimp only; split
  · exact noticed
  · split
    · split
      · exact noticed
      · split
        · exact noticed.setLnk
        · split
          · exact noticed
          · exact noticed.setLnk.ask
    · split
      · exact noticed.setLnk.ask
      · exact noticed.setLnk

theorem State.Awake.eventRecord {c : Fin 16} (h : s.Awake n b K) : (s.eventRecord c).Awake n b K := by
  unfold State.eventRecord; dsimp only; split
  · exact h
  · exact h.setLnk.updCh.report

theorem State.Awake.takeEvents {c : Fin 16} (h : s.Awake n b K) : (s.takeEvents c).Awake n b K := by
  unfold State.takeEvents; dsimp only; split
  · exact h.eventRecord.eventRecord
  · exact h.updLnk.updCh.eventRecord.eventRecord

/-! ## Contracts and lifecycle commits (chapter 06) -/

theorem State.Awake.partnerRestart {c : Fin 16} (h : s.Awake n b K) : (s.partnerRestart c).Awake n b K := by
  unfold State.partnerRestart; exact h.setLnk.partnerRecord

theorem State.Awake.linkRecontract {c : Fin 16} (h : s.Awake n b K) : (s.linkRecontract c).Awake n b K := by
  unfold State.linkRecontract; split
  · exact h.updLnk
  · exact h.closeSess.dropAttempt.updCh.partnerRestart

theorem State.Awake.recontract {c : Fin 16} (h : s.Awake n b K) : (s.recontract c).Awake n b K := by
  unfold State.recontract; exact h.linkRecontract.chOp

theorem State.Awake.ignoreContract {c : Fin 16} (h : s.Awake n b K) : (s.ignoreContract c).Awake n b K := by
  unfold State.ignoreContract; split
  · split
    · exact h
    · exact h.withLife.wlog
  · exact h

theorem State.Awake.settleContracts (h : s.Awake n b K) : s.settleContracts.Awake n b K := by
  unfold State.settleContracts
  refine h.eachCh fun c t ht => ?_
  have settled := ht.ignoreContract (c := c)
  dsimp only; split
  · split
    · exact settled.chOp
    · exact settled
  · exact settled

theorem State.Awake.burn {w mask : Nat} (h : s.Awake n b K) : (s.burn w mask).Awake n b K := h.of_eq rfl rfl

theorem State.Awake.burnHash {w : Nat} {x : Bytes} (h : s.Awake n b K) : (s.burnHash w x).Awake n b K := by
  unfold State.burnHash; exact h.foldl fun _ _ ht => ht.burn

theorem State.Awake.rotateRoot (h : s.Awake n b K) : s.rotateRoot.Awake n b K := by
  unfold State.rotateRoot; split
  · split
    · dsimp only; split
      · exact h.burnHash.burn.withLife
      · exact h.withLife
    · exact h
  · exact h
  · exact h

theorem State.Awake.storeSlot {k : Nat} {x : Slot} (h : s.Awake n b K) : (s.storeSlot k x).Awake n b K := h.of_eq rfl rfl

theorem State.Awake.keyRecord {k : Nat} (h : s.Awake n b K) : (s.keyRecord k).Awake n b K := h.of_eq rfl rfl

theorem State.Awake.freeGen {k : Nat} (h : s.Awake n b K) : (s.freeGen k).Awake n b K := by
  unfold State.freeGen; split <;> exact h

theorem State.Awake.clearWake {k : Nat} (h : s.Awake n b K) : (s.clearWake k).Awake n b K := by
  unfold State.clearWake; exact h.eachCh fun _ _ ht => ht.updLnk

theorem State.Awake.newKey {k cls usage owner : Nat} {persist : Bool} {mat : Bytes} (h : s.Awake n b K) :
    (s.newKey k cls usage owner persist mat).Awake n b K := by
  unfold State.newKey; dsimp only; split <;> exact h

theorem State.Awake.deleteSlot {k : Nat} (h : s.Awake n b K) : (s.deleteSlot k).Awake n b K := by
  unfold State.deleteSlot; dsimp only; split
  · exact h.storeSlot.freeGen.clearWake.withLife.keyRecord
  · exact h.storeSlot.freeGen.clearWake.withLife

theorem State.Awake.commissionKeys {blobs : List Bytes} (h : s.Awake n b K) : (s.commissionKeys blobs).Awake n b K := by
  unfold State.commissionKeys; dsimp only
  have deleted : State.Awake n b K (s.life.commSlots.foldl (fun t k => t.deleteSlot k) s) := h.foldl fun _ _ ht => ht.deleteSlot
  refine deleted.withLife.foldl fun t _ ht => ?_
  split
  · exact ht.newKey.withLife
  · exact ht

theorem State.Awake.advanceEntries {m k d : Nat} (h : s.Awake n b K) : (State.advanceEntries m s k d).Awake n b K := by
  induction m generalizing s d with
  | zero => exact h
  | succ m ih =>
    have set : State.Awake n b K { s with ksm := s.ksm.setCnt k (s.ksm.cntOf k + min d 16) } := h
    exact ih set.journalAdd

theorem State.Awake.cntAdvance {k d : Nat} (h : s.Awake n b K) : (s.cntAdvance k d).Awake n b K := by
  unfold State.cntAdvance; exact h.advanceEntries.logged (journalProgram_logged _)

theorem State.Awake.applyContent {g : Staged} {live : Bool} (h : s.Awake n b K) : (s.applyContent g live).Awake n b K := by
  unfold State.applyContent; dsimp only; split
  · exact h
  · split
    · refine State.Awake.eachCh (h.withLife.commissionKeys.cntAdvance.rotateRoot.settleContracts) fun c t ht => ?_
      split
      · exact ht
      · exact ht.recontract
    · exact h.withLife.commissionKeys.cntAdvance.rotateRoot

/-! ## Bundles (R816, R819) -/

theorem State.Awake.emit {e : Emit} (h : s.Awake n b K) : (s.emit e).Awake n b K := h.of_eq rfl rfl

theorem State.Awake.sendPort {p : Port} {msg : Bytes} (h : s.Awake n b K) : (s.sendPort p msg).Awake n b K := by
  unfold State.sendPort; split <;> exact h

theorem State.Awake.sendChunkAck {id : Bytes} {total status : Nat} (h : s.Awake n b K) : (s.sendChunkAck id total status).Awake n b K := by
  unfold State.sendChunkAck; exact h.sendPort.sendPort.withUpl

theorem State.Awake.setBStatus {x : BStatus} (h : s.Awake n b K) : (s.setBStatus x).Awake n b K := by
  unfold State.setBStatus; split
  · split
    · exact h
    · exact h.withUpl.sendChunkAck
  · exact h

theorem State.Awake.rewriteDisplaced (h : s.Awake n b K) : s.rewriteDisplaced.Awake n b K := by
  unfold State.rewriteDisplaced; split <;> exact h

theorem State.Awake.bundleOutcome {result detail : Nat} (h : s.Awake n b K) : (s.bundleOutcome result detail).Awake n b K := by
  unfold State.bundleOutcome; dsimp only; split
  · exact h.withKiln.klog.report
  · exact h.withKiln.klog.report.rewriteDisplaced.withUpl.setBStatus

theorem State.Awake.rewriteCopies {l : List (Bool × Nat × Nat)} (h : s.Awake n b K) : (s.rewriteCopies l).Awake n b K := h.of_eq rfl rfl

theorem State.Awake.intakeResult {x : Intake} {result : Nat} (h : s.Awake n b K) : (s.intakeResult x result).Awake n b K := by
  unfold State.intakeResult; exact State.Awake.report h

theorem State.Awake.finishIntake (h : s.Awake n b K) : s.finishIntake.Awake n b K := by
  unfold State.finishIntake; split
  · split
    · exact h
    · dsimp only; split
      · exact h.withUpl.sendChunkAck
      · exact h.intakeResult.rewriteCopies.withUpl.sendChunkAck
  · exact h

end Sys2Proof.Machine
end

section
/-! Awake, continued: zeroization and commits, the Slip Joint, exchanges of applets, and the Wheel's work at a periodic wake. -/

namespace Sys2Proof.Machine

open Sys2Proof

variable {n : Nat} {b : Bool} {K : Prop} {s : State}

/-! ## Zeroization (R266–R270) -/

theorem State.Awake.gradeChange (h : s.Awake n b K) : s.gradeChange.Awake n b K := h.of_eq rfl rfl

theorem State.Awake.crazedEffects (h : s.Awake n b K) : s.crazedEffects.Awake n b K := by
  unfold State.crazedEffects
  exact h.gradeChange.freezeAll.releaseAll.wakeMain.withKsm.dropSessions.dropSlip.abortEngines.abandonRun.withEngines

theorem State.Awake.channelsToSherd (h : s.Awake n b K) : s.channelsToSherd.Awake n b K := by
  unfold State.channelsToSherd; exact h.eachCh fun _ _ ht => ht.chOp

theorem State.Awake.zeroShown (h : s.Awake n b K) : s.zeroShown.Awake n b K := h.spyEvent

theorem State.Awake.zeroZ2 {cause : SherdCause} (h : s.Awake n b K) : (s.zeroZ2 cause).Awake n b K := by
  unfold State.zeroZ2; exact h.withTamp.burn.withLife.zeroShown

theorem State.Awake.zeroZ3 (h : s.Awake n b K) : s.zeroZ3.Awake n b K := by
  unfold State.zeroZ3; exact State.Awake.zeroShown (h.dropSessions.dropSlip)

theorem State.Awake.zeroZ4 {cause : SherdCause} (h : s.Awake n b K) : (s.zeroZ4 cause).Awake n b K := by
  unfold State.zeroZ4; exact State.Awake.zeroShown h

theorem State.Awake.zeroZ5 {cause : SherdCause} (h : s.Awake n b K) : (s.zeroZ5 cause).Awake n b K := by
  unfold State.zeroZ5; exact State.Awake.zeroShown h

/-- A zeroized main island runs: it has no Wheel that could sleep. -/
theorem State.Awake.zeroZ6 {cause : SherdCause} (h : s.Awake n b K) : (s.zeroZ6 cause).Awake n b K := by
  unfold State.zeroZ6
  refine State.Awake.zeroShown (State.Awake.klog ?_)
  exact ⟨h.tick_eq, .inl rfl, h.sleepReq, h.kiln⟩

theorem State.Awake.zeroize {cause : SherdCause} (h : s.Awake n b K) : (s.zeroize cause).Awake n b K := by
  unfold State.zeroize; dsimp only; split
  · exact h.withTamp.crazedEffects.wakeKiln.zeroZ2.zeroZ3.zeroZ4.zeroZ5.zeroZ6.channelsToSherd
  · exact h.withTamp.crazedEffects

/-! ## Burns (R213, R219–R226) -/

theorem State.Awake.burnStaged (h : s.Awake n b K) : s.burnStaged.Awake n b K := by
  unfold State.burnStaged; split
  · split
    · exact h
    · split
      · split
        · exact h.zeroize
        · exact h
      · split
        · exact h
        · dsimp only; split
          · exact h.burn.withLife
          · exact h
  · exact h

theorem State.Awake.applyStaged {live : Bool} (h : s.Awake n b K) : (s.applyStaged live).Awake n b K := by
  unfold State.applyStaged; split
  · split
    · exact h
    · exact h.applyContent.measure.withLife.klogRep.spyEvent.bundleOutcome
  · exact h

theorem State.Awake.pursueStaged (h : s.Awake n b K) : s.pursueStaged.Awake n b K := by
  unfold State.pursueStaged; dsimp only; split
  · exact h.burnStaged.applyStaged
  · exact h.burnStaged

theorem State.Awake.completeBurn (h : s.Awake n b K) : s.completeBurn.Awake n b K := by
  unfold State.completeBurn; dsimp only; split
  · refine State.Awake.ite ?_ (State.Awake.klogRep ?_) <;> exact h.burn.withFuses.ite h.burn.withFuses.klogRep
  · exact h

theorem State.Awake.compactDue (h : s.Awake n b K) : s.compactDue.Awake n b K := h.logged (compactDue_logged s)

theorem State.Awake.pendingBurns (h : s.Awake n b K) : s.pendingBurns.Awake n b K := by
  unfold State.pendingBurns; dsimp only; split
  · exact h.completeBurn.rotateRoot.pursueStaged.compactDue
  · exact h.completeBurn.rotateRoot.pursueStaged

theorem State.Awake.factoryItem {code : Nat} {x : Bytes} (h : s.Awake n b K) : (s.factoryItem code x).Awake n b K := by
  unfold State.factoryItem; exact h.foldl fun _ _ ht => ht.spyEvent

theorem State.Awake.factorySeries (h : s.Awake n b K) : s.factorySeries.Awake n b K := by
  unfold State.factorySeries; exact h.factoryItem.factoryItem.factoryItem.factoryItem

theorem State.Awake.makeKeys (h : s.Awake n b K) : s.makeKeys.Awake n b K := by
  unfold State.makeKeys; dsimp only
  exact (h.tick1.foldl fun _ _ ht => ht.burn).withFuses.newKey.newKey.newKey.newKey.withMet

theorem State.Awake.personalise {o : FactoryOrder} (h : s.Awake n b K) : (s.personalise o).Awake n b K := by
  unfold State.personalise
  exact h.makeKeys.burnHash.burnHash.burn.withKsmLife.klog.spyEvent.factorySeries

theorem State.Awake.factoryOrder (h : s.Awake n b K) : s.factoryOrder.Awake n b K := by
  unfold State.factoryOrder; split
  · split
    · exact h
    · dsimp only; split
      · exact h.withSelft.zeroize
      · split
        · exact h.withSelft.personalise
        · exact h
  · exact h
  · exact h

theorem State.Awake.floorRaise {x : Bool} (h : s.Awake n b K) : State.Awake n b K { s with pwr := { s.pwr with floorRaise := x } } :=
  ⟨h.tick_eq, h.main, h.sleepReq, h.kiln⟩

theorem State.Awake.raiseOption (h : s.Awake n b K) : s.raiseOption.Awake n b K := by
  unfold State.raiseOption; dsimp only; split
  · split
    · exact (State.Awake.foldl h fun _ _ ht => ht.burn).floorRaise.klogRep
    · exact h.floorRaise
  · exact h.floorRaise

theorem State.Awake.retryBurns (h : s.Awake n b K) : s.retryBurns.Awake n b K := by
  unfold State.retryBurns; dsimp only; split
  · exact h.pendingBurns.factoryOrder.raiseOption
  · exact h.pendingBurns.factoryOrder

/-! ## The Slip Joint (chapter 12) -/

theorem State.Awake.setSlip {d : SjSide} {e : SjEnd} (h : s.Awake n b K) : (s.setSlip d e).Awake n b K := by
  unfold State.setSlip; split <;> exact h

theorem State.Awake.trainSlip (h : s.Awake n b K) : s.trainSlip.Awake n b K := by
  unfold State.trainSlip; split
  · exact h.setSlip.setSlip
  · exact h

theorem State.Awake.pumpSlip {d : SjSide} (h : s.Awake n b K) : (s.pumpSlip d).Awake n b K := by
  unfold State.pumpSlip; exact h.setSlip.foldl fun _ _ ht => ht.emit

theorem State.Awake.slipSend {d : SjSide} {type : Nat} {payload : Bytes} {session : Bool} (h : s.Awake n b K) :
    (s.slipSend d type payload session).Awake n b K := by
  unfold State.slipSend; dsimp only; split
  · exact h
  · split
    · exact h.trainSlip.setSlip.pumpSlip
    · split
      · exact h.trainSlip.setSlip.pumpSlip
      · exact h.trainSlip
    · exact h.trainSlip

theorem State.Awake.drbg (h : s.Awake n b K) : s.drbg.Awake n b K := h.logged (drbg_logged s)

theorem State.Awake.slipHello (h : s.Awake n b K) : s.slipHello.Awake n b K := by
  unfold State.slipHello
  exact h.ite h.drbg.withSjm.slipSend

theorem State.Awake.sendHacks (h : s.Awake n b K) : s.sendHacks.Awake n b K := by
  unfold State.sendHacks; split
  · exact h
  · exact h.withSjm.foldl fun _ _ ht => ht.slipSend

/-! ## Self-test runs (R834) -/

theorem State.Awake.selfLog (h : s.Awake n b K) : s.selfLog.Awake n b K := by
  unfold State.selfLog; split
  · exact h.withSelft.wlog
  · exact h

theorem State.Awake.beginRun {x : StTrigger} {mask : List Nat} {window : Nat} (h : s.Awake n b K) : (s.beginRun x mask window).Awake n b K := by
  unfold State.beginRun; exact h.wakeKiln.withSelft.spyEvent

theorem State.Awake.startKept (h : s.Awake n b K) : s.startKept.Awake n b K := by
  unfold State.startKept; split
  · split
    · exact h.withSelft.beginRun
    · exact h
  · exact h

/-! ## Exchanges of applets (R790–R794) -/

theorem State.Awake.updApp {d : Fin 16} {f : App → App} (h : s.Awake n b K) : (s.updApp d f).Awake n b K := h.of_eq rfl rfl

theorem State.Awake.wipeApplet {d : Fin 16} (h : s.Awake n b K) : (s.wipeApplet d).Awake n b K := by
  unfold State.wipeApplet; split <;> exact h

theorem State.Awake.freeContexts {d : Fin 16} {rings : List (Eng × Nat × Nat × Bool)} (h : s.Awake n b K) :
    (s.freeContexts d rings).Awake n b K := by
  unfold State.freeContexts
  refine State.Awake.foldl ?_ fun t r ht => ?_
  · exact h
  · split
    · exact ht.freeSaggar
    · exact ht

theorem State.Awake.xRing {d : Fin 16} {new : Manifest} {r : Eng × Nat × Nat × Bool} (h : s.Awake n b K) : (s.xRing d new r).Awake n b K := by
  unfold State.xRing; dsimp only; split
  · exact h.updRing
  · split
    · exact h
    · exact h.updRing

theorem State.Awake.startApplet {d : Fin 16} {m : Manifest} {p : Placed} {bank first : Nat} {img : Bytes} (h : s.Awake n b K) :
    (s.startApplet d m p bank first img).Awake n b K := by
  unfold State.startApplet
  exact h.tick1.updApp.wipeApplet.withMem.withDig

theorem State.Awake.awaitDecisions {d : Fin 16} {fresh : Bool} (h : s.Awake n b K) : (s.awaitDecisions d fresh).Awake n b K := h.updApp

theorem State.Awake.freeOld {d : Option (Fin 16)} (h : s.Awake n b K) : (s.freeOld d).Awake n b K := h.withKiln

theorem State.Awake.appletApplied {d : Fin 16} (h : s.Awake n b K) : (s.appletApplied d).Awake n b K := by
  unfold State.appletApplied; split
  · exact h.bundleOutcome
  · exact h

theorem State.Awake.stopApplet {d : Fin 16} {st : AppSt} (h : s.Awake n b K) : (s.stopApplet d st).Awake n b K := by
  unfold State.stopApplet
  exact ((h.takeOff.ite h.updCpu).takeOff.ite (h.takeOff.ite h.updCpu).updCpu).updApp

theorem State.Awake.discardRing {e : Eng} {k : Nat} (h : s.Awake n b K) : (s.discardRing e k).Awake n b K := h.updRing

theorem State.Awake.wheelDecide {c : Fin 16} (h : s.Awake n b K) : (s.wheelDecide c).Awake n b K := by
  unfold State.wheelDecide; dsimp only; split
  · exact h.chOp
  · split
    · split
      · exact h.chOp
      · exact h
    · exact h.chOp
  · exact h

theorem State.Awake.markQuarantined {d : Fin 16} {reason mcause mepc mtval pf : Nat} (h : s.Awake n b K) :
    (s.markQuarantined d reason mcause mepc mtval pf).Awake n b K := by
  unfold State.markQuarantined; exact h.updApp.wlog

theorem State.Awake.quarantine {d : Fin 16} {reason mcause mepc mtval pf : Nat} (h : s.Awake n b K) :
    (s.quarantine d reason mcause mepc mtval pf).Awake n b K := by
  unfold State.quarantine; dsimp only
  exact ((h.stopApplet.foldl fun _ _ ht => ht.discardRing).freeContexts.wipeApplet.foldl fun _ _ ht =>
    ht.wheelDecide).markQuarantined.reschedule

theorem State.Awake.xFinish {d : Fin 16} (h : s.Awake n b K) : (s.xFinish d).Awake n b K := by
  unfold State.xFinish; split
  · dsimp only; split
    · exact h
    · split
      · exact (h.foldl fun _ _ ht => ht.xRing).freeContexts.wipeApplet.startApplet.awaitDecisions.freeOld.appletApplied.reschedule
      · exact (h.foldl fun _ _ ht => ht.xRing).freeContexts.wipeApplet.quarantine
  · exact h

theorem State.Awake.measureApplet {km ki : Fin 24} {em ei : Nat} {img : Bytes} (h : s.Awake n b K) :
    (s.measureApplet km ki em ei img).Awake n b K := by
  unfold State.measureApplet; dsimp only; split
  · exact h.measure.measure
  · exact h.measure

theorem State.Awake.xRequest {d : Fin 16} (h : s.Awake n b K) : (s.xRequest d).Awake n b K := by
  unfold State.xRequest; split
  · split
    · dsimp only; split
      · exact h.measureApplet.updApp
      · exact h.updApp
    · exact h.updApp
  · exact h

theorem State.Awake.xNext (h : s.Awake n b K) : s.xNext.Awake n b K := by
  unfold State.xNext; split
  · exact h
  · split
    · exact h.xRequest
    · exact h

/-! ## The Wheel's work at a periodic wake (R160) -/

theorem State.Awake.drainLog (h : s.Awake n b K) : s.drainLog.Awake n b K := h.logged (drainLog_logged s)

theorem State.Awake.drainReports (h : s.Awake n b K) : s.drainReports.Awake n b K := h.logged (drainReports_logged s)

theorem State.Awake.dueWork (h : s.Awake n b K) : s.dueWork.Awake n b K := by
  have drained := h.drainLog.drainReports.retryBurns
  unfold State.dueWork; dsimp only; split
  · exact (State.Awake.foldl drained.sendHacks.selfLog.startKept.finishIntake fun _ _ ht => ht.xFinish).xNext
  · exact drained

end Sys2Proof.Machine
end

section
/-! Wake and sleep (spec/04_power_clocks.md R143–R145, R160–R162; spec/01_cabinet.md R57): wake sources, Retention, the Kiln's switch-off and
wake timer, the kernel tick. -/

namespace Sys2Proof.Machine

open Sys2Proof

/-! ## Waking an island -/

theorem wakeMain_of_mainUp {s : State} (h : s.mainUp = true) : s.wakeMain.pwr.main = .running := by
  unfold State.wakeMain
  cases hm : s.pwr.main <;> simp_all [State.mainUp]

theorem wakeMain_ne_retention (s : State) : s.wakeMain.pwr.main ≠ .retention := by
  unfold State.wakeMain; split
  · nofun
  · rename_i hm; simpa using hm

theorem wakeMain_kilnRuns (s : State) : s.wakeMain.kilnRuns = s.kilnRuns := by
  unfold State.wakeMain; split <;> rfl

theorem wakeKiln_of_kilnReady {s : State} (h : s.kilnReady = true) : s.wakeKiln.kilnRuns = true := by
  unfold State.wakeKiln; split
  · rfl
  · simp_all [State.kilnReady, State.kilnRuns]

theorem wakeKiln_mainUp (s : State) : s.wakeKiln.mainUp = s.mainUp := (wakeKiln_logged s).mainUp

theorem wheelUp_mainUp {s : State} (h : s.wheelUp = true) : s.mainUp = true := by
  unfold State.wheelUp at h
  simp only [Bool.and_eq_true] at h
  obtain ⟨⟨⟨up, -⟩, -⟩, -⟩ := h
  exact up

/-! ## Wake sources (R145, R160) -/

/-- The Kiln's half of a wake. -/
def State.wakeKilnBy (s : State) (w : WakeSrc) : State := if wakesKiln w then s.wakeKiln else s

theorem wakeKilnBy_mainUp (s : State) (w : WakeSrc) : (s.wakeKilnBy w).mainUp = s.mainUp := by
  unfold State.wakeKilnBy; split
  · exact wakeKiln_mainUp s
  · rfl

theorem wakeKilnBy_kilnRuns {s : State} {w : WakeSrc} (hw : wakesKiln w = true) (h : s.kilnReady = true) : (s.wakeKilnBy w).kilnRuns = true := by
  unfold State.wakeKilnBy; rw [if_pos hw]; exact wakeKiln_of_kilnReady h

/-- The main island's half of a wake: it drops the sleep request and takes up the work that waits. -/
def State.resumeMain (s : State) : State := ({ s.wakeMain with pwr := { s.wakeMain.pwr with sleepReq := false } }.fetchAll).pollWaits

theorem exec_wake {w : WakeSrc} {s : State} (hvao : s.rails.vao = true) (hflush : s.pwr.flushing = false) :
    exec (.wake w) s = .next (if wakesMain w && (s.wakeKilnBy w).mainUp then (s.wakeKilnBy w).resumeMain else s.wakeKilnBy w) := by
  change execWake w s = _
  unfold execWake
  rw [if_neg (by simp [hvao, hflush])]
  rfl

theorem resumeMain_awake {s : State} (h : s.mainUp = true) : s.resumeMain.Awake s.tick false (s.kilnRuns = true) := by
  have asked : State.Awake s.tick false (s.kilnRuns = true) { s.wakeMain with pwr := { s.wakeMain.pwr with sleepReq := false } } :=
    ⟨(wakeMain_logged s).tick, .inl (wakeMain_of_mainUp h), rfl, fun hk => (kilnRuns_iff s.wakeMain).mp ((wakeMain_kilnRuns s).trans hk)⟩
  exact asked.fetchAll.pollWaits

theorem wake_does {w : WakeSrc} {s : State} (hvao : s.rails.vao = true) (hflush : s.pwr.flushing = false) :
    Does (.wake w) s (fun t =>
      (wakesMain w = true → s.mainUp = true → (t.pwr.main = .running ∨ ∃ r, t.pwr.main = .hold r) ∧ t.pwr.sleepReq = false) ∧
      (wakesKiln w = true → s.kilnReady = true → t.kilnRuns = true)) := by
  refine ⟨_, exec_wake hvao hflush, ?_⟩
  rw [wakeKilnBy_mainUp]
  split
  · rename_i woken
    rw [Bool.and_eq_true] at woken
    have awake := resumeMain_awake ((wakeKilnBy_mainUp s w).trans woken.2)
    exact ⟨fun _ _ => ⟨awake.main, awake.sleepReq⟩, fun hk hready => (kilnRuns_iff _).mpr (awake.kiln (wakeKilnBy_kilnRuns hk hready))⟩
  · rename_i asleep
    exact ⟨fun hm hup => absurd (by rw [hm, hup]; rfl) asleep, wakeKilnBy_kilnRuns⟩

/-! ## Retention (R144) -/

theorem retentionEntry_enters {s : State} (h : s.mayRetain = true) : Does .retentionEntry s (fun t =>
    t = { s with core := t.core, pwr := { s.pwr with main := .retention, sleepReq := false, mainWdogFrom := none } } ∧
    ∀ k : Fin 2, t.core[k] = { s.core[k] with icache := [] }) := by
  refine ⟨_, rfl, ?_⟩
  rw [if_pos h]
  exact ⟨rfl, fun k => by simp [State.enterRetention]⟩

theorem retentionEntry_waits {s : State} (h : s.mayRetain = false) (hw : s.wheelRuns = true) :
    Does .retentionEntry s (fun t => t = { s with pwr := { s.pwr with sleepReq := true } }) := by
  refine ⟨_, rfl, ?_⟩
  rw [if_neg (by simp [h]), if_pos hw]

/-! ## The Kiln (R160, R161, R429) -/

theorem programTail_tail (x : Kiln) : x.programTail.tail = [] := by
  unfold Kiln.programTail; split
  · rename_i h; simpa using h
  · rfl

theorem xo25Stop_eq (s : State) : s.xo25Stop = { s with clk := s.xo25Stop.clk } := by
  unfold State.xo25Stop; split <;> rfl

theorem kilnSwitchOff_does {s : State} (h : s.kilnIdle = true) :
    Does .kilnSwitchOff s (fun t => t.pwr.kiln = .off ∧ t.pwr.kilnTimerArmed = true ∧ t.kiln.tail = [] ∧ t.spy.fill = 0) := by
  refine ⟨_, rfl, ?_⟩
  rw [if_pos h, xo25Stop_eq]
  exact ⟨rfl, rfl, programTail_tail s.kiln, rfl⟩

theorem saveFloors_eq (s : State) : s.saveFloors = { s with upl := s.saveFloors.upl } := by
  unfold State.saveFloors; dsimp only; repeat' split
  all_goals rfl

theorem saveFloors_due {s : State} {k : Nat} (hs : s.upl.savedAt = some k) (hk : k + 117964800 ≤ s.tick) :
    s.saveFloors.upl.savedFloors = s.upl.floors := by
  unfold State.saveFloors; simp [hs, hk]

/-- The wake timer disarms and the Kiln runs, before the floors due are written. -/
def State.timerWake (s : State) : State := { s.wakeKiln with pwr := { s.wakeKiln.pwr with kilnTimerArmed := false } }

theorem exec_kilnWakeTimer {s : State} (harm : s.pwr.kilnTimerArmed = true) (hready : s.kilnReady = true) (hsrc : s.clk.tickSrc ≠ none) :
    exec .kilnWakeTimer s = .next (if s.timerWake.upl.savedAt.isSome then s.timerWake.saveFloors else s.timerWake) := by
  change execKilnWakeTimer s = _
  unfold execKilnWakeTimer
  rw [if_pos (by simp [harm, hready, Option.isSome_iff_ne_none, hsrc])]
  rfl

theorem wakeKiln_upl (s : State) : s.wakeKiln.upl = s.upl := by
  unfold State.wakeKiln; split <;> rfl

theorem kilnWakeTimer_does {s : State} (harm : s.pwr.kilnTimerArmed = true) (hready : s.kilnReady = true) (hsrc : s.clk.tickSrc ≠ none) :
    Does .kilnWakeTimer s (fun t => t.kilnRuns = true ∧ t.pwr.kilnTimerArmed = false ∧
      ∀ k, s.upl.savedAt = some k → k + 117964800 ≤ s.tick → t.upl.savedFloors = s.upl.floors) := by
  have runs : s.timerWake.kilnRuns = true := wakeKiln_of_kilnReady hready
  have hupl : s.timerWake.upl = s.upl := wakeKiln_upl s
  have htick : s.timerWake.tick = s.tick := (wakeKiln_logged s).tick
  refine ⟨_, exec_kilnWakeTimer harm hready hsrc, ?_⟩
  split
  · refine ⟨?_, ?_, fun k hs hk => ?_⟩
    · rw [saveFloors_eq]; exact runs
    · rw [saveFloors_eq]; rfl
    · rw [saveFloors_due (hupl ▸ hs) (htick ▸ hk), hupl]
  · rename_i unsaved
    refine ⟨runs, rfl, fun k hs _ => absurd ?_ unsaved⟩
    rw [hupl, hs]; rfl

/-! ## The kernel tick (R57, R160) -/

theorem closeWindows_tick (s : State) : s.closeWindows.tick = s.tick :=
  List.foldlRecOn (motive := fun t : State => t.tick = s.tick) _ _ rfl fun _ ht _ _ => (chOp_tick _ _ _).trans ht

theorem kernelTick_awake {s : State} (h : s.mainUp = true) : s.kernelTick.Awake s.tick s.wakeMain.pwr.sleepReq False := by
  have served : State.Awake s.tick s.wakeMain.pwr.sleepReq False
      { s.wakeMain with irq := s.irq ||| 1, pwr := { s.wakeMain.pwr with mainWdogFrom := some s.wakeMain.tick } } :=
    ⟨(wakeMain_logged s).tick, .inl (wakeMain_of_mainUp h), rfl, False.elim⟩
  unfold State.kernelTick
  exact ((served.cpuWindow.eachCh fun _ _ ht => ht.linkWake).eachCh fun _ _ ht => ht.takeEvents).slipHello.dueWork.pollWaits

theorem exec_periodicKernelTick {s : State} (hvao : s.rails.vao = true) (hsrc : s.clk.tickSrc ≠ none) :
    exec .periodicKernelTick s = .next (
      let t := (s.advanceTo ((s.tick / 32768 + 1) * 32768)).closeWindows
      if t.wheelUp then t.kernelTick else t.wakeMain) := by
  change execPeriodicKernelTick s = _
  unfold execPeriodicKernelTick
  rw [if_pos (by simp [hvao, Option.isSome_iff_ne_none, hsrc])]

theorem periodicKernelTick_does {s : State} (hvao : s.rails.vao = true) (hsrc : s.clk.tickSrc ≠ none) :
    Does .periodicKernelTick s (fun t =>
      t.tick = max s.tick (min ((s.tick / 32768 + 1) * 32768) (2 ^ 48 - 1)) ∧ t.pwr.main ≠ .retention) := by
  refine ⟨_, exec_periodicKernelTick hvao hsrc, ?_⟩
  have advanced := closeWindows_tick (s.advanceTo ((s.tick / 32768 + 1) * 32768))
  rw [State.advanceTo_tick] at advanced
  dsimp only; split
  · rename_i up
    have awake := kernelTick_awake (wheelUp_mainUp up)
    exact ⟨awake.tick_eq.trans advanced, awake.ne_retention⟩
  · exact ⟨(wakeMain_logged _).tick.trans advanced, wakeMain_ne_retention _⟩

/-! ## The obligation -/

/-- Settles O60, clause by clause; that an awake island stays awake through the work of a wake is the invariant `State.Awake`. -/
theorem wakeAndSleep : Obligations.WakeAndSleep := by
  intro w s hvao
  exact ⟨wake_does hvao, retentionEntry_enters, retentionEntry_waits, kilnSwitchOff_does, kilnWakeTimer_does, periodicKernelTick_does hvao⟩

end Sys2Proof.Machine
end

section
/-! Pads (spec/02_package.md R86–R91; spec/23_test_observe.md R845, R846): a function switch begins and ends, the FEN readback fails, and a lamp
pad returns. -/

namespace Sys2Proof.Machine

open Sys2Proof

variable {c : Fin 16} {s : State}

/-! ## A channel as a command finds it

The windows that close first leave its pads and its retirement as they were. -/

@[simp] theorem due_fenPad (s : State) (c : Fin 16) : (s.due c).fenPad = (s.chan c).fenPad := Chan.closeDue_fenPad _ _

@[simp] theorem due_lnkPad (s : State) (c : Fin 16) : (s.due c).lnkPad = (s.chan c).lnkPad := Chan.closeDue_lnkPad _ _

@[simp] theorem due_retired (s : State) (c : Fin 16) : (s.due c).retired = (s.chan c).retired := Chan.closeDue_retired _ _

@[simp] theorem due_fused (s : State) (c : Fin 16) : (s.due c).fused = (s.chan c).fused := Chan.closeDue_fused _ _

/-! ## A switch begins (R86, R87, R91) -/

theorem Chan.fenParked_fen (x : Chan) (t : Nat) : (x.fenParked t).fen = false := by
  unfold Chan.fenParked; dsimp only; split
  · simp
  · rename_i low; simpa using low

/-- The tick counter stops short of 2^48, so the boundary after tick `k` is reached only where `k + 1` is a count it can hold. -/
theorem advanceTo_tick_of_lt {k : Nat} (hk : k < 2 ^ 48) : (s.advanceTo k).tick = max s.tick k := by
  rw [State.advanceTo_tick, Nat.min_eq_left (by omega)]

theorem fenSwitchBegin_chan {f : FenFn} {k : Nat} (hp : (s.chan c).fenPad.startable = some (some f, k)) :
    ((fenSwitchBegin c s).chan c).fenPad.cur = .switching (s.advanceTo (k + 1)).tick (some f) ∧ ((fenSwitchBegin c s).chan c).fen = false := by
  unfold fenSwitchBegin
  rw [hp]; dsimp only; rw [chan_chOp_self]
  exact ⟨rfl, Chan.fenParked_fen _ _⟩

theorem lnkSwitchBegin_chan {f : LnkFn} {k : Nat} (hp : (s.chan c).lnkPad.startable = some (some f, k)) (htxn : (s.lnk c).txn = none) :
    ((lnkSwitchBegin c s).chan c).lnkPad.cur = .switching (s.advanceTo (k + 1)).tick (some f) := by
  unfold lnkSwitchBegin
  rw [hp, htxn]; dsimp only; rw [chan_chOp_self]
  rfl

theorem functionSwitchBegin_fen {f : FenFn} {k : Nat} (hao : s.aoTicks = true) (hp : (s.chan c).fenPad.startable = some (some f, k))
    (hk : k + 1 < 2 ^ 48) : Does (.functionSwitchBegin c .fen) s (fun t =>
      (t.chan c).fenPad.cur = .switching (max s.tick (k + 1)) (some f) ∧ (t.chan c).fen = false) := by
  refine ⟨_, rfl, ?_⟩
  rw [if_pos hao, ← advanceTo_tick_of_lt hk]
  exact fenSwitchBegin_chan hp

theorem functionSwitchBegin_lnk {f : LnkFn} {k : Nat} (hao : s.aoTicks = true) (hp : (s.chan c).lnkPad.startable = some (some f, k))
    (htxn : (s.lnk c).txn = none) (hk : k + 1 < 2 ^ 48) : Does (.functionSwitchBegin c .lnk) s (fun t =>
      (t.chan c).lnkPad.cur = .switching (max s.tick (k + 1)) (some f)) := by
  refine ⟨_, rfl, ?_⟩
  rw [if_pos hao, ← advanceTo_tick_of_lt hk]
  exact lnkSwitchBegin_chan hp htxn

/-! ## What waits for the line leaves every channel as it was (R352) -/

@[simp] theorem chan_emit (s : State) (d : Fin 16) (e : Emit) : (s.emit e).chan d = s.chan d := rfl

@[simp] theorem chan_sendTxn (s : State) (c d : Fin 16) : (s.sendTxn c).chan d = s.chan d := by
  unfold State.sendTxn; dsimp only; (repeat' split) <;> rfl

@[simp] theorem chan_openTxn (s : State) (c d : Fin 16) (type : Nat) (p : Bytes) (applet : Bool) :
    (s.openTxn c type p applet).chan d = s.chan d := by
  unfold State.openTxn; dsimp only; (repeat' split) <;> simp

@[simp] theorem chan_pumpLink (s : State) (c d : Fin 16) : (s.pumpLink c).chan d = s.chan d := by
  unfold State.pumpLink; dsimp only; (repeat' split) <;> simp

/-! ## The incoming function is connected (R86) -/

theorem Pad.since_of_switching {φ : Type} {p : Pad φ} {k : Nat} {nxt : Option φ} (h : p.cur = .switching k nxt) : p.since = some k := by
  simp [Pad.since, h]

theorem Pad.finish_cur {φ : Type} {p : Pad φ} {k : Nat} {f : φ} (h : p.cur = .switching k (some f)) : p.finish.cur = .conn f := by
  simp [Pad.finish, h]

theorem padConnect_fen {f : FenFn} {k : Nat} (hao : s.aoTicks = true) (hp : (s.chan c).fenPad.cur = .switching k (some f)) :
    ((padConnect c .fen s).chan c).fenPad.cur = .conn f := by
  unfold padConnect
  rw [if_pos hao]; dsimp only; rw [Pad.since_of_switching hp]; dsimp only
  rw [chan_chOp_self, Chan.settle_fenPad, due_fenPad]
  exact Pad.finish_cur hp

theorem padConnect_lnk {f : LnkFn} {k : Nat} (hao : s.aoTicks = true) (hp : (s.chan c).lnkPad.cur = .switching k (some f)) :
    ((padConnect c .lnk s).chan c).lnkPad.cur = .conn f := by
  unfold padConnect
  rw [if_pos hao]; dsimp only; rw [Pad.since_of_switching hp]; dsimp only
  rw [chan_chOp_self, due_lnkPad]
  exact Pad.finish_cur hp

theorem functionConnect_fen {f : FenFn} {k : Nat} (hao : s.aoTicks = true) (hp : (s.chan c).fenPad.cur = .switching k (some f)) :
    Does (.functionConnect c .fen) s (fun t => (t.chan c).fenPad.cur = .conn f) :=
  ⟨_, rfl, (congrArg (·.fenPad.cur) (chan_pumpLink _ c c)).trans (padConnect_fen hao hp)⟩

theorem functionConnect_lnk {f : LnkFn} {k : Nat} (hao : s.aoTicks = true) (hp : (s.chan c).lnkPad.cur = .switching k (some f)) :
    Does (.functionConnect c .lnk) s (fun t => (t.chan c).lnkPad.cur = .conn f) :=
  ⟨_, rfl, (congrArg (·.lnkPad.cur) (chan_pumpLink _ c c)).trans (padConnect_lnk hao hp)⟩

/-! ## The FEN readback fails (R316, R845) -/

theorem Chan.clearService_latch (x : Chan) (t : Nat) : (x.clearService t).latch = x.latch := by
  unfold Chan.clearService; dsimp only; split
  · simp
  · rfl

/-- A channel that works leaves retirement with FEN low and the latch clear, whatever events the FIFO took on the way. -/
theorem Chan.retire_of_working {x : Chan} (hr : x.retired = false) (hf : x.fused = false) (t : Nat) :
    (x.retire t).retired = true ∧ (x.retire t).fen = false ∧ (x.retire t).latch = false := by
  unfold Chan.retire
  rw [if_neg (by simp [hr, hf])]
  refine ⟨rfl, ?_, ?_⟩
  · dsimp only; rw [Chan.push_fen]; split
    · exact Chan.push_fen _ _ _ _
    · rfl
  · dsimp only; rw [Chan.push_latch]; split
    · exact (Chan.push_latch _ _ _ _).trans (Chan.clearService_latch _ _)
    · exact Chan.clearService_latch _ _

/-! Retirement and return are recorded, logged and shown on the Spyhole; none of it touches a channel. -/

@[simp] theorem chan_recordRetired (s : State) (c d : Fin 16) : (s.recordRetired c).chan d = s.chan d := rfl

@[simp] theorem chan_recordReturned (s : State) (c d : Fin 16) (n : Nat) : (s.recordReturned c n).chan d = s.chan d := rfl

theorem chan_announced (s : State) (c : Fin 16) (code grade kind ev index shown at_ : Nat) (detail shownDetail : Bytes) (report : Bool) :
    ((s.wlog code grade detail report).spyEvent kind ev index shown at_ shownDetail).chan c = s.chan c :=
  ((spyEvent_logged _ _ _ _ _ _ _).chan c).trans ((wlog_logged _ _ _ _ _).chan c)

theorem linkRetire_of_noSess (h : (s.lnk c).sess = none) : s.linkRetire c = s.updLnk c Link.dropSession := by
  unfold State.linkRetire State.closeSess
  dsimp only; rw [h]

theorem retireCh_chan {pads : Bool} (hr : (s.chan c).retired = false) (hf : (s.chan c).fused = false) (hs : (s.lnk c).sess = none) :
    (s.retireCh c pads).chan c = { (s.due c).retire s.tick with padRetired := pads } := by
  unfold State.retireCh
  rw [if_neg (by simp [hr, hf]), linkRetire_of_noSess hs]
  dsimp only; rw [chan_announced, chan_recordRetired, chan_chOp_self]
  rfl

theorem drives_working (h : s.drives c = true) : (s.chan c).retired = false ∧ (s.chan c).fused = false := by
  simp only [State.drives, Bool.and_eq_true, Bool.not_eq_true'] at h
  obtain ⟨⟨-, unretired⟩, unfused⟩ := h
  exact ⟨unretired, unfused⟩

theorem fenReadbackFail_retires (hd : s.drives c = true) (hs : (s.lnk c).sess = none) : Does (.fenReadbackFail c) s (fun t =>
    (t.chan c).retired = true ∧ (t.chan c).fen = false ∧ (t.chan c).latch = false) := by
  obtain ⟨hr, hf⟩ := drives_working hd
  refine ⟨_, rfl, ?_⟩
  dsimp only; rw [if_pos hd, retireCh_chan hr hf hs]
  exact Chan.retire_of_working ((due_retired s c).trans hr) ((due_fused s c).trans hf) s.tick

/-! ## A lamp pad returns (R845) -/

theorem passthroughPadReturn_ends (hd : s.drives c = true) (hp : (s.chan c).padRetired = true) :
    Does (.passthroughPadReturn c) s (fun t => (t.chan c).padRetired = false) := by
  refine ⟨_, rfl, ?_⟩
  rw [if_pos (by rw [hd, hp]; rfl)]; dsimp only
  rw [chan_announced, chan_recordReturned, chan_chOp_self, Chan.push_padRetired]

/-! ## The obligation -/

/-- Settles O12, clause by clause. -/
theorem pads : Obligations.Pads := fun _ _ hao =>
  ⟨fun _ _ => functionSwitchBegin_fen hao, fun _ _ => functionSwitchBegin_lnk hao, fun _ _ => functionConnect_fen hao,
    fun _ _ => functionConnect_lnk hao, fenReadbackFail_retires, passthroughPadReturn_ends⟩

end Sys2Proof.Machine
end

section
/-! Every channel at once: what an operation applied to each channel in turn does to one of them, and what it leaves alone. -/

namespace Sys2Proof.Machine

open Sys2Proof

variable {s t u : State}

/-- Each step of `F` makes `h c` of channel `c` and leaves the others, so channel `d` changes once, at its own step. -/
theorem chan_foldl_each {F : Fin 16 → State → State} {h : Fin 16 → Chan → Chan} {n : Nat} (htick : ∀ c t, (F c t).tick = t.tick)
    (hF : ∀ c t d, t.tick = n → (F c t).chan d = if d = c then h c (t.chan c) else t.chan d) {l : List (Fin 16)} (hl : l.Nodup)
    (hs : s.tick = n) (d : Fin 16) : (l.foldl (fun t c => F c t) s).chan d = if d ∈ l then h d (s.chan d) else s.chan d := by
  induction l generalizing s with
  | nil => rfl
  | cons c l ih =>
    obtain ⟨hc, hl⟩ := List.nodup_cons.mp hl
    rw [List.foldl_cons, ih hl ((htick c s).trans hs), hF c s d hs]
    by_cases e : d = c
    · rw [if_neg (e ▸ hc), if_pos e, if_pos (e ▸ List.mem_cons_self), e]
    · simp [e]

theorem chan_eachCh {F : Fin 16 → State → State} {h : Fin 16 → Chan → Chan} (htick : ∀ c t, (F c t).tick = t.tick)
    (hF : ∀ c t d, t.tick = s.tick → (F c t).chan d = if d = c then h c (t.chan c) else t.chan d) (d : Fin 16) :
    (s.eachCh F).chan d = h d (s.chan d) := by
  unfold State.eachCh
  rw [chan_foldl_each htick hF (List.nodup_finRange 16) rfl, if_pos (List.mem_finRange d)]

theorem chan_eachCh_chOp (g : Fin 16 → Nat → Chan → Chan) (s : State) (d : Fin 16) :
    (s.eachCh (fun c t => t.chOp c (g c t.tick))).chan d = g d s.tick (s.due d) :=
  chan_eachCh (h := fun c x => g c s.tick (x.closeDue s.tick)) (fun _ _ => chOp_tick _ _ _)
    (fun c t d ht => by rw [chan_chOp, State.due, ht]) d

theorem chan_eachCh_updCh (g : Fin 16 → Chan → Chan) (s : State) (d : Fin 16) : (s.eachCh (fun c t => t.updCh c (g c))).chan d = g d (s.chan d) :=
  chan_eachCh (F := fun c t => t.updCh c (g c)) (fun _ _ => rfl) (fun c t d _ => chan_updCh t c d (g c)) d

theorem chan_closeWindows (s : State) (d : Fin 16) : s.closeWindows.chan d = s.due d := chan_eachCh_chOp (fun _ _ => id) s d

theorem chan_freezeAll (s : State) (x : FreezeSrc) (d : Fin 16) : (s.freezeAll x).chan d = (s.due d).freeze x s.tick :=
  chan_eachCh_chOp (fun _ n c => c.freeze x n) s d

/-! ## What stays (R289, R292) -/

/-- From `s` to `t` only channels have changed, and the main island may have been woken. -/
def OnlyChans (s t : State) : Prop := t = { s with ch := t.ch, pwr := t.pwr } ∧ (t.pwr = s.pwr ∨ t.pwr = s.wakeMain.pwr)

theorem OnlyChans.refl (s : State) : OnlyChans s s := ⟨rfl, .inl rfl⟩

theorem wakeMain_pwr_of_ne (h : s.pwr.main ≠ .retention) : s.wakeMain.pwr = s.pwr := by
  unfold State.wakeMain; rw [if_neg (by simpa using h)]

theorem wakeMain_pwr_congr (hp : t.pwr = s.pwr) (ht : t.tick = s.tick) : t.wakeMain.pwr = s.wakeMain.pwr := by
  unfold State.wakeMain; rw [hp, ht]; split
  · rfl
  · exact hp

theorem OnlyChans.trans (a : OnlyChans s t) (b : OnlyChans t u) : OnlyChans s u := by
  obtain ⟨a, ap⟩ := a
  obtain ⟨b, bp⟩ := b
  have htick : t.tick = s.tick := by rw [a]
  refine ⟨by rw [b, a], ?_⟩
  rcases bp with bp | bp
  · rw [bp]; exact ap
  · rcases ap with ap | ap
    · exact .inr (bp.trans (wakeMain_pwr_congr ap htick))
    · have awake : t.pwr.main ≠ .retention := by rw [ap]; exact wakeMain_ne_retention s
      exact .inr (bp.trans ((wakeMain_pwr_of_ne awake).trans ap))

theorem OnlyChan.onlyChans {c : Fin 16} (h : OnlyChan s t c) : OnlyChans s t := ⟨h.1, h.2.2⟩

theorem onlyChans_eachCh {F : Fin 16 → State → State} (hF : ∀ c t, OnlyChans t (F c t)) (s : State) : OnlyChans s (s.eachCh F) :=
  List.foldlRecOn (motive := OnlyChans s) _ _ (.refl s) fun _ ht c _ => ht.trans (hF c _)

theorem onlyChans_closeWindows (s : State) : OnlyChans s s.closeWindows := onlyChans_eachCh (fun _ _ => (only_chOp _ _ _).onlyChans) s

theorem onlyChans_freezeAll (s : State) (x : FreezeSrc) : OnlyChans s (s.freezeAll x) :=
  onlyChans_eachCh (fun _ _ => (only_chOp _ _ _).onlyChans) s

theorem onlyChans_releaseAll (s : State) (x : FreezeSrc) : OnlyChans s (s.releaseAll x) :=
  onlyChans_eachCh (fun _ _ => (only_chOp _ _ _).onlyChans) s

theorem eachCh_ch_eq {F : Fin 16 → State → State} (hF : ∀ c t, F c t = { t with ch := (F c t).ch }) (s : State) :
    s.eachCh F = { s with ch := (s.eachCh F).ch } :=
  List.foldlRecOn (motive := fun t : State => t = { s with ch := t.ch }) _ _ rfl fun t ht c _ => by rw [hF c t, ht]

theorem eachCh_links_eq {F : Fin 16 → State → State} (hF : ∀ c t, F c t = { t with ch := (F c t).ch, link := (F c t).link }) (s : State) :
    s.eachCh F = { s with ch := (s.eachCh F).ch, link := (s.eachCh F).link } :=
  List.foldlRecOn (motive := fun t : State => t = { s with ch := t.ch, link := t.link }) _ _ rfl fun t ht c _ => by rw [hF c t, ht]

theorem OnlyChans.clk (h : OnlyChans s t) : t.clk = s.clk := by rw [h.1]
theorem OnlyChans.tick (h : OnlyChans s t) : t.tick = s.tick := by rw [h.1]

end Sys2Proof.Machine
end

section
/-! Clock sources, references and the FPLL (spec/04_power_clocks.md R148–R155, R167). -/

namespace Sys2Proof.Machine

open Sys2Proof

variable {s : State}

/-! ## The clock state after a switch begins, and after what is written down -/

@[simp] theorem clk_updClk (s : State) (f : Clk → Clk) : (s.updClk f).clk = f s.clk := rfl

@[simp] theorem tick_updClk (s : State) (f : Clk → Clk) : (s.updClk f).tick = s.tick := rfl

@[simp] theorem chan_updClk (s : State) (f : Clk → Clk) (c : Fin 16) : (s.updClk f).chan c = s.chan c := rfl

@[simp] theorem clk_clockLog (s : State) (r e : Nat) : (s.clockLog r e).clk = s.clk := (klog_logged _ _ _).clk

@[simp] theorem clk_closeWindows (s : State) : s.closeWindows.clk = s.clk := (onlyChans_closeWindows s).clk

@[simp] theorem clk_freezeAll (s : State) (x : FreezeSrc) : (s.freezeAll x).clk = s.clk := (onlyChans_freezeAll s x).clk

@[simp] theorem clk_releaseAll (s : State) (x : FreezeSrc) : (s.releaseAll x).clk = s.clk := (onlyChans_releaseAll s x).clk

@[simp] theorem clk_portsDown (s : State) : s.portsDown.clk = s.clk := rfl

theorem toTick_other {c : Clk} {src : TickSrc} (h : c.tickSrc ≠ some src) : c.toTick src = { c with tickSwitch := some src } := by
  simp [Clk.toTick, h]

theorem toFpll_locked {c : Clk} {x : Bool} (h : c.fpllXo25 ≠ x) (hl : c.fpllLocked = true) : c.toFpll x = { c with fpllSwitch := some x } := by
  simp [Clk.toFpll, h, hl]

theorem toFpll_unlocked {c : Clk} {x : Bool} (h : c.fpllXo25 ≠ x) (hl : c.fpllLocked = false) : c.toFpll x = { c with fpllXo25 := x } := by
  simp [Clk.toFpll, h, hl]

@[simp] theorem toTick_xo32 (c : Clk) (src : TickSrc) : (c.toTick src).xo32 = c.xo32 := by unfold Clk.toTick; split <;> rfl

@[simp] theorem toFpll_xo25 (c : Clk) (x : Bool) : (c.toFpll x).xo25 = c.xo25 := by
  unfold Clk.toFpll; repeat' split
  all_goals rfl

/-! ## A source returns (R155) -/

theorem tickReturns_clk (s : State) (src : TickSrc) : (s.tickReturns src).clk = { s.clk with
    tickSrc := some src, tickSwitch := none, rc32 := s.clk.rc32 || src == .rc32
    xo32 := if src == .xo32 then { s.clk.xo32 with up := true, adopted := true, lost := false } else s.clk.xo32 } := by
  unfold State.tickReturns; simp

theorem xo32StartCheck_returns (hvao : s.rails.vao = true) (hsrc : s.clk.tickSrc = none) : Does .xo32StartCheck s (fun t =>
    t.clk.tickSrc = some .xo32 ∧ t.clk.xo32.up = true ∧ t.clk.xo32.adopted = true) := by
  refine ⟨_, rfl, ?_⟩
  rw [if_neg (by simp [hvao]), if_pos (by simp [hsrc])]; dsimp only
  rw [tickReturns_clk]
  exact ⟨rfl, rfl, rfl⟩

theorem tickSourceReturn_returns {src : TickSrc} (hvao : s.rails.vao = true) (hsrc : s.clk.tickSrc = none) :
    Does (.tickSourceReturn src) s (fun t => t.clk.tickSrc = some src ∧ t.clk.tickSwitch = none ∧ (src = .rc32 → t.clk.rc32 = true)) := by
  refine ⟨_, rfl, ?_⟩
  rw [if_neg (by simp [hvao]), if_pos (by simp [hsrc])]; dsimp only
  rw [tickReturns_clk]
  exact ⟨rfl, rfl, fun e => by simp [e]⟩

theorem tickSourceReturn_rc32_runs (hvao : s.rails.vao = true) (hsrc : s.clk.tickSrc = some .xo32) :
    Does (.tickSourceReturn .rc32) s (fun t => t = { s with clk := { s.clk with rc32 := true } }) := by
  refine ⟨_, rfl, ?_⟩
  rw [if_neg (by simp [hvao]), if_neg (by simp [hsrc])]
  rfl

/-! ## Adoption (R149) -/

theorem xo32StartCheck_adopts (hvao : s.rails.vao = true) (hsrc : s.clk.tickSrc = some .rc32) (hnew : s.clk.xo32.adopted = false)
    (hsw : s.clk.tickSwitch = none) : Does .xo32StartCheck s (fun t => t = { s with clk := t.clk } ∧ t.clk.xo32.up = true ∧
      t.clk.xo32.adopted = true ∧ t.clk.tickSwitch = some .xo32 ∧ t.clk.tickSrc = some .rc32) := by
  refine ⟨_, rfl, ?_⟩
  have adopts : s.clk.adoptXo32 =
      { s.clk with xo32 := { s.clk.xo32 with up := true, adopted := true, lost := false }, tickSwitch := some .xo32 } := by
    unfold Clk.adoptXo32; dsimp only
    rw [if_neg (by simp [hsw]), toTick_other (by simp [hsrc])]
  rw [if_neg (by simp [hvao]), if_neg (by simp [hsrc]), if_neg (by simp [hnew])]; dsimp only
  rw [clk_updClk, adopts]
  exact ⟨congrArg (fun x => { s with clk := x }) adopts, rfl, rfl, rfl, hsrc⟩

theorem xo25StartCheck_adopts (hruns : s.xo25Runs = true) (hnew : s.clk.xo25.adopted = false) (hsw : s.clk.fpllSwitch = none)
    (href : s.clk.fpllXo25 = false) : Does .xo25StartCheck s (fun t =>
      t = { s with clk := t.clk } ∧ t.clk.xo25.up = true ∧ t.clk.xo25.adopted = true ∧
      (s.clk.fpllLocked = true → t.clk.fpllSwitch = some true ∧ t.clk.fpllXo25 = false) ∧
      (s.clk.fpllLocked = false → t.clk.fpllSwitch = none ∧ t.clk.fpllXo25 = true)) := by
  refine ⟨_, rfl, ?_⟩
  rw [if_neg (by simp [hruns, hnew])]; dsimp only
  rw [clk_updClk, if_neg (by simp [hsw]), toFpll_xo25]
  refine ⟨?_, rfl, rfl, fun hl => ?_, fun hl => ?_⟩
  · unfold State.updClk; dsimp only; rw [if_neg (by simp [hsw])]
  · rw [toFpll_locked (by simp [href]) (by simpa using hl)]; exact ⟨rfl, href⟩
  · rw [toFpll_unlocked (by simp [href]) (by simpa using hl)]; exact ⟨hsw, rfl⟩

/-! ## Loss (R148, R154, R155) -/

theorem tickLost_clk (s : State) : s.tickLost.clk = { s.clk with
    tickSrc := none, tickSwitch := none, rc32 := false, held := []
    xo32 := { s.clk.xo32 with up := false, lost := s.clk.xo32.adopted, qualified := false } } := by
  unfold State.tickLost; dsimp only
  rw [(klogRep_logged _ _ _).clk, clk_updClk, clk_freezeAll, clk_closeWindows]

theorem xo32Falls_up (h : s.clk.xo32.up = false) : s.xo32Falls.clk.xo32.up = false := by
  unfold State.xo32Falls; repeat' split
  · exact h
  · rw [clk_updClk, toTick_xo32]; exact h
  · rw [tickLost_clk]

theorem xo32Falls_to_rc32 (hsrc : s.clk.tickSrc = some .xo32) (hrc : s.clk.rc32 = true) :
    s.xo32Falls.clk = { s.clk with tickSwitch := some .rc32 } := by
  unfold State.xo32Falls
  rw [if_neg (by simp [hsrc]), if_pos hrc, clk_updClk, toTick_other (by simp [hsrc])]

theorem xo32Falls_alone (hsrc : s.clk.tickSrc = some .xo32) (hrc : s.clk.rc32 = false) : s.xo32Falls = s.tickLost := by
  unfold State.xo32Falls
  rw [if_neg (by simp [hsrc]), if_neg (by simp [hrc])]

theorem xo32Falls_unused (hsrc : s.clk.tickSrc = some .rc32) : s.xo32Falls = s := by
  unfold State.xo32Falls; rw [if_pos (by simp [hsrc])]

theorem xo32Lost_falls (hvao : s.rails.vao = true) (hup : s.clk.xo32.up = true) (hsw : s.clk.tickSwitch = none) :
    Does .xo32Lost s (fun t => t.clk.xo32.up = false ∧
      (s.clk.tickSrc = some .xo32 → s.clk.rc32 = true → t.clk.tickSwitch = some .rc32 ∧ t.clk.tickSrc = some .xo32) ∧
      (s.clk.tickSrc = some .xo32 → s.clk.rc32 = false → t.clk.tickSrc = none) ∧
      (s.clk.tickSrc = some .rc32 → t.clk.tickSrc = some .rc32 ∧ t.clk.tickSwitch = none)) := by
  refine ⟨_, rfl, ?_⟩
  rw [if_neg (by simp [hvao, hup])]; dsimp only
  rw [if_neg (by simp [hsw])]
  generalize hu : (s.updClk _).clockLog 0 0 = u
  have lost : u.clk = { s.clk with xo32 := { s.clk.xo32 with up := false, lost := true, qualified := false } } := by
    rw [← hu, clk_clockLog, clk_updClk]
  have hsrc : u.clk.tickSrc = s.clk.tickSrc := by rw [lost]
  have hrc : u.clk.rc32 = s.clk.rc32 := by rw [lost]
  refine ⟨xo32Falls_up (by rw [lost]), fun h hr => ?_, fun h hr => ?_, fun h => ?_⟩
  · rw [xo32Falls_to_rc32 (hsrc.trans h) (hrc.trans hr)]; exact ⟨rfl, hsrc.trans h⟩
  · rw [xo32Falls_alone (hsrc.trans h) (hrc.trans hr), tickLost_clk]
  · rw [xo32Falls_unused (hsrc.trans h), lost]; exact ⟨h, hsw⟩

theorem portsDown_port (s : State) (p : Port) : (s.portsDown.port p).linked = false := by cases p <;> rfl

theorem xo25Lost_falls (hup : s.clk.xo25.up = true) (hsw : s.clk.fpllSwitch = none) : Does .xo25Lost s (fun t =>
    t.clk.xo25.up = false ∧ (∀ p, (t.port p).linked = false) ∧
    (s.clk.fpllXo25 = true → (s.clk.fpllLocked = true → t.clk.fpllSwitch = some false) ∧
      (s.clk.fpllLocked = false → t.clk.fpllXo25 = false))) := by
  refine ⟨_, rfl, ?_⟩
  rw [if_neg (by simp [hup])]; dsimp only
  rw [if_neg (by simp [hsw]), clk_updClk, clk_portsDown, clk_clockLog, clk_updClk, toFpll_xo25]
  refine ⟨rfl, portsDown_port _, fun href => ⟨fun hl => ?_, fun hl => ?_⟩⟩
  · rw [toFpll_locked (by simp [href]) (by simpa using hl)]
  · rw [toFpll_unlocked (by simp [href]) (by simpa using hl)]

/-! ## The beacon reference (R148) -/

theorem setTimeSt_logged_of (s : State) (f : Kiln → Kiln) : Logged { s with kiln := f s.kiln } (s.setTimeSt f) := by
  unfold State.setTimeSt; dsimp only; split
  · exact .rfl' _
  · exact klog_logged _ _ _

theorem undiscipline_timeSt (s : State) : s.undiscipline.kiln.timeSt ≠ .disciplined := by
  unfold State.undiscipline; split
  · rw [(setTimeSt_logged_of _ _).timeSt]; nofun
  · rename_i h; exact h

@[simp] theorem clk_undiscipline (s : State) : s.undiscipline.clk = s.clk := by
  unfold State.undiscipline; split
  · exact (setTimeSt_logged_of _ _).clk
  · rfl

@[simp] theorem tick_undiscipline (s : State) : s.undiscipline.tick = s.tick := by
  unfold State.undiscipline; split
  · exact (setTimeSt_logged_of _ _).tick
  · rfl

@[simp] theorem clk_discipline (s : State) : s.discipline.clk = s.clk := by
  unfold State.discipline; split
  · exact (setTimeSt_logged_of _ _).clk
  · rfl

theorem discipline_of_carried (h : s.kiln.timeSt = .carried) : s.discipline.kiln.timeSt = .disciplined := by
  unfold State.discipline; rw [h]; exact (setTimeSt_logged_of _ _).timeSt

theorem tick_advanceTo_closeWindows (s : State) (k : Nat) : (s.advanceTo k).closeWindows.tick = max s.tick (min k (2 ^ 48 - 1)) :=
  (closeWindows_tick _).trans (State.advanceTo_tick s k)

theorem beaconReferenceLost_does {k : Nat} (hvao : s.rails.vao = true) (hk : s.clk.lastBeacon = some k) (hsrc : s.clk.tickSrc ≠ none)
    (hq : s.clk.beaconQual = true ∨ s.kiln.timeSt = .disciplined) : Does .beaconReferenceLost s (fun t =>
      t.clk.beaconQual = false ∧ t.clk.beaconRun = 0 ∧ t.kiln.timeSt ≠ .disciplined ∧ t.tick = max s.tick (min (k + 19660800) (2 ^ 48 - 1))) := by
  refine ⟨_, rfl, ?_⟩
  rw [hk]; dsimp only
  rw [if_pos (by simpa [hvao, Option.isSome_iff_ne_none, hsrc] using hq)]
  generalize hu : ((s.advanceTo (k + 19660800)).closeWindows.updClk _).undiscipline = u
  have logged : Logged u (u.clockLog 2 0) := klog_logged _ _ _
  have hclk : u.clk = { s.clk with beaconQual := false, beaconRun := 0 } := by
    rw [← hu, clk_undiscipline, clk_updClk, clk_closeWindows, State.advanceTo_clk]
  have htick : u.tick = max s.tick (min (k + 19660800) (2 ^ 48 - 1)) := by
    rw [← hu, tick_undiscipline, tick_updClk, tick_advanceTo_closeWindows]
  rw [clk_clockLog, hclk, logged.timeSt, logged.tick, htick, ← hu]
  exact ⟨rfl, rfl, undiscipline_timeSt _, rfl⟩

/-! ## Qualification (R148, R149, R152) -/

theorem qualifyXo32_returns (hvao : s.rails.vao = true) (hsrc : s.clk.tickSrc ≠ none) (had : s.clk.xo32.adopted = true)
    (hup : s.clk.xo25.up = true) (hdue : s.clk.xo32.up = false ∨ s.clk.xo32.qualified = false) (hsw : s.clk.tickSwitch = none) :
    Does (.qualificationComplete .xo32) s (fun t => t.clk.xo32.up = true ∧ t.clk.xo32.qualified = true ∧
      (s.clk.tickSrc = some .rc32 → t.clk.tickSwitch = some .xo32)) := by
  refine ⟨_, rfl, ?_⟩
  rw [if_neg (by simpa using hsrc)]; dsimp only
  unfold State.qualifyXo32
  rw [if_neg (by rcases hdue with h | h <;> simp [hvao, had, hup, h])]; dsimp only
  rw [if_neg (by simp [hsw]), clk_updClk, clk_clockLog, clk_updClk, toTick_xo32]
  exact ⟨rfl, rfl, fun h => by rw [toTick_other (by simp [h])]⟩

theorem qualifyXo25_returns (hsrc : s.clk.tickSrc ≠ none) (hruns : s.xo25Runs = true) (had : s.clk.xo25.adopted = true)
    (hq : s.clk.xo32.qualified = true) (hdue : s.clk.xo25.up = false ∨ s.clk.xo25.qualified = false) (hsw : s.clk.fpllSwitch = none) :
    Does (.qualificationComplete .xo25) s (fun t => t.clk.xo25.up = true ∧ t.clk.xo25.qualified = true ∧
      (s.clk.fpllXo25 = false → s.clk.fpllLocked = true → t.clk.fpllSwitch = some true)) := by
  refine ⟨_, rfl, ?_⟩
  rw [if_neg (by simpa using hsrc)]; dsimp only
  unfold State.qualifyXo25
  rw [if_neg (by rcases hdue with h | h <;> simp [hruns, had, hq, h])]; dsimp only
  rw [if_neg (by simp [hsw]), clk_updClk, clk_clockLog, clk_updClk, toFpll_xo25]
  exact ⟨rfl, rfl, fun href hl => by rw [toFpll_locked (by simp [href]) (by simpa using hl)]⟩

theorem qualifyBeacon_disciplines (hsrc : s.clk.tickSrc ≠ none) (hq : s.clk.beaconQual = false) (hrun : 3 ≤ s.clk.beaconRun) :
    Does (.qualificationComplete .beacon) s (fun t => t.clk.beaconQual = true ∧ (s.kiln.timeSt = .carried → t.kiln.timeSt = .disciplined)) := by
  refine ⟨_, rfl, ?_⟩
  rw [if_neg (by simpa using hsrc)]; dsimp only
  unfold State.qualifyBeacon
  rw [if_neg (by simpa [hq] using hrun), clk_clockLog, clk_discipline]
  exact ⟨rfl, fun h => (klog_logged _ _ _).timeSt.trans (discipline_of_carried h)⟩

/-! ## No tick source is left (R155, R311) -/

theorem Chan.freeze_notick {x : Chan} (hg : x.eclass.guarded = true) (hs : x.service = true) (t : Nat) :
    (x.freeze .notick t).frz.notick = true := by
  unfold Chan.freeze
  by_cases hf : x.frz.notick = true
  · rw [if_pos (by simp [Freeze.get, hf])]; exact hf
  · rw [if_neg (by simp [hg, hs, Freeze.get, hf])]; dsimp only; split
    · rfl
    · exact congrArg Freeze.notick (Chan.push_frz _ _ _ _)

theorem tickLost_logged (s : State) : ∃ f : Clk → Clk, Logged ((s.closeWindows.freezeAll .notick).updClk f) s.tickLost :=
  ⟨_, klogRep_logged _ _ _⟩

theorem tickLost_freezes {c : Fin 16} (hg : (s.chan c).eclass.guarded = true) (hs : (s.chan c).service = true) :
    (s.tickLost.chan c).frz.notick = true := by
  have frozen : (s.closeWindows.freezeAll .notick).chan c = (s.closeWindows.due c).freeze .notick s.closeWindows.tick := chan_freezeAll _ _ _
  have class_kept : (s.closeWindows.due c).eclass = (s.chan c).eclass := by
    rw [State.due, Chan.closeDue_eclass, chan_closeWindows, State.due, Chan.closeDue_eclass]
  have service_kept : (s.closeWindows.due c).service = (s.chan c).service := by
    rw [State.due, Chan.closeDue_service, chan_closeWindows, State.due, Chan.closeDue_service]
  obtain ⟨f, logged⟩ := tickLost_logged s
  rw [logged.chan, chan_updClk, frozen]
  exact Chan.freeze_notick (by rw [class_kept]; exact hg) (service_kept.trans hs) _

theorem tickLost_tick (s : State) : s.tickLost.tick = s.tick := by
  obtain ⟨f, logged⟩ := tickLost_logged s
  rw [logged.tick, tick_updClk, (onlyChans_freezeAll _ _).tick, closeWindows_tick]

theorem tickSourcesLost_does (hvao : s.rails.vao = true) (hsrc : s.clk.tickSrc ≠ none) : Does .tickSourcesLost s (fun t =>
    t.clk.tickSrc = none ∧ t.tick = s.tick ∧
    ∀ c, (s.chan c).eclass.guarded = true → (s.chan c).service = true → (t.chan c).frz.notick = true) := by
  refine ⟨_, rfl, ?_⟩
  rw [if_pos (by simp [hvao, Option.isSome_iff_ne_none, hsrc])]
  exact ⟨by rw [tickLost_clk], tickLost_tick s, fun _ => tickLost_freezes⟩

/-! ## Switches (R150, R151) -/

theorem tickSwitch_completes {src : TickSrc} (hsw : s.clk.tickSwitch = some src) (hheld : s.clk.held = []) :
    Does (.referenceSwitchComplete .tick) s (fun t => t = { s with clk := { s.clk with tickSrc := some src, tickSwitch := none } }) := by
  refine ⟨_, rfl, ?_⟩
  dsimp only; rw [hsw]; dsimp only
  rw [hheld]; unfold State.updClk; dsimp only
  rw [hheld]; rfl

theorem fpllSwitch_completes {x : Bool} (hsw : s.clk.fpllSwitch = some x) (hheld : s.clk.held = []) :
    Does (.referenceSwitchComplete .fpll) s (fun t => t = { s with clk := { s.clk with fpllXo25 := x, fpllSwitch := none } }) := by
  refine ⟨_, rfl, ?_⟩
  dsimp only; rw [hsw]; dsimp only
  rw [hheld]; unfold State.updClk; dsimp only
  rw [hheld]; rfl

/-! ## The FPLL (R167) -/

theorem fpllLockFail_waits {b : Bool} (hvao : s.rails.vao = true) (hlock : s.clk.fpllLocked = false)
    (hnone : s.pwr.phase ≠ .c ∨ s.clk.fpllFailedAt = none) :
    Does (.fpllLockFail b) s (fun t => t = { s with clk := { s.clk with lockFails := some b } }) := by
  refine ⟨_, rfl, ?_⟩
  rw [if_neg (by simp [hvao, hlock]), if_neg (by rcases hnone with h | h <;> simp [h])]
  rfl

theorem fpllLockFail_again (hvao : s.rails.vao = true) (hlock : s.clk.fpllLocked = false) (hphase : s.pwr.phase = .c)
    (hfailed : s.clk.fpllFailedAt ≠ none) :
    Does (.fpllLockFail true) s (fun t => t.clk.fpllFailedAt = some s.tick ∧ t.clk.fpllLocked = false) := by
  refine ⟨_, rfl, ?_⟩
  rw [if_neg (by simp [hvao, hlock]), if_pos (by simp [hphase, Option.isSome_iff_ne_none, hfailed]), if_pos rfl]; dsimp only
  rw [(klog_logged _ _ _).clk]
  exact ⟨rfl, hlock⟩

theorem fpllLockFail_once (hvao : s.rails.vao = true) (hlock : s.clk.fpllLocked = false) (hphase : s.pwr.phase = .c)
    (hfailed : s.clk.fpllFailedAt ≠ none) : ∃ u : State, exec (.fpllLockFail false) s = .next u.runStart ∧
      u = { s with clk := { s.clk with fpllFailedAt := none, fpllXo25 := false } } := by
  refine ⟨_, ?_, rfl⟩
  change execFpllLockFail false s = _
  unfold execFpllLockFail
  rw [if_neg (by simp [hvao, hlock]), if_pos (by simp [hphase, Option.isSome_iff_ne_none, hfailed]), if_neg (by simp)]

theorem fpllRetry_runs {k : Nat} (hvao : s.rails.vao = true) (hk : s.clk.fpllFailedAt = some k) (hsrc : s.clk.tickSrc ≠ none) :
    ∃ u : State, exec .fpllRetry s = .next u.runStart ∧ u.clk.fpllFailedAt = none ∧ u.tick = max s.tick (min (k + 32768) (2 ^ 48 - 1)) := by
  refine ⟨(s.advanceTo (k + 32768)).closeWindows.updClk (fun c => { c with fpllFailedAt := none }), ?_, rfl, ?_⟩
  · change execFpllRetry s = _
    unfold execFpllRetry
    rw [hk]; dsimp only
    rw [if_pos (by simp [hvao, Option.isSome_iff_ne_none, hsrc])]
    rfl
  · rw [tick_updClk, tick_advanceTo_closeWindows]

/-! ## The obligation -/

/-- Settles O59, clause by clause. -/
theorem clockSources : Obligations.ClockSources := by
  intro src x b s hvao
  exact ⟨fun hsrc => ⟨xo32StartCheck_returns hvao hsrc, tickSourceReturn_returns hvao hsrc⟩, xo32StartCheck_adopts hvao,
    tickSourceReturn_rc32_runs hvao, xo25StartCheck_adopts, xo32Lost_falls hvao, xo25Lost_falls, fun k => beaconReferenceLost_does hvao,
    fun hsrc => ⟨qualifyXo32_returns hvao hsrc, qualifyXo25_returns hsrc, qualifyBeacon_disciplines hsrc, tickSourcesLost_does hvao hsrc⟩,
    tickSwitch_completes, fpllSwitch_completes,
    fun hlock => ⟨fpllLockFail_waits hvao hlock, fun hphase hfailed =>
      ⟨fpllLockFail_again hvao hlock hphase hfailed, fpllLockFail_once hvao hlock hphase hfailed⟩⟩,
    fun k => fpllRetry_runs hvao⟩

end Sys2Proof.Machine
end

section
/-! What stands (spec/04_power_clocks.md R134, R137, R140; spec/05_startup.md R195, R199, R200): the part's records, flushes, aborts and resets,
and what the Wheel or the Kiln takes up again, leave the rails, the tick, the binary straps, the course of the start and the watchdog
histories alone. -/

namespace Sys2Proof.Machine

open Sys2Proof

/-! ## The predicate -/

/-- The Hold an island state is. -/
def MainSt.held : MainSt → Option HoldReason
  | .hold r => some r
  | _ => none

/-- What a record, a flush, an abort and a reset leave alone. -/
structure Standing where
  rails : Rails
  tick : Nat
  bins : Bins
  met : Met
  opt : Vector Bytes 2
  poweredBase : Nat
  refPfail : Option Nat
  cause : StartCause
  phase : Phase
  crazedWait : Bool
  flushDone : Bool
  vcoreLoss : VcoreLoss
  mainWdogAt : List Nat
  kilnWdogAt : List Nat
  held : Option HoldReason

/-- What stands in a state. -/
def State.standing (s : State) : Standing where
  rails := s.rails
  tick := s.tick
  bins := s.bins
  met := s.met
  opt := s.opt
  poweredBase := s.kiln.poweredBase
  refPfail := s.tamp.refPfail
  cause := s.pwr.cause
  phase := s.pwr.phase
  crazedWait := s.pwr.crazedWait
  flushDone := s.pwr.flushDone
  vcoreLoss := s.pwr.vcoreLoss
  mainWdogAt := s.pwr.mainWdogAt
  kilnWdogAt := s.pwr.kilnWdogAt
  held := s.pwr.main.held

/-- `x` stands in the state; an update of anything else keeps it by definition. -/
def State.Stands (x : Standing) (s : State) : Prop := s.standing = x

theorem State.Stands.self (s : State) : s.Stands s.standing := rfl

theorem MainSt.held_eq_some {m : MainSt} {r : HoldReason} : m.held = some r ↔ m = .hold r := by
  cases m <;> simp [MainSt.held]

theorem MainSt.held_eq_none {m : MainSt} : m.held = none ↔ ∀ r, m ≠ .hold r := by
  cases m <;> simp [MainSt.held]

variable {x : Standing} {s t : State}

theorem State.Stands.rails (h : s.Stands x) : s.rails = x.rails := congrArg Standing.rails h
theorem State.Stands.tick (h : s.Stands x) : s.tick = x.tick := congrArg Standing.tick h
theorem State.Stands.bins (h : s.Stands x) : s.bins = x.bins := congrArg Standing.bins h
theorem State.Stands.met (h : s.Stands x) : s.met = x.met := congrArg Standing.met h
theorem State.Stands.opt (h : s.Stands x) : s.opt = x.opt := congrArg Standing.opt h
theorem State.Stands.poweredBase (h : s.Stands x) : s.kiln.poweredBase = x.poweredBase := congrArg Standing.poweredBase h
theorem State.Stands.refPfail (h : s.Stands x) : s.tamp.refPfail = x.refPfail := congrArg Standing.refPfail h
theorem State.Stands.cause (h : s.Stands x) : s.pwr.cause = x.cause := congrArg Standing.cause h
theorem State.Stands.phase (h : s.Stands x) : s.pwr.phase = x.phase := congrArg Standing.phase h
theorem State.Stands.crazedWait (h : s.Stands x) : s.pwr.crazedWait = x.crazedWait := congrArg Standing.crazedWait h
theorem State.Stands.flushDone (h : s.Stands x) : s.pwr.flushDone = x.flushDone := congrArg Standing.flushDone h
theorem State.Stands.mainWdogAt (h : s.Stands x) : s.pwr.mainWdogAt = x.mainWdogAt := congrArg Standing.mainWdogAt h
theorem State.Stands.kilnWdogAt (h : s.Stands x) : s.pwr.kilnWdogAt = x.kilnWdogAt := congrArg Standing.kilnWdogAt h
theorem State.Stands.held (h : s.Stands x) : s.pwr.main.held = x.held := congrArg Standing.held h

/-! ## Records and the operations on channels -/

theorem State.Stands.ite {p : Prop} {_ : Decidable p} (hs : s.Stands x) (ht : t.Stands x) : (if p then s else t).Stands x := by
  split
  · exact hs
  · exact ht

theorem State.Stands.foldl {α : Type} {f : State → α → State} {l : List α} (h : s.Stands x) (hf : ∀ t a, t.Stands x → (f t a).Stands x) :
    (l.foldl f s).Stands x := List.foldlRecOn (motive := State.Stands x) _ _ h fun t ht a _ => hf t a ht

theorem State.Stands.eachCh {f : Fin 16 → State → State} (h : s.Stands x) (hf : ∀ c t, t.Stands x → (f c t).Stands x) :
    (s.eachCh f).Stands x := h.foldl fun t c ht => hf c t ht

/-- A `Logged` state may only have woken an island, and no sleep is a Hold. -/
theorem State.Stands.logged (h : s.Stands x) (l : Logged s t) : t.Stands x := by
  obtain ⟨e, hmain, -⟩ := l
  have held : t.pwr.main.held = s.pwr.main.held := by
    rcases hmain with hm | ⟨hm, hm'⟩
    · rw [hm]
    · rw [hm, hm']; rfl
  have kept : t.standing = { s.standing with held := t.pwr.main.held } := congrArg State.standing e
  rw [held] at kept
  exact kept.trans h

theorem State.Stands.wakeMain (h : s.Stands x) : s.wakeMain.Stands x := h.logged (wakeMain_logged s)

theorem State.Stands.wakeKiln (h : s.Stands x) : s.wakeKiln.Stands x := h.logged (wakeKiln_logged s)

theorem State.Stands.report {type : Nat} {body : Bytes} (h : s.Stands x) : (s.report type body).Stands x := h.logged (report_logged _ _ _)

theorem State.Stands.logEv {code grade source : Nat} {detail : Bytes} {rep now : Bool} (h : s.Stands x) :
    (s.logEv code grade source detail rep now).Stands x := h.logged (logEv_logged _ _ _ _ _ _ _)

theorem State.Stands.klog {code : Nat} {detail : Bytes} (h : s.Stands x) : (s.klog code detail).Stands x := h.logEv

theorem State.Stands.klogRep {code : Nat} {detail : Bytes} (h : s.Stands x) : (s.klogRep code detail).Stands x := h.logEv

theorem State.Stands.watch {code : Nat} {detail : Bytes} (h : s.Stands x) : (s.watch code detail).Stands x := h.logEv

theorem State.Stands.wlog {code grade : Nat} {detail : Bytes} {rep : Bool} (h : s.Stands x) : (s.wlog code grade detail rep).Stands x := h.logEv

theorem State.Stands.spyEvent {kind code index grade tick : Nat} {detail : Bytes} (h : s.Stands x) :
    (s.spyEvent kind code index grade tick detail).Stands x := h.logged (spyEvent_logged _ _ _ _ _ _ _)

theorem State.Stands.drainLog (h : s.Stands x) : s.drainLog.Stands x := h.logged (drainLog_logged s)

theorem State.Stands.tripLog {g : Grade} {t : Trip} {ref refTick : Nat} (h : s.Stands x) : (s.tripLog g t ref refTick).Stands x := by
  unfold State.tripLog; exact h.logEv.report.spyEvent

theorem State.Stands.gradeWatch {t : Trip} {ref refTick : Nat} (h : s.Stands x) : (s.gradeWatch t ref refTick).Stands x := h.tripLog

theorem State.Stands.chOp {c : Fin 16} {f : Chan → Chan} (h : s.Stands x) : (s.chOp c f).Stands x := by
  have set : (s.setCh c (f (s.due c))).Stands x := h
  unfold State.chOp; dsimp only; split
  · exact set.wakeMain
  · exact set

theorem State.Stands.closeWindows (h : s.Stands x) : s.closeWindows.Stands x := h.eachCh fun _ _ ht => ht.chOp

theorem State.Stands.freezeAll {k : FreezeSrc} (h : s.Stands x) : (s.freezeAll k).Stands x := h.eachCh fun _ _ ht => ht.chOp

theorem State.Stands.releaseAll {k : FreezeSrc} (h : s.Stands x) : (s.releaseAll k).Stands x := h.eachCh fun _ _ ht => ht.chOp

/-! ## Rings, flash and aborts (R600, R742, R765) -/

theorem State.Stands.ringMsg {e : Eng} {k : Nat} (h : s.Stands x) : (s.ringMsg e k).Stands x := h.logged (spySend_logged _ _ _ _)

theorem State.Stands.updRing {e : Eng} {k : Nat} {f : Machine.Ring → Machine.Ring} (h : s.Stands x) : (s.updRing e k f).Stands x := by
  have set : (s.updEng e (fun y => { y with rings := y.rings.modify k f })).Stands x := h
  unfold State.updRing; dsimp only; exact set.ite set.ringMsg

theorem State.Stands.complete {e : Eng} {k : Nat} {d : Done} (h : s.Stands x) : (s.complete e k d).Stands x := by
  have set : (s.sramWrite ((s.ring e k).slot (s.ring e k).cons + 0x30) d.wb).Stands x := h
  exact set.updRing

/-- What an abort does to flash is done to flash alone. -/
theorem abortFlash_eq (s : State) (k : Nat) (tamper : Bool) :
    (s.abortFlash k tamper).1 = { s with flc := (s.abortFlash k tamper).1.flc, freeCount := (s.abortFlash k tamper).1.freeCount } := by
  have page : ∀ j, (s.finishPage j).1 = { s with flc := (s.finishPage j).1.flc } := by
    intro j; unfold State.finishPage; split <;> rfl
  unfold State.abortFlash; dsimp only; split
  · rename_i j _
    split
    · rw [page j]
    · dsimp only; split <;> rfl
  · repeat' split
    all_goals rfl

theorem State.Stands.abortFlash {k : Nat} {tamper : Bool} (h : s.Stands x) : (s.abortFlash k tamper).1.Stands x := by
  rw [abortFlash_eq]; exact h

theorem State.Stands.abortOne {e : Eng} {k : Nat} {code : Code} (h : s.Stands x) : (s.abortOne e k code).Stands x := by
  unfold State.abortOne; dsimp only; split
  · split
    · have aborted := h.abortFlash (k := k) (tamper := code == .abortTamper)
      split <;> rename_i eq <;> rw [eq] at aborted <;> exact aborted.complete
    · exact h.complete
  · split
    · exact h.complete
    · exact State.Stands.updRing h

theorem State.Stands.abortMany {m : Nat} {e : Eng} {k : Nat} {code : Code} (h : s.Stands x) : (State.abortMany m s e k code).Stands x := by
  induction m generalizing s with
  | zero => exact h
  | succ m ih => exact ih h.abortOne

theorem State.Stands.abortEngine {e : Eng} {code : Code} (h : s.Stands x) : (s.abortEngine e code).Stands x :=
  h.foldl fun _ _ ht => ht.abortMany

theorem State.Stands.abortEngines {l : List Eng} {code : Code} (h : s.Stands x) : (s.abortEngines l code).Stands x :=
  h.foldl fun _ _ ht => ht.abortEngine

/-! ## A reset of the main island (R195) -/

theorem State.Stands.ringsReset (h : s.Stands x) : s.ringsReset.Stands x := by
  have off : State.Stands x { s with eng := resetEngines } := h
  unfold State.ringsReset
  refine off.foldl fun t e ht => ht.foldl fun u k hu => hu.ite hu.ringMsg

theorem State.Stands.withLinks {ch : Vector Chan 16} {link : Vector Link 16} {app : Vector App 16} (h : s.Stands x) :
    State.Stands x { s with ch := ch, link := link, app := app } := h

theorem abandonRun_eq (s : State) : s.abandonRun = { s with selft := s.abandonRun.selft } := by
  unfold State.abandonRun; split <;> rfl

theorem stopFlash_eq (s : State) : s.stopFlash = { s with flc := s.stopFlash.flc, freeCount := s.stopFlash.freeCount } :=
  List.foldlRecOn (motive := fun t : State => t = { s with flc := t.flc, freeCount := t.freeCount }) _ _ rfl
    fun t ht k _ => by rw [abortFlash_eq, ht]

theorem dropSessions_eq (s : State) :
    s.dropSessions = { s with ch := s.dropSessions.ch, link := s.dropSessions.link, app := s.dropSessions.app } := by
  have dropped := eachCh_links_eq (F := fun c t => (t.updLnk c Link.dropSession).updCh c (fun y => y.pairBack t.tick)) (fun _ _ => rfl) s
  unfold State.dropSessions; dsimp only
  generalize s.eachCh _ = u at *
  rw [dropped]

theorem State.Stands.abandonRun (h : s.Stands x) : s.abandonRun.Stands x := by rw [abandonRun_eq]; exact h

theorem State.Stands.stopFlash (h : s.Stands x) : s.stopFlash.Stands x := by rw [stopFlash_eq]; exact h

theorem State.Stands.dropSessions (h : s.Stands x) : s.dropSessions.Stands x := by rw [dropSessions_eq]; exact h.withLinks

theorem State.Stands.dropSlip (h : s.Stands x) : s.dropSlip.Stands x := h

theorem State.Stands.portsDown (h : s.Stands x) : s.portsDown.Stands x := h

theorem State.Stands.mainReset (h : s.Stands x) : s.mainReset.Stands x := by
  have stopped := h.ringsReset.abandonRun.stopFlash.dropSessions.dropSlip.portsDown
  unfold State.mainReset
  generalize s.ringsReset.abandonRun.stopFlash.dropSessions.dropSlip.portsDown = u at stopped
  exact stopped

/-- Reset, Hold or Off is entered: the start is over. -/
theorem State.Stands.enter {m : MainSt} (h : s.Stands x) : State.Stands { x with phase := .idle, held := m.held }
    { s with pwr := { s.pwr with main := m, phase := .idle } } := by
  subst h; rfl

theorem State.Stands.holdMainReset {st : MainSt} (h : s.Stands x) : (s.holdMainReset st).Stands { x with phase := .idle, held := st.held } := by
  unfold State.holdMainReset State.freezeMain
  exact h.mainReset.enter.freezeAll

theorem State.Stands.kilnStop {st : KilnSt} (h : s.Stands x) : (s.kilnStop st).Stands x := h

theorem State.Stands.leaveHold (h : s.Stands x) : s.leaveHold.Stands x := by
  unfold State.leaveHold; split <;> exact h

theorem State.Stands.xo25Stop (h : s.Stands x) : s.xo25Stop.Stands x := by
  rw [xo25Stop_eq]; exact h

/-! ## The flush and the Hold (R137, R138, R200) -/

theorem State.Stands.tick1 (h : s.Stands x) : s.tick1.Stands x := h

theorem State.Stands.flushLog (h : s.Stands x) : s.flushLog.Stands x := by
  unfold State.flushLog Kiln.programTail; split <;> exact h

theorem State.Stands.journalClose (h : s.Stands x) : s.journalClose.Stands x := by
  have added : (s.journalAdd .closeS).Stands x := h.logged (journalAdd_logged _ _)
  exact added

theorem State.Stands.drainStores (h : s.Stands x) : s.drainStores.Stands x := h

theorem State.Stands.flushPointers (h : s.Stands x) : s.flushPointers.Stands x := h

theorem State.Stands.flushing {b : Bool} (h : s.Stands x) : State.Stands x { s with pwr := { s.pwr with flushing := b } } := h

theorem State.Stands.flushPages (h : s.Stands x) : s.flushPages.Stands x :=
  (h.flushing (b := true)).drainStores.journalClose.flushPointers.flushLog.flushing

theorem State.Stands.hold {r : HoldReason} (h : s.Stands x) : State.Stands { x with phase := .idle, held := some r }
    { s with pwr := { s.pwr with main := .hold r, holdReason := some r, phase := .idle, mainWdogFrom := none } } := by
  subst h; rfl

theorem State.Stands.enterHold {r : HoldReason} (h : s.Stands x) : (s.enterHold r).Stands { x with phase := .idle, held := some r } := by
  have flushed : (if s.mainUp && !s.starting then s.flushPages else s.flushLog).Stands x := h.flushPages.ite h.flushLog
  unfold State.enterHold State.freezeMain
  exact flushed.abortEngines.abandonRun.logEv.dropSessions.dropSlip.portsDown.hold.freezeAll

end Sys2Proof.Machine
end

section
/-! Rails (spec/04_power_clocks.md R140–R142; spec/05_startup.md R170, R172, R195, R202): what comes with a rail and what goes with one. -/

namespace Sys2Proof.Machine

open Sys2Proof

variable {x : Standing} {s : State}

/-! ## A dip that ends with its rail (R257, R274) -/

theorem State.Stands.gradeChange (h : s.Stands x) : s.gradeChange.Stands x := h

theorem State.Stands.programLog (h : s.Stands x) : s.programLog.Stands x := h.logged (programLog_logged s)

theorem State.Stands.drainReports (h : s.Stands x) : s.drainReports.Stands x := h.logged (drainReports_logged s)

theorem State.Stands.endHold (h : s.Stands x) : s.endHold.Stands x := by
  unfold State.endHold
  exact h.ite h.gradeChange.releaseAll.programLog.drainReports

theorem State.Stands.dipLost {cause : Nat} (h : s.Stands x) : (s.dipLost cause).Stands x := by
  have cleared : State.Stands x { s with tamp := { s.tamp with holds := s.tamp.holds.filter (fun a => a.cause != cause) } } := h
  have graded := cleared.foldl (l := s.tamp.holds.filter (fun a => a.cause == cause))
    (f := fun t a => t.gradeWatch ⟨a.cause, a.index, a.tick⟩) fun _ _ ht => ht.gradeWatch
  unfold State.dipLost; dsimp only
  exact graded.ite graded.endHold

/-! ## What a reset of the main island loses (R195, R311) -/

theorem mainReset_mem (s : State) : s.mainReset.mem = [] := rfl

theorem mainReset_prot (s : State) : s.mainReset.prot = {} := rfl

theorem mainReset_slots (s : State) : s.mainReset.ksm.slots = [] := rfl

theorem mainReset_port (s : State) (p : Port) : (s.mainReset.port p).linked = false := by cases p <;> rfl

/-- Guarded outputs freeze while the main island is held, and a held island is not woken by it. -/
theorem holdMainReset_eq (s : State) {st : MainSt} (hst : st ≠ .retention) : ∃ ch : Vector Chan 16,
    s.holdMainReset st = { s.mainReset with pwr := { s.mainReset.pwr with main := st, phase := .idle }, ch := ch } := by
  unfold State.holdMainReset State.freezeMain; dsimp only
  generalize s.mainReset = u
  obtain ⟨only, hpwr⟩ := onlyChans_freezeAll { u with pwr := { u.pwr with main := st, phase := .idle } } .main
  have held : (State.freezeAll { u with pwr := { u.pwr with main := st, phase := .idle } } .main).pwr = { u.pwr with main := st, phase := .idle } := by
    rcases hpwr with hp | hp
    · exact hp
    · exact hp.trans (wakeMain_pwr_of_ne hst)
  exact ⟨_, only.trans (by rw [held])⟩

/-- Both islands are in reset, and nothing of the main island's is left. -/
theorem holdBoth_loses (s : State) : s.holdBoth.pwr.main = .reset ∧ s.holdBoth.pwr.kiln = .reset ∧ s.holdBoth.mem = [] ∧
    s.holdBoth.prot = {} ∧ s.holdBoth.ksm.slots = [] ∧ ∀ p, (s.holdBoth.port p).linked = false := by
  obtain ⟨ch, e⟩ := holdMainReset_eq s.leaveHold (st := .reset) (by nofun)
  have hmem := mainReset_mem s.leaveHold
  have hprot := mainReset_prot s.leaveHold
  have hslots := mainReset_slots s.leaveHold
  have hport := mainReset_port s.leaveHold
  unfold State.holdBoth; dsimp only; rw [e]
  generalize s.leaveHold.mainReset = u at *
  exact ⟨rfl, rfl, hmem, hprot, hslots, fun p => by cases p <;> [exact hport .a; exact hport .b]⟩

theorem State.Stands.holdBoth (h : s.Stands x) : s.holdBoth.Stands { x with phase := .idle, crazedWait := false, held := none } := by
  have held := h.leaveHold.holdMainReset (st := .reset)
  unfold State.holdBoth; dsimp only
  generalize s.leaveHold.holdMainReset .reset = u at held
  exact congrArg (fun y : Standing => { y with crazedWait := false }) held.kilnStop

/-! ## LNK pads (R82, R84) -/

theorem lnkPadsUp_eq (s : State) : s.lnkPadsUp = { s with ch := s.lnkPadsUp.ch } := by
  unfold State.lnkPadsUp; split
  · exact eachCh_ch_eq (fun _ _ => rfl) s
  · rfl

theorem lnkPadsDown_eq (s : State) : s.lnkPadsDown = { s with ch := s.lnkPadsDown.ch } := eachCh_ch_eq (fun _ _ => rfl) s

/-! ## VAO (R134, R140, R172, R906) -/

/-- The binary straps as first accepted. -/
def State.accept (s : State) (te svc door pf nr : Bool) : State :=
  { s with
    rails := { s.rails with vao := true }
    bins := { s.bins with testEn := te, svcLow := svc, doorOpen := door, pfailLow := pf, nrstLow := nr, svcIgnored := svc }
    ksm := { s.ksm with coldPending := true }
    pwr := { s.pwr with coldBegun := false } }

/-- A channel is fused retired where its bit of the fuse word is set. -/
def Chan.knowFused (y : Chan) (set : Bool) : Chan := if set then { y with fused := true } else y

theorem Chan.knowFused_fused (y : Chan) (set : Bool) : (y.knowFused set).fused = (y.fused || set) := by
  unfold Chan.knowFused; cases set <;> simp

/-- Every channel fused retired in the word `n` is known. -/
def State.knowFused (s : State) (n : Nat) : State := s.eachCh (fun c t => t.updCh c (fun y => y.knowFused (n.testBit c.val)))

/-- The AO island as it powers up: the straps accepted, every fused channel known, an open door logged. -/
def State.powerUp (s : State) (te svc door pf nr : Bool) : State :=
  let t := (s.accept te svc door pf nr).knowFused (s.fuseReads 1).or
  if door then (t.gradeWatch ⟨0x12, 0, t.tick⟩).watch 0x0206 [1] else t

/-- The part as wafer probe left it, on its first power-up. -/
def State.delivered (s : State) (p : Probe) : State := if s.blank then s.deliver p else s

theorem exec_vaoValid {te svc door pf nr : Bool} {p : Probe} (h : s.rails.vao = false) : exec (.vaoValid te svc door pf nr p) s = .next (
    let u := (s.delivered p).powerUp te svc door pf nr
    if u.railsOk && !nr then u.beginStart .cold else u) := by
  change execVaoValid te svc door pf nr p s = _
  unfold execVaoValid
  rw [if_neg (by simp [h])]
  rfl

theorem delivered_kept (s : State) (p : Probe) : (s.delivered p).rails = s.rails ∧ (s.delivered p).tick = s.tick ∧
    (s.delivered p).bins = s.bins ∧ ∀ c, (s.delivered p).chan c = s.chan c := by
  unfold State.delivered; split <;> exact ⟨rfl, rfl, rfl, fun _ => rfl⟩

theorem knowFused_eq (s : State) (n : Nat) : s.knowFused n = { s with ch := (s.knowFused n).ch } := eachCh_ch_eq (fun _ _ => rfl) s

theorem knowFused_fused (s : State) (n : Nat) (c : Fin 16) : ((s.knowFused n).chan c).fused = ((s.chan c).fused || n.testBit c.val) := by
  unfold State.knowFused
  rw [chan_eachCh_updCh (fun c y => y.knowFused (n.testBit c.val)), Chan.knowFused_fused]

theorem gradeWatch_logged (s : State) (t : Trip) (ref refTick : Nat) : Logged s (s.gradeWatch t ref refTick) := by
  unfold State.gradeWatch State.tripLog
  exact ((logEv_logged _ _ _ _ _ _ _).trans (report_logged _ _ _)).trans (spyEvent_logged _ _ _ _ _ _ _)

theorem powerUp_logged (s : State) (te svc door pf nr : Bool) :
    Logged ((s.accept te svc door pf nr).knowFused (s.fuseReads 1).or) (s.powerUp te svc door pf nr) := by
  unfold State.powerUp; dsimp only; split
  · exact (gradeWatch_logged _ _ _ _).trans (watch_logged _ _ _)
  · exact .rfl' _

theorem Logged.coldPending {s t : State} (h : Logged s t) : t.ksm.coldPending = s.ksm.coldPending := by rw [h.1]

theorem Logged.coldBegun {s t : State} (h : Logged s t) : t.pwr.coldBegun = s.pwr.coldBegun := by rw [h.1]

theorem vaoValid_powers {te svc door pf nr : Bool} {p : Probe} (h : s.rails.vao = false) :
    let w := if s.blank then s.deliver p else s
    ∃ u : State, u.rails = { s.rails with vao := true } ∧ u.ksm.coldPending = true ∧ u.pwr.coldBegun = false ∧ u.tick = s.tick ∧
      u.bins = { s.bins with testEn := te, svcLow := svc, doorOpen := door, pfailLow := pf, nrstLow := nr, svcIgnored := svc } ∧
      (∀ c, (u.chan c).fused = ((s.chan c).fused || (w.fuseReads 1).or.testBit c.val)) ∧
      exec (.vaoValid te svc door pf nr p) s = .next (if s.rails.vio && s.rails.vcore && !nr then u.beginStart .cold else u) := by
  change ∃ u : State, _ ∧ _ ∧ _ ∧ _ ∧ _ ∧ (∀ c, (u.chan c).fused = ((s.chan c).fused || ((s.delivered p).fuseReads 1).or.testBit c.val)) ∧ _
  rw [exec_vaoValid h]
  obtain ⟨hrails, htick, hbins, hchan⟩ := delivered_kept s p
  generalize s.delivered p = w at *
  have logged := powerUp_logged w te svc door pf nr
  have same := knowFused_eq (w.accept te svc door pf nr) (w.fuseReads 1).or
  have fused := knowFused_fused (w.accept te svc door pf nr) (w.fuseReads 1).or
  have rails_up : (w.powerUp te svc door pf nr).rails = { s.rails with vao := true } := by
    rw [logged.rails, same, ← hrails]; rfl
  have ok : (w.powerUp te svc door pf nr).railsOk = (s.rails.vio && s.rails.vcore) := by
    unfold State.railsOk; rw [rails_up]; simp
  refine ⟨w.powerUp te svc door pf nr, rails_up, ?_, ?_, ?_, ?_, fun c => ?_, by dsimp only; rw [ok]⟩
  · rw [logged.coldPending, same]; rfl
  · rw [logged.coldBegun, same]; rfl
  · rw [logged.tick, same, ← htick]; rfl
  · rw [logged.bins, same, ← hbins]; rfl
  · rw [logged.chan, fused, ← hchan]; rfl

theorem vaoInvalid_loses (hvao : s.rails.vao = true) : Does .vaoInvalid s (fun t =>
    t.rails = { s.rails with vao := false } ∧ t.tick = 0 ∧ t.clk = {} ∧ t.straps = {} ∧ t.bins = {} ∧ t.pwr.main = .off ∧ t.pwr.kiln = .off ∧
    (∀ c, t.chan c = {} ∧ t.lnk c = {}) ∧ t.kiln.poweredBase = s.powered ∧ t.kiln.timeSt = .unset ∧ t.met = s.met ∧ t.opt = s.opt) := by
  refine ⟨_, rfl, ?_⟩
  rw [if_pos hvao]
  have kept := (State.Stands.self s).dipLost (cause := 7) |>.leaveHold.mainReset
  unfold State.loseAo; dsimp only
  generalize (s.dipLost 7).leaveHold.mainReset = u at kept
  refine ⟨?_, rfl, rfl, rfl, rfl, rfl, rfl, fun c => ⟨Vector.getElem_replicate _, Vector.getElem_replicate _⟩, ?_, rfl, kept.met, kept.opt⟩
  · rw [kept.rails]; rfl
  · unfold State.powered; rw [kept.poweredBase, kept.tick]; rfl

/-! ## VIO and VCORE (R140–R142, R170, R195) -/

theorem vioValid_starts (hvio : s.rails.vio = false) : Does .vioValid s (fun t =>
    let u := State.lnkPadsUp { s with rails := { s.rails with vio := true } }
    t = if s.rails.vao && s.rails.vcore && !s.bins.nrstLow then u.beginStart .railReturn else u) := by
  refine ⟨_, rfl, ?_⟩
  rw [if_neg (by simp [hvio])]
  have pads := lnkPadsUp_eq { s with rails := { s.rails with vio := true } }
  generalize State.lnkPadsUp _ = u at *
  dsimp only; unfold State.railBack State.railsOk
  rw [pads]; simp

theorem vcoreValid_starts (hvcore : s.rails.vcore = false) : Does .vcoreValid s (fun t =>
    let u := { s with rails := { s.rails with vcore := true } }
    t = if s.rails.vao && s.rails.vio && !s.bins.nrstLow then u.beginStart .railReturn else u) := by
  refine ⟨_, rfl, ?_⟩
  rw [if_neg (by simp [hvcore])]
  dsimp only; unfold State.railBack State.railsOk; simp

theorem vioInvalid_holds (hvao : s.rails.vao = true) (hvio : s.rails.vio = true) : Does .vioInvalid s (fun t =>
    t.rails = { s.rails with vio := false } ∧ t.pwr.main = .reset ∧ t.pwr.kiln = .reset ∧ t.mem = [] ∧ t.prot = {} ∧ t.ksm.slots = [] ∧
    ∀ p, (t.port p).linked = false) := by
  refine ⟨_, rfl, ?_⟩
  rw [if_neg (by simp [hvio]), if_neg (by simp [hvao]), lnkPadsDown_eq]
  have lost := holdBoth_loses (s.dipLost 6)
  generalize (s.dipLost 6).holdBoth = u at *
  obtain ⟨hmain, hkiln, hmem, hprot, hslots, hport⟩ := lost
  exact ⟨rfl, hmain, hkiln, hmem, hprot, hslots, fun p => by cases p <;> [exact hport .a; exact hport .b]⟩

/-! ## The latch of a VCORE loss (R141) -/

theorem latchVcore_outlives {k : Nat} (h : s.pwr.vcoreLoss = .unordered k) : s.latchVcore = .unordered k := by
  unfold State.latchVcore; rw [h]

theorem latchVcore_ordered (h : ∀ k, s.pwr.vcoreLoss ≠ .unordered k) (hflush : s.pwr.flushDone = true) : s.latchVcore = .ordered := by
  unfold State.latchVcore; split
  · rename_i k hk; exact absurd hk (h k)
  · rw [if_pos hflush]

theorem latchVcore_unordered (h : ∀ k, s.pwr.vcoreLoss ≠ .unordered k) (hflush : s.pwr.flushDone = false)
    (hpowered : s.kilnRuns = true ∨ s.pwr.main ≠ .off) : s.latchVcore = .unordered s.tick := by
  unfold State.latchVcore; split
  · rename_i k hk; exact absurd hk (h k)
  · rw [if_neg (by simp [hflush]), if_pos (by rcases hpowered with hp | hp <;> simp [hp])]

theorem xo25Stop_xo25 (hkiln : s.pwr.kiln = .off) (hmain : s.pwr.main = .off) : s.xo25Stop.clk.xo25 = {} := by
  unfold State.xo25Stop; rw [if_pos (by simp [hkiln, hmain])]

theorem vcoreInvalid_latches (hvao : s.rails.vao = true) (hvcore : s.rails.vcore = true) : Does .vcoreInvalid s (fun t =>
    t.rails = { s.rails with vcore := false } ∧ t.pwr.main = .off ∧ t.pwr.kiln = .off ∧ t.clk.xo25 = {} ∧
    (∀ k, s.pwr.vcoreLoss = .unordered k → t.pwr.vcoreLoss = .unordered k) ∧
    ((∀ k, s.pwr.vcoreLoss ≠ .unordered k) →
      (s.pwr.flushDone = true → t.pwr.vcoreLoss = .ordered) ∧
      (s.pwr.flushDone = false → (s.kilnRuns = true ∨ s.pwr.main ≠ .off) → t.pwr.vcoreLoss = .unordered s.tick))) := by
  refine ⟨_, rfl, ?_⟩
  rw [if_neg (by simp [hvcore]), if_neg (by simp [hvao])]; dsimp only
  have kept := (State.Stands.self s).holdBoth
  generalize s.holdBoth = u at kept
  rw [xo25Stop_eq, kept.rails]
  exact ⟨rfl, rfl, rfl, xo25Stop_xo25 rfl rfl, fun k => latchVcore_outlives, fun h => ⟨latchVcore_ordered h, latchVcore_unordered h⟩⟩

/-! ## The obligation -/

/-- Settles O54, clause by clause; what a lost rail leaves alone stands by `State.Stands`. -/
theorem rails : Obligations.Rails := by
  intro te svc door pf nr x s
  exact ⟨vaoValid_powers, vioValid_starts, vcoreValid_starts, vioInvalid_holds, vcoreInvalid_latches, vaoInvalid_loses⟩

end Sys2Proof.Machine
end

section
/-! What stands, continued (spec/05_startup.md R198, R205; spec/06_lifecycle.md R213–R226): the bundle outcome, the burns and the commit that
a Kiln takes up again after its own restart leave the course of the start and the watchdog histories alone; a zeroization ends the start. -/

namespace Sys2Proof.Machine

open Sys2Proof

variable {x : Standing} {s : State}

/-! ## Updates of one part -/

theorem State.Stands.withUpl {y : Upl} (h : s.Stands x) : State.Stands x { s with upl := y } := h

theorem State.Stands.withLife {y : Life} (h : s.Stands x) : State.Stands x { s with life := y } := h

theorem State.Stands.withKsm {y : Ksm} (h : s.Stands x) : State.Stands x { s with ksm := y } := h

theorem State.Stands.withFuses {y : Fuses} (h : s.Stands x) : State.Stands x { s with fuses := y } := h

theorem State.Stands.withEngines {f : Flc} {w : Wmu} {d : Dig} {a : Aes} (h : s.Stands x) :
    State.Stands x { s with flc := f, wmu := w, dig := d, aes := a } := h

theorem State.Stands.burn {w mask : Nat} (h : s.Stands x) : (s.burn w mask).Stands x := h

theorem State.Stands.updLnk {c : Fin 16} {f : Link → Link} (h : s.Stands x) : (s.updLnk c f).Stands x := h

theorem State.Stands.setLnk {c : Fin 16} {l : Link} (h : s.Stands x) : (s.setLnk c l).Stands x := h

theorem State.Stands.updCh {c : Fin 16} {f : Chan → Chan} (h : s.Stands x) : (s.updCh c f).Stands x := h

theorem State.Stands.measure {k : Fin 24} {level event : Nat} {msg : Bytes} (h : s.Stands x) : (s.measure k level event msg).Stands x := by
  unfold State.measure; exact h.ite h

/-! ## Bundles (R433, R802, R816, R827) -/

theorem State.Stands.sendPort {p : Port} {msg : Bytes} (h : s.Stands x) : (s.sendPort p msg).Stands x := by
  unfold State.sendPort; split <;> exact h

theorem State.Stands.sendChunkAck {id : Bytes} {total status : Nat} (h : s.Stands x) : (s.sendChunkAck id total status).Stands x := by
  unfold State.sendChunkAck; exact h.sendPort.sendPort.withUpl

theorem State.Stands.setBStatus {b : BStatus} (h : s.Stands x) : (s.setBStatus b).Stands x := by
  unfold State.setBStatus; split
  · exact h.ite h.withUpl.sendChunkAck
  · exact h

theorem State.Stands.rewriteDisplaced (h : s.Stands x) : s.rewriteDisplaced.Stands x := by
  unfold State.rewriteDisplaced; split <;> exact h

theorem State.Stands.bundleOutcome {result detail : Nat} (h : s.Stands x) : (s.bundleOutcome result detail).Stands x := by
  have reported : State.Stands x (State.report (State.klog { s with
      kiln := { s.kiln with bundle := resultState result, result := result, resultDetail := detail, verifying := none } }
      0x0501 ((s.resultBody result detail).take 20)) 0x0C (s.resultBody result detail)) := State.Stands.report (State.Stands.klog h)
  unfold State.bundleOutcome; dsimp only
  exact reported.ite reported.rewriteDisplaced.withUpl.setBStatus

theorem State.Stands.resumeInstall (h : s.Stands x) : s.resumeInstall.Stands x := by
  unfold State.resumeInstall; split
  · split
    · exact h
    · exact h.bundleOutcome
  · exact h

/-! ## Applets on cores, and the field link where a contract is replaced (R52, R388, R781, R784) -/

theorem schedule_eq (s : State) (k : Fin 2) : s.schedule k = { s with app := (s.schedule k).app, core := (s.schedule k).core } := by
  unfold State.schedule State.takeOff; dsimp only; repeat' split
  all_goals rfl

theorem State.Stands.schedule {k : Fin 2} (h : s.Stands x) : (s.schedule k).Stands x := by
  rw [schedule_eq]; exact h

theorem State.Stands.reschedule (h : s.Stands x) : s.reschedule.Stands x := h.schedule.schedule

theorem State.Stands.appStore {k : Fin 2} {a : Nat} {b : Bytes} (h : s.Stands x) : (s.appStore k a b).Stands x := by
  unfold State.appStore; split <;> exact h

theorem State.Stands.updCpu {d : Fin 16} {k : Fin 2} {f : AppCore → AppCore} (h : s.Stands x) : (s.updCpu d k f).Stands x := h

theorem State.Stands.linkReturnOne {d c : Fin 16} {k : Fin 2} {code : Nat} {reply : Bytes} (h : s.Stands x) :
    (s.linkReturnOne d k c code reply).Stands x := by
  unfold State.linkReturnOne; split
  · exact h.appStore.updCpu.ite h
  · exact h

theorem State.Stands.linkReturn {c : Fin 16} {code : Code} {reply : Bytes} (h : s.Stands x) : (s.linkReturn c code reply).Stands x := by
  unfold State.linkReturn; split
  · exact h.linkReturnOne.linkReturnOne.reschedule.ite h.linkReturnOne.reschedule
  · exact h

theorem State.Stands.sendTxn {c : Fin 16} (h : s.Stands x) : (s.sendTxn c).Stands x := by
  unfold State.sendTxn; dsimp only; repeat' split
  all_goals exact h

theorem State.Stands.openTxn {c : Fin 16} {type : Nat} {p : Bytes} {applet : Bool} (h : s.Stands x) : (s.openTxn c type p applet).Stands x := by
  unfold State.openTxn; dsimp only; split
  · split
    · split
      · exact h.setLnk.sendTxn
      · exact h
    · exact h
  · split
    · split
      · exact h.setLnk.sendTxn
      · exact h
    · exact h.setLnk.sendTxn

theorem State.Stands.pumpLink {c : Fin 16} (h : s.Stands x) : (s.pumpLink c).Stands x := by
  unfold State.pumpLink; dsimp only; split
  · exact h.sendTxn
  · split
    · split
      · exact h
      · split
        · exact h
        · exact h.setLnk.openTxn
    · exact h

theorem State.Stands.closeSess {c : Fin 16} {reason : Nat} (h : s.Stands x) : (s.closeSess c reason).Stands x := by
  unfold State.closeSess; dsimp only; split
  · exact h
  · exact h.setLnk.linkReturn.pumpLink

theorem State.Stands.dropAttempt {c : Fin 16} (h : s.Stands x) : (s.dropAttempt c).Stands x := h.updLnk

theorem State.Stands.partnerRestart {c : Fin 16} (h : s.Stands x) : (s.partnerRestart c).Stands x := by
  unfold State.partnerRestart State.partnerRecord; exact h.setLnk.wlog.report

theorem State.Stands.linkRecontract {c : Fin 16} (h : s.Stands x) : (s.linkRecontract c).Stands x := by
  unfold State.linkRecontract
  exact h.updLnk.ite h.closeSess.dropAttempt.updCh.partnerRestart

/-! ## Contracts and commits (R50, R52, R219, R225–R228) -/

theorem State.Stands.recontract {c : Fin 16} (h : s.Stands x) : (s.recontract c).Stands x := by
  unfold State.recontract; exact h.linkRecontract.chOp

theorem State.Stands.ignoreContract {c : Fin 16} (h : s.Stands x) : (s.ignoreContract c).Stands x := by
  unfold State.ignoreContract; split
  · exact h.withLife.ite h.withLife.wlog
  · exact h

theorem State.Stands.settleContracts (h : s.Stands x) : s.settleContracts.Stands x := by
  unfold State.settleContracts
  refine h.eachCh fun c t ht => ?_
  dsimp only; split
  · exact ht.ignoreContract.chOp.ite ht.ignoreContract
  · exact ht.ignoreContract

theorem State.Stands.burnHash {w : Nat} {b : Bytes} (h : s.Stands x) : (s.burnHash w b).Stands x := h.foldl fun _ _ ht => ht.burn

theorem State.Stands.rotateRoot (h : s.Stands x) : s.rotateRoot.Stands x := by
  unfold State.rotateRoot; split
  · exact ((h.burnHash.burn.ite h).withLife).ite h
  · exact h
  · exact h

theorem State.Stands.keyRecord {k : Nat} (h : s.Stands x) : (s.keyRecord k).Stands x := (h.logged (drbg_logged s)).withKsm

theorem State.Stands.storeSlot {k : Nat} {y : Slot} (h : s.Stands x) : (s.storeSlot k y).Stands x := h

theorem State.Stands.newKey {k cls usage owner : Nat} {persist : Bool} {mat : Bytes} (h : s.Stands x) :
    (s.newKey k cls usage owner persist mat).Stands x := by
  unfold State.newKey; exact h.storeSlot.keyRecord.ite h.storeSlot

theorem State.Stands.freeGen {k : Nat} (h : s.Stands x) : (s.freeGen k).Stands x := by
  unfold State.freeGen; split <;> exact h

theorem State.Stands.deleteSlot {k : Nat} (h : s.Stands x) : (s.deleteSlot k).Stands x := by
  have wiped := (h.storeSlot (k := k) (y := {})).freeGen (k := k) |>.eachCh
    (f := fun c t => t.updLnk c (fun l => match l.wf with | some w => if w.slot = some k then { l with wf := none } else l | none => l))
    fun _ _ ht => ht.updLnk
  unfold State.deleteSlot State.clearWake
  exact wiped.withLife.keyRecord.ite wiped.withLife

theorem State.Stands.commissionKeys {blobs : List Bytes} (h : s.Stands x) : (s.commissionKeys blobs).Stands x := by
  unfold State.commissionKeys; dsimp only
  have deleted : State.Stands x (s.life.commSlots.foldl (fun t k => t.deleteSlot k) s) := h.foldl fun _ _ ht => ht.deleteSlot
  refine deleted.withLife.foldl fun t _ ht => ?_
  split
  · exact ht.newKey.withLife
  · exact ht

theorem advanceEntries_logged (m : Nat) (s : State) (k d : Nat) : Logged s (State.advanceEntries m s k d) := by
  induction m generalizing s d with
  | zero => exact .rfl' s
  | succ m ih => exact ((setCnt_logged s k _).trans (journalAdd_logged _ _)).trans (ih _ _)

theorem cntAdvance_logged (s : State) (k d : Nat) : Logged s (s.cntAdvance k d) :=
  (advanceEntries_logged _ _ _ _).trans (journalProgram_logged _)

theorem State.Stands.cntAdvance {k d : Nat} (h : s.Stands x) : (s.cntAdvance k d).Stands x := h.logged (cntAdvance_logged _ _ _)

theorem State.Stands.applyContent {g : Staged} {live : Bool} (h : s.Stands x) : (s.applyContent g live).Stands x := by
  unfold State.applyContent; dsimp only; split
  · exact h
  · split
    · exact h.withLife.commissionKeys.cntAdvance.rotateRoot.settleContracts.eachCh fun c t ht => ht.ite ht.recontract
    · exact h.withLife.commissionKeys.cntAdvance.rotateRoot

theorem State.Stands.applyStaged {live : Bool} (h : s.Stands x) : (s.applyStaged live).Stands x := by
  unfold State.applyStaged; split
  · split
    · exact h
    · exact h.applyContent.measure.withLife.klogRep.spyEvent.bundleOutcome
  · exact h

theorem State.Stands.completeBurn (h : s.Stands x) : s.completeBurn.Stands x := by
  unfold State.completeBurn; dsimp only; split
  · refine State.Stands.ite ?_ (State.Stands.klogRep ?_) <;> exact h.burn.withFuses.ite h.burn.withFuses.klogRep
  · exact h

/-! ## Zeroization (R266–R270) -/

theorem State.Stands.crazedEffects (h : s.Stands x) : s.crazedEffects.Stands x := by
  unfold State.crazedEffects
  exact h.gradeChange.freezeAll.releaseAll.wakeMain.withKsm.dropSessions.dropSlip.abortEngines.abandonRun.withEngines

theorem State.Stands.zeroShown (h : s.Stands x) : s.zeroShown.Stands x := h.spyEvent

theorem State.Stands.zeroZ2 {cause : SherdCause} (h : s.Stands x) : (s.zeroZ2 cause).Stands x := by
  unfold State.zeroZ2; exact State.Stands.zeroShown h

theorem State.Stands.zeroZ3 (h : s.Stands x) : s.zeroZ3.Stands x := by
  have dropped := h.dropSessions.dropSlip
  unfold State.zeroZ3; exact State.Stands.zeroShown dropped

theorem State.Stands.zeroZ4 {cause : SherdCause} (h : s.Stands x) : (s.zeroZ4 cause).Stands x := by
  unfold State.zeroZ4; exact State.Stands.zeroShown h

theorem State.Stands.zeroZ5 {cause : SherdCause} (h : s.Stands x) : (s.zeroZ5 cause).Stands x := by
  unfold State.zeroZ5; exact State.Stands.zeroShown h

theorem State.Stands.zeroZ6 {cause : SherdCause} (h : s.Stands x) : (s.zeroZ6 cause).Stands { x with phase := .done, held := none } := by
  unfold State.zeroZ6
  refine State.Stands.zeroShown (State.Stands.klog ?_)
  subst h; rfl

theorem State.Stands.channelsToSherd (h : s.Stands x) : s.channelsToSherd.Stands x := h.eachCh fun _ _ ht => ht.chOp

/-- A zeroization that its rails allow ends the start and a Hold; nothing else that stands changes. -/
theorem State.Stands.zeroize {cause : SherdCause} (h : s.Stands x) :
    (s.zeroize cause).Stands x ∨ (s.zeroize cause).Stands { x with phase := .done, held := none } := by
  have shattered : State.Stands x (State.crazedEffects { s with tamp := { s.tamp with grade := .shattered, sherdLatch := some cause } }) :=
    State.Stands.crazedEffects h
  unfold State.zeroize; dsimp only; split
  · exact .inr shattered.wakeKiln.zeroZ2.zeroZ3.zeroZ4.zeroZ5.zeroZ6.channelsToSherd
  · exact .inl shattered

/-! ## Burns (R219–R221) -/

theorem State.Stands.burnStaged (h : s.Stands x) : s.burnStaged.Stands x ∨ s.burnStaged.Stands { x with phase := .done, held := none } := by
  unfold State.burnStaged; split
  · split
    · exact .inl h
    · split
      · split
        · exact h.zeroize
        · exact .inl h
      · split
        · exact .inl h.withLife
        · exact .inl (h.burn.withLife.ite h)
  · exact .inl h

theorem State.Stands.pursue (h : s.Stands x) : (if s.wheelRuns then s.applyStaged true else s).Stands x := h.applyStaged.ite h

theorem State.Stands.compactDue (h : s.Stands x) : s.compactDue.Stands x := h.logged (compactDue_logged s)

theorem State.Stands.pendingBurns (h : s.Stands x) : s.pendingBurns.Stands x ∨ s.pendingBurns.Stands { x with phase := .done, held := none } := by
  have burned := h.completeBurn.rotateRoot.burnStaged
  unfold State.pendingBurns State.pursueStaged; dsimp only
  generalize s.completeBurn.rotateRoot.burnStaged = u at burned
  exact burned.imp (fun hu => hu.pursue.compactDue.ite hu.pursue) fun hu => hu.pursue.compactDue.ite hu.pursue

end Sys2Proof.Machine
end

section
/-! Power fail, nRST and the watchdogs (spec/04_power_clocks.md R137–R139, R165; spec/05_startup.md R196–R202). -/

namespace Sys2Proof.Machine

open Sys2Proof

variable {x : Standing} {s t : State}

/-! ## A reference event (R256–R260) -/

theorem State.Stands.withTamp {y : Tamp} (h : s.Stands x) (hy : y.refPfail = s.tamp.refPfail) : State.Stands x { s with tamp := y } := by
  subst h; unfold State.Stands State.standing; rw [← hy]

theorem State.Stands.excuse {a : Anomaly} {ref : Nat × Nat} (h : s.Stands x) : (s.excuse a ref).Stands x := by
  have graded := h.gradeWatch (t := ⟨a.cause, a.index, a.tick⟩) (ref := ref.1) (refTick := ref.2)
  unfold State.excuse; dsimp only
  generalize s.gradeWatch _ _ _ = u at graded
  exact State.Stands.ite (State.Stands.gradeWatch (graded.withTamp rfl)) (graded.withTamp rfl)

/-- The event is noted at its tick, whatever it excuses. -/
theorem State.Stands.reference (h : s.Stands x) : (s.reference .pfail).Stands { x with refPfail := some s.tick } := by
  have noted : State.Stands { x with refPfail := some s.tick } { s with tamp :=
      { s.tamp with refPfail := some s.tick, holds := s.tamp.holds.filter (fun a => !decide (s.tick < a.tick + 66)) } } := by
    subst h; rfl
  have excused := noted.foldl (f := fun u a => u.excuse a (2, s.tick)) (l := s.tamp.holds.filter (fun a => decide (s.tick < a.tick + 66)))
    fun _ _ ht => ht.excuse
  unfold State.reference; dsimp only
  generalize List.foldl _ _ _ = u at excused
  exact excused.ite (State.Stands.ite (excused.withTamp rfl) excused.endHold)

/-! ## What the conditions of a command rest on -/

theorem railsOk_congr (h : t.rails = s.rails) : t.railsOk = s.railsOk := by unfold State.railsOk; rw [h]

theorem starting_congr (h : t.pwr.phase = s.pwr.phase) : t.starting = s.starting := by unfold State.starting; rw [h]

theorem startWaits_congr (h : t.pwr.phase = s.pwr.phase) : t.startWaits = s.startWaits := by unfold State.startWaits; rw [h]

/-! ## The flush ends with the islands Off (R137, R138) -/

/-- The main island goes Off unless it is in Hold. -/
def State.offUnlessHeld (s : State) : State := match s.pwr.main with | .hold _ => s | _ => s.holdMainReset .off

theorem offUnlessHeld_held {r : HoldReason} (h : s.pwr.main = .hold r) : s.offUnlessHeld = s := by
  unfold State.offUnlessHeld; rw [h]

theorem offUnlessHeld_free (h : s.pwr.main.held = none) : s.offUnlessHeld = s.holdMainReset .off := by
  unfold State.offUnlessHeld; split
  · rename_i r hr; rw [hr] at h; simp [MainSt.held] at h
  · rfl

theorem holdMainReset_main (s : State) {st : MainSt} (hst : st ≠ .retention) : (s.holdMainReset st).pwr.main = st := by
  obtain ⟨ch, e⟩ := holdMainReset_eq s hst
  rw [e]

theorem State.Stands.offUnlessHeld (h : s.Stands x) : ∃ p, s.offUnlessHeld.Stands { x with phase := p } := by
  cases hm : s.pwr.main.held with
  | none =>
    have off := h.holdMainReset (st := .off)
    rw [offUnlessHeld_free hm]
    refine ⟨.idle, off.trans ?_⟩
    rw [← h.held, hm]; rfl
  | some r => rw [offUnlessHeld_held (MainSt.held_eq_some.mp hm)]; exact ⟨x.phase, h⟩

/-- The flush up to the switch-off: the pages or the log alone, the aborts, and the entry that tells of it. -/
def State.flushed (s : State) : State :=
  let live := s.mainUp && !s.starting
  let s1 := s.wakeMain.wakeKiln
  let s2 := if live then s1.flushPages else s1.flushLog
  let s3 := if live then s2.abortEngines allEngines .abortReset else s2
  (s3.tick1.logEv 0x0104 0 0 (beBytes 1 0 ++ beBytes 2 (Config.freeNat s3.freeCount)) false).flushLog

theorem State.Stands.flushed (h : s.Stands x) : s.flushed.Stands x := by
  have aborted : State.Stands x (if s.mainUp && !s.starting
      then (if s.mainUp && !s.starting then s.wakeMain.wakeKiln.flushPages else s.wakeMain.wakeKiln.flushLog).abortEngines allEngines .abortReset
      else if s.mainUp && !s.starting then s.wakeMain.wakeKiln.flushPages else s.wakeMain.wakeKiln.flushLog) :=
    State.Stands.ite (State.Stands.abortEngines (h.wakeMain.wakeKiln.flushPages.ite h.wakeMain.wakeKiln.flushLog))
      (h.wakeMain.wakeKiln.flushPages.ite h.wakeMain.wakeKiln.flushLog)
  unfold State.flushed; dsimp only
  exact aborted.tick1.logEv.flushLog

theorem powerFailFlush_eq (s : State) : s.powerFailFlush =
    State.xo25Stop { s.flushed.offUnlessHeld.kilnStop .off with pwr := { (s.flushed.offUnlessHeld.kilnStop .off).pwr with flushDone := true } } := rfl

theorem State.Stands.powerFailFlush (h : s.Stands x) : ∃ p, s.powerFailFlush.Stands { x with flushDone := true, phase := p } := by
  obtain ⟨p, off⟩ := h.flushed.offUnlessHeld
  rw [powerFailFlush_eq]
  generalize s.flushed.offUnlessHeld = u at off
  refine ⟨p, State.Stands.xo25Stop ?_⟩
  exact congrArg (fun y : Standing => { y with flushDone := true }) (off.kilnStop (st := .off))

theorem powerFailFlush_off (s : State) : s.powerFailFlush.pwr.flushDone = true ∧ s.powerFailFlush.pwr.kiln = .off ∧
    (s.pwr.main.held = none → s.powerFailFlush.pwr.main = .off) := by
  rw [powerFailFlush_eq, xo25Stop_eq]
  refine ⟨rfl, rfl, fun hm => ?_⟩
  have free : s.flushed.pwr.main.held = none := (State.Stands.self s).flushed.held.trans hm
  change s.flushed.offUnlessHeld.pwr.main = .off
  rw [offUnlessHeld_free free]
  exact holdMainReset_main _ nofun

/-! ## A Kiln that is switched off stays so (R137, R161, R850) -/

/-- A power-fail switch-off holds the Kiln off: no command wakes it. -/
def State.SwitchedOff (s : State) : Prop := s.pwr.flushDone = true ∧ s.pwr.kiln = .off

theorem State.SwitchedOff.wakeKiln (h : s.SwitchedOff) : s.wakeKiln = s := by
  obtain ⟨hflush, hkiln⟩ := h
  unfold State.wakeKiln
  rw [if_neg (by simp [State.kilnReady, State.kilnRuns, hflush, hkiln])]

theorem State.SwitchedOff.spySend {n : Nat} {p : Bytes} {l : Bool} (h : s.SwitchedOff) : (s.spySend n p l).SwitchedOff := by
  unfold State.spySend; dsimp only; rw [h.wakeKiln]
  repeat' split
  all_goals exact h

theorem State.SwitchedOff.foldl {α : Type} {f : State → α → State} {l : List α} (h : s.SwitchedOff)
    (hf : ∀ t a, t.SwitchedOff → (f t a).SwitchedOff) : (l.foldl f s).SwitchedOff :=
  List.foldlRecOn (motive := State.SwitchedOff) _ _ h fun t ht a _ => hf t a ht

theorem State.SwitchedOff.ringsReset (h : s.SwitchedOff) : s.ringsReset.SwitchedOff := by
  have off : State.SwitchedOff { s with eng := resetEngines } := h
  unfold State.ringsReset
  refine off.foldl fun t e ht => ht.foldl fun u k hu => ?_
  split
  · exact hu
  · exact hu.spySend

theorem State.SwitchedOff.abandonRun (h : s.SwitchedOff) : s.abandonRun.SwitchedOff := by rw [abandonRun_eq]; exact h

theorem State.SwitchedOff.stopFlash (h : s.SwitchedOff) : s.stopFlash.SwitchedOff := by rw [stopFlash_eq]; exact h

theorem State.SwitchedOff.dropSessions (h : s.SwitchedOff) : s.dropSessions.SwitchedOff := by rw [dropSessions_eq]; exact ⟨h.1, h.2⟩

theorem State.SwitchedOff.mainReset (h : s.SwitchedOff) : s.mainReset.SwitchedOff := by
  have dropped := h.ringsReset.abandonRun.stopFlash.dropSessions
  unfold State.mainReset
  generalize s.ringsReset.abandonRun.stopFlash.dropSessions = u at dropped
  exact dropped

theorem State.SwitchedOff.holdMainReset {st : MainSt} (hst : st ≠ .retention) (h : s.SwitchedOff) : (s.holdMainReset st).SwitchedOff := by
  obtain ⟨ch, e⟩ := holdMainReset_eq s hst
  have kept := h.mainReset
  rw [e]
  generalize s.mainReset = u at kept
  exact kept

/-- Crazed during a start abandons it and leaves the Kiln off, and a main island that is Off or in Hold. -/
theorem State.SwitchedOff.crazedStart (h : s.SwitchedOff) : s.crazedStart.SwitchedOff := by
  have off := h.holdMainReset (st := .off) nofun
  unfold State.crazedStart; dsimp only; split
  · generalize s.holdMainReset .off = u at off
    exact ⟨off.1, off.2⟩
  · exact h

theorem crazedStart_main (h : s.pwr.main = .off) : s.crazedStart.pwr.main = .off := by
  have off := holdMainReset_main s (st := .off) nofun
  unfold State.crazedStart; dsimp only; split
  · generalize s.holdMainReset .off = u at off
    exact off
  · exact h

theorem State.Stands.startAbandoned (h : s.Stands x) : State.Stands { x with phase := .c, crazedWait := true }
    { s with pwr := { s.pwr with phase := .c, crazedWait := true } } := by
  subst h; rfl

theorem State.Stands.crazedStart (h : s.Stands x) : ∃ p w r, s.crazedStart.Stands { x with phase := p, crazedWait := w, held := r } := by
  have off := h.holdMainReset (st := .off)
  unfold State.crazedStart; dsimp only; split
  · generalize s.holdMainReset .off = u at off
    exact ⟨.c, true, none, off.startAbandoned⟩
  · exact ⟨_, _, _, h⟩

/-- An applet put back on its core changes neither island. -/
theorem reschedule_pwr (s : State) : s.reschedule.pwr = s.pwr := by
  unfold State.reschedule
  rw [schedule_eq, schedule_eq s]

theorem State.Stands.settleGrade (h : s.Stands x) : ∃ p w r, s.settleGrade.Stands { x with phase := p, crazedWait := w, held := r } := by
  obtain ⟨p, w, r, started⟩ := h.crazedStart
  exact ⟨p, w, r, started.reschedule⟩

theorem State.SwitchedOff.settleGrade (h : s.SwitchedOff) : s.settleGrade.SwitchedOff := by
  unfold State.settleGrade State.SwitchedOff
  rw [reschedule_pwr]; exact h.crazedStart

theorem settleGrade_main (h : s.pwr.main = .off) : s.settleGrade.pwr.main = .off := by
  unfold State.settleGrade
  rw [reschedule_pwr]; exact crazedStart_main h

/-! ## PFAIL (R137, R139, R165, R202) -/

/-- The fall is taken: a reference event, under which guarded outputs freeze. -/
def State.warned (s : State) : State :=
  (State.reference { s with bins := { s.bins with pfailLow := true, pfailHighSince := none } } .pfail).freezeAll .pfail

theorem exec_pfailFall (hvao : s.rails.vao = true) (hlow : s.bins.pfailLow = false) : exec .pfailFall s = .next (
    if !s.warned.railsOk || s.warned.bins.nrstLow || s.warned.pwr.flushDone || (s.warned.startWaits && !s.warned.pwr.crazedWait) then s.warned
    else s.warned.powerFailFlush.settleGrade) := by
  refine congrArg Host.Outcome.next ?_
  rw [if_neg (by simp [hvao, hlow])]; unfold State.warned; dsimp only

theorem warned_stands (s : State) :
    s.warned.Stands { s.standing with bins := { s.bins with pfailLow := true, pfailHighSince := none }, refPfail := some s.tick } := by
  have low : State.Stands { s.standing with bins := { s.bins with pfailLow := true, pfailHighSince := none } }
      { s with bins := { s.bins with pfailLow := true, pfailHighSince := none } } := rfl
  exact low.reference.freezeAll

/-- What a flush leaves, whatever the start or the Hold it found: PFAIL is low and its fall a reference event. -/
theorem warned_flush_stands (s : State) : s.warned.powerFailFlush.settleGrade.bins.pfailLow = true ∧
    s.warned.powerFailFlush.settleGrade.tamp.refPfail = some s.tick := by
  obtain ⟨p, flushed⟩ := (warned_stands s).powerFailFlush
  obtain ⟨q, w, r, settled⟩ := flushed.settleGrade
  exact ⟨by rw [settled.bins], settled.refPfail⟩

theorem powerFailFlush_settled (hmain : s.pwr.main.held = none) : s.powerFailFlush.settleGrade.pwr.main = .off := by
  obtain ⟨-, -, hoff⟩ := powerFailFlush_off s
  exact settleGrade_main (hoff hmain)

theorem pfailFall_flushes (hvao : s.rails.vao = true) (hlow : s.bins.pfailLow = false) : Does .pfailFall s (fun t =>
    t.bins.pfailLow = true ∧ t.tamp.refPfail = some s.tick ∧
    (s.railsOk = true → s.bins.nrstLow = false → s.pwr.flushDone = false → (s.startWaits = false ∨ s.pwr.crazedWait = true) →
      t.pwr.flushDone = true ∧ t.pwr.kiln = .off ∧ ((∀ r, s.pwr.main ≠ .hold r) → t.pwr.main = .off))) := by
  have st := warned_stands s
  have hnrst : s.warned.bins.nrstLow = s.bins.nrstLow := by rw [st.bins]
  have hlow' : s.warned.bins.pfailLow = true := by rw [st.bins]
  refine ⟨_, exec_pfailFall hvao hlow, ?_⟩
  rw [railsOk_congr (s := s) st.rails, startWaits_congr (s := s) st.phase, hnrst, st.flushDone, st.crazedWait]
  split
  · rename_i stopped
    refine ⟨hlow', st.refPfail, fun hr hn hf hw => ?_⟩
    change (!s.railsOk || s.bins.nrstLow || s.pwr.flushDone || s.startWaits && !s.pwr.crazedWait) = true at stopped
    rcases hw with hw | hw <;> simp [hr, hn, hf, hw] at stopped
  · obtain ⟨hlow', href⟩ := warned_flush_stands s
    obtain ⟨hdone, hoff, -⟩ := powerFailFlush_off s.warned
    obtain ⟨hflush, hkiln⟩ := State.SwitchedOff.settleGrade ⟨hdone, hoff⟩
    exact ⟨hlow', href, fun _ _ _ _ => ⟨hflush, hkiln, fun hm => powerFailFlush_settled (st.held.trans (MainSt.held_eq_none.mpr hm))⟩⟩

theorem pfailRise_waits (hvao : s.rails.vao = true) (hlow : s.bins.pfailLow = true) : Does .pfailRise s (fun t =>
    t.bins = { s.bins with pfailLow := false, pfailHighSince := some s.tick, pfailFrom := s.tick } ∧ t.tamp.refPfail = some s.tick) := by
  have high : State.Stands { s.standing with bins := { s.bins with pfailLow := false, pfailHighSince := some s.tick, pfailFrom := s.tick } }
      { s with bins := { s.bins with pfailLow := false, pfailHighSince := some s.tick, pfailFrom := s.tick } } := rfl
  have rose := high.reference.releaseAll (k := .pfail)
  refine ⟨_, rfl, ?_⟩
  rw [if_neg (by simp [hvao, hlow])]; dsimp only
  generalize State.releaseAll _ _ = u at rose ⊢
  exact ⟨rose.bins, rose.refPfail⟩

end Sys2Proof.Machine
end

section
/-! The restart after a power failure, nRST and the watchdogs (spec/04_power_clocks.md R139, R165; spec/05_startup.md R195–R202, R205). -/

namespace Sys2Proof.Machine

open Sys2Proof

variable {x : Standing} {s t : State}

/-! ## The wait of 3277 ticks after PFAIL rose (R139, R202) -/

theorem State.Stands.advanceTo {m : Nat} (h : s.Stands x) : (s.advanceTo m).Stands { x with tick := max s.tick (min m (2 ^ 48 - 1)) } := by
  subst h; rfl

theorem State.Stands.withBins {y : Bins} (h : s.Stands x) : State.Stands { x with bins := y } { s with bins := y } := by
  subst h; rfl

theorem advanceTo_closeWindows_pwr (h : s.pwr.main ≠ .retention) (m : Nat) : (s.advanceTo m).closeWindows.pwr = s.pwr := by
  rcases (onlyChans_closeWindows (s.advanceTo m)).2 with hp | hp
  · exact hp
  · exact hp.trans (wakeMain_pwr_of_ne h)

/-- PFAIL has stayed high for its 3277 ticks. -/
def State.waitedOut (s : State) (k : Nat) : State :=
  let w := (s.advanceTo (k + 3277)).closeWindows
  { w with bins := { w.bins with pfailHighSince := none } }

theorem exec_powerFailRestart {k : Nat} (hvao : s.rails.vao = true) (hk : s.bins.pfailHighSince = some k) (hsrc : s.clk.tickSrc ≠ none) :
    exec .powerFailRestart s = .next (s.waitedOut k).powerFailRestart := by
  refine congrArg Host.Outcome.next ?_
  rw [hk]; dsimp only
  rw [if_pos (by simp [hvao, Option.isSome_iff_ne_none.mpr hsrc])]; unfold State.waitedOut; dsimp only

theorem waitedOut_stands (s : State) (k : Nat) : (s.waitedOut k).Stands
    { s.standing with tick := max s.tick (min (k + 3277) (2 ^ 48 - 1)), bins := { s.bins with pfailHighSince := none } } := by
  have waited := ((State.Stands.self s).advanceTo (m := k + 3277)).closeWindows
  unfold State.waitedOut; dsimp only
  generalize (s.advanceTo (k + 3277)).closeWindows = w at waited
  rw [waited.bins]
  exact waited.withBins

theorem waitedOut_pwr (h : s.pwr.main ≠ .retention) (k : Nat) : (s.waitedOut k).pwr = s.pwr := by
  unfold State.waitedOut; dsimp only; exact advanceTo_closeWindows_pwr h _

theorem powerFailRestart_waits (h : s.railsOk = false ∨ s.bins.nrstLow = true) : s.powerFailRestart = s := by
  unfold State.powerFailRestart
  rw [if_pos (by rcases h with h | h <;> simp [h])]

theorem powerFailRestart_starting (hr : s.railsOk = true) (hn : s.bins.nrstLow = false) (hs : s.starting = true) :
    s.powerFailRestart = s.runStart := by
  unfold State.powerFailRestart
  rw [if_neg (by simp [hr, hn]), if_pos hs]

theorem powerFailRestart_off (hr : s.railsOk = true) (hn : s.bins.nrstLow = false) (hs : s.starting = false) (hf : s.pwr.flushDone = true)
    (hm : s.pwr.main = .off) (hreason : s.pwr.holdReason ≠ some .fuseMarginal) : s.powerFailRestart =
    (s.tick1.klog 0x0104 (beBytes 1 1 ++ beBytes 2 (Config.freeNat s.freeCount))).beginStart .powerFail := by
  unfold State.powerFailRestart
  rw [if_neg (by simp [hr, hn]), if_neg (by simp [hs]), if_neg (by simp [hf]), hm]
  split
  · contradiction
  · contradiction
  · rfl

theorem powerFailRestart_held {r : HoldReason} (hr : s.railsOk = true) (hn : s.bins.nrstLow = false) (hs : s.starting = false)
    (hf : s.pwr.flushDone = true) (hm : s.pwr.main = .hold r) : s.powerFailRestart = s.kilnReturns (if r = .kilnLoop then .rom else .running) := by
  unfold State.powerFailRestart
  rw [if_neg (by simp [hr, hn]), if_neg (by simp [hs]), if_neg (by simp [hf]), hm]
  simp only [beq_iff_eq]

/-- Entries that waited and the one that tells of the return wake no island that runs or is held. -/
theorem returnLogged_pwr {detail : Bytes} (hm : s.pwr.main ≠ .retention) (hk : s.pwr.kiln ≠ .off) :
    (s.drainLog.tick1.klog 0x0104 detail).pwr.main = s.pwr.main ∧ (s.drainLog.tick1.klog 0x0104 detail).pwr.flushDone = s.pwr.flushDone ∧
    (s.drainLog.tick1.klog 0x0104 detail).pwr.kiln = s.pwr.kiln := by
  have logged := ((drainLog_logged s).trans (tick1_logged _)).trans (klog_logged _ 0x0104 detail)
  exact ⟨logged.2.1.resolve_right fun h => hm h.1, ((State.Stands.self s).logged logged).flushDone, logged.2.2.resolve_right fun h => hk h.1⟩

theorem kilnReturns_kiln {st : KilnSt} (hm : s.pwr.main ≠ .retention) (hst : st ≠ .off) :
    (s.kilnReturns st).pwr.main = s.pwr.main ∧ (s.kilnReturns st).pwr.flushDone = false ∧ (s.kilnReturns st).pwr.kiln = st :=
  returnLogged_pwr (s := { s.resolveFuses with pwr := { s.pwr with kiln := st, flushDone := false } }) hm hst

theorem powerFailRestart_does {k : Nat} (hvao : s.rails.vao = true) (hk : s.bins.pfailHighSince = some k) (hsrc : s.clk.tickSrc ≠ none) :
    let T := max s.tick (min (k + 3277) (2 ^ 48 - 1))
    ((s.railsOk = false ∨ s.bins.nrstLow = true) → Does .powerFailRestart s (fun t => t.bins.pfailHighSince = none ∧ t.tick = T)) ∧
    (s.railsOk = true → s.bins.nrstLow = false →
      (s.starting = true → ∃ u : State, exec .powerFailRestart s = .next u.runStart ∧ u.bins.pfailHighSince = none ∧ u.tick = T) ∧
      (s.starting = false → s.pwr.flushDone = true → s.pwr.main = .off → s.pwr.holdReason ≠ some .fuseMarginal →
        ∃ u : State, exec .powerFailRestart s = .next (u.beginStart .powerFail) ∧ u.bins.pfailHighSince = none ∧ u.tick = T) ∧
      (∀ r, s.starting = false → s.pwr.flushDone = true → s.pwr.main = .hold r → Does .powerFailRestart s (fun t =>
        t.pwr.main = .hold r ∧ t.pwr.flushDone = false ∧ t.pwr.kiln = if r = .kilnLoop then .rom else .running))) := by
  have e := exec_powerFailRestart hvao hk hsrc
  have st := waitedOut_stands s k
  have hpwr := waitedOut_pwr (s := s) (k := k)
  generalize s.waitedOut k = w at e st hpwr
  have hrails : w.railsOk = s.railsOk := railsOk_congr st.rails
  have hstart : w.starting = s.starting := starting_congr st.phase
  have hnrst : w.bins.nrstLow = s.bins.nrstLow := by rw [st.bins]
  have hwait : w.bins.pfailHighSince = none := by rw [st.bins]
  rw [← hrails, ← hstart, ← hnrst]
  refine ⟨fun h => ⟨w, by rw [e, powerFailRestart_waits h], hwait, st.tick⟩,
    fun hr hn => ⟨fun hs => ?_, fun hs hf hm hreason => ?_, fun r hs hf hm => ?_⟩⟩
  · exact ⟨w, by rw [e, powerFailRestart_starting hr hn hs], hwait, st.tick⟩
  · have kept := hpwr (by simp [hm])
    rw [← kept] at hf hm hreason
    have logged := st.tick1.klog (code := 0x0104) (detail := beBytes 1 1 ++ beBytes 2 (Config.freeNat w.freeCount))
    refine ⟨_, e.trans (congrArg Host.Outcome.next (powerFailRestart_off hr hn hs hf hm hreason)), ?_, logged.tick⟩
    rw [logged.bins]
  · have kept := hpwr (by simp [hm])
    rw [← kept] at hf hm
    obtain ⟨hmain, hflush, hkiln⟩ := kilnReturns_kiln (s := w) (st := if r = .kilnLoop then .rom else .running) (by simp [hm]) (by split <;> nofun)
    exact ⟨_, e.trans (congrArg Host.Outcome.next (powerFailRestart_held hr hn hs hf hm)), hmain.trans hm, hflush, hkiln⟩

/-! ## Glitches and nRST (R165, R196) -/

theorem pfailGlitch_counts (hvao : s.rails.vao = true) : Does .pfailGlitch s (fun t =>
    t = { s with bins := { s.bins with pfailGlitch := min 65535 (s.bins.pfailGlitch + 1) } }) := ⟨_, rfl, by rw [if_pos hvao]; rfl⟩

theorem nrstGlitch_counts (hvao : s.rails.vao = true) : Does .nrstGlitch s (fun t =>
    t = { s with bins := { s.bins with nrstGlitch := min 65535 (s.bins.nrstGlitch + 1) } }) := ⟨_, rfl, by rw [if_pos hvao]; rfl⟩

theorem nrstLow_holds (hvao : s.rails.vao = true) (hhigh : s.bins.nrstLow = false) : Does .nrstLow s (fun t =>
    t.bins = { s.bins with nrstLow := true } ∧ (s.railsOk = true → t.pwr.main = .reset ∧ t.pwr.kiln = .reset) ∧
    (s.railsOk = false → t = { s with bins := { s.bins with nrstLow := true } })) := by
  refine ⟨_, rfl, ?_⟩
  rw [if_neg (by simp [hvao, hhigh])]; dsimp only
  have low := (State.Stands.self s).withBins (y := { s.bins with nrstLow := true })
  have same : State.railsOk { s with bins := { s.bins with nrstLow := true } } = s.railsOk := rfl
  rw [same]
  generalize ({ s with bins := { s.bins with nrstLow := true } } : State) = u at low
  split
  · rename_i hr
    obtain ⟨hmain, hkiln, -⟩ := holdBoth_loses u
    exact ⟨low.holdBoth.bins, fun _ => ⟨hmain, hkiln⟩, fun h => by simp [hr] at h⟩
  · rename_i hr
    exact ⟨low.bins, fun h => absurd h hr, fun _ => rfl⟩

theorem nrstHigh_starts (hvao : s.rails.vao = true) (hlow : s.bins.nrstLow = true) : Does .nrstHigh s (fun t =>
    let u := { s with bins := { s.bins with nrstLow := false } }
    t = if s.railsOk then u.beginStart .external else u) := by
  refine ⟨_, rfl, ?_⟩
  rw [if_neg (by simp [hvao, hlow])]; dsimp only
  rfl

/-! ## What a reset of the main island leaves of the rings (R195) -/

theorem ringsReset_logged (s : State) : Logged { s with eng := resetEngines } s.ringsReset := by
  unfold State.ringsReset
  refine foldl_logged _ (fun t e => foldl_logged _ (fun u k => ?_) _ _) _ _
  split
  · exact .rfl' u
  · exact spySend_logged _ _ _ _

theorem ringsReset_eng (s : State) : s.ringsReset.eng = resetEngines := by rw [(ringsReset_logged s).1]

theorem abandonRun_eng (s : State) : s.abandonRun.eng = s.eng := by rw [abandonRun_eq]

theorem stopFlash_eng (s : State) : s.stopFlash.eng = s.eng := by rw [stopFlash_eq]

theorem dropSessions_eng (s : State) : s.dropSessions.eng = s.eng := by rw [dropSessions_eq]

theorem mainReset_eng (s : State) : s.mainReset.eng = resetEngines := by
  have dropped : s.ringsReset.abandonRun.stopFlash.dropSessions.eng = resetEngines := by
    rw [dropSessions_eng, stopFlash_eng, abandonRun_eng, ringsReset_eng]
  unfold State.mainReset
  generalize s.ringsReset.abandonRun.stopFlash.dropSessions = u at dropped
  exact dropped

theorem holdMainReset_eng (s : State) {st : MainSt} (hst : st ≠ .retention) : (s.holdMainReset st).eng = resetEngines := by
  obtain ⟨ch, e⟩ := holdMainReset_eq s hst
  have off := mainReset_eng s
  rw [e]
  generalize s.mainReset = u at off
  exact off

/-! ## The main watchdog (R197, R199) -/

/-- The expiry is counted and every pending descriptor aborted. -/
def State.mainAborted (s : State) : State :=
  let hist := wdogHistory s.tick s.pwr.mainWdogAt
  (State.watch { s with pwr := { s.pwr with mainWdogAt := hist } } 0x0103 (beBytes 1 0 ++ beBytes 1 (min 255 hist.length))).abortEngines
    allEngines .abortReset

theorem mainExpiry_eq (s : State) : s.mainExpiry = if 4 ≤ (wdogHistory s.tick s.pwr.mainWdogAt).length then s.mainAborted.enterHold .watchdogLoop
    else (s.mainAborted.holdMainReset .reset).beginStart .mainWdog := rfl

theorem mainAborted_stands (s : State) : s.mainAborted.Stands { s.standing with mainWdogAt := wdogHistory s.tick s.pwr.mainWdogAt } := by
  have counted : State.Stands { s.standing with mainWdogAt := wdogHistory s.tick s.pwr.mainWdogAt }
      { s with pwr := { s.pwr with mainWdogAt := wdogHistory s.tick s.pwr.mainWdogAt } } := rfl
  exact counted.watch.abortEngines

theorem mainExpiry_restarts {l : List Nat} (hl : wdogHistory s.tick s.pwr.mainWdogAt = l) (h : l.length < 4) :
    ∃ u : State, s.mainExpiry = u.beginStart .mainWdog ∧ u.pwr.main = .reset ∧ u.pwr.mainWdogAt = l ∧ u.eng = resetEngines := by
  have aborted := mainAborted_stands s
  rw [mainExpiry_eq, hl, if_neg (by omega)]
  rw [hl] at aborted
  generalize s.mainAborted = u at aborted
  exact ⟨u.holdMainReset .reset, rfl, holdMainReset_main u nofun, aborted.holdMainReset.mainWdogAt, holdMainReset_eng u nofun⟩

theorem mainExpiry_holds {l : List Nat} (hl : wdogHistory s.tick s.pwr.mainWdogAt = l) (h : 4 ≤ l.length) :
    s.mainExpiry.pwr.main = .hold .watchdogLoop ∧ s.mainExpiry.pwr.mainWdogAt = l := by
  have aborted := mainAborted_stands s
  rw [mainExpiry_eq, hl, if_pos h]
  rw [hl] at aborted
  generalize s.mainAborted = u at aborted
  have held := aborted.enterHold (r := .watchdogLoop)
  exact ⟨MainSt.held_eq_some.mp held.held, held.mainWdogAt⟩

theorem exec_mainWatchdogExpiry {k : Nat} (hk : s.pwr.mainWdogFrom = some k) (hruns : s.mainRuns = true) :
    exec .mainWatchdogExpiry s = .next ((s.advanceTo (k + s.wdogPeriod)).closeWindows).mainExpiry := by
  refine congrArg Host.Outcome.next ?_
  rw [hk]; dsimp only
  rw [if_pos hruns]

theorem mainWatchdogExpiry_does {k : Nat} (hk : s.pwr.mainWdogFrom = some k) (hruns : s.mainRuns = true) :
    let T := max s.tick (min (k + s.wdogPeriod) (2 ^ 48 - 1))
    let l := s.pwr.mainWdogAt.filter (fun j => decide (T < j + 19660800))
    (l.length < 3 → ∃ u : State, exec .mainWatchdogExpiry s = .next (u.beginStart .mainWdog) ∧ u.pwr.main = .reset ∧ u.pwr.mainWdogAt = T :: l ∧
      u.eng = resetEngines) ∧
    (3 ≤ l.length → Does .mainWatchdogExpiry s (fun t => t.pwr.main = .hold .watchdogLoop ∧ t.pwr.mainWdogAt = T :: l)) := by
  intro T l
  have e := exec_mainWatchdogExpiry hk hruns
  have due := ((State.Stands.self s).advanceTo (m := k + s.wdogPeriod)).closeWindows
  generalize (s.advanceTo (k + s.wdogPeriod)).closeWindows = w at e due
  have hist : wdogHistory w.tick w.pwr.mainWdogAt = T :: l := by rw [due.tick, due.mainWdogAt]; rfl
  refine ⟨fun h => ?_, fun h => ?_⟩
  · obtain ⟨u, hu, hstart⟩ := mainExpiry_restarts hist (by simp only [List.length_cons]; omega)
    exact ⟨u, e.trans (congrArg Host.Outcome.next hu), hstart⟩
  · exact ⟨_, e, mainExpiry_holds hist (by simp only [List.length_cons]; omega)⟩

/-! ## The Kiln watchdog (R198, R199, R205) -/

/-- The expiry is counted and the Kiln ring aborted. -/
def State.kilnAborted (s : State) : State :=
  let hist := wdogHistory s.tick s.pwr.kilnWdogAt
  (State.abortEngine { s with pwr := { s.pwr with kilnWdogAt := hist } } .kiln .abortReset).watch 0x0103
    (beBytes 1 1 ++ beBytes 1 (min 255 hist.length))

theorem kilnAborted_stands (s : State) : s.kilnAborted.Stands { s.standing with kilnWdogAt := wdogHistory s.tick s.pwr.kilnWdogAt } := by
  have counted : State.Stands { s.standing with kilnWdogAt := wdogHistory s.tick s.pwr.kilnWdogAt }
      { s with pwr := { s.pwr with kilnWdogAt := wdogHistory s.tick s.pwr.kilnWdogAt } } := rfl
  exact counted.abortEngine.watch

theorem exec_kilnWatchdogExpiry (hruns : s.kilnRuns = true) (hsrc : s.clk.tickSrc ≠ none) : exec .kilnWatchdogExpiry s = .next (
    if 4 ≤ (wdogHistory s.tick s.pwr.kilnWdogAt).length then (s.kilnAborted.enterHold .kilnLoop).kilnStop .rom else s.kilnAborted.kilnRestart) := by
  refine congrArg Host.Outcome.next ?_
  rw [if_neg (by simpa [hruns] using hsrc)]; unfold State.kilnAborted; dsimp only

/-- A Kiln that stops during a start before phase C has its phase B again. -/
theorem kilnRestart_starting (h : s.startWaits = true) : ∃ u : State, s.kilnRestart = u.runStart ∧ u.pwr.phase = .b ∧
    u.pwr.kilnWdogAt = s.pwr.kilnWdogAt := by
  refine ⟨State.toPhase { s.kilnStop .running with spy := { s.spy with fill := 0 } } .b, ?_, rfl, rfl⟩
  unfold State.kilnRestart; dsimp only
  rw [if_pos h]

theorem State.Stands.kilnCause {y : SelfT} (h : s.Stands x) : State.Stands { x with cause := .kilnWdog }
    { s with selft := y, pwr := { s.pwr with cause := .kilnWdog } } := by
  subst h; rfl

theorem State.Stands.quiet (h : s.Stands x) : s.quiet.Stands x := h.withTamp rfl

/-- What the Kiln takes up again after phase C may be a zeroization; its cause and the watchdog's history stand either way. -/
theorem kilnRestart_running (h : s.startWaits = false) : s.kilnRestart.pwr.kilnWdogAt = s.pwr.kilnWdogAt ∧ s.kilnRestart.pwr.cause = .kilnWdog := by
  have stopped : State.Stands s.standing { s.kilnStop .running with spy := { s.spy with fill := 0 } } := rfl
  unfold State.kilnRestart; dsimp only
  rw [if_neg (by simp [h])]
  generalize ({ s.kilnStop .running with spy := { s.spy with fill := 0 } } : State) = u at stopped
  have abandoned := stopped.abandonRun
  generalize u.abandonRun = v at abandoned
  have caused := fun y => abandoned.kilnCause (y := y)
  rcases State.Stands.pendingBurns (State.Stands.resumeInstall (State.Stands.drainLog (State.Stands.ite (State.Stands.quiet (caused _)) (caused _))))
    with taken | taken
  · exact ⟨taken.kilnWdogAt, taken.cause⟩
  · exact ⟨taken.kilnWdogAt, taken.cause⟩

theorem kilnWatchdogExpiry_does (hruns : s.kilnRuns = true) (hsrc : s.clk.tickSrc ≠ none) :
    let l := s.pwr.kilnWdogAt.filter (fun j => decide (s.tick < j + 19660800))
    (l.length < 3 → s.startWaits = true → ∃ u : State, exec .kilnWatchdogExpiry s = .next u.runStart ∧ u.pwr.phase = .b ∧ u.pwr.kilnWdogAt = s.tick :: l) ∧
    (l.length < 3 → s.startWaits = false → Does .kilnWatchdogExpiry s (fun t => t.pwr.kilnWdogAt = s.tick :: l ∧ t.pwr.cause = .kilnWdog)) ∧
    (3 ≤ l.length → Does .kilnWatchdogExpiry s (fun t => t.pwr.main = .hold .kilnLoop ∧ t.pwr.kiln = .rom ∧ t.pwr.kilnWdogAt = s.tick :: l)) := by
  intro l
  have e := exec_kilnWatchdogExpiry hruns hsrc
  have aborted := kilnAborted_stands s
  have hist : wdogHistory s.tick s.pwr.kilnWdogAt = s.tick :: l := rfl
  generalize s.kilnAborted = u at e aborted
  rw [hist] at e aborted
  have hwaits : u.startWaits = s.startWaits := startWaits_congr aborted.phase
  refine ⟨fun h hw => ?_, fun h hw => ?_, fun h => ?_⟩
  · rw [if_neg (by simp only [List.length_cons]; omega)] at e
    obtain ⟨v, hv, hphase, hat⟩ := kilnRestart_starting (hwaits.trans hw)
    exact ⟨v, e.trans (congrArg Host.Outcome.next hv), hphase, hat.trans aborted.kilnWdogAt⟩
  · rw [if_neg (by simp only [List.length_cons]; omega)] at e
    obtain ⟨hat, hcause⟩ := kilnRestart_running (hwaits.trans hw)
    exact ⟨_, e, hat.trans aborted.kilnWdogAt, hcause⟩
  · rw [if_pos (by simp only [List.length_cons]; omega)] at e
    have held := aborted.enterHold (r := .kilnLoop)
    generalize u.enterHold .kilnLoop = v at e held
    exact ⟨_, e, MainSt.held_eq_some.mp held.held, rfl, held.kilnWdogAt⟩

/-! ## The obligation -/

/-- Settles O55: what stands through a flush, an abort and a reset gives the conditions each command leaves behind. -/
theorem powerFailAndResets : Obligations.PowerFailAndResets := by
  unfold Obligations.PowerFailAndResets
  intro s hvao
  exact ⟨pfailFall_flushes hvao, pfailRise_waits hvao, fun k hk hsrc => powerFailRestart_does hvao hk hsrc, pfailGlitch_counts hvao,
    nrstGlitch_counts hvao, nrstLow_holds hvao, nrstHigh_starts hvao, fun k hk hruns => mainWatchdogExpiry_does hk hruns, kilnWatchdogExpiry_does⟩

end Sys2Proof.Machine
end

section
/-! What the Ocnoix die writes down (spec/12_metrology.md R466, R467, R481–R484): an event is appended to the event area, and sent while a
session is live; nothing else of the part changes, and of the die only its event area, its blocks and its end of the joint. -/

namespace Sys2Proof.Machine

open Sys2Proof

variable {s t u : State} {m n o : Met}

/-! ## Only the die, and only what it writes -/

theorem OnlyMet.refl (s : State) : OnlyMet s s := rfl

theorem onlyMet_withMet (s : State) (n : Met) : OnlyMet s { s with met := n } := rfl

theorem OnlyMet.trans (a : OnlyMet s t) (b : OnlyMet t u) : OnlyMet s u := by
  unfold OnlyMet at *; rw [b, a]

/-- From `m` to `n` the die has at most written events, handed over blocks, and ended its session. -/
def Met.Wrote (m n : Met) : Prop :=
  n = { m with evLog := n.evLog, evIdx := n.evIdx, bseq := n.bseq, blocks := n.blocks, sj := n.sj, sessEnd := n.sessEnd, load := n.load }

theorem Met.Wrote.trans (a : m.Wrote n) (b : n.Wrote o) : m.Wrote o := by
  unfold Met.Wrote at *; rw [b, a]

theorem Met.Wrote.grade (h : m.Wrote n) : n.grade = m.grade := by rw [h]
theorem Met.Wrote.running (h : m.Wrote n) : n.running = m.running := by rw [h]
theorem Met.Wrote.keysLost (h : m.Wrote n) : n.keysLost = m.keysLost := by rw [h]
theorem Met.Wrote.kv (h : m.Wrote n) : n.kv = m.kv := by rw [h]
theorem Met.Wrote.ka (h : m.Wrote n) : n.ka = m.ka := by rw [h]
theorem Met.Wrote.kp (h : m.Wrote n) : n.kp = m.kp := by rw [h]
theorem Met.Wrote.quietFrom (h : m.Wrote n) : n.quietFrom = m.quietFrom := by rw [h]
theorem Met.Wrote.selfCheck (h : m.Wrote n) : n.selfCheck = m.selfCheck := by rw [h]
theorem Met.Wrote.latches (h : m.Wrote n) : n.latches = m.latches := by rw [h]

/-! ## The event area (R466) -/

/-- The 64 bytes of an event without its tag: its header of the moment, then its detail. -/
def Met.eventBody (m : Met) (code ch : Nat) (detail : Bytes) : Bytes :=
  beBytes 1 code ++ beBytes 1 ch ++ beBytes 2 m.sealcnt ++ beBytes 4 m.mtime ++ beBytes 4 m.evIdx ++ beBytes 2 m.stateNow ++ [0, 0] ++ padTo 40 detail

/-- The area always keeps the newest entry. -/
theorem logEvent_head (m : Met) (code ch : Nat) (detail : Bytes) : ∃ tag, (m.logEvent code ch detail).evLog.head? =
    some (m.eventBody code ch detail ++ tag) := by
  unfold Met.logEvent Met.append LArea.depth
  exact ⟨_, rfl⟩

theorem logEvent_evIdx (m : Met) (code ch : Nat) (detail : Bytes) : (m.logEvent code ch detail).evIdx = m.evIdx + 1 := rfl

theorem logEvent_wrote (m : Met) (code ch : Nat) (detail : Bytes) : m.Wrote (m.logEvent code ch detail) := rfl

theorem eventBody_code (m : Met) {code ch : Nat} {detail tag : Bytes} (h : code < 256) :
    beAt (m.eventBody code ch detail ++ tag) 0 1 = code := by
  simp [beAt, slice, Met.eventBody, ofBe, beBytes, Nat.mod_eq_of_lt h]

theorem eventBody_ch (m : Met) {code ch : Nat} {detail tag : Bytes} (h : ch < 256) :
    beAt (m.eventBody code ch detail ++ tag) 1 1 = ch := by
  simp [beAt, slice, Met.eventBody, ofBe, beBytes, Nat.mod_eq_of_lt h]

theorem eventBody_detail (m : Met) (code ch : Nat) (detail tag : Bytes) :
    slice 16 40 (m.eventBody code ch detail ++ tag) = padTo 40 detail := by
  have full : (padTo 40 detail).length = 40 := padTo_length 40 detail
  simp [slice, Met.eventBody, beBytes, full]

/-! ## The joint (R481–R484) -/

theorem setSlip_only (s : State) (d : SjSide) (e : SjEnd) : OnlyMet s (s.setSlip d e) := by cases d <;> rfl

theorem setSlip_met (s : State) (d : SjSide) (e : SjEnd) : ∃ j, (s.setSlip d e).met = { s.met with sj := j } := by
  cases d
  · exact ⟨s.met.sj, rfl⟩
  · exact ⟨e, rfl⟩

/-- From `s` to `t` the joint has at most carried frames: both ends and the trace have moved on. -/
def Joint (s t : State) : Prop := OnlyMet s t ∧ ∃ j, t.met = { s.met with sj := j }

theorem Joint.refl (s : State) : Joint s s := ⟨.refl s, s.met.sj, rfl⟩

theorem Joint.trans (a : Joint s t) (b : Joint t u) : Joint s u := by
  obtain ⟨a, i, ha⟩ := a
  obtain ⟨b, j, hb⟩ := b
  exact ⟨a.trans b, j, by rw [hb, ha]⟩

theorem joint_setSlip (s : State) (d : SjSide) (e : SjEnd) : Joint s (s.setSlip d e) := ⟨setSlip_only s d e, setSlip_met s d e⟩

theorem joint_trainSlip (s : State) : Joint s s.trainSlip := by
  unfold State.trainSlip; split
  · exact (joint_setSlip _ _ _).trans (joint_setSlip _ _ _)
  · exact .refl s

theorem joint_pumpSlip (s : State) (d : SjSide) : Joint s (s.pumpSlip d) := by
  unfold State.pumpSlip
  exact List.foldlRecOn (motive := Joint s) _ _ (joint_setSlip _ _ _) fun t ht _ _ => ht.trans ⟨rfl, t.met.sj, rfl⟩

theorem joint_slipSend (s : State) (d : SjSide) (type : Nat) (payload : Bytes) (session : Bool) :
    Joint s (s.slipSend d type payload session) := by
  unfold State.slipSend; dsimp only; split
  · exact .refl s
  · split
    · exact ((joint_trainSlip s).trans (joint_setSlip _ _ _)).trans (joint_pumpSlip _ _)
    · split
      · exact ((joint_trainSlip s).trans (joint_setSlip _ _ _)).trans (joint_pumpSlip _ _)
      · exact joint_trainSlip s
    · exact joint_trainSlip s

theorem sendBlock_only (s : State) (btype state : Nat) (a : LArea) (first count : Nat) (payload : Bytes) :
    OnlyMet s (s.sendBlock btype state a first count payload) := by
  unfold State.sendBlock
  exact (onlyMet_withMet s _).trans (joint_slipSend _ _ _ _ _).1

theorem sendBlock_met (s : State) (btype state : Nat) (a : LArea) (first count : Nat) (payload : Bytes) :
    ∃ b l j, (s.sendBlock btype state a first count payload).met = { s.met with bseq := b, blocks := l, sj := j } := by
  unfold State.sendBlock; dsimp only
  generalize hn : ({ s.met with bseq := _, blocks := _ } : Met) = n
  obtain ⟨-, j, e⟩ := joint_slipSend { s with met := n } .ocnoix 0x12 (s.met.block btype state payload) true
  exact ⟨_, _, j, by rw [e, ← hn]⟩

/-! ## An event of the die (R466, R483) -/

theorem metEvent_only (s : State) (code ch : Nat) (detail : Bytes) : OnlyMet s (s.metEvent code ch detail) := by
  unfold State.metEvent; dsimp only; split
  · split
    · exact (onlyMet_withMet s _).trans (sendBlock_only _ _ _ _ _ _ _)
    · exact onlyMet_withMet s _
  · exact onlyMet_withMet s _

/-- The event is logged; handing it over moves BSEQ, the blocks to be acknowledged and the joint. -/
theorem metEvent_met (s : State) (code ch : Nat) (detail : Bytes) : ∃ b l j,
    (s.metEvent code ch detail).met = { s.met.logEvent code ch detail with bseq := b, blocks := l, sj := j } := by
  unfold State.metEvent; dsimp only; split
  · split
    · exact sendBlock_met _ _ _ _ _ _ _
    · exact ⟨_, _, _, rfl⟩
  · exact ⟨_, _, _, rfl⟩

theorem metEvent_wrote (s : State) (code ch : Nat) (detail : Bytes) : s.met.Wrote (s.metEvent code ch detail).met := by
  obtain ⟨b, l, j, e⟩ := metEvent_met s code ch detail
  rw [e]; exact (logEvent_wrote s.met code ch detail).trans rfl

theorem metEvent_notes (s : State) {code ch : Nat} (detail : Bytes) (hcode : code < 256) (hch : ch < 256) :
    Notes s (s.metEvent code ch detail) code ch detail := by
  obtain ⟨b, l, j, e⟩ := metEvent_met s code ch detail
  obtain ⟨tag, head⟩ := logEvent_head s.met code ch detail
  unfold Notes
  rw [e]
  exact ⟨logEvent_evIdx s.met code ch detail, _, head, eventBody_code _ hcode, eventBody_ch _ hch, eventBody_detail _ _ _ _ _⟩

theorem endSession_wrote (m : Met) : m.Wrote m.endSession := by
  unfold Met.endSession; dsimp only; split
  · rfl
  · rfl

theorem endSession_sess (m : Met) : m.endSession.sj.sess = none := by
  unfold Met.endSession; dsimp only; split <;> rfl

end Sys2Proof.Machine
end

section
/-! The die's grades (spec/07_tamper.md R246–R249, R255; spec/12_metrology.md R485, R490): a dip beside a SURGE, the burn of the keys, Crazed
and its self-check; and the two wires to the main die. -/

namespace Sys2Proof.Machine

open Sys2Proof

variable {s : State}

theorem metGrade_wrote (s : State) (g : Grade) (cause index : Nat) : s.met.Wrote (s.metGrade g cause index).met := metEvent_wrote _ _ _ _

/-- The main die drops its end of the joint and reports; of the die only its session ends. -/
theorem peerGraded_met (s : State) (g : Grade) (cause index : Nat) : (s.peerGraded g cause index).met = s.met.endSession := by
  have lost : s.slipLost.met = s.met.endSession :=
    (State.Stands.self ((s.endSlip .ocnoix).endSlip .main)).abortEngine.met
  unfold State.peerGraded; dsimp only; split
  · exact lost
  · exact ((logEv_logged _ _ _ _ _ _ _).trans (report_logged _ _ _)).met.trans lost

theorem exec_ocnoixSensorTrip {cause : Nat} (index : Nat) (near : Bool) (hp : s.metPowered = true) (hc : 0x20 ≤ cause ∧ cause ≤ 0x2A) :
    exec (.ocnoixSensorTrip cause index near) s = .next (s.metTrip cause index (near || s.met.surge)) := by
  refine congrArg Host.Outcome.next ?_
  rw [if_pos (by simp [hp, hc])]

/-! ## A dip beside a SURGE (R249, R255) -/

theorem dipNearSurge_watches {near : Bool} (index : Nat) (hp : s.metPowered = true) (hg : s.met.grade = .none)
    (h : near = true ∨ s.met.surge = true) : Does (.ocnoixSensorTrip 0x21 index near) s (fun t => t.met.grade = .none ∧ OnlyMet s t ∧
      Notes s t 0x0E 0xFF ([1, 0x21] ++ beBytes 1 index)) := by
  have excused : (near || s.met.surge) = true := by simpa using h
  refine ⟨_, exec_ocnoixSensorTrip index near hp (by decide), ?_⟩
  unfold State.metTrip
  rw [if_pos (by simp [excused])]
  exact ⟨(metGrade_wrote _ _ _ _).grade.trans hg, metEvent_only _ _ _ _, metEvent_notes _ _ (by decide) (by decide)⟩

/-! ## The keys burn (R248, R490) -/

theorem metShatter_burns (s : State) (cause index : Nat) : let t := s.metShatter cause index
    t.met.grade = .shattered ∧ t.met.keysLost = true ∧ t.met.kv = List.replicate 16 0xFF ∧ t.met.ka = List.replicate 16 0xFF ∧
    t.met.kp = List.replicate 16 0xFF ∧ t.met.running = s.met.running := by
  have told : s.met.Wrote ((s.metGrade .shattered cause index).peerGraded .shattered cause index).met := by
    rw [peerGraded_met]; exact (metGrade_wrote _ _ _ _).trans (endSession_wrote _)
  unfold State.metShatter; dsimp only
  generalize (s.metGrade .shattered cause index).peerGraded .shattered cause index = u at told
  generalize hv : ({ u with met := _ } : State) = v
  have burned : v.met.grade = .shattered ∧ v.met.keysLost = true ∧ v.met.kv = List.replicate 16 0xFF ∧ v.met.ka = List.replicate 16 0xFF ∧
      v.met.kp = List.replicate 16 0xFF ∧ v.met.running = u.met.running := by
    subst hv; exact ⟨rfl, rfl, rfl, rfl, rfl, rfl⟩
  obtain ⟨hgrade, hlost, hkv, hka, hkp, hrun⟩ := burned
  have wrote := metEvent_wrote v 0x11 0xFF []
  exact ⟨wrote.grade.trans hgrade, wrote.keysLost.trans hlost, wrote.kv.trans hkv, wrote.ka.trans hka, wrote.kp.trans hkp,
    wrote.running.trans (hrun.trans told.running)⟩

theorem keyCause_burns {cause : Nat} (index : Nat) (near : Bool) (hp : s.metPowered = true) (hg : s.met.grade = .none)
    (h : cause ∈ [0x28, 0x2A] ∨ (cause = 0x25 ∧ s.met.sealOpen = false)) : Does (.ocnoixSensorTrip cause index near) s (fun t =>
      t.met.grade = .shattered ∧ t.met.keysLost = true ∧ t.met.kv = List.replicate 16 0xFF ∧ t.met.ka = List.replicate 16 0xFF ∧
      t.met.kp = List.replicate 16 0xFF ∧ t.met.running = s.met.running) := by
  have burns : cause = 0x28 ∨ cause = 0x2A ∨ (cause = 0x25 ∧ s.met.sealOpen = false) := by simpa [or_assoc] using h
  have range : cause = 0x28 ∨ cause = 0x2A ∨ cause = 0x25 := burns.imp_right (Or.imp_right And.left)
  refine ⟨_, exec_ocnoixSensorTrip index near hp (by omega), ?_⟩
  unfold State.metTrip
  rw [if_neg (by simp; omega), if_neg (by omega), if_pos burns, if_neg (by simp [hg])]
  exact metShatter_burns s cause index

/-! ## Crazed (R247, R264, R490) -/

/-- The trip is counted and entered; eight entries within the day are not yet too many. -/
theorem metCraze_enters (cause index : Nat) (hg : s.met.grade = .none) (hn : s.met.crazedAt.length < 8) : let t := s.metCraze cause index
    t.met.grade = .crazed ∧ t.met.quietFrom = s.met.sec ∧ t.met.keysLost = s.met.keysLost ∧ t.met.sj.sess = none := by
  have few : (s.met.crazedAt.filter (fun t => decide (s.met.sec < t + 86400))).length < 8 := (List.length_filter_le _ _).trans_lt hn
  unfold State.metCraze
  rw [if_neg (by simp [hg]), if_neg (by simp [hg])]; dsimp only
  rw [if_neg (by simp only [List.length_cons]; omega), peerGraded_met]
  generalize hu : ({ s with met := _ } : State) = u
  have entered : u.met.grade = .crazed ∧ u.met.quietFrom = s.met.sec ∧ u.met.keysLost = s.met.keysLost := by
    subst hu; exact ⟨rfl, rfl, rfl⟩
  obtain ⟨hgrade, hquiet, hlost⟩ := entered
  have wrote := (metGrade_wrote u .crazed cause index).trans (endSession_wrote _)
  exact ⟨wrote.grade.trans hgrade, wrote.quietFrom.trans hquiet, wrote.keysLost.trans hlost, endSession_sess _⟩

theorem otherCause_crazes {cause : Nat} (index : Nat) (near : Bool) (hp : s.metPowered = true) (hg : s.met.grade = .none)
    (h : cause ∈ [0x20, 0x23, 0x24, 0x26, 0x27, 0x29] ∨ (cause = 0x21 ∧ near = false ∧ s.met.surge = false) ∨
      (cause = 0x25 ∧ s.met.sealOpen = true)) (hn : s.met.crazedAt.length < 8) :
    Does (.ocnoixSensorTrip cause index near) s (fun t => t.met.grade = .crazed ∧ t.met.quietFrom = s.met.sec ∧
      t.met.keysLost = s.met.keysLost ∧ t.met.sj.sess = none) := by
  have range : (cause = 0x20 ∨ cause = 0x23 ∨ cause = 0x24 ∨ cause = 0x26 ∨ cause = 0x27 ∨ cause = 0x29) ∨ cause = 0x21 ∨ cause = 0x25 :=
    h.imp (by simp) (Or.imp And.left And.left)
  have unexcused : ¬ (cause = 0x21 ∧ (near || s.met.surge) = true) := by
    rintro ⟨rfl, excused⟩
    simp at h excused
    simp [h] at excused
  have unburned : ¬ (cause = 0x28 ∨ cause = 0x2A ∨ (cause = 0x25 ∧ s.met.sealOpen = false)) := by
    rintro (rfl | rfl | ⟨rfl, closed⟩)
    · omega
    · omega
    · simp [closed] at h
  refine ⟨_, exec_ocnoixSensorTrip index near hp (by omega), ?_⟩
  unfold State.metTrip
  rw [if_neg (by simpa using unexcused), if_neg (by omega), if_neg unburned]
  exact metCraze_enters cause index hg hn

/-! ## The quiet interval and the self-check (R490) -/

theorem ocnoixQuietExpiry_checks (hp : s.metPowered = true) (hg : s.met.grade = .crazed) (hc : s.met.selfCheck = false) :
    Does .ocnoixCrazedQuietExpiry s (fun t => t.met.selfCheck = true ∧ t.met.grade = .crazed ∧ t = { s with met := t.met }) := by
  refine ⟨_, rfl, ?_⟩
  rw [if_pos (by simp [hp, hg, hc])]
  exact ⟨rfl, hg, rfl⟩

theorem ocnoixSelfcheck_passes (hp : s.metPowered = true) (hg : s.met.grade = .crazed) (hc : s.met.selfCheck = true)
    (ht : s.met.selfCheckTrip = false) : Does (.ocnoixSelfcheckDone true) s (fun t => OnlyMet s t ∧ t.met.selfCheck = false ∧
      t.met.grade = .none ∧ t.met.latches = []) := by
  refine ⟨_, rfl, ?_⟩
  rw [if_neg (by simp [hp, hg, hc])]; dsimp only
  rw [if_pos (by simp [ht])]
  generalize hu : ({ s with met := _ } : State) = u
  have cleared : OnlyMet s u ∧ u.met.selfCheck = false ∧ u.met.grade = .none ∧ u.met.latches = [] := by subst hu; exact ⟨rfl, rfl, rfl, rfl⟩
  obtain ⟨only, hcheck, hgrade, hlatch⟩ := cleared
  have wrote := metGrade_wrote u .none (s.met.latches.headD ⟨0, 0, 0⟩).cause (s.met.latches.headD ⟨0, 0, 0⟩).index
  exact ⟨only.trans (metEvent_only _ _ _ _), wrote.selfCheck.trans hcheck, wrote.grade.trans hgrade, wrote.latches.trans hlatch⟩

theorem ocnoixSelfcheck_fails {pass : Bool} (hp : s.metPowered = true) (hg : s.met.grade = .crazed) (hc : s.met.selfCheck = true)
    (h : pass = false ∨ s.met.selfCheckTrip = true) : Does (.ocnoixSelfcheckDone pass) s (fun t => OnlyMet s t ∧ t.met.selfCheck = false ∧
      t.met.grade = .crazed ∧ t.met.quietFrom = s.met.sec) := by
  refine ⟨_, rfl, ?_⟩
  rw [if_neg (by simp [hp, hg, hc])]; dsimp only
  rw [if_neg (by rcases h with h | h <;> simp [h])]
  generalize hu : ({ s with met := _ } : State) = u
  have again : OnlyMet s u ∧ u.met.selfCheck = false ∧ u.met.grade = .crazed ∧ u.met.quietFrom = s.met.sec := by
    subst hu; exact ⟨rfl, rfl, hg, rfl⟩
  obtain ⟨only, hcheck, hgrade, hquiet⟩ := again
  have wrote := metGrade_wrote u .crazed (s.met.latches.headD ⟨0, 0, 0⟩).cause (s.met.latches.headD ⟨0, 0, 0⟩).index
  exact ⟨only.trans (metEvent_only _ _ _ _), wrote.selfCheck.trans hcheck, wrote.grade.trans hgrade, wrote.quietFrom.trans hquiet⟩

theorem ocnoixSelfcheckDone_does (pass : Bool) (hp : s.metPowered = true) (hg : s.met.grade = .crazed) (hc : s.met.selfCheck = true) :
    Does (.ocnoixSelfcheckDone pass) s (fun t => OnlyMet s t ∧ t.met.selfCheck = false ∧
      (pass = true → s.met.selfCheckTrip = false → t.met.grade = .none ∧ t.met.latches = []) ∧
      ((pass = false ∨ s.met.selfCheckTrip = true) → t.met.grade = .crazed ∧ t.met.quietFrom = s.met.sec)) := by
  by_cases h : pass = false ∨ s.met.selfCheckTrip = true
  · obtain ⟨t, ht, only, hcheck, fails⟩ := ocnoixSelfcheck_fails hp hg hc h
    refine ⟨t, ht, only, hcheck, fun hpass htrip => ?_, fun _ => fails⟩
    rcases h with h | h
    · exact absurd hpass (by simp [h])
    · exact absurd htrip (by simp [h])
  · obtain ⟨hpass, htrip⟩ : pass = true ∧ s.met.selfCheckTrip = false := by simpa using h
    subst hpass
    obtain ⟨t, ht, only, hcheck, clears⟩ := ocnoixSelfcheck_passes hp hg hc htrip
    exact ⟨t, ht, only, hcheck, fun _ _ => clears, fun h' => absurd h' h⟩

/-! ## The two wires (R485) -/

theorem metfaultChange_reports {level : Bool} (hvao : s.rails.vao = true) (h : s.sjm.metfault ≠ level) :
    Does (.metfaultChange level) s (fun t => Logged { s with irq := s.irq ||| 2 ^ 17, sjm := { s.sjm with metfault := level } } t) := by
  refine ⟨_, rfl, ?_⟩
  rw [if_neg (by simp [hvao, h])]
  exact (wakeMain_logged _).trans (wlog_logged _ _ _ _ _)

theorem sealstateChange_reports {level : Bool} (hvao : s.rails.vao = true) (h : s.sjm.sealstate ≠ level) :
    Does (.sealstateChange level) s (fun t => Logged { s with irq := s.irq ||| 2 ^ 17, sjm := { s.sjm with sealstate := level } } t) := by
  refine ⟨_, rfl, ?_⟩
  rw [if_neg (by simp [hvao, h])]
  exact (wakeMain_logged _).trans (wlog_logged _ _ _ _ _)

/-! ## The obligation -/

/-- Settles O40, clause by clause: what an event writes leaves the grade, the keys and the self-check of the die as its cause has put them. -/
theorem dieGrades : Obligations.DieGrades := by
  intro cause index near level s
  exact ⟨fun hp hg => ⟨dipNearSurge_watches index hp hg, keyCause_burns index near hp hg, otherCause_crazes index near hp hg⟩,
    fun hp hg => ⟨ocnoixQuietExpiry_checks hp hg, ocnoixSelfcheckDone_does level hp hg⟩,
    fun hvao => ⟨metfaultChange_reports hvao, sealstateChange_reports hvao⟩⟩

end Sys2Proof.Machine
end

section
/-! What attack sensing stands on (spec/07_tamper.md R240–R266): the sensors' state, the grade, the seal of the key store, the firing with
what is staged, the rails and the tick. The part's records, its engines and the reset of its main island leave them alone. -/

namespace Sys2Proof.Machine

open Sys2Proof

/-! ## The predicate -/

/-- What the grade machine reads and writes. -/
structure Sensing where
  rails : Rails
  tick : Nat
  poweredBase : Nat
  tamp : Tamp
  sealed : Bool
  firing : Firing
  staged : Option Staged
  factoryDue : Option Bool

/-- What attack sensing stands on in a state. -/
def State.sensing (s : State) : Sensing where
  rails := s.rails
  tick := s.tick
  poweredBase := s.kiln.poweredBase
  tamp := s.tamp
  sealed := s.ksm.sealed
  firing := s.life.firing
  staged := s.life.staged
  factoryDue := s.selft.factoryDue

/-- Sensing stands as `x`, and, where `K` holds, the Kiln runs. -/
structure SensingIs (x : Sensing) (K : Prop) (y : Sensing) (kiln : KilnSt) : Prop where
  eq : y = x
  kiln : K → kiln = .running ∨ kiln = .rom

/-- `SensingIs` of a state: an update of anything else keeps it by definition. -/
def State.Senses (x : Sensing) (K : Prop) (s : State) : Prop := SensingIs x K s.sensing s.pwr.kiln

variable {x : Sensing} {K : Prop} {s t u : State}

theorem State.Senses.self (s : State) : s.Senses s.sensing (s.kilnRuns = true) := ⟨rfl, (kilnRuns_iff s).mp⟩

theorem State.Senses.rails (h : s.Senses x K) : s.rails = x.rails := congrArg Sensing.rails h.eq
theorem State.Senses.tick (h : s.Senses x K) : s.tick = x.tick := congrArg Sensing.tick h.eq
theorem State.Senses.poweredBase (h : s.Senses x K) : s.kiln.poweredBase = x.poweredBase := congrArg Sensing.poweredBase h.eq
theorem State.Senses.tamp (h : s.Senses x K) : s.tamp = x.tamp := congrArg Sensing.tamp h.eq
theorem State.Senses.sealed (h : s.Senses x K) : s.ksm.sealed = x.sealed := congrArg Sensing.sealed h.eq
theorem State.Senses.firing (h : s.Senses x K) : s.life.firing = x.firing := congrArg Sensing.firing h.eq
theorem State.Senses.staged (h : s.Senses x K) : s.life.staged = x.staged := congrArg Sensing.staged h.eq
theorem State.Senses.factoryDue (h : s.Senses x K) : s.selft.factoryDue = x.factoryDue := congrArg Sensing.factoryDue h.eq
theorem State.Senses.kilnRuns (h : s.Senses x K) (k : K) : s.kilnRuns = true := (kilnRuns_iff s).mpr (h.kiln k)

theorem State.Senses.powered (h : s.Senses x K) : s.powered = x.poweredBase + x.tick := by
  unfold State.powered; rw [h.poweredBase, h.tick]

theorem State.Senses.ite {p : Prop} {_ : Decidable p} (hs : s.Senses x K) (ht : t.Senses x K) : (if p then s else t).Senses x K := by
  split
  · exact hs
  · exact ht

theorem State.Senses.foldl {α : Type} {f : State → α → State} {l : List α} (h : s.Senses x K)
    (hf : ∀ t a, t.Senses x K → (f t a).Senses x K) : (l.foldl f s).Senses x K :=
  List.foldlRecOn (motive := State.Senses x K) _ _ h fun t ht a _ => hf t a ht

theorem State.Senses.eachCh {f : Fin 16 → State → State} (h : s.Senses x K) (hf : ∀ c t, t.Senses x K → (f c t).Senses x K) :
    (s.eachCh f).Senses x K := h.foldl fun t c ht => hf c t ht

theorem State.Senses.seal {b : Bool} {f : Ksm → Ksm} (hb : ∀ k, (f k).sealed = b) (h : s.Senses x K) :
    State.Senses { x with sealed := b } K { s with ksm := f s.ksm } := by
  refine ⟨(congrArg (fun z : Sensing => { z with sealed := (f s.ksm).sealed }) h.eq).trans ?_, h.kiln⟩
  rw [hb]

/-! ## Records -/

/-- A `Logged` state may only have woken an island. -/
theorem State.Senses.logged (h : s.Senses x K) (l : Logged s t) : t.Senses x K := by
  obtain ⟨e, -, hkiln⟩ := l
  refine ⟨(congrArg State.sensing e).trans h.eq, fun k => ?_⟩
  rcases hkiln with hk | ⟨-, hk⟩
  · rw [hk]; exact h.kiln k
  · exact .inl hk

theorem State.Senses.wakeMain (h : s.Senses x K) : s.wakeMain.Senses x K := h.logged (wakeMain_logged s)

theorem State.Senses.wakeKiln (h : s.Senses x K) : s.wakeKiln.Senses x K := h.logged (wakeKiln_logged s)

theorem State.Senses.wakeKiln_ready (h : s.Senses x K) (r : s.kilnReady = true) : s.wakeKiln.Senses x True :=
  ⟨h.wakeKiln.eq, fun _ => (kilnRuns_iff _).mp (wakeKiln_of_kilnReady r)⟩

theorem State.Senses.report {type : Nat} {body : Bytes} (h : s.Senses x K) : (s.report type body).Senses x K := h.logged (report_logged _ _ _)

theorem State.Senses.logEv {code grade source : Nat} {detail : Bytes} {rep now : Bool} (h : s.Senses x K) :
    (s.logEv code grade source detail rep now).Senses x K := h.logged (logEv_logged _ _ _ _ _ _ _)

theorem State.Senses.klog {code : Nat} {detail : Bytes} (h : s.Senses x K) : (s.klog code detail).Senses x K := h.logEv

theorem State.Senses.klogRep {code : Nat} {detail : Bytes} (h : s.Senses x K) : (s.klogRep code detail).Senses x K := h.logEv

theorem State.Senses.wlog {code grade : Nat} {detail : Bytes} {rep : Bool} (h : s.Senses x K) : (s.wlog code grade detail rep).Senses x K :=
  h.logEv

theorem State.Senses.spyEvent {kind code index grade tick : Nat} {detail : Bytes} (h : s.Senses x K) :
    (s.spyEvent kind code index grade tick detail).Senses x K := h.logged (spyEvent_logged _ _ _ _ _ _ _)

theorem State.Senses.drainReports (h : s.Senses x K) : s.drainReports.Senses x K := h.logged (drainReports_logged s)

theorem tripLog_logged (s : State) (g : Grade) (t : Trip) (ref refTick : Nat) : Logged s (s.tripLog g t ref refTick) := by
  unfold State.tripLog
  exact ((logEv_logged _ _ _ _ _ _ _).trans (report_logged _ _ _)).trans (spyEvent_logged _ _ _ _ _ _ _)

theorem State.Senses.tripLog {g : Grade} {t : Trip} {ref refTick : Nat} (h : s.Senses x K) : (s.tripLog g t ref refTick).Senses x K :=
  h.logged (tripLog_logged _ _ _ _ _)

/-! ## Channels -/

theorem State.Senses.onlyChans (h : s.Senses x K) (c : OnlyChans s t) : t.Senses x K := by
  obtain ⟨e, hpwr⟩ := c
  have hkiln : t.pwr.kiln = s.pwr.kiln := by
    rcases hpwr with hp | hp
    · rw [hp]
    · rw [hp]; unfold State.wakeMain; split <;> rfl
  exact ⟨(congrArg State.sensing e).trans h.eq, fun k => hkiln ▸ h.kiln k⟩

theorem State.Senses.chOp {c : Fin 16} {f : Chan → Chan} (h : s.Senses x K) : (s.chOp c f).Senses x K :=
  h.onlyChans (only_chOp s c f).onlyChans

theorem State.Senses.closeWindows (h : s.Senses x K) : s.closeWindows.Senses x K := h.onlyChans (onlyChans_closeWindows s)

theorem State.Senses.freezeAll {k : FreezeSrc} (h : s.Senses x K) : (s.freezeAll k).Senses x K := h.onlyChans (onlyChans_freezeAll s k)

theorem State.Senses.releaseAll {k : FreezeSrc} (h : s.Senses x K) : (s.releaseAll k).Senses x K := h.onlyChans (onlyChans_releaseAll s k)

theorem State.Senses.gradeChange (h : s.Senses x K) : s.gradeChange.Senses x K := h

/-! ## The engines (R592, R600, R602) -/

/-- From `s` to `t` the engines have at most worked, and what happened is written down: rings, memories, flash and engine contexts. -/
def Worked (s t : State) : Prop := Logged { s with
  eng := t.eng, mem := t.mem, memBad := t.memBad, prot := t.prot, flc := t.flc, aes := t.aes, dig := t.dig, wmu := t.wmu } t

theorem Logged.worked (h : Logged s t) : Worked s t := by
  unfold Worked
  rw [h.eng, h.mem, h.memBad, h.prot, h.flc, h.aes, h.dig, h.wmu]
  exact h

theorem Worked.refl (s : State) : Worked s s := (Logged.rfl' s).worked

theorem Worked.trans (a : Worked s t) (b : Worked t u) : Worked s u := by
  obtain ⟨a, ha⟩ := a
  have lifted : Logged { s with eng := u.eng, mem := u.mem, memBad := u.memBad, prot := u.prot, flc := u.flc, aes := u.aes, dig := u.dig, wmu := u.wmu }
      { t with eng := u.eng, mem := u.mem, memBad := u.memBad, prot := u.prot, flc := u.flc, aes := u.aes, dig := u.dig, wmu := u.wmu } :=
    ⟨congrArg (fun v : State => { v with
      eng := u.eng, mem := u.mem, memBad := u.memBad, prot := u.prot, flc := u.flc, aes := u.aes, dig := u.dig, wmu := u.wmu }) a, ha⟩
  exact lifted.trans b

theorem Worked.chan (h : Worked s t) (c : Fin 16) : t.chan c = s.chan c := Logged.chan h c

theorem State.Senses.worked (h : s.Senses x K) (w : Worked s t) : t.Senses x K := by
  refine State.Senses.logged ?_ w
  exact h

theorem worked_foldl {α : Type} {f : State → α → State} (hf : ∀ t a, Worked t (f t a)) (l : List α) (s : State) : Worked s (l.foldl f s) :=
  List.foldlRecOn (motive := Worked s) _ _ (.refl s) fun t ht a _ => ht.trans (hf t a)

theorem worked_updRing (s : State) (e : Eng) (k : Nat) (f : Machine.Ring → Machine.Ring) : Worked s (s.updRing e k f) := by
  have set : Worked s (s.updEng e (fun y => { y with rings := y.rings.modify k f })) := ⟨rfl, .inl rfl, .inl rfl⟩
  unfold State.updRing; dsimp only; split
  · exact set
  · exact set.trans (spySend_logged _ _ _ _).worked

theorem worked_sramWrite (s : State) (a : Nat) (b : Bytes) : Worked s (s.sramWrite a b) := ⟨rfl, .inl rfl, .inl rfl⟩

theorem worked_complete (s : State) (e : Eng) (k : Nat) (d : Done) : Worked s (s.complete e k d) :=
  (worked_sramWrite s _ _).trans (worked_updRing _ _ _ _)

theorem worked_abortFlash (s : State) (k : Nat) (tamper : Bool) : Worked s (s.abortFlash k tamper).1 := by
  rw [abortFlash_eq]; exact ⟨rfl, .inl rfl, .inl rfl⟩

theorem worked_abortOne (s : State) (e : Eng) (k : Nat) (code : Code) : Worked s (s.abortOne e k code) := by
  unfold State.abortOne; dsimp only; split
  · split
    · have aborted := worked_abortFlash s k (code == .abortTamper)
      split <;> rename_i eq <;> rw [eq] at aborted <;> exact aborted.trans (worked_complete _ _ _ _)
    · exact worked_complete _ _ _ _
  · split
    · exact worked_complete _ _ _ _
    · have faulted : ∀ p : Prot, Worked s { s with prot := p } := fun p => ⟨rfl, .inl rfl, .inl rfl⟩
      exact (faulted _).trans (worked_updRing _ _ _ _)

theorem worked_abortMany (n : Nat) (s : State) (e : Eng) (k : Nat) (code : Code) : Worked s (State.abortMany n s e k code) := by
  induction n generalizing s with
  | zero => exact .refl s
  | succ n ih => exact (worked_abortOne s e k code).trans (ih _)

theorem worked_abortRing (s : State) (e : Eng) (k : Nat) (code : Code) : Worked s (s.abortRing e k code) :=
  (worked_abortMany _ s e k code).trans ⟨rfl, .inl rfl, .inl rfl⟩

theorem worked_abortEngines (s : State) (l : List Eng) (code : Code) : Worked s (s.abortEngines l code) :=
  worked_foldl (fun t e => worked_foldl (fun u k => worked_abortRing u e k code) _ t) l s

theorem worked_stopFlash (s : State) : Worked s s.stopFlash := by
  rw [stopFlash_eq]; exact ⟨rfl, .inl rfl, .inl rfl⟩

theorem worked_ringsReset (s : State) : Worked s s.ringsReset := by
  have reset : ∀ v : Vector EngSt 10, Worked s { s with eng := v } := fun v => ⟨rfl, .inl rfl, .inl rfl⟩
  exact (reset _).trans (ringsReset_logged s).worked

/-! ## Sessions and runs -/

theorem State.Senses.withLinks {ch : Vector Chan 16} {link : Vector Link 16} {app : Vector App 16} (h : s.Senses x K) :
    State.Senses x K { s with ch := ch, link := link, app := app } := h

theorem State.Senses.dropSessions (h : s.Senses x K) : s.dropSessions.Senses x K := by rw [dropSessions_eq]; exact h.withLinks

theorem State.Senses.dropSlip (h : s.Senses x K) : s.dropSlip.Senses x K := h

theorem State.Senses.portsDown (h : s.Senses x K) : s.portsDown.Senses x K := h

theorem State.Senses.abandonRun (h : s.Senses x K) : s.abandonRun.Senses x K := by
  unfold State.abandonRun; split
  · exact h
  · exact h

theorem State.Senses.withCores {app : Vector App 16} {core : Vector Core 2} (h : s.Senses x K) :
    State.Senses x K { s with app := app, core := core } := h

theorem State.Senses.schedule {k : Fin 2} (h : s.Senses x K) : (s.schedule k).Senses x K := by rw [schedule_eq]; exact h.withCores

theorem State.Senses.reschedule (h : s.Senses x K) : s.reschedule.Senses x K := h.schedule.schedule

/-! ## A reset of the main island (R195, R203) -/

theorem State.Senses.mainReset (h : s.Senses x K) : s.mainReset.Senses x K := by
  have stopped := ((h.worked (worked_ringsReset s)).abandonRun.worked (worked_stopFlash _)).dropSessions.dropSlip.portsDown
  unfold State.mainReset
  generalize s.ringsReset.abandonRun.stopFlash.dropSessions.dropSlip.portsDown = u at stopped
  exact stopped

theorem State.Senses.holdMainReset {st : MainSt} (h : s.Senses x K) : (s.holdMainReset st).Senses x K := by
  have reset := h.mainReset
  unfold State.holdMainReset State.freezeMain; dsimp only
  generalize s.mainReset = u at reset
  exact State.Senses.freezeAll reset

theorem State.Senses.crazedStart (h : s.Senses x K) : s.crazedStart.Senses x K := by
  have off := h.holdMainReset (st := .off)
  unfold State.crazedStart; dsimp only; split
  · generalize s.holdMainReset .off = u at off
    exact off
  · exact h

theorem State.Senses.settleGrade (h : s.Senses x K) : s.settleGrade.Senses x K := h.crazedStart.reschedule

end Sys2Proof.Machine
end

section
/-! Grading a trip (spec/07_tamper.md R250–R254, R261, R264, R266): entry into Crazed, a trip within it, zeroization, and what a trip leaves of
the open anomalies. -/

namespace Sys2Proof.Machine

open Sys2Proof

variable {x : Sensing} {K : Prop} {s t : State} {e : Trip}

/-! ## Entry into Crazed (R251–R254, R264) -/

/-- The effects seal the key store; nothing else that sensing stands on changes. -/
theorem State.Senses.crazedEffects (h : s.Senses x K) : s.crazedEffects.Senses { x with sealed := true } K := by
  have frozen : ((s.gradeChange.freezeAll .crazed).releaseAll .provisional).wakeMain.Senses x K := h.gradeChange.freezeAll.releaseAll.wakeMain
  have dropped := (frozen.seal (f := fun k => { k with sealed := true, reseedDue := true }) fun _ => rfl).dropSessions.dropSlip
  have aborted := (dropped.worked (worked_abortEngines _ crazedEngines .abortTamper)).abandonRun
  unfold State.crazedEffects; dsimp only
  generalize State.abandonRun _ = u at aborted ⊢
  exact aborted

/-- Sensing once the trip `e` has entered Crazed. -/
def Sensing.enter (x : Sensing) (e : Trip) : Sensing :=
  { x with
    sealed := true
    tamp := { x.tamp with
      grade := .crazed, entry := e, selfCheck := false
      crazedAt := (x.poweredBase + x.tick) :: within ticks24h (x.poweredBase + x.tick) x.tamp.crazedAt } }

/-- Sensing once the quiet interval has begun anew. -/
def Sensing.quiet (x : Sensing) : Sensing :=
  { x with tamp := { x.tamp with quietEnd := x.tick + 1 + 32768, selfCheckTrip := x.tamp.selfCheck } }

theorem State.Senses.quiet (h : s.Senses x K) : s.quiet.Senses x.quiet K := by
  obtain ⟨rfl, kiln⟩ := h
  exact ⟨rfl, kiln⟩

theorem State.Senses.enterCrazed (h : s.Senses x K) : (s.enterCrazed e).Senses (x.enter e) K := by
  obtain ⟨rfl, kiln⟩ := h
  exact State.Senses.crazedEffects (x := { s.sensing with tamp := (s.sensing.enter e).tamp }) ⟨rfl, kiln⟩

/-- No grade above Watch is in force, the part is not in Sherd, and one entry more is not too many. -/
structure Sensing.Calm (x : Sensing) : Prop where
  firing : x.firing ≠ .sherd
  crazed : x.tamp.grade ≠ .crazed
  shattered : x.tamp.grade ≠ .shattered
  few : x.tamp.crazedAt.length < 8

/-- Crazed is in force, and a further trip does not escalate it. -/
structure Sensing.InCrazed (x : Sensing) : Prop where
  firing : x.firing ≠ .sherd
  crazed : x.tamp.grade = .crazed
  few : x.tamp.crazedAt.length ≤ 8

theorem crazed_eq_false : s.crazed = false ↔ s.tamp.grade ≠ .crazed ∧ s.tamp.grade ≠ .shattered := by
  simp [State.crazed]

theorem within_length_le (w n : Nat) (l : List Nat) : (within w n l).length ≤ l.length := List.length_filter_le _ _

theorem Sensing.Calm.enter_few (c : x.Calm) : (x.enter e).tamp.crazedAt.length ≤ 8 :=
  Nat.succ_le_of_lt ((within_length_le _ _ _).trans_lt c.few)

theorem Sensing.Calm.enter (c : x.Calm) : (x.enter e).quiet.InCrazed := ⟨c.firing, rfl, c.enter_few (e := e)⟩

theorem State.Senses.gradeCrazed_sherd (h : s.Senses x K) (hx : x.firing = .sherd) : (s.gradeCrazed e).Senses x K := by
  unfold State.gradeCrazed
  rw [if_pos (h.firing.trans hx)]; exact h.tripLog

/-- Below Crazed, a trip of it enters. -/
theorem State.Senses.gradeCrazed_enters (h : s.Senses x K) (c : x.Calm) : s.gradeCrazed e = ((s.enterCrazed e).tripLog .crazed e).quiet := by
  have entered : (s.enterCrazed e).Senses (x.enter e) K := h.enterCrazed
  have few : ¬ 9 ≤ (s.enterCrazed e).tamp.crazedAt.length := by
    have := c.enter_few (e := e)
    rw [entered.tamp]; omega
  unfold State.gradeCrazed
  rw [if_neg (h.firing ▸ c.firing), if_neg (h.tamp ▸ c.shattered), if_neg (h.tamp ▸ c.crazed)]; dsimp only
  rw [if_neg few]

theorem State.Senses.gradeCrazed_inCrazed (h : s.Senses x K) (c : x.InCrazed) : (s.gradeCrazed e).Senses x.quiet K := by
  have few : ¬ 9 ≤ s.tamp.crazedAt.length := by
    have := c.few
    rw [h.tamp]; omega
  unfold State.gradeCrazed
  rw [if_neg (h.firing ▸ c.firing), if_neg (by simp [h.tamp, c.crazed]), if_pos (by simp [h.tamp, c.crazed]), if_neg few]
  exact h.tripLog.quiet

/-! ## The history of VCORE glitches (R264) -/

/-- Sensing once a VCORE glitch is in the history of 10 s. -/
def Sensing.glitch (x : Sensing) : Sensing :=
  { x with tamp := { x.tamp with glitchAt := (x.poweredBase + x.tick) :: within 327680 (x.poweredBase + x.tick) x.tamp.glitchAt } }

/-- Sensing once the cause of a trip is counted. -/
def Sensing.counted (x : Sensing) (cause : Nat) : Sensing := if cause = 3 then x.glitch else x

theorem Sensing.counted_eq (x : Sensing) (cause : Nat) : x.counted cause = { x with tamp := { x.tamp with
    glitchAt := (x.counted cause).tamp.glitchAt } } := by
  unfold Sensing.counted; split
  · rfl
  · rfl

theorem Sensing.Calm.counted (c : x.Calm) (cause : Nat) : (x.counted cause).Calm := by
  rw [Sensing.counted_eq]; exact ⟨c.firing, c.crazed, c.shattered, c.few⟩

/-- The state in which a VCORE glitch is in the history. -/
def State.glitched (s : State) : State := { s with tamp := { s.tamp with glitchAt := s.powered :: within 327680 s.powered s.tamp.glitchAt } }

/-- The state in which the cause of a trip is counted. -/
def State.counted (s : State) (cause : Nat) : State := if cause = 3 then s.glitched else s

theorem State.Senses.glitched (h : s.Senses x K) : s.glitched.Senses x.glitch K := by
  obtain ⟨rfl, kiln⟩ := h
  exact ⟨rfl, kiln⟩

theorem State.Senses.counted (h : s.Senses x K) (cause : Nat) : (s.counted cause).Senses (x.counted cause) K := by
  unfold State.counted Sensing.counted; split
  · exact h.glitched
  · exact h

/-- A glitch that is not the third, or one of a part in Sherd, is graded as any trip of Crazed. -/
theorem gradeGlitch_of_few (few : s.life.firing = .sherd ∨ s.tamp.glitchAt.length < 2) : s.gradeGlitch e = s.glitched.gradeCrazed e := by
  have third : ¬ (s.glitched.life.firing != .sherd && decide (3 ≤ s.glitched.tamp.glitchAt.length)) = true := by
    rcases few with sherd | few
    · simp [State.glitched, sherd]
    · have := within_length_le 327680 s.powered s.tamp.glitchAt
      have short : ¬ 3 ≤ s.glitched.tamp.glitchAt.length := by
        simp only [State.glitched, List.length_cons]; omega
      simp [short]
  unfold State.gradeGlitch; exact if_neg third

/-! ## A trip graded by its cause (R240, R250) -/

theorem gradeTrip_of_crazed (hc : causeGrade s.life.firing e.cause = .crazed)
    (few : e.cause ≠ 3 ∨ s.life.firing = .sherd ∨ s.tamp.glitchAt.length < 2) : s.gradeTrip e = (s.counted e.cause).gradeCrazed e := by
  unfold State.gradeTrip State.counted
  by_cases h3 : e.cause = 3
  · rw [if_pos h3, if_pos h3]; exact gradeGlitch_of_few (few.resolve_left fun n => n h3)
  · rw [if_neg h3, if_neg h3, hc]

/-- Below Crazed, a trip whose cause is of Crazed enters it. -/
theorem State.Senses.gradeTrip_enters (h : s.Senses x K) (c : x.Calm) (hc : causeGrade x.firing e.cause = .crazed)
    (few : e.cause ≠ 3 ∨ x.tamp.glitchAt.length < 2) : s.gradeTrip e = (((s.counted e.cause).enterCrazed e).tripLog .crazed e).quiet := by
  rw [gradeTrip_of_crazed (h.firing ▸ hc) (few.imp_right fun f => .inr (h.tamp ▸ f))]
  exact (h.counted e.cause).gradeCrazed_enters (c.counted e.cause)

theorem State.Senses.gradeTrip_calm (h : s.Senses x K) (c : x.Calm) (hc : causeGrade x.firing e.cause = .crazed)
    (few : e.cause ≠ 3 ∨ x.tamp.glitchAt.length < 2) : (s.gradeTrip e).Senses ((x.counted e.cause).enter e).quiet K := by
  rw [h.gradeTrip_enters c hc few]; exact (h.counted e.cause).enterCrazed.tripLog.quiet

theorem State.Senses.gradeTrip_sherd (h : s.Senses x K) (hx : x.firing = .sherd) : (s.gradeTrip e).Senses (x.counted e.cause) K := by
  unfold State.gradeTrip Sensing.counted; split
  · rw [gradeGlitch_of_few (.inl (h.firing.trans hx))]; exact h.glitched.gradeCrazed_sherd hx
  · split
    · unfold State.gradeShattered
      rw [if_pos (h.firing.trans hx)]; exact h.tripLog
    · exact h.tripLog
    · exact h.gradeCrazed_sherd hx

theorem latchTrip_of_ready (h : s.kilnReady = true) : s.latchTrip e = s.gradeTrip e := by
  unfold State.latchTrip; rw [if_pos h]

theorem wakeKiln_kilnReady (h : s.kilnReady = true) : s.wakeKiln.kilnReady = true := by
  have runs := wakeKiln_of_kilnReady h
  unfold State.kilnReady; rw [runs]; rfl

theorem trip_eq (h : s.kilnReady = true) (cause index : Nat) : s.trip cause index = (s.wakeKiln.gradeTrip ⟨cause, index, s.tick⟩).settleGrade := by
  unfold State.trip
  rw [latchTrip_of_ready (wakeKiln_kilnReady h)]

theorem State.Senses.trip_calm {cause index : Nat} (h : s.Senses x K) (ready : s.kilnReady = true) (c : x.Calm)
    (hc : causeGrade x.firing cause = .crazed) (few : cause ≠ 3 ∨ x.tamp.glitchAt.length < 2) :
    (s.trip cause index).Senses ((x.counted cause).enter ⟨cause, index, x.tick⟩).quiet True := by
  rw [trip_eq ready, h.tick]
  exact (State.Senses.gradeTrip_calm (e := ⟨cause, index, x.tick⟩) (h.wakeKiln_ready ready) c hc few).settleGrade

theorem State.Senses.trip_inCrazed {cause index : Nat} (h : s.Senses x K) (ready : s.kilnReady = true) (c : x.InCrazed)
    (hc : causeGrade x.firing cause = .crazed) (h3 : cause ≠ 3) : (s.trip cause index).Senses x.quiet True := by
  have woken := h.wakeKiln_ready ready
  have graded : s.wakeKiln.gradeTrip ⟨cause, index, s.tick⟩ = s.wakeKiln.gradeCrazed ⟨cause, index, s.tick⟩ := by
    rw [gradeTrip_of_crazed (woken.firing ▸ hc) (.inl h3)]
    exact congrArg (State.gradeCrazed · _) (if_neg h3)
  rw [trip_eq ready, graded]
  exact (woken.gradeCrazed_inCrazed c).settleGrade

/-! ## Zeroization (R266–R270) -/

theorem State.Senses.zeroShown (h : s.Senses x K) : s.zeroShown.Senses x K := h.spyEvent

theorem State.Senses.zeroZ2 {cause : SherdCause} (h : s.Senses x K) : (s.zeroZ2 cause).Senses
    { x with firing := .sherd, tamp := { x.tamp with sherdLatch := some cause, zeroStep := 2 } } K := by
  obtain ⟨rfl, kiln⟩ := h
  unfold State.zeroZ2; exact State.Senses.zeroShown ⟨rfl, kiln⟩

theorem State.Senses.zeroZ3 (h : s.Senses x K) : s.zeroZ3.Senses { x with tamp := { x.tamp with zeroStep := 3 } } K := by
  have dropped := h.dropSessions.dropSlip
  unfold State.zeroZ3; dsimp only
  generalize s.dropSessions.dropSlip = u at dropped
  obtain ⟨rfl, kiln⟩ := dropped
  exact State.Senses.zeroShown ⟨rfl, kiln⟩

theorem State.Senses.zeroZ4 {cause : SherdCause} (h : s.Senses x K) : (s.zeroZ4 cause).Senses
    { x with staged := none, tamp := { x.tamp with zeroStep := 4, zeroRecord := some (4, cause) } } K := by
  obtain ⟨rfl, kiln⟩ := h
  unfold State.zeroZ4; exact State.Senses.zeroShown ⟨rfl, kiln⟩

theorem State.Senses.zeroZ5 {cause : SherdCause} (h : s.Senses x K) : (s.zeroZ5 cause).Senses
    { x with tamp := { x.tamp with zeroStep := 5, zeroRecord := some (5, cause) } } K := by
  obtain ⟨rfl, kiln⟩ := h
  unfold State.zeroZ5; exact State.Senses.zeroShown ⟨rfl, kiln⟩

theorem State.Senses.zeroZ6 {cause : SherdCause} (h : s.Senses x K) : (s.zeroZ6 cause).Senses { x with
    sealed := false
    tamp := { x.tamp with zeroStep := 6, zeroRecord := some (6, cause), grade := .none, holds := [], latches := [] } } K := by
  obtain ⟨rfl, kiln⟩ := h
  unfold State.zeroZ6; exact State.Senses.zeroShown (State.Senses.klog ⟨rfl, kiln⟩)

theorem State.Senses.channelsToSherd (h : s.Senses x K) : s.channelsToSherd.Senses x K := h.eachCh fun _ _ ht => ht.chOp

/-- Sensing once the hardware lines of Shattered have acted. -/
def Sensing.shatter (x : Sensing) (cause : SherdCause) : Sensing :=
  { x with sealed := true, tamp := { x.tamp with grade := .shattered, sherdLatch := some cause } }

/-- Sensing once a zeroization is complete. -/
def Sensing.zeroized (x : Sensing) (cause : SherdCause) : Sensing :=
  { x with
    sealed := false, firing := .sherd, staged := none
    tamp := { x.tamp with sherdLatch := some cause, zeroStep := 6, zeroRecord := some (6, cause), grade := .none, holds := [], latches := [] } }

/-- The state in which the steps Z2 to Z6 find the part. -/
def State.shattered (s : State) (cause : SherdCause) : State :=
  State.crazedEffects { s with tamp := { s.tamp with grade := .shattered, sherdLatch := some cause } }

theorem State.Senses.shattered {cause : SherdCause} (h : s.Senses x K) : (s.shattered cause).Senses (x.shatter cause) K := by
  obtain ⟨rfl, kiln⟩ := h
  exact State.Senses.crazedEffects (x := { s.sensing with tamp := (s.sensing.shatter cause).tamp }) ⟨rfl, kiln⟩

theorem zeroize_complete {cause : SherdCause} (h : (s.shattered cause).canZeroize = true) : s.zeroize cause =
    ((((((s.shattered cause).wakeKiln.zeroZ2 cause).zeroZ3).zeroZ4 cause).zeroZ5 cause).zeroZ6 cause).channelsToSherd := by
  unfold State.zeroize; exact if_pos h

theorem zeroize_waits {cause : SherdCause} (h : (s.shattered cause).canZeroize = false) : s.zeroize cause = s.shattered cause := by
  unfold State.zeroize; exact if_neg (ne_true_of_eq_false h)

theorem State.Senses.zeroize {cause : SherdCause} (h : s.Senses x K) (can : (s.shattered cause).canZeroize = true) :
    (s.zeroize cause).Senses (x.zeroized cause) K := by
  rw [zeroize_complete can]
  exact h.shattered.wakeKiln.zeroZ2.zeroZ3.zeroZ4.zeroZ5.zeroZ6.channelsToSherd

/-- With its rails and a Kiln that runs, the part completes the zeroization. -/
theorem State.Senses.canZeroize {cause : SherdCause} (h : s.Senses x True) (hr : s.railsOk = true) : (s.shattered cause).canZeroize = true := by
  have shattered := h.shattered (cause := cause)
  have rails : (s.shattered cause).railsOk = true := (railsOk_congr (shattered.rails.trans h.rails.symm)).trans hr
  unfold State.canZeroize State.kilnReady
  rw [rails, shattered.kilnRuns trivial]; rfl

/-- Shattered in force. -/
def Sensing.broken (x : Sensing) : Sensing := { x with tamp := { x.tamp with grade := .shattered } }

/-- The state in which the hardware lines log a trip of Shattered. -/
def State.broken (s : State) : State := { s with tamp := { s.tamp with grade := .shattered } }

theorem State.Senses.broken (h : s.Senses x K) : s.broken.Senses x.broken K := by
  obtain ⟨rfl, kiln⟩ := h
  exact ⟨rfl, kiln⟩

theorem enterShattered_eq (s : State) (e : Trip) : s.enterShattered e = (s.broken.tripLog .shattered e).zeroize .tamper := rfl

theorem State.Senses.enterShattered (h : s.Senses x True) (hr : s.railsOk = true) : (s.enterShattered e).Senses (x.zeroized .tamper) True := by
  have logged : (s.broken.tripLog .shattered e).Senses x.broken True := h.broken.tripLog
  rw [enterShattered_eq]
  exact logged.zeroize (logged.canZeroize ((railsOk_congr (logged.rails.trans h.rails.symm)).trans hr))

/-! ## What zeroization wipes (R266) -/

/-- Shared memory and the key slots are empty. -/
def State.Wiped (s : State) : Prop := s.mem = [] ∧ s.ksm.slots = []

theorem State.Wiped.logged (h : s.Wiped) (l : Logged s t) : t.Wiped := ⟨l.mem.trans h.1, l.slots.trans h.2⟩

theorem State.Wiped.zeroShown (h : s.Wiped) : s.zeroShown.Wiped := h.logged (spyEvent_logged _ _ _ _ _ _ _)

theorem State.Wiped.klog {code : Nat} {detail : Bytes} (h : s.Wiped) : (s.klog code detail).Wiped := h.logged (klog_logged _ _ _)

theorem zeroZ3_wiped (s : State) : s.zeroZ3.Wiped := by
  unfold State.zeroZ3; exact State.Wiped.zeroShown ⟨rfl, rfl⟩

theorem State.Wiped.zeroZ4 {cause : SherdCause} (h : s.Wiped) : (s.zeroZ4 cause).Wiped := by
  unfold State.zeroZ4; exact State.Wiped.zeroShown ⟨h.1, h.2⟩

theorem State.Wiped.zeroZ5 {cause : SherdCause} (h : s.Wiped) : (s.zeroZ5 cause).Wiped := by
  unfold State.zeroZ5; exact State.Wiped.zeroShown ⟨h.1, h.2⟩

theorem State.Wiped.zeroZ6 {cause : SherdCause} (h : s.Wiped) : (s.zeroZ6 cause).Wiped := by
  unfold State.zeroZ6; exact State.Wiped.zeroShown (State.Wiped.klog ⟨h.1, h.2⟩)

theorem State.Wiped.onlyChans (h : s.Wiped) (c : OnlyChans s t) : t.Wiped := by
  obtain ⟨e, -⟩ := c
  rw [e]; exact h

theorem zeroize_wiped {cause : SherdCause} (can : (s.shattered cause).canZeroize = true) : (s.zeroize cause).Wiped := by
  rw [zeroize_complete can]
  exact (zeroZ3_wiped _).zeroZ4.zeroZ5.zeroZ6.onlyChans (onlyChans_eachCh (fun _ _ => (only_chOp _ _ _).onlyChans) _)

theorem enterShattered_wiped (h : s.Senses x True) (hr : s.railsOk = true) : (s.enterShattered e).Wiped := by
  have logged : (s.broken.tripLog .shattered e).Senses x.broken True := h.broken.tripLog
  rw [enterShattered_eq]
  exact zeroize_wiped (logged.canZeroize ((railsOk_congr (logged.rails.trans h.rails.symm)).trans hr))

theorem State.Wiped.reschedule (h : s.Wiped) : s.reschedule.Wiped := by
  unfold State.reschedule
  rw [schedule_eq, schedule_eq s]; exact ⟨h.1, h.2⟩

theorem crazedStart_of_calm (h : s.tamp.grade ≠ .crazed) : s.crazedStart = s := by
  unfold State.crazedStart
  rw [if_neg (by simp [h])]

theorem State.Wiped.settleGrade (h : s.Wiped) (g : s.tamp.grade ≠ .crazed) : s.settleGrade.Wiped := by
  unfold State.settleGrade
  rw [crazedStart_of_calm g]; exact h.reschedule

/-! ## What a trip leaves of the open anomalies -/

theorem zeroize_holds (s : State) (cause : SherdCause) : (s.zeroize cause).tamp.holds ⊆ s.tamp.holds := by
  cases can : (s.shattered cause).canZeroize with
  | true => rw [((State.Senses.self s).zeroize can).tamp]; exact List.nil_subset _
  | false => rw [zeroize_waits can, (State.Senses.self s).shattered.tamp]; exact List.Subset.refl _

theorem enterShattered_holds (s : State) (e : Trip) : (s.enterShattered e).tamp.holds ⊆ s.tamp.holds := by
  have logged : (s.broken.tripLog .shattered e).tamp = s.broken.tamp := (tripLog_logged _ _ _ _ _).tamp
  have kept := zeroize_holds (s.broken.tripLog .shattered e) .tamper
  rw [logged] at kept
  rw [enterShattered_eq]; exact kept

theorem gradeCrazed_holds (s : State) (e : Trip) : (s.gradeCrazed e).tamp.holds ⊆ s.tamp.holds := by
  have same := State.Senses.self s
  have entered := same.enterCrazed (e := e)
  unfold State.gradeCrazed; dsimp only
  repeat' split
  · rw [same.tripLog.tamp]; exact List.Subset.refl _
  · exact List.Subset.refl _
  · exact enterShattered_holds _ _
  · rw [same.tripLog.quiet.tamp]; exact List.Subset.refl _
  · refine List.Subset.trans (enterShattered_holds _ _) ?_
    rw [entered.quiet.tamp]; exact List.Subset.refl _
  · rw [entered.tripLog.quiet.tamp]; exact List.Subset.refl _

theorem gradeTrip_holds (s : State) (e : Trip) : (s.gradeTrip e).tamp.holds ⊆ s.tamp.holds := by
  unfold State.gradeTrip; split
  · unfold State.gradeGlitch; dsimp only; split
    · exact enterShattered_holds _ _
    · exact gradeCrazed_holds _ _
  · split
    · unfold State.gradeShattered; repeat' split
      · rw [(State.Senses.self s).tripLog.tamp]; exact List.Subset.refl _
      · exact List.Subset.refl _
      · exact enterShattered_holds _ _
    · unfold State.gradeWatch
      rw [(State.Senses.self s).tripLog.tamp]; exact List.Subset.refl _
    · exact gradeCrazed_holds _ _

/-- The state in which the AO latch has taken a trip. -/
def State.latched (s : State) (e : Trip) : State := { s with tamp := { s.tamp with latches := s.tamp.latches ++ [e] } }

theorem latchTrip_waits (h : s.kilnReady = false) (e : Trip) : s.latchTrip e =
    if s.life.firing = .sherd ∨ s.tamp.grade = .shattered then s.latched e
    else match causeGrade s.life.firing e.cause with
      | .shattered => (s.latched e).shattered .tamper
      | .watch => s.latched e
      | _ => if s.tamp.grade = .crazed then (s.latched e).quiet else ((s.latched e).enterCrazed e).quiet := by
  unfold State.latchTrip
  rw [if_neg (ne_true_of_eq_false h)]; rfl

/-- With no Kiln the trip stays in the latch; the hardware lines take the grade, and nothing else of what is latched or held changes. -/
theorem latchTrip_unready (h : s.kilnReady = false) (e : Trip) :
    (s.latchTrip e).tamp.latches = s.tamp.latches ++ [e] ∧ (s.latchTrip e).tamp.holds = s.tamp.holds := by
  have latched := State.Senses.self (s.latched e)
  rw [latchTrip_waits h]
  repeat' split
  · exact ⟨rfl, rfl⟩
  · rw [(latched.shattered (cause := .tamper)).tamp]; exact ⟨rfl, rfl⟩
  · exact ⟨rfl, rfl⟩
  · exact ⟨rfl, rfl⟩
  · rw [latched.enterCrazed.quiet.tamp]; exact ⟨rfl, rfl⟩

theorem latchTrip_holds (s : State) (e : Trip) : (s.latchTrip e).tamp.holds ⊆ s.tamp.holds := by
  cases ready : s.kilnReady with
  | true => rw [latchTrip_of_ready ready]; exact gradeTrip_holds s e
  | false => rw [(latchTrip_unready ready e).2]; exact List.Subset.refl _

end Sys2Proof.Machine
end

section
/-! What a trip of Crazed does to a guarded output in service: the freeze of R252, from the entry to the end of the command. -/

namespace Sys2Proof.Machine

open Sys2Proof

variable {s t : State} {c : Fin 16}

/-! ## The freeze of one channel (R311, R314) -/

theorem Chan.freeze_crazed {x : Chan} (hg : x.eclass.guarded = true) (hs : x.service = true) (n : Nat) : (x.freeze .crazed n).frz.crazed = true := by
  unfold Chan.freeze
  by_cases hf : x.frz.crazed = true
  · rw [if_pos (by simp [Freeze.get, hf])]; exact hf
  · rw [if_neg (by simp [hg, hs, Freeze.get, hf])]; dsimp only; split
    · rfl
    · exact congrArg Freeze.crazed (Chan.push_frz _ _ _ _)

theorem Freeze.put_crazed {f : Freeze} (src : FreezeSrc) (h : f.crazed = true) : (f.put true src).crazed = true := by
  cases src <;> simp [Freeze.put, h]

theorem Chan.freeze_keeps {x : Chan} (h : x.frz.crazed = true) (src : FreezeSrc) (n : Nat) : (x.freeze src n).frz.crazed = true := by
  unfold Chan.freeze; split
  · exact h
  · dsimp only; split
    · exact Freeze.put_crazed src h
    · rw [Chan.push_frz]; exact Freeze.put_crazed src h

/-- A write of the grant ends no freeze but EXCHANGE (R314). -/
theorem Chan.guardWrite_crazed (x : Chan) (grant : Bool) (n : Nat) : (x.guardWrite grant n).frz.crazed = x.frz.crazed := by
  have set : ∀ y : Chan, (y.setLatch n).frz = y.frz := fun y => by unfold Chan.setLatch; split <;> exact Chan.settle_frz _ _
  have cleared : ∀ y : Chan, (y.clearLatch.settle n).frz = y.frz := fun y => Chan.settle_frz _ _
  have ended : (x.endFreeze n).frz.crazed = x.frz.crazed := by unfold Chan.endFreeze; rw [Chan.push_frz]
  unfold Chan.guardWrite; dsimp only; repeat' split
  · rfl
  · rfl
  · rw [set]; exact ended
  · rw [cleared]; exact ended
  · rfl
  · rfl
  · rw [set]
  · rw [cleared]

theorem Chan.startHold_frz (x : Chan) (n : Nat) : (x.startHold n).frz = x.frz := by
  unfold Chan.startHold; dsimp only; repeat' split
  all_goals rfl

theorem Chan.keepWrite_frz (x : Chan) (cmd : KeepCmd) (n : Nat) : (x.keepWrite cmd n).frz = x.frz := by
  unfold Chan.keepWrite; repeat' split
  · rfl
  · rfl
  · rfl
  · rfl
  · rfl
  · exact Chan.startHold_frz x n
  · unfold Chan.stopKeep; split <;> rfl

theorem Chan.applyKept_crazed (x : Chan) (n : Nat) : (x.applyKept n).frz.crazed = x.frz.crazed := by
  unfold Chan.applyKept; dsimp only
  split <;> split <;> simp only [Chan.keepWrite_frz, Chan.guardWrite_crazed]

/-- The end of a provisional hold leaves CRAZED in force. -/
theorem Chan.release_provisional_crazed (x : Chan) (n : Nat) : (x.release .provisional n).frz.crazed = x.frz.crazed := by
  unfold Chan.release; split
  · rfl
  · dsimp only
    rw [Chan.applyKept_crazed]; split
    · rfl
    · rw [Chan.settle_frz, Chan.push_frz]; rfl

/-! ## A frozen output through the effects of Crazed -/

/-- CRAZED freezes the output of the channel. -/
def State.Chilled (c : Fin 16) (s : State) : Prop := (s.chan c).frz.crazed = true

theorem State.Chilled.frozen (h : s.Chilled c) : (s.chan c).frozen = true := by
  have any : (s.chan c).frz.any = true := by
    have crazed : (s.chan c).frz.crazed = true := h
    simp [Freeze.any, crazed]
  simp [Chan.frozen, any]

theorem State.Chilled.of_chan (h : s.Chilled c) (e : t.chan c = s.chan c) : t.Chilled c := by
  unfold State.Chilled; rw [e]; exact h

theorem State.Chilled.logged (h : s.Chilled c) (l : Logged s t) : t.Chilled c := h.of_chan (l.chan c)

theorem State.Chilled.worked (h : s.Chilled c) (w : Worked s t) : t.Chilled c := h.of_chan (w.chan c)

theorem State.Chilled.freezeAll {src : FreezeSrc} (h : s.Chilled c) : (s.freezeAll src).Chilled c := by
  unfold State.Chilled
  rw [chan_freezeAll]
  exact Chan.freeze_keeps ((congrArg Freeze.crazed (Chan.closeDue_frz _ _)).trans h) _ _

theorem chan_releaseAll (s : State) (src : FreezeSrc) (d : Fin 16) : (s.releaseAll src).chan d = (s.due d).release src s.tick :=
  chan_eachCh_chOp (fun _ n y => y.release src n) s d

theorem State.Chilled.releaseProvisional (h : s.Chilled c) : (s.releaseAll .provisional).Chilled c := by
  unfold State.Chilled
  rw [chan_releaseAll, Chan.release_provisional_crazed]
  exact (congrArg Freeze.crazed (Chan.closeDue_frz _ _)).trans h

theorem chan_dropSessions (s : State) (d : Fin 16) : (s.dropSessions.chan d).frz = (s.chan d).frz := by
  have dropped := chan_eachCh (F := fun c t => (t.updLnk c Link.dropSession).updCh c (fun y => y.pairBack t.tick)) (s := s)
    (h := fun _ y => y.pairBack s.tick) (fun _ _ => rfl) (fun e t d ht => by rw [chan_updCh, chan_updLnk, ht, chan_updLnk]) d
  have back : (s.dropSessions.chan d) = (s.chan d).pairBack s.tick := dropped
  rw [back]; rfl

theorem State.Chilled.dropSessions (h : s.Chilled c) : s.dropSessions.Chilled c := (congrArg Freeze.crazed (chan_dropSessions s c)).trans h

theorem State.Chilled.quiet (h : s.Chilled c) : s.quiet.Chilled c := h

theorem State.Chilled.abandonRun (h : s.Chilled c) : s.abandonRun.Chilled c := by rw [abandonRun_eq]; exact h

theorem State.Chilled.schedule {k : Fin 2} (h : s.Chilled c) : (s.schedule k).Chilled c := by
  refine h.of_chan ?_
  rw [schedule_eq]; rfl

theorem State.Chilled.dropSlip (h : s.Chilled c) : s.dropSlip.Chilled c := h

theorem State.Chilled.portsDown (h : s.Chilled c) : s.portsDown.Chilled c := h

theorem State.Chilled.mainReset (h : s.Chilled c) : s.mainReset.Chilled c := by
  have stopped := ((h.worked (worked_ringsReset s)).abandonRun.worked (worked_stopFlash _)).dropSessions.dropSlip.portsDown
  unfold State.mainReset
  generalize s.ringsReset.abandonRun.stopFlash.dropSessions.dropSlip.portsDown = u at stopped
  exact stopped

theorem State.Chilled.holdMainReset {st : MainSt} (h : s.Chilled c) : (s.holdMainReset st).Chilled c := by
  have reset : s.mainReset.Chilled c := h.mainReset
  unfold State.holdMainReset State.freezeMain; dsimp only
  generalize s.mainReset = u at reset
  exact State.Chilled.freezeAll reset

theorem State.Chilled.crazedStart (h : s.Chilled c) : s.crazedStart.Chilled c := by
  have off := h.holdMainReset (st := .off)
  unfold State.crazedStart; dsimp only; split
  · generalize s.holdMainReset .off = u at off
    exact off
  · exact h

theorem State.Chilled.settleGrade (h : s.Chilled c) : s.settleGrade.Chilled c := h.crazedStart.schedule.schedule

theorem State.Chilled.seal {f : Ksm → Ksm} (h : s.Chilled c) : State.Chilled c { s with ksm := f s.ksm } := h

/-- The effects of Crazed freeze every guarded output in service (R252). -/
theorem crazedEffects_chilled (hg : (s.chan c).eclass.guarded = true) (hs : (s.chan c).service = true) : s.crazedEffects.Chilled c := by
  have frozen : (s.gradeChange.freezeAll .crazed).Chilled c := by
    unfold State.Chilled
    rw [chan_freezeAll]
    exact Chan.freeze_crazed (by rw [State.due, Chan.closeDue_eclass]; exact hg) (by rw [State.due, Chan.closeDue_service]; exact hs) _
  have woken : ((s.gradeChange.freezeAll .crazed).releaseAll .provisional).wakeMain.Chilled c := frozen.releaseProvisional.logged (wakeMain_logged _)
  have dropped := (woken.seal (f := fun k => { k with sealed := true, reseedDue := true })).dropSessions.dropSlip
  have aborted := (dropped.worked (worked_abortEngines _ crazedEngines .abortTamper)).abandonRun
  unfold State.crazedEffects; dsimp only
  generalize State.abandonRun _ = u at aborted ⊢
  exact aborted

end Sys2Proof.Machine
end

section
/-! SENSOR_TRIP (spec/07_tamper.md R240, R244, R250, R252, R264, R266). -/

namespace Sys2Proof.Machine

open Sys2Proof

variable {s : State} {cause index : Nat}

/-- No grade above Watch, in words of the state. -/
theorem calm_sensing (hf : s.life.firing ≠ .sherd) (hc : s.crazed = false) (few : s.tamp.crazedAt.length < 8) : s.sensing.Calm := by
  obtain ⟨crazed, shattered⟩ := crazed_eq_false.mp hc
  exact ⟨hf, crazed, shattered, few⟩

theorem exec_sensorTrip (hvao : s.rails.vao = true) (hc : sensorCause cause = true) (hs : s.sensed cause = true) :
    exec (.sensorTrip cause index) s = .next (s.trip cause index) := congrArg Host.Outcome.next (if_pos (by simp [hvao, hc, hs]))

theorem chan_counted (s : State) (cause : Nat) (c : Fin 16) : (s.counted cause).chan c = s.chan c := by
  unfold State.counted; split
  · rfl
  · rfl

theorem trip_calm_chilled {c : Fin 16} (ready : s.kilnReady = true) (calm : s.sensing.Calm) (hc : causeGrade s.life.firing cause = .crazed)
    (few : cause ≠ 3 ∨ s.tamp.glitchAt.length < 2) (hg : (s.chan c).eclass.guarded = true) (hs : (s.chan c).service = true) :
    (s.trip cause index).Chilled c := by
  have kept : (s.wakeKiln.counted cause).chan c = s.chan c := (chan_counted _ _ _).trans ((wakeKiln_logged s).chan c)
  have chilled : ∀ u : State, u.chan c = s.chan c → u.crazedEffects.Chilled c := fun u hu =>
    crazedEffects_chilled (by rw [hu]; exact hg) (by rw [hu]; exact hs)
  have entered : ((s.wakeKiln.counted cause).enterCrazed ⟨cause, index, s.tick⟩).Chilled c := chilled _ kept
  rw [trip_eq ready, (State.Senses.self s).wakeKiln.gradeTrip_enters (e := ⟨cause, index, s.tick⟩) calm hc few]
  exact (entered.logged (tripLog_logged _ _ _ _ _)).quiet.settleGrade

/-- A trip of Crazed is entered, counted and shown at every guarded output in service. -/
theorem sensorTrip_crazed (hvao : s.rails.vao = true) (hcause : sensorCause cause = true) (hs : s.sensed cause = true)
    (ready : s.kilnReady = true) (calm : s.sensing.Calm) (hc : causeGrade s.life.firing cause = .crazed)
    (few : cause ≠ 3 ∨ s.tamp.glitchAt.length < 2) : Does (.sensorTrip cause index) s (fun t =>
      t.tamp.grade = .crazed ∧ t.tamp.entry = ⟨cause, index, s.tick⟩ ∧ t.ksm.sealed = true ∧ t.tamp.quietEnd = s.tick + 1 + 32768 ∧
      t.tamp.crazedAt = s.powered :: within 2831155200 s.powered s.tamp.crazedAt ∧
      ∀ c, (s.chan c).eclass.guarded = true → (s.chan c).service = true → (t.chan c).frozen = true) := by
  have tripped := (State.Senses.self s).trip_calm (index := index) ready calm hc few
  rw [Sensing.counted_eq] at tripped
  refine ⟨_, exec_sensorTrip hvao hcause hs, ?_⟩
  dsimp only
  rw [tripped.tamp, tripped.sealed]
  exact ⟨rfl, rfl, rfl, rfl, rfl, fun c hg hs => (trip_calm_chilled ready calm hc few hg hs).frozen⟩

/-- A trip of Shattered zeroizes. -/
theorem sensorTrip_shattered (hvao : s.rails.vao = true) (hcause : sensorCause cause = true) (hs : s.sensed cause = true)
    (ready : s.kilnReady = true) (hr : s.railsOk = true) (hf : s.life.firing ≠ .sherd) (hg : s.tamp.grade ≠ .shattered)
    (hc : causeGrade s.life.firing cause = .shattered) : Does (.sensorTrip cause index) s (fun t =>
      t.life.firing = .sherd ∧ t.tamp.zeroRecord = some (6, .tamper) ∧ t.ksm.slots = [] ∧ t.mem = []) := by
  have woken := (State.Senses.self s).wakeKiln_ready ready
  have rails : s.wakeKiln.railsOk = true := (railsOk_congr woken.rails).trans hr
  have h3 : cause ≠ 3 := fun e => by rw [e] at hc; cases hc
  have graded : s.wakeKiln.gradeTrip ⟨cause, index, s.tick⟩ = s.wakeKiln.enterShattered ⟨cause, index, s.tick⟩ := by
    unfold State.gradeTrip
    rw [if_neg h3, woken.firing]; dsimp only
    rw [show causeGrade s.sensing.firing cause = .shattered from hc]; dsimp only
    unfold State.gradeShattered
    rw [if_neg (woken.firing ▸ hf), if_neg (woken.tamp ▸ hg)]
  have entered : (s.wakeKiln.enterShattered ⟨cause, index, s.tick⟩).Senses _ True := woken.enterShattered rails
  have wiped : (s.wakeKiln.enterShattered ⟨cause, index, s.tick⟩).Wiped := enterShattered_wiped woken rails
  refine ⟨_, exec_sensorTrip hvao hcause hs, ?_⟩
  dsimp only
  rw [trip_eq ready, graded, entered.settleGrade.firing, entered.settleGrade.tamp]
  obtain ⟨mem, slots⟩ := wiped.settleGrade (by rw [entered.tamp]; nofun)
  exact ⟨rfl, rfl, slots, mem⟩

/-- In Sherd a trip changes no grade. -/
theorem sensorTrip_sherd (hvao : s.rails.vao = true) (hcause : sensorCause cause = true) (hs : s.sensed cause = true)
    (ready : s.kilnReady = true) (hf : s.life.firing = .sherd) : Does (.sensorTrip cause index) s (fun t => t.tamp.grade = s.tamp.grade) := by
  have graded := ((State.Senses.self s).wakeKiln.gradeTrip_sherd (e := ⟨cause, index, s.tick⟩) hf).settleGrade
  rw [Sensing.counted_eq] at graded
  refine ⟨_, exec_sensorTrip hvao hcause hs, ?_⟩
  dsimp only
  rw [trip_eq ready, graded.tamp]; rfl

/-- With no Kiln the trip waits in the latch. -/
theorem sensorTrip_latches (hvao : s.rails.vao = true) (hcause : sensorCause cause = true) (hs : s.sensed cause = true)
    (ready : s.kilnReady = false) : Does (.sensorTrip cause index) s (fun t => t.tamp.latches = s.tamp.latches ++ [⟨cause, index, s.tick⟩]) := by
  have asleep : s.wakeKiln = s := if_neg (by simp [ready])
  obtain ⟨latched, -⟩ := latchTrip_unready ready ⟨cause, index, s.tick⟩
  refine ⟨_, exec_sensorTrip hvao hcause hs, ?_⟩
  unfold State.trip; dsimp only
  rw [asleep, (State.Senses.self _).settleGrade.tamp]; exact latched

end Sys2Proof.Machine
end

section
/-! Discrimination (spec/07_tamper.md R255–R260): DISCRIMINABLE_ANOMALY and REFERENCE_EVENT. -/

namespace Sys2Proof.Machine

open Sys2Proof

variable {x : Sensing} {K : Prop} {s : State} {cause index : Nat}

/-! ## An anomaly (R257, R260) -/

/-- An excuse is recorded, counted, and may suspend discrimination; it leaves the rest. -/
theorem State.Senses.excuse (a : Anomaly) (ref : Nat × Nat) (h : s.Senses x K) : ∃ ex u, (s.excuse a ref).Senses
    { x with tamp := { x.tamp with excuses := ex, excused := sat16 x.tamp.excused, suspendedUntil := u } } K := by
  have logged : (s.gradeWatch ⟨a.cause, a.index, a.tick⟩ ref.1 ref.2).Senses x K := h.tripLog
  unfold State.excuse; dsimp only
  generalize s.gradeWatch ⟨a.cause, a.index, a.tick⟩ ref.1 ref.2 = u at logged ⊢
  obtain ⟨rfl, kiln⟩ := logged
  split
  · exact ⟨_, _, State.Senses.tripLog ⟨rfl, kiln⟩⟩
  · exact ⟨_, _, ⟨rfl, kiln⟩⟩

theorem wakeKiln_suspended (s : State) : s.wakeKiln.suspended = s.suspended := by
  have woken := (State.Senses.self s).wakeKiln
  unfold State.suspended
  rw [woken.tamp, woken.powered]; rfl

theorem anomaly_suspended (hf : s.life.firing ≠ .sherd) (hs : s.suspended = true) :
    s.anomaly cause index = s.latchTrip ⟨cause, index, s.tick⟩ := by
  unfold State.anomaly; dsimp only
  rw [if_neg hf, if_pos hs]

theorem anomaly_excused {ref : Nat × Nat} (hf : s.life.firing ≠ .sherd) (hs : s.suspended = false) (hr : s.tamp.excusing s.tick = some ref) :
    s.anomaly cause index = s.excuse ⟨cause, index, s.tick⟩ ref := by
  unfold State.anomaly; dsimp only
  rw [if_neg hf, if_neg (ne_true_of_eq_false hs), hr]

/-- An anomaly that no reference excuses opens a hold and changes no grade. -/
theorem State.Senses.anomaly_held (h : s.Senses x K) (hf : s.life.firing ≠ .sherd) (hs : s.suspended = false)
    (hr : s.tamp.excusing s.tick = none) :
    (s.anomaly cause index).Senses { x with tamp := { x.tamp with holds := x.tamp.holds ++ [⟨cause, index, x.tick⟩] } } K := by
  obtain ⟨rfl, kiln⟩ := h
  unfold State.anomaly; dsimp only
  rw [if_neg hf, if_neg (ne_true_of_eq_false hs), hr]; dsimp only
  split
  · exact State.Senses.gradeChange (State.Senses.freezeAll ⟨rfl, kiln⟩)
  · exact ⟨rfl, kiln⟩

theorem exec_discriminableAnomaly (hvao : s.rails.vao = true) (hsrc : s.clk.tickSrc ≠ none) (hc : anomalyCause cause index = true) :
    exec (.discriminableAnomaly cause index) s = .next (s.wakeKiln.anomaly cause index).settleGrade :=
  congrArg Host.Outcome.next (if_pos (by simp [hvao, hc, Option.isSome_iff_ne_none, hsrc]))

/-- Every discriminable cause is of Crazed, and none is the VCORE glitch. -/
theorem anomalyCause_grade (hc : anomalyCause cause index = true) (f : Firing) : causeGrade f cause = .crazed ∧ cause ≠ 3 := by
  have range : cause = 6 ∨ cause = 7 ∨ cause = 8 := by
    simp only [anomalyCause, Bool.or_eq_true, Bool.and_eq_true, beq_iff_eq] at hc
    omega
  rcases range with rfl | rfl | rfl
  · exact ⟨rfl, by decide⟩
  · exact ⟨rfl, by decide⟩
  · exact ⟨rfl, by decide⟩

/-- While discrimination is suspended the anomaly is a trip. -/
theorem discriminableAnomaly_suspended (hvao : s.rails.vao = true) (hsrc : s.clk.tickSrc ≠ none) (hc : anomalyCause cause index = true)
    (hs : s.suspended = true) (ready : s.kilnReady = true) (calm : s.sensing.Calm) : Does (.discriminableAnomaly cause index) s (fun t =>
      t.tamp.grade = .crazed ∧ t.tamp.entry = ⟨cause, index, s.tick⟩) := by
  have woken := (State.Senses.self s).wakeKiln_ready ready
  obtain ⟨crazed, h3⟩ := anomalyCause_grade hc s.life.firing
  have graded := (woken.gradeTrip_calm (e := ⟨cause, index, s.wakeKiln.tick⟩) calm crazed (.inl h3)).settleGrade
  refine ⟨_, exec_discriminableAnomaly hvao hsrc hc, ?_⟩
  dsimp only
  rw [anomaly_suspended (woken.firing ▸ calm.firing) ((wakeKiln_suspended s).trans hs), latchTrip_of_ready (wakeKiln_kilnReady ready), graded.tamp]
  exact ⟨rfl, congrArg (Trip.mk cause index) woken.tick⟩

theorem discriminableAnomaly_holds (hvao : s.rails.vao = true) (hsrc : s.clk.tickSrc ≠ none) (hc : anomalyCause cause index = true)
    (hf : s.life.firing ≠ .sherd) (hs : s.suspended = false) (hr : s.tamp.excusing s.tick = none) :
    Does (.discriminableAnomaly cause index) s (fun t =>
      t.tamp.holds = s.tamp.holds ++ [⟨cause, index, s.tick⟩] ∧ t.tamp.grade = s.tamp.grade) := by
  have woken := (State.Senses.self s).wakeKiln
  have held := woken.anomaly_held (cause := cause) (index := index) (woken.firing ▸ hf) ((wakeKiln_suspended s).trans hs)
    (by rw [woken.tamp, woken.tick]; exact hr)
  refine ⟨_, exec_discriminableAnomaly hvao hsrc hc, ?_⟩
  dsimp only
  rw [held.settleGrade.tamp]; exact ⟨rfl, rfl⟩

theorem discriminableAnomaly_excused (hvao : s.rails.vao = true) (hsrc : s.clk.tickSrc ≠ none) (hc : anomalyCause cause index = true)
    (hf : s.life.firing ≠ .sherd) (hs : s.suspended = false) (hr : s.tamp.excusing s.tick ≠ none) :
    Does (.discriminableAnomaly cause index) s (fun t =>
      t.tamp.holds = s.tamp.holds ∧ t.tamp.grade = s.tamp.grade ∧ t.tamp.excused = min 65535 (s.tamp.excused + 1)) := by
  have woken := (State.Senses.self s).wakeKiln
  obtain ⟨ref, href⟩ := Option.ne_none_iff_exists'.mp hr
  obtain ⟨ex, u, excused⟩ := woken.excuse ⟨cause, index, s.wakeKiln.tick⟩ ref
  refine ⟨_, exec_discriminableAnomaly hvao hsrc hc, ?_⟩
  dsimp only
  rw [anomaly_excused (woken.firing ▸ hf) ((wakeKiln_suspended s).trans hs) (by rw [woken.tamp, woken.tick]; exact href), excused.settleGrade.tamp]
  exact ⟨rfl, rfl, rfl⟩

/-! ## A reference event (R258) -/

/-- The latest reference events, one of kind `k` sampled in tick `n`. -/
def Tamp.refer (y : Tamp) (k : RefEvent) (n : Nat) : Tamp :=
  match k with
  | .surge => { y with refSurge := some n }
  | .pfail => { y with refPfail := some n }
  | .upaAlarm => { y with refA := some n }
  | .upbAlarm => { y with refB := some n }

/-- The tick of the latest reference event of kind `k`. -/
def Tamp.refOf (y : Tamp) (k : RefEvent) : Option Nat :=
  match k with | .surge => y.refSurge | .pfail => y.refPfail | .upaAlarm => y.refA | .upbAlarm => y.refB

/-- The code of R418 of a reference event. -/
def refCode (k : RefEvent) : Nat := match k with | .surge => 1 | .pfail => 2 | .upaAlarm => 3 | .upbAlarm => 4

theorem Tamp.refOf_refer (y : Tamp) (k : RefEvent) (n : Nat) : (y.refer k n).refOf k = some n := by cases k <;> rfl

theorem Tamp.refer_grade (y : Tamp) (k : RefEvent) (n : Nat) : (y.refer k n).grade = y.grade := by cases k <;> rfl

/-- The anomalies whose window holds tick `n`. -/
def Tamp.hit (y : Tamp) (n : Nat) : List Anomaly := y.holds.filter (fun a => decide (n < a.tick + 66))

/-- Sensing once a reference event has ended the holds whose window it falls in. -/
def Sensing.refer (x : Sensing) (k : RefEvent) : Sensing :=
  { x with tamp := { x.tamp.refer k x.tick with holds := x.tamp.holds.filter (fun a => decide (a.tick + 66 ≤ x.tick)) } }

/-- The state in which a reference event has ended the holds. -/
def State.referred (s : State) (k : RefEvent) : State := { s with tamp := (s.sensing.refer k).tamp }

theorem State.Senses.referred (k : RefEvent) (h : s.Senses x K) : (s.referred k).Senses (x.refer k) K := by
  obtain ⟨rfl, kiln⟩ := h
  exact ⟨rfl, kiln⟩

theorem filter_not_lt (n : Nat) (l : List Anomaly) :
    l.filter (fun a => !decide (n < a.tick + 66)) = l.filter (fun a => decide (a.tick + 66 ≤ n)) := by
  refine List.filter_congr fun a _ => ?_
  rw [← decide_not]; exact decide_eq_decide.mpr Nat.not_lt

theorem reference_eq (s : State) (k : RefEvent) : s.reference k =
    let excused := (s.tamp.hit s.tick).foldl (fun x a => x.excuse a (refCode k, s.tick)) (s.referred k)
    if (s.tamp.hit s.tick).isEmpty then excused
    else if excused.crazed then { excused with tamp := { excused.tamp with quietEnd := s.tick + 1 + 32768 } }
    else excused.endHold := by
  have referred : s.referred k = { s with
      tamp := { s.tamp.refer k s.tick with holds := s.tamp.holds.filter (fun a => !decide (s.tick < a.tick + 66)) } } := by
    rw [filter_not_lt]; rfl
  rw [referred]
  cases k <;> rfl

/-- Sensing stands as `x` but for the excuses, their number, a suspension and the quiet interval. -/
def State.Excused (x : Sensing) (K : Prop) (s : State) : Prop :=
  ∃ ex n u q, s.Senses { x with tamp := { x.tamp with excuses := ex, excused := n, suspendedUntil := u, quietEnd := q } } K

theorem State.Senses.excused (h : s.Senses x K) : s.Excused x K := ⟨_, _, _, _, h⟩

theorem State.Excused.excuse {a : Anomaly} {ref : Nat × Nat} (h : s.Excused x K) : (s.excuse a ref).Excused x K := by
  obtain ⟨_, _, _, q, h⟩ := h
  obtain ⟨ex, u, h⟩ := h.excuse a ref
  exact ⟨ex, _, u, q, h⟩

theorem State.Excused.quietEnd {q : Nat} (h : s.Excused x K) : State.Excused x K { s with tamp := { s.tamp with quietEnd := q } } := by
  obtain ⟨ex, n, u, _, eq, kiln⟩ := h
  exact ⟨ex, n, u, q, congrArg (fun y : Sensing => { y with tamp := { y.tamp with quietEnd := q } }) eq, kiln⟩

theorem State.Senses.endHold (h : s.Senses x K) : s.endHold.Senses x K := by
  unfold State.endHold; split
  · exact h
  · exact (h.gradeChange.releaseAll.logged (programLog_logged _)).drainReports

theorem State.Excused.endHold (h : s.Excused x K) : s.endHold.Excused x K := by
  obtain ⟨ex, n, u, q, h⟩ := h
  exact ⟨ex, n, u, q, h.endHold⟩

theorem State.Senses.reference (k : RefEvent) (h : s.Senses x K) : (s.reference k).Excused (x.refer k) K := by
  have excused : ((s.tamp.hit s.tick).foldl (fun x a => x.excuse a (refCode k, s.tick)) (s.referred k)).Excused (x.refer k) K :=
    List.foldlRecOn (motive := State.Excused (x.refer k) K) _ _ (h.referred k).excused fun t ht a _ => ht.excuse
  rw [reference_eq]; dsimp only
  generalize (s.tamp.hit s.tick).foldl _ (s.referred k) = u at excused ⊢
  split
  · exact excused
  · split
    · exact excused.quietEnd
    · exact excused.endHold

theorem State.Senses.countAlarm (k : RefEvent) (h : s.Senses x K) : (s.countAlarm k).Senses x K := by
  cases k with
  | surge => exact h
  | pfail => exact h
  | upaAlarm => exact h
  | upbAlarm => exact h

theorem exec_referenceEvent {k : RefEvent} (hvao : s.rails.vao = true) (hsrc : s.clk.tickSrc ≠ none) (hk : k = .surge → s.rails.vmet = true) :
    exec (.referenceEvent k) s = .next ((s.countAlarm k).reference k).settleGrade := by
  refine congrArg Host.Outcome.next (if_neg ?_)
  cases k <;> simp_all

theorem referenceEvent_ends {k : RefEvent} (hvao : s.rails.vao = true) (hsrc : s.clk.tickSrc ≠ none) (hk : k = .surge → s.rails.vmet = true) :
    Does (.referenceEvent k) s (fun t => t.tamp.holds = s.tamp.holds.filter (fun a => decide (a.tick + 66 ≤ s.tick)) ∧
      t.tamp.grade = s.tamp.grade ∧ t.tamp.refOf k = some s.tick) := by
  obtain ⟨ex, n, u, q, referred⟩ := ((State.Senses.self s).countAlarm k).reference k
  refine ⟨_, exec_referenceEvent hvao hsrc hk, ?_⟩
  dsimp only
  rw [referred.settleGrade.tamp]
  exact ⟨rfl, Tamp.refer_grade _ _ _, (Tamp.refOf_refer s.tamp k s.tick).symm ▸ by cases k <;> rfl⟩

end Sys2Proof.Machine
end

section
/-! The ends of the windows (spec/07_tamper.md R258, R260–R263): PROVISIONAL_HOLD_EXPIRY, CRAZED_QUIET_EXPIRY, SUSPENSION_END, and a
self-check that fails or lets an abandoned start go on. -/

namespace Sys2Proof.Machine

open Sys2Proof

variable {x : Sensing} {K : Prop} {s t : State}

/-! ## The tick at which a window ends -/

/-- Sensing in tick `n`. -/
def Sensing.at (x : Sensing) (n : Nat) : Sensing := { x with tick := n }

theorem Sensing.at_tamp (x : Sensing) (n : Nat) : (x.at n).tamp = x.tamp := rfl

theorem Sensing.at_firing (x : Sensing) (n : Nat) : (x.at n).firing = x.firing := rfl

theorem Sensing.Calm.at {n : Nat} (c : x.Calm) : (x.at n).Calm := ⟨c.firing, c.crazed, c.shattered, c.few⟩

/-- The state at the end of a window. -/
def State.ended (s : State) (n : Nat) : State := (s.advanceTo n).closeWindows

theorem ended_tick (s : State) (n : Nat) : (s.ended n).tick = max s.tick (min n (2 ^ 48 - 1)) := tick_advanceTo_closeWindows s n

theorem State.Senses.withTick {n : Nat} (h : s.Senses x K) : State.Senses (x.at n) K { s with tick := n } :=
  ⟨congrArg (fun y : Sensing => y.at n) h.eq, h.kiln⟩

theorem State.Senses.ended (n : Nat) (h : s.Senses x K) : (s.ended n).Senses (x.at (s.ended n).tick) K := by
  rw [ended_tick]; exact (h.withTick (n := max s.tick (min n (2 ^ 48 - 1)))).closeWindows

theorem settleGrade_tamp (s : State) : s.settleGrade.tamp = s.tamp := (State.Senses.self s).settleGrade.tamp

theorem OnlyChans.kilnReady (c : OnlyChans s t) : t.kilnReady = s.kilnReady := by
  obtain ⟨e, hpwr⟩ := c
  have islands : t.pwr.kiln = s.pwr.kiln ∧ t.pwr.flushDone = s.pwr.flushDone := by
    rcases hpwr with hp | hp
    · rw [hp]; exact ⟨rfl, rfl⟩
    · rw [hp]; unfold State.wakeMain; split
      · exact ⟨rfl, rfl⟩
      · exact ⟨rfl, rfl⟩
  have rails : t.railsOk = s.railsOk := railsOk_congr ((congrArg State.rails e).trans rfl)
  have bins : t.bins = s.bins := (congrArg State.bins e).trans rfl
  unfold State.kilnReady State.kilnRuns
  rw [rails, bins, islands.1, islands.2]

theorem ended_kilnReady (s : State) (n : Nat) : (s.ended n).kilnReady = s.kilnReady := (onlyChans_closeWindows (s.advanceTo n)).kilnReady

/-! ## The end of a provisional hold (R258) -/

/-- The state in which the window of an anomaly is closed. -/
def State.closed (s : State) (a : Anomaly) : State := { s with tamp := { s.tamp with holds := s.tamp.holds.filter (fun x => x != a) } }

theorem expireAnomaly_eq (s : State) (a : Anomaly) : s.expireAnomaly a =
    if (s.closed a).crazed then ((s.closed a).tripLog .crazed ⟨a.cause, a.index, a.tick⟩).quiet
    else ((s.closed a).latchTrip ⟨a.cause, a.index, a.tick⟩).endHold := rfl

theorem expireAnomaly_holds {a b : Anomaly} (h : b ∈ (s.expireAnomaly a).tamp.holds) : b ∈ s.tamp.holds ∧ b ≠ a := by
  have sub : (s.expireAnomaly a).tamp.holds ⊆ s.tamp.holds.filter (fun x => x != a) := by
    rw [expireAnomaly_eq]; split
    · rw [(State.Senses.self _).tripLog.quiet.tamp]; exact List.Subset.refl _
    · rw [(State.Senses.self _).endHold.tamp]; exact latchTrip_holds (s.closed a) _
  obtain ⟨mem, ne⟩ := List.mem_filter.mp (sub h)
  exact ⟨mem, bne_iff_ne.mp ne⟩

theorem expireAnomalies_holds {b : Anomaly} (l : List Anomaly) (s : State)
    (h : b ∈ (l.foldl (fun t a => t.expireAnomaly a) s).tamp.holds) : b ∈ s.tamp.holds ∧ b ∉ l := by
  induction l generalizing s with
  | nil => exact ⟨h, List.not_mem_nil⟩
  | cons a l ih =>
    obtain ⟨first, rest⟩ := ih (s.expireAnomaly a) h
    obtain ⟨mem, ne⟩ := expireAnomaly_holds first
    exact ⟨mem, List.not_mem_cons_of_ne_of_not_mem ne rest⟩

/-- Only anomalies whose window is still open stay. -/
theorem expireHolds_holds {b : Anomaly} (h : b ∈ s.expireHolds.tamp.holds) : b ∈ s.tamp.holds ∧ s.tick < b.tick + 66 := by
  obtain ⟨mem, kept⟩ := expireAnomalies_holds _ _ h
  refine ⟨mem, Nat.lt_of_not_le fun closed => kept (List.mem_filter.mpr ⟨mem, decide_eq_true closed⟩)⟩

/-- Sensing once the hold of the only open anomaly is over. -/
def Sensing.unheld (x : Sensing) : Sensing := { x with tamp := { x.tamp with holds := [] } }

/-- A window that closes with no reference is graded Crazed. -/
theorem State.Senses.expireHolds_calm {a : Anomaly} (h : s.Senses x K) (ready : s.kilnReady = true) (calm : x.Calm) (one : s.tamp.holds = [a])
    (closed : a.tick + 66 ≤ s.tick) (h3 : a.cause ≠ 3) (hc : causeGrade x.firing a.cause = .crazed) :
    s.expireHolds.Senses (x.unheld.enter ⟨a.cause, a.index, a.tick⟩).quiet K := by
  obtain ⟨rfl, kiln⟩ := h
  have expired : s.expireHolds = s.expireAnomaly a := by
    unfold State.expireHolds
    rw [one, List.filter_cons_of_pos (by simpa using closed)]; rfl
  have cleared : (s.closed a).Senses s.sensing.unheld K := by
    have left : s.tamp.holds.filter (fun b => b != a) = [] := by rw [one, List.filter_cons_of_neg (by simp)]; rfl
    unfold State.closed
    rw [left]; exact ⟨rfl, kiln⟩
  have graded := cleared.gradeTrip_calm (e := ⟨a.cause, a.index, a.tick⟩) ⟨calm.firing, calm.crazed, calm.shattered, calm.few⟩ hc (.inl h3)
  have uncounted : s.sensing.unheld.counted a.cause = s.sensing.unheld := if_neg h3
  have below : (s.closed a).crazed = false := crazed_eq_false.mpr ⟨calm.crazed, calm.shattered⟩
  rw [uncounted] at graded
  rw [expired, expireAnomaly_eq, if_neg (ne_true_of_eq_false below), latchTrip_of_ready (s := s.closed a) ready]
  exact graded.endHold

theorem exec_provisionalHoldExpiry {a : Anomaly} {l : List Anomaly} (hl : s.tamp.holds = a :: l) (hvao : s.rails.vao = true)
    (hsrc : s.clk.tickSrc ≠ none) : exec .provisionalHoldExpiry s = .next (s.ended (a.tick + 66)).expireHolds.settleGrade := by
  refine congrArg Host.Outcome.next ?_
  rw [hl]; exact if_pos (by simp [hvao, Option.isSome_iff_ne_none, hsrc])

theorem provisionalHoldExpiry_grades {a : Anomaly} {l : List Anomaly} (hl : s.tamp.holds = a :: l) (hvao : s.rails.vao = true)
    (hsrc : s.clk.tickSrc ≠ none) : Does .provisionalHoldExpiry s (fun t =>
      (∀ b ∈ t.tamp.holds, b ∈ s.tamp.holds ∧ max s.tick (min (a.tick + 66) (2 ^ 48 - 1)) < b.tick + 66) ∧
      (s.kilnReady = true → s.sensing.Calm → l = [] → a.cause ≠ 3 → causeGrade s.life.firing a.cause = .crazed → a.tick + 66 < 2 ^ 48 →
        t.tamp.grade = .crazed ∧ t.tamp.entry = ⟨a.cause, a.index, a.tick⟩)) := by
  have ended := (State.Senses.self s).ended (a.tick + 66)
  refine ⟨_, exec_provisionalHoldExpiry hl hvao hsrc, fun b hb => ?_, fun ready calm hnil h3 hc fits => ?_⟩
  · rw [settleGrade_tamp] at hb
    obtain ⟨mem, opened⟩ := expireHolds_holds hb
    rw [ended.tamp] at mem
    rw [ended_tick] at opened
    exact ⟨mem, opened⟩
  · have closed : a.tick + 66 ≤ (s.ended (a.tick + 66)).tick := by rw [ended_tick]; omega
    have graded := ended.expireHolds_calm (a := a) ((ended_kilnReady _ _).trans ready) calm.at
      (by rw [ended.tamp, Sensing.at_tamp]; exact hl.trans (congrArg _ hnil)) closed h3
      (by rw [Sensing.at_firing]; exact hc)
    rw [settleGrade_tamp, graded.tamp]; exact ⟨rfl, rfl⟩

/-! ## The end of the quiet interval (R261) -/

/-- The state in which the Kiln's self-check runs. -/
def State.checking (s : State) : State := { s with tamp := { s.tamp with selfCheck := true, selfCheckTrip := false } }

theorem checking_kilnRuns (s : State) : s.checking.kilnRuns = s.kilnRuns := rfl

theorem checking_tick (s : State) : s.checking.tick = s.tick := rfl

theorem exec_crazedQuietExpiry (hvao : s.rails.vao = true) (hsrc : s.clk.tickSrc ≠ none) (hg : s.tamp.grade = .crazed) (hr : s.railsOk = true)
    (ready : s.kilnReady = true) (hh : s.tamp.holds = []) (hc : s.tamp.selfCheck = false) :
    exec .crazedQuietExpiry s = .next (s.ended s.tamp.quietEnd).wakeKiln.checking := by
  refine congrArg Host.Outcome.next ((if_pos (by simp [hvao, Option.isSome_iff_ne_none, hsrc, hg, hr, ready, hh, hc])).trans ?_)
  unfold State.ended; dsimp only
  generalize ((s.advanceTo s.tamp.quietEnd).closeWindows).wakeKiln = u
  rfl

theorem crazedQuietExpiry_starts (hvao : s.rails.vao = true) (hsrc : s.clk.tickSrc ≠ none) (hg : s.tamp.grade = .crazed)
    (hr : s.railsOk = true) (ready : s.kilnReady = true) (hh : s.tamp.holds = []) (hc : s.tamp.selfCheck = false) :
    Does .crazedQuietExpiry s (fun t =>
      t.tamp.selfCheck = true ∧ t.kilnRuns = true ∧ t.tick = max s.tick (min s.tamp.quietEnd (2 ^ 48 - 1))) := by
  have runs : (s.ended s.tamp.quietEnd).wakeKiln.kilnRuns = true := wakeKiln_of_kilnReady ((ended_kilnReady _ _).trans ready)
  refine ⟨_, exec_crazedQuietExpiry hvao hsrc hg hr ready hh hc, rfl, (checking_kilnRuns _).trans runs, ?_⟩
  rw [checking_tick, (wakeKiln_logged _).tick, ended_tick]

/-! ## The end of a suspension (R260) -/

/-- The state in which discrimination is in force again. -/
def State.resumed (s : State) : State := { s with tamp := { s.tamp with suspendedUntil := none } }

theorem resumed_tick (s : State) : s.resumed.tick = s.tick := rfl

theorem exec_suspensionEnd {j : Nat} (hj : s.tamp.suspendedUntil = some j) (hvao : s.rails.vao = true) (hsrc : s.clk.tickSrc ≠ none) :
    exec .suspensionEnd s = .next (s.ended (j - s.kiln.poweredBase)).resumed := by
  refine congrArg Host.Outcome.next ?_
  rw [hj]; refine (if_pos (by simp [hvao, Option.isSome_iff_ne_none, hsrc])).trans ?_
  unfold State.ended; dsimp only
  generalize (s.advanceTo (j - s.kiln.poweredBase)).closeWindows = u
  rfl

theorem suspensionEnd_ends {j : Nat} (hj : s.tamp.suspendedUntil = some j) (hvao : s.rails.vao = true) (hsrc : s.clk.tickSrc ≠ none) :
    Does .suspensionEnd s (fun t => t.tamp.suspendedUntil = none ∧ t.tick = max s.tick (min (j - s.kiln.poweredBase) (2 ^ 48 - 1))) :=
  ⟨_, exec_suspensionEnd hj hvao hsrc, rfl, (resumed_tick _).trans (ended_tick _ _)⟩

/-! ## The self-check (R262, R263) -/

/-- A self-check that fails, one in which a trip fell, or one with a hold open begins a new quiet interval. -/
theorem selfcheck_fails {pass : Bool} (hs : s.tamp.selfCheck = true) (hg : s.tamp.grade = .crazed)
    (fails : pass = false ∨ s.tamp.selfCheckTrip = true ∨ s.tamp.holds ≠ []) : Does (.kilnSelfcheckDone pass []) s (fun t =>
      t.tamp.grade = .crazed ∧ t.tamp.selfCheck = false ∧ t.tamp.quietEnd = s.tick + 1 + 32768) := by
  have anew := ((State.Senses.self s).logEv (code := 0x0303) (grade := 0) (source := 0) (detail := []) (rep := false) (now := false)).quiet
  have passed : ¬ (pass && ([] : List (Nat × Nat)).isEmpty && !s.tamp.selfCheckTrip && s.tamp.holds.isEmpty) = true := by
    rcases fails with h | h | h
    · simp [h]
    · simp [h]
    · simp [h]
  refine ⟨_, congrArg Host.Outcome.next (if_neg (by simp [hs, hg])), ?_⟩
  dsimp only [List.foldl_nil]
  rw [if_neg (by simp [hg]), if_neg passed, settleGrade_tamp]
  have tamp := anew.tamp
  exact ⟨(congrArg Tamp.grade tamp).trans hg, rfl, congrArg Tamp.quietEnd tamp⟩

theorem exec_selfcheck_passes (hs : s.tamp.selfCheck = true) (hg : s.tamp.grade = .crazed) (ht : s.tamp.selfCheckTrip = false)
    (hh : s.tamp.holds = []) : exec (.kilnSelfcheckDone true []) s = .next s.clearing := by
  refine congrArg Host.Outcome.next ?_
  rw [if_neg (by simp [hs, hg])]; dsimp only [List.foldl_nil]
  rw [if_neg (by simp [hg]), if_pos (by simp [ht, hh])]

/-- Sensing once Crazed has cleared. -/
def Sensing.clear (x : Sensing) : Sensing :=
  { x with sealed := false, tamp := { x.tamp with grade := .none, selfCheck := false, selfCheckTrip := false } }

/-- The state in which the grade has gone and the keys are unsealed. -/
def State.unsealed (s : State) : State :=
  { s with
    tamp := { s.tamp with grade := .none, selfCheck := false, selfCheckTrip := false }
    ksm := { s.ksm with
      sealed := false, drbgReq := if s.ksm.trng = TrngSt.failed then s.ksm.drbgReq else 0
      reseedDue := s.ksm.reseedDue && decide (s.ksm.trng = TrngSt.failed) } }

/-- The Wheel's decisions follow the release of the outputs. -/
def State.decided (s : State) : State := if s.wheelRuns then s.decideAll else s

theorem onlyChans_decided (s : State) : OnlyChans s s.decided := by
  unfold State.decided; split
  · exact onlyChans_eachCh (fun _ _ => (only_chOp _ _ _).onlyChans) _
  · exact .refl s

/-- The records follow the decisions. -/
theorem clearCrazed_logged (s : State) : Logged (s.unsealed.gradeChange.releaseAll .crazed).decided s.clearCrazed := by
  unfold State.clearCrazed; dsimp only
  exact ((klog_logged _ _ _).trans (drainReports_logged _)).trans (report_logged _ _ _)

theorem State.Senses.clearCrazed (h : s.Senses x K) : s.clearCrazed.Senses x.clear K := by
  obtain ⟨rfl, kiln⟩ := h
  have unsealed : s.unsealed.Senses s.sensing.clear K := ⟨rfl, kiln⟩
  exact (unsealed.gradeChange.releaseAll.onlyChans (onlyChans_decided _)).logged (clearCrazed_logged s)

theorem OnlyChans.crazedWait (c : OnlyChans s t) : t.pwr.crazedWait = s.pwr.crazedWait := by
  obtain ⟨-, hp | hp⟩ := c
  · rw [hp]
  · rw [hp]; unfold State.wakeMain; split <;> rfl

theorem Logged.crazedWait (l : Logged s t) : t.pwr.crazedWait = s.pwr.crazedWait := by rw [l.1]

theorem clearCrazed_crazedWait (s : State) : s.clearCrazed.pwr.crazedWait = s.pwr.crazedWait :=
  calc s.clearCrazed.pwr.crazedWait
    _ = (s.unsealed.gradeChange.releaseAll .crazed).decided.pwr.crazedWait := (clearCrazed_logged s).crazedWait
    _ = (s.unsealed.gradeChange.releaseAll .crazed).pwr.crazedWait := (onlyChans_decided _).crazedWait
    _ = s.unsealed.gradeChange.pwr.crazedWait := (onlyChans_releaseAll _ _).crazedWait

/-- The start that Crazed abandoned waits no more. -/
def State.unwaited (s : State) : State := { s with pwr := { s.pwr with crazedWait := false } }

theorem State.Senses.unwaited (h : s.Senses x K) : s.unwaited.Senses x K := h

theorem clearing_restarts (hw : s.pwr.crazedWait = true) : s.clearing = s.clearCrazed.unwaited.runStart := by
  unfold State.clearing; exact if_pos ((clearCrazed_crazedWait s).trans hw)

/-- A self-check that passes lets a start that Crazed abandoned go on. -/
theorem selfcheck_restarts (hs : s.tamp.selfCheck = true) (hg : s.tamp.grade = .crazed) (ht : s.tamp.selfCheckTrip = false)
    (hh : s.tamp.holds = []) (hw : s.pwr.crazedWait = true) : ∃ u : State, exec (.kilnSelfcheckDone true []) s = .next u.runStart ∧
      u.tamp.grade = .none ∧ u.ksm.sealed = false ∧ u.pwr.crazedWait = false := by
  have cleared := (State.Senses.self s).clearCrazed.unwaited
  refine ⟨s.clearCrazed.unwaited, (exec_selfcheck_passes hs hg ht hh).trans (congrArg Host.Outcome.next (clearing_restarts hw)), ?_, ?_, rfl⟩
  · rw [cleared.tamp]; rfl
  · rw [cleared.sealed]; rfl

end Sys2Proof.Machine
end

section
/-! Sensing stands through fetching, waits, applets and a Hold (spec/15_engines.md R595, R611; spec/21_applets.md R781, R785, R790–R794): what
the clearing of Crazed starts again. -/

namespace Sys2Proof.Machine

open Sys2Proof

variable {x : Sensing} {K : Prop} {s t : State}

theorem State.Senses.of_eq (h : s.Senses x K) (hs : t.sensing = s.sensing) (hk : t.pwr.kiln = s.pwr.kiln) : t.Senses x K :=
  ⟨hs.trans h.eq, fun k => hk ▸ h.kiln k⟩

/-! ## Entry into Hold (R200) -/

theorem State.Senses.journalAdd {e : JEntry} (h : s.Senses x K) : (s.journalAdd e).Senses x K := h.logged (journalAdd_logged _ _)

theorem State.Senses.flushLog (h : s.Senses x K) : s.flushLog.Senses x K := by
  unfold State.flushLog Kiln.programTail; split
  · exact h
  · exact h

theorem State.Senses.flushing {b : Bool} (h : s.Senses x K) : State.Senses x K { s with pwr := { s.pwr with flushing := b } } := h

theorem State.Senses.drainStores (h : s.Senses x K) : s.drainStores.Senses x K := h

theorem State.Senses.journalClose (h : s.Senses x K) : s.journalClose.Senses x K := by
  have added : (s.journalAdd .closeS).Senses x K := h.journalAdd
  unfold State.journalClose Ksm.program; dsimp only; split
  · exact added
  · exact added

theorem State.Senses.flushPointers (h : s.Senses x K) : s.flushPointers.Senses x K := h

theorem State.Senses.flushPages (h : s.Senses x K) : s.flushPages.Senses x K :=
  (h.flushing (b := true)).drainStores.journalClose.flushPointers.flushLog.flushing

theorem State.Senses.enterHold {r : HoldReason} (h : s.Senses x K) : (s.enterHold r).Senses x K := by
  have flushed : (if s.mainUp && !s.starting then s.flushPages else s.flushLog).Senses x K := h.flushPages.ite h.flushLog
  have aborted := (flushed.worked (worked_abortEngines _ allEngines .abortReset)).abandonRun
  have logged := aborted.logEv (code := 0x0102) (grade := 0) (source := 0) (detail := beBytes 1 r.code) (rep := true) (now := false)
  have down := logged.dropSessions.dropSlip.portsDown
  unfold State.enterHold; dsimp only
  generalize State.portsDown _ = u at down ⊢
  exact State.Senses.freezeAll down

/-! ## Fetching (R595, R611) -/

theorem State.Senses.updRing {e : Eng} {k : Nat} {f : Machine.Ring → Machine.Ring} (h : s.Senses x K) : (s.updRing e k f).Senses x K :=
  h.worked (worked_updRing _ _ _ _)

theorem State.Senses.complete {e : Eng} {k : Nat} {d : Done} (h : s.Senses x K) : (s.complete e k d).Senses x K :=
  h.worked (worked_complete _ _ _ _)

theorem State.Senses.freeSaggar {k : Nat} (h : s.Senses x K) : (s.freeSaggar k).Senses x K := by
  unfold State.freeSaggar; repeat' split
  all_goals exact h

theorem State.Senses.saggarOnStop {e : Eng} {k : Nat} (h : s.Senses x K) : (s.saggarOnStop e k).Senses x K := by
  unfold State.saggarOnStop; split
  · exact h.freeSaggar
  · exact h.freeSaggar
  · exact h

theorem State.Senses.haltRing {e : Eng} {k i reason : Nat} (h : s.Senses x K) : (s.haltRing e k i reason).Senses x K := by
  unfold State.haltRing; dsimp only; split
  · exact h.updRing.enterHold
  · exact h.updRing.updRing.saggarOnStop

theorem State.Senses.finishDesc {e : Eng} {k : Nat} {d : Done} (h : s.Senses x K) : (s.finishDesc e k d).Senses x K := h.complete.saggarOnStop

theorem State.Senses.malformed {e : Eng} {k reason : Nat} (h : s.Senses x K) : (s.malformed e k reason).Senses x K := h.complete.haltRing

theorem State.Senses.holdDma {e : Eng} {k : Nat} (h : s.Senses x K) : (s.holdDma e k).Senses x K := by
  unfold State.holdDma; split
  · exact h
  · exact h

theorem State.Senses.takeDesc {e : Eng} {k : Nat} {d : Desc} (h : s.Senses x K) : (s.takeDesc e k d).Senses x K := h.updRing

theorem State.Senses.recordFault {e : Eng} {k kind addr : Nat} {y : AccType} (h : s.Senses x K) : (s.recordFault e k y kind addr).Senses x K :=
  h.of_eq rfl rfl

theorem State.Senses.dropDma {e : Eng} {k : Nat} (h : s.Senses x K) : (s.dropDma e k).Senses x K := h.of_eq rfl rfl

theorem State.Senses.newWait {e : Eng} {k : Nat} (h : s.Senses x K) : (s.newWait e k).Senses x K := by
  unfold State.newWait; split
  · exact h
  · exact h

theorem State.Senses.formStep {e : Eng} {k : Nat} {d : Desc} {tmo : Bool} (h : s.Senses x K) : (s.formStep e k d tmo).Senses x K := by
  unfold State.formStep; split
  · exact h.takeDesc
  · exact h.malformed
  · split
    · exact h.takeDesc
    · exact h.malformed
    · exact h.recordFault.finishDesc
    · exact h.finishDesc
    · exact h.takeDesc.holdDma
    · exact h.finishDesc

theorem State.Senses.fetchStep {e : Eng} {k : Nat} {tmo : Bool} (h : s.Senses x K) : (s.fetchStep e k tmo).Senses x K := by
  unfold State.fetchStep; dsimp only; split
  · exact h.holdDma
  · exact h.dropDma.recordFault.haltRing
  · split
    · exact h.dropDma.recordFault.haltRing
    · split
      · exact h.dropDma.haltRing
      · split
        · exact h.dropDma.newWait.takeDesc.finishDesc
        · exact h.dropDma.newWait.takeDesc.formStep

theorem State.Senses.fetchLoop {m : Nat} {e : Eng} {k : Nat} (h : s.Senses x K) : (State.fetchLoop m s e k).Senses x K := by
  induction m generalizing s with
  | zero => exact h
  | succ m ih =>
    unfold State.fetchLoop; split
    · exact ih h.fetchStep
    · exact h

theorem State.Senses.fetchNext {e : Eng} {k : Nat} (h : s.Senses x K) : (s.fetchNext e k).Senses x K := h.fetchLoop

theorem State.Senses.fetchAll (h : s.Senses x K) : s.fetchAll.Senses x K := h.foldl fun _ _ ht => ht.foldl fun _ _ hu => hu.fetchNext

/-! ## Applets that wait (R781, R785) -/

theorem State.Senses.pollWait {d : Fin 16} {k : Fin 2} (h : s.Senses x K) : (s.pollWait d k).Senses x K := by
  unfold State.pollWait; repeat' split
  all_goals exact h

theorem State.Senses.updCpu {d : Fin 16} {k : Fin 2} {f : AppCore → AppCore} (h : s.Senses x K) : (s.updCpu d k f).Senses x K := h.of_eq rfl rfl

theorem State.Senses.sramWrite {a : Nat} {b : Bytes} (h : s.Senses x K) : (s.sramWrite a b).Senses x K := h.of_eq rfl rfl

theorem State.Senses.pollFlash {d : Fin 16} {k : Fin 2} (h : s.Senses x K) : (s.pollFlash d k).Senses x K := by
  unfold State.pollFlash; dsimp only; split
  · split
    · exact h
    · split
      · split
        · exact h.sramWrite.updRing.updCpu.fetchNext
        · exact h
      · split
        · exact h
        · exact h.updRing.updCpu
  · exact h

theorem State.Senses.pollWaits (h : s.Senses x K) : s.pollWaits.Senses x K := by
  unfold State.pollWaits; split
  · exact (h.foldl fun _ _ ht => ht.pollWait.pollWait.pollFlash.pollFlash).reschedule
  · exact h

/-! ## Exchanges of applets (R790–R795) -/

theorem State.Senses.updApp {d : Fin 16} {f : App → App} (h : s.Senses x K) : (s.updApp d f).Senses x K := h.of_eq rfl rfl

theorem State.Senses.wipeApplet {d : Fin 16} (h : s.Senses x K) : (s.wipeApplet d).Senses x K := by
  unfold State.wipeApplet; split
  · exact h
  · exact h

theorem State.Senses.freeContexts {d : Fin 16} {rings : List (Eng × Nat × Nat × Bool)} (h : s.Senses x K) : (s.freeContexts d rings).Senses x K := by
  unfold State.freeContexts
  refine State.Senses.foldl ?_ fun t r ht => ?_
  · exact h
  · split
    · exact ht.freeSaggar
    · exact ht

theorem State.Senses.xRing {d : Fin 16} {new : Manifest} {r : Eng × Nat × Nat × Bool} (h : s.Senses x K) : (s.xRing d new r).Senses x K := by
  unfold State.xRing; dsimp only; split
  · exact h.updRing
  · split
    · exact h
    · exact h.updRing

theorem State.Senses.withMemDig {m : Mem} {d : Dig} (h : s.Senses x K) : State.Senses x K { s with mem := m, dig := d } := h

theorem State.Senses.startApplet {d : Fin 16} {m : Manifest} {p : Placed} {bank first : Nat} {img : Bytes} (h : s.Senses x K) :
    (s.startApplet d m p bank first img).Senses x K := by
  have ticked : s.tick1.Senses x K := h
  unfold State.startApplet
  exact ticked.updApp.wipeApplet.withMemDig

theorem State.Senses.takeOff {k : Fin 2} {st : AppSt} (h : s.Senses x K) : (s.takeOff k st).Senses x K := by
  unfold State.takeOff; split
  · exact h
  · exact h

theorem State.Senses.stopApplet {d : Fin 16} {st : AppSt} (h : s.Senses x K) : (s.stopApplet d st).Senses x K := by
  unfold State.stopApplet
  exact ((h.takeOff.ite h.updCpu).takeOff.ite (h.takeOff.ite h.updCpu).updCpu).updApp

theorem State.Senses.wheelDecide {c : Fin 16} (h : s.Senses x K) : (s.wheelDecide c).Senses x K := by
  unfold State.wheelDecide; dsimp only; split
  · exact h.chOp
  · split
    · split
      · exact h.chOp
      · exact h
    · exact h.chOp
  · exact h

theorem State.Senses.markQuarantined {d : Fin 16} {reason mcause mepc mtval pf : Nat} (h : s.Senses x K) :
    (s.markQuarantined d reason mcause mepc mtval pf).Senses x K := by
  unfold State.markQuarantined; exact h.updApp.wlog

theorem State.Senses.quarantine {d : Fin 16} {reason mcause mepc mtval pf : Nat} (h : s.Senses x K) :
    (s.quarantine d reason mcause mepc mtval pf).Senses x K := by
  unfold State.quarantine; dsimp only
  exact ((h.stopApplet.foldl fun _ _ ht => ht.updRing).freeContexts.wipeApplet.foldl fun _ _ ht => ht.wheelDecide).markQuarantined.reschedule

theorem State.Senses.measure {k : Fin 24} {level event : Nat} {msg : Bytes} (h : s.Senses x K) : (s.measure k level event msg).Senses x K := by
  unfold State.measure; split
  · exact h
  · exact h

theorem State.Senses.measureApplet {km ki : Fin 24} {em ei : Nat} {img : Bytes} (h : s.Senses x K) : (s.measureApplet km ki em ei img).Senses x K := by
  unfold State.measureApplet; dsimp only; split
  · exact h.measure.measure
  · exact h.measure

/-- Step X1 is repeated after clearing (R795). -/
theorem State.Senses.repeatX1 (h : s.Senses x K) : s.repeatX1.Senses x K := by
  unfold State.repeatX1
  refine h.foldl fun t d ht => ?_
  split
  · exact ht
  · split
    · exact ht.measureApplet
    · exact ht
  · exact ht

theorem State.Senses.xRequest {d : Fin 16} (h : s.Senses x K) : (s.xRequest d).Senses x K := by
  unfold State.xRequest; split
  · split
    · dsimp only; split
      · exact h.measureApplet.updApp
      · exact h.updApp
    · exact h.updApp
  · exact h

theorem State.Senses.xNext (h : s.Senses x K) : s.xNext.Senses x K := by
  unfold State.xNext; split
  · exact h
  · split
    · exact h.xRequest
    · exact h

end Sys2Proof.Machine
end

section
/-! Sensing stands through the work that Crazed held up (spec/11_uplink.md, spec/06_lifecycle.md, spec/12_metrology.md,
spec/23_test_observe.md R834), so that a self-check that passes clears Crazed (spec/07_tamper.md R263). -/

namespace Sys2Proof.Machine

open Sys2Proof

variable {x : Sensing} {K : Prop} {s t : State}

/-! ## Updates beside sensing -/

theorem State.Senses.withUpl {u : Upl} (h : s.Senses x K) : State.Senses x K { s with upl := u } := h

theorem State.Senses.withKiln {k : Kiln} (hk : k.poweredBase = s.kiln.poweredBase) (h : s.Senses x K) : State.Senses x K { s with kiln := k } := by
  refine h.of_eq ?_ rfl
  exact congrArg (fun n => { s.sensing with poweredBase := n }) hk

theorem State.Senses.onlyMet (h : s.Senses x K) (o : OnlyMet s t) : t.Senses x K := by
  unfold OnlyMet at o
  rw [o]; exact h

/-! ## Bundles and their intake (R816, R819; R434–R436) -/

theorem State.Senses.sendPort {p : Port} {msg : Bytes} (h : s.Senses x K) : (s.sendPort p msg).Senses x K := by
  unfold State.sendPort; split
  · exact h
  · exact h

theorem State.Senses.sendChunkAck {id : Bytes} {total status : Nat} (h : s.Senses x K) : (s.sendChunkAck id total status).Senses x K := by
  unfold State.sendChunkAck; exact h.sendPort.sendPort.withUpl

theorem State.Senses.setBStatus {b : BStatus} (h : s.Senses x K) : (s.setBStatus b).Senses x K := by
  unfold State.setBStatus; split
  · split
    · exact h
    · exact h.withUpl.sendChunkAck
  · exact h

theorem State.Senses.rewriteDisplaced (h : s.Senses x K) : s.rewriteDisplaced.Senses x K := by
  unfold State.rewriteDisplaced; split
  · exact h
  · exact h

theorem State.Senses.bundleOutcome {result detail : Nat} (h : s.Senses x K) : (s.bundleOutcome result detail).Senses x K := by
  have noted : ∀ (b : BundleSt) (v : Option (Nat × Nat × Bytes)),
      State.Senses x K { s with kiln := { s.kiln with bundle := b, result := result, resultDetail := detail, verifying := v } } := fun _ _ => h
  unfold State.bundleOutcome; dsimp only; split
  · exact (noted _ _).klog.report
  · exact (noted _ _).klog.report.rewriteDisplaced.withUpl.setBStatus

theorem State.Senses.resumeInstall (h : s.Senses x K) : s.resumeInstall.Senses x K := by
  unfold State.resumeInstall; split
  · split
    · exact h.withKiln rfl
    · exact h.bundleOutcome
  · exact h

theorem State.Senses.rewriteCopies {l : List (Bool × Nat × Nat)} (h : s.Senses x K) : (s.rewriteCopies l).Senses x K := h.of_eq rfl rfl

theorem State.Senses.intakeResult {y : Intake} {result : Nat} (h : s.Senses x K) : (s.intakeResult y result).Senses x K := by
  unfold State.intakeResult; exact State.Senses.report h

theorem State.Senses.finishIntake (h : s.Senses x K) : s.finishIntake.Senses x K := by
  unfold State.finishIntake; split
  · split
    · exact h
    · dsimp only; split
      · exact h.withUpl.sendChunkAck
      · exact h.intakeResult.rewriteCopies.withUpl.sendChunkAck
  · exact h

/-! ## Records acknowledged, and beacons (R412, R421–R429) -/

theorem State.Senses.updPort {p : Port} {f : PortSt → PortSt} (h : s.Senses x K) : (s.updPort p f).Senses x K := by
  cases p with
  | a => exact h
  | b => exact h

theorem State.Senses.updClk {f : Clk → Clk} (h : s.Senses x K) : (s.updClk f).Senses x K := h

theorem State.Senses.inboundFault {p : Port} (h : s.Senses x K) : (s.inboundFault p).Senses x K := by
  unfold State.inboundFault; dsimp only; split
  · exact h.updPort.updPort.wlog
  · exact h.updPort

theorem State.Senses.ackJudged {p : Port} {m : Bytes} {ok : Bool} (h : s.Senses x K) : (s.ackJudged p m ok).Senses x K := by
  unfold State.ackJudged; split
  · exact h.inboundFault
  · exact h.withUpl

theorem State.Senses.learnAddr {p : Port} {src : Nat × Nat} (h : s.Senses x K) : (s.learnAddr p src).Senses x K := h.updPort

theorem State.Senses.setTimeSt {f : Kiln → Kiln} (hf : (f s.kiln).poweredBase = s.kiln.poweredBase) (h : s.Senses x K) : (s.setTimeSt f).Senses x K :=
  (h.withKiln hf).logged (setTimeSt_logged_of s f)

theorem State.Senses.handBeacon {key time frac rx : Nat} (h : s.Senses x K) : (s.handBeacon key time frac rx).Senses x K := by
  unfold State.handBeacon; dsimp only; split
  · exact h.setTimeSt rfl
  · split
    · exact (h.setTimeSt rfl).klog
    · exact h.setTimeSt rfl

theorem State.Senses.discipline (h : s.Senses x K) : s.discipline.Senses x K := by
  unfold State.discipline; split
  · exact h.setTimeSt rfl
  · exact h

theorem State.Senses.qualifyBeacon (h : s.Senses x K) : s.qualifyBeacon.Senses x K := by
  unfold State.qualifyBeacon; split
  · exact h
  · exact h.updClk.discipline.klog

theorem State.Senses.saveFloors (h : s.Senses x K) : s.saveFloors.Senses x K := by rw [saveFloors_eq]; exact h.withUpl

theorem State.Senses.attest {m : Bytes} (h : s.Senses x K) : (s.attest m).Senses x K := by
  unfold State.attest; exact h.withUpl.report.ite h

/-! ## The Slip Joint (chapter 12) -/

theorem State.Senses.slipSend {d : SjSide} {type : Nat} {payload : Bytes} {session : Bool} (h : s.Senses x K) :
    (s.slipSend d type payload session).Senses x K := h.onlyMet (joint_slipSend _ _ _ _ _).1

theorem State.Senses.sendTime (h : s.Senses x K) : s.sendTime.Senses x K := by
  unfold State.sendTime; exact h.slipSend.ite h

theorem State.Senses.withSjm {y : Sjm} (h : s.Senses x K) : State.Senses x K { s with sjm := y } := h

theorem State.Senses.drbg (h : s.Senses x K) : s.drbg.Senses x K := h.logged (drbg_logged s)

theorem State.Senses.slipHello (h : s.Senses x K) : s.slipHello.Senses x K := by
  unfold State.slipHello; exact h.ite h.drbg.withSjm.slipSend

theorem State.Senses.sendHacks (h : s.Senses x K) : s.sendHacks.Senses x K := by
  unfold State.sendHacks; split
  · exact h
  · exact h.withSjm.foldl fun _ _ ht => ht.slipSend

theorem State.Senses.takeBeacon {p : Port} {m : Bytes} {src : Nat × Nat} {rx : Nat} (h : s.Senses x K) : (s.takeBeacon p m src rx).Senses x K := by
  unfold State.takeBeacon; dsimp only
  exact h.withUpl.learnAddr.updClk.wakeKiln.handBeacon.qualifyBeacon.saveFloors.sendTime.attest

theorem State.Senses.beaconJudged {p : Port} {m : Bytes} {ok : Bool} {src : Nat × Nat} {rx : Nat} (h : s.Senses x K) :
    (s.beaconJudged p m ok src rx).Senses x K := by
  unfold State.beaconJudged; dsimp only; split
  · exact h.learnAddr
  · split
    · exact h.inboundFault.updClk
    · exact h.takeBeacon

theorem State.Senses.uplClearing (h : s.Senses x K) : s.uplClearing.Senses x K := by
  unfold State.uplClearing; dsimp only
  refine State.Senses.finishIntake (h.withUpl.foldl fun t m ht => ?_)
  split
  · exact ht.ackJudged
  · exact ht.beaconJudged

/-! ## Burns that wait (R213, R219–R226): with nothing staged and no factory order due there is no zeroization to make -/

theorem State.Senses.burn {w mask : Nat} (h : s.Senses x K) : (s.burn w mask).Senses x K := h.of_eq rfl rfl

theorem State.Senses.burnHash {w : Nat} {b : Bytes} (h : s.Senses x K) : (s.burnHash w b).Senses x K := h.foldl fun _ _ ht => ht.burn

theorem State.Senses.withFuses {f : Fuses} (h : s.Senses x K) : State.Senses x K { s with fuses := f } := h

theorem State.Senses.rootBurnt {r : Option Bytes} (h : s.Senses x K) : State.Senses x K { s with life := { s.life with rootBurn := r } } := h

theorem State.Senses.completeBurn (h : s.Senses x K) : s.completeBurn.Senses x K := by
  unfold State.completeBurn; dsimp only; split
  · refine State.Senses.ite ?_ (State.Senses.klogRep ?_) <;> exact h.burn.withFuses.ite h.burn.withFuses.klogRep
  · exact h

theorem State.Senses.rotateRoot (h : s.Senses x K) : s.rotateRoot.Senses x K := by
  unfold State.rotateRoot; split
  · split
    · dsimp only; split
      · exact h.burnHash.burn.rootBurnt
      · exact h.rootBurnt
    · exact h
  · exact h.rootBurnt
  · exact h

theorem State.Senses.pursueStaged (h : s.Senses x K) (nothing : x.staged = none) : s.pursueStaged.Senses x K := by
  have burnt : s.burnStaged = s := by
    unfold State.burnStaged; rw [h.staged, nothing]
  have applied : s.applyStaged true = s := by
    unfold State.applyStaged; rw [h.staged, nothing]
  unfold State.pursueStaged; dsimp only
  rw [burnt, applied]; exact h.ite h

theorem State.Senses.pendingBurns (h : s.Senses x K) (nothing : x.staged = none) : s.pendingBurns.Senses x K := by
  have pursued := h.completeBurn.rotateRoot.pursueStaged nothing
  unfold State.pendingBurns; dsimp only; split
  · exact pursued.logged (compactDue_logged _)
  · exact pursued

theorem State.Senses.factoryOrder (h : s.Senses x K) (nothing : x.factoryDue = none) : s.factoryOrder.Senses x K := by
  have waits : s.factoryOrder = s := by
    unfold State.factoryOrder; rw [h.factoryDue, nothing]
  rw [waits]; exact h

theorem State.Senses.floorRaise {b : Bool} (h : s.Senses x K) : State.Senses x K { s with pwr := { s.pwr with floorRaise := b } } := h

theorem State.Senses.raiseOption (h : s.Senses x K) : s.raiseOption.Senses x K := by
  unfold State.raiseOption; dsimp only; split
  · split
    · exact (State.Senses.foldl h fun _ _ ht => ht.burn).floorRaise.klogRep
    · exact h.floorRaise
  · exact h.floorRaise

theorem State.Senses.retryBurns (h : s.Senses x K) (staged : x.staged = none) (due : x.factoryDue = none) : s.retryBurns.Senses x K := by
  have burnt := (h.pendingBurns staged).factoryOrder due
  unfold State.retryBurns; dsimp only; split
  · exact burnt.raiseOption
  · exact burnt

/-! ## Self-test runs (R834) -/

theorem State.Senses.selfLog (h : s.Senses x K) : s.selfLog.Senses x K := by
  unfold State.selfLog; dsimp only; split
  · exact State.Senses.wlog h
  · exact h

theorem State.Senses.beginRun {r : StTrigger} {mask : List Nat} {window : Nat} (h : s.Senses x K) : (s.beginRun r mask window).Senses x K := by
  have woken := h.wakeKiln
  unfold State.beginRun; dsimp only
  generalize s.wakeKiln = u at woken ⊢
  exact State.Senses.spyEvent woken

theorem State.Senses.startKept (h : s.Senses x K) : s.startKept.Senses x K := by
  unfold State.startKept; split
  · split
    · exact State.Senses.beginRun h
    · exact h
  · exact h

theorem State.Senses.triggerRun {r : StTrigger} {mask : List Nat} {window : Nat} (h : s.Senses x K) : (s.triggerRun r mask window).Senses x K := by
  have kept : ∀ k : Option (StTrigger × List Nat × Nat), State.Senses x K { s with selft := { s.selft with kept := k } } := fun _ => h
  unfold State.triggerRun; dsimp only
  exact h.ite (h.beginRun.ite ((kept _).ite h))

/-! ## The end of an exchange, and the work that is due -/

theorem State.Senses.appletApplied {d : Fin 16} (h : s.Senses x K) : (s.appletApplied d).Senses x K := by
  unfold State.appletApplied; split
  · exact h.bundleOutcome
  · exact h

theorem State.Senses.freeOld {d : Option (Fin 16)} (h : s.Senses x K) : (s.freeOld d).Senses x K := h.withKiln rfl

theorem State.Senses.xFinish {d : Fin 16} (h : s.Senses x K) : (s.xFinish d).Senses x K := by
  unfold State.xFinish; split
  · dsimp only; split
    · exact h
    · split
      · exact (h.foldl fun _ _ ht => ht.xRing).freeContexts.wipeApplet.startApplet.updApp.freeOld.appletApplied.reschedule
      · exact (h.foldl fun _ _ ht => ht.xRing).freeContexts.wipeApplet.quarantine
  · exact h

theorem State.Senses.dueWork (h : s.Senses x K) (staged : x.staged = none) (due : x.factoryDue = none) : s.dueWork.Senses x K := by
  have drained : s.drainLog.drainReports.Senses x K := (h.logged (drainLog_logged s)).drainReports
  have burnt := drained.retryBurns staged due
  unfold State.dueWork; dsimp only; split
  · exact (State.Senses.foldl burnt.sendHacks.selfLog.startKept.finishIntake fun _ _ ht => ht.xFinish).xNext
  · exact burnt

/-! ## The clearing (R263) -/

/-- With no start that waits and nothing staged, what Crazed held up goes on and sensing stands cleared. -/
theorem State.Senses.clearing (h : s.Senses x K) (hw : s.pwr.crazedWait = false) (staged : x.staged = none) (due : x.factoryDue = none) :
    s.clearing.Senses x.clear K := by
  have cleared := h.clearCrazed
  unfold State.clearing; dsimp only
  rw [if_neg (ne_true_of_eq_false ((clearCrazed_crazedWait s).trans hw))]
  exact (cleared.resumeInstall.repeatX1.uplClearing.slipHello.dueWork staged due).triggerRun.fetchAll.pollWaits

theorem selfcheck_clears (hs : s.tamp.selfCheck = true) (hg : s.tamp.grade = .crazed) (ht : s.tamp.selfCheckTrip = false)
    (hh : s.tamp.holds = []) (hw : s.pwr.crazedWait = false) (staged : s.life.staged = none) (due : s.selft.factoryDue = none) :
    Does (.kilnSelfcheckDone true []) s (fun t => t.tamp.grade = .none ∧ t.ksm.sealed = false ∧ t.tamp.selfCheck = false) := by
  have cleared := (State.Senses.self s).clearing hw staged due
  refine ⟨_, exec_selfcheck_passes hs hg ht hh, ?_⟩
  dsimp only
  rw [cleared.tamp, cleared.sealed]; exact ⟨rfl, rfl, rfl⟩

end Sys2Proof.Machine
end

section
/-! TEMPERATURE_SAMPLE (spec/07_tamper.md R240, R241, R262): samples within the limits, and the second sample in a row above the upper one. -/

namespace Sys2Proof.Machine

open Sys2Proof

variable {x : Sensing} {s : State} {k : Fin 4} {v : Int}

/-! ## One sensor's sample -/

/-- The sensors once sensor `k` has sampled `v`. -/
def Tamp.sampled (y : Tamp) (k : Fin 4) (v : Int) : Tamp :=
  { y with
    temps := y.temps.set k ((v :: y.temps[k]).take 50)
    tempHi := y.tempHi.set k (beyond (decide (4231 < v)) y.tempHi[k])
    tempLo := y.tempLo.set k (beyond (decide (v ≤ 2231)) y.tempLo[k])
    tempVlo := y.tempVlo.set k (beyond (decide (v ≤ 2131)) y.tempVlo[k]) }

/-- The state in which sensor `k` has sampled `v` and no limit has been judged. -/
def State.sampled (s : State) (k : Fin 4) (v : Int) : State := { s with tamp := s.tamp.sampled k v }

/-- The three limits are judged, and then the rate. -/
theorem tempSensor_eq (s : State) (k : Fin 4) (v : Int) : s.tempSensor k v =
    let judged := (((s.sampled k v).tempTrip (beyond (decide (4231 < v)) s.tamp.tempHi[k]) 0x0C k.val).tempTrip
      (beyond (decide (v ≤ 2231)) s.tamp.tempLo[k]) 0x0D k.val).tempTrip (beyond (decide (v ≤ 2131)) s.tamp.tempVlo[k]) 0x0E k.val
    if rateTrips s.tamp.temps[k] v then judged.trip 0x0F k.val else judged := rfl

theorem beyond_false (n : Nat) : beyond false n = 0 := rfl

theorem tempTrip_zero (s : State) (cause k : Nat) : s.tempTrip 0 cause k = s := rfl

/-- Above the lower limits only the upper one and the rate are in question. -/
theorem tempSensor_warm (low : 2231 < v) : s.tempSensor k v =
    let judged := (s.sampled k v).tempTrip (beyond (decide (4231 < v)) s.tamp.tempHi[k]) 0x0C k.val
    if rateTrips s.tamp.temps[k] v then judged.trip 0x0F k.val else judged := by
  have lo : decide (v ≤ 2231) = false := decide_eq_false (by omega)
  have vlo : decide (v ≤ 2131) = false := decide_eq_false (by omega)
  rw [tempSensor_eq, lo, vlo, beyond_false, beyond_false, tempTrip_zero, tempTrip_zero]

theorem tempSensor_quiet (low : 2231 < v) (high : v ≤ 4231) (slow : rateTrips s.tamp.temps[k] v = false) : s.tempSensor k v = s.sampled k v := by
  have hi : decide (4231 < v) = false := decide_eq_false (by omega)
  rw [tempSensor_warm low, hi, beyond_false, tempTrip_zero, slow]; rfl

/-! ## Samples within the limits (R241) -/

/-- What sensor `i` has: its samples and its counts above and below the limits. -/
def Tamp.sensor (y : Tamp) (i : Fin 4) : List Int × Nat × Nat × Nat := (y.temps[i], y.tempHi[i], y.tempLo[i], y.tempVlo[i])

theorem sampled_sensor_ne {i : Fin 4} (y : Tamp) (h : i ≠ k) : (y.sampled k v).sensor i = y.sensor i := by
  have ne : k.val ≠ i.val := fun e => h (Fin.ext e.symm)
  simp [Tamp.sensor, Tamp.sampled, Vector.getElem_set_ne _ _ ne]

theorem sampled_sensor_same (y : Tamp) (low : 2231 < v) (high : v ≤ 4231) : (y.sampled k v).sensor k = ((v :: y.temps[k]).take 50, 0, 0, 0) := by
  have hi : decide (4231 < v) = false := decide_eq_false (by omega)
  have lo : decide (v ≤ 2231) = false := decide_eq_false (by omega)
  have vlo : decide (v ≤ 2131) = false := decide_eq_false (by omega)
  simp [Tamp.sensor, Tamp.sampled, hi, lo, vlo, beyond_false]

/-- Sensor `i` has sampled within the limits, at no excessive rate. -/
def Mild (y : Tamp) (f : Fin 4 → Int) (i : Fin 4) : Prop := 2231 < f i ∧ f i ≤ 4231 ∧ rateTrips y.temps[i] (f i) = false

theorem tempSensors_quiet (f : Fin 4 → Int) {l : List (Fin 4)} (hl : l.Nodup) (s : State) (mild : ∀ i ∈ l, Mild s.tamp f i) :
    (l.foldl (fun t k => t.tempSensor k (f k)) s).tamp.grade = s.tamp.grade ∧
    ∀ i, (l.foldl (fun t k => t.tempSensor k (f k)) s).tamp.sensor i =
      if i ∈ l then ((f i :: s.tamp.temps[i]).take 50, 0, 0, 0) else s.tamp.sensor i := by
  induction l generalizing s with
  | nil => exact ⟨rfl, fun _ => rfl⟩
  | cons k l ih =>
    obtain ⟨fresh, hl⟩ := List.nodup_cons.mp hl
    obtain ⟨low, high, slow⟩ := mild k List.mem_cons_self
    have other : ∀ i, i ≠ k → (s.sampled k (f k)).tamp.sensor i = s.tamp.sensor i := fun i h => sampled_sensor_ne s.tamp h
    have temps : ∀ i, i ≠ k → (s.sampled k (f k)).tamp.temps[i] = s.tamp.temps[i] := fun i h => congrArg Prod.fst (other i h)
    have ne : ∀ i ∈ l, i ≠ k := fun i hi e => fresh (e ▸ hi)
    rw [List.foldl_cons, tempSensor_quiet low high slow]
    obtain ⟨grade, sensors⟩ := ih hl (s.sampled k (f k)) fun i hi => by
      obtain ⟨low, high, slow⟩ := mild i (List.mem_cons_of_mem _ hi)
      exact ⟨low, high, by rw [temps i (ne i hi)]; exact slow⟩
    refine ⟨grade, fun i => ?_⟩
    rw [sensors i]
    by_cases e : i = k
    · subst e
      rw [if_neg fresh, if_pos List.mem_cons_self]; exact sampled_sensor_same s.tamp low high
    · simp [e, other i e, temps i e]

/-! ## The second sample above the upper limit (R240) -/

/-- The part is ready to grade and at most Crazed, its sensors count `hi` samples above the upper limit, and where `c` holds it is Crazed. -/
structure State.Heated (hi : Vector Nat 4) (c : Prop) (s : State) : Prop where
  ready : s.kilnReady = true
  graded : s.sensing.Calm ∨ s.sensing.InCrazed
  count : s.tamp.tempHi = hi
  crazed : c → s.sensing.InCrazed

variable {hi : Vector Nat 4} {c : Prop}

theorem State.Heated.of_senses (h : s.Senses x True) (e : x.InCrazed) (count : x.tamp.tempHi = hi) : s.Heated hi c := by
  have ready : s.kilnReady = true := by
    unfold State.kilnReady; rw [h.kilnRuns trivial]; rfl
  have crazed : s.sensing.InCrazed := h.eq.symm ▸ e
  exact ⟨ready, .inr crazed, h.tamp ▸ count, fun _ => crazed⟩

theorem State.Heated.imp {d : Prop} (h : s.Heated hi c) (i : d → c) : s.Heated hi d := ⟨h.ready, h.graded, h.count, fun hd => h.crazed (i hd)⟩

/-- A trip of Crazed leaves the part Crazed. -/
theorem State.Heated.trip {cause index : Nat} {d : Prop} (h : s.Heated hi c) (hc : causeGrade s.life.firing cause = .crazed) (h3 : cause ≠ 3) :
    (s.trip cause index).Heated hi d := by
  have uncounted : s.sensing.counted cause = s.sensing := if_neg h3
  rcases h.graded with calm | inCrazed
  · have tripped := (State.Senses.self s).trip_calm (index := index) h.ready calm hc (.inl h3)
    rw [uncounted] at tripped
    exact .of_senses tripped calm.enter h.count
  · have tripped := (State.Senses.self s).trip_inCrazed (index := index) h.ready inCrazed hc h3
    exact .of_senses tripped ⟨inCrazed.firing, inCrazed.crazed, inCrazed.few⟩ h.count

theorem State.Heated.quiet (h : s.Heated hi c) : s.quiet.Heated hi c :=
  ⟨h.ready, h.graded.imp (fun g => ⟨g.firing, g.crazed, g.shattered, g.few⟩) (fun g => ⟨g.firing, g.crazed, g.few⟩), h.count, fun hc =>
    have g := h.crazed hc
    ⟨g.firing, g.crazed, g.few⟩⟩

theorem State.Heated.tempTrip {n cause k : Nat} (h : s.Heated hi c) (hc : causeGrade s.life.firing cause = .crazed) (h3 : cause ≠ 3) :
    (s.tempTrip n cause k).Heated hi (c ∨ n = 2) := by
  unfold State.tempTrip; split
  · exact h.trip hc h3
  · rename_i below
    have same : (c ∨ n = 2) → c := fun e => e.resolve_right below
    split
    · exact h.quiet.imp same
    · exact h.imp same

theorem State.Heated.sampled (h : s.Heated hi c) : (s.sampled k v).Heated (hi.set k (beyond (decide (4231 < v)) hi[k])) c := by
  obtain ⟨ready, graded, rfl, crazed⟩ := h
  exact ⟨ready, graded.imp (fun g => ⟨g.firing, g.crazed, g.shattered, g.few⟩) (fun g => ⟨g.firing, g.crazed, g.few⟩), rfl, fun hc =>
    have g := crazed hc
    ⟨g.firing, g.crazed, g.few⟩⟩

theorem causeGrade_temperature (f : Firing) {cause : Nat} (hc : cause = 0x0C ∨ cause = 0x0F) : causeGrade f cause = .crazed := by
  rcases hc with rfl | rfl
  · rfl
  · rfl

theorem State.Heated.tempSensor (h : s.Heated hi c) (low : 2231 < v) :
    (s.tempSensor k v).Heated (hi.set k (beyond (decide (4231 < v)) hi[k])) (c ∨ hi[k] = 1 ∧ 4231 < v) := by
  have judged := (h.sampled (k := k) (v := v)).tempTrip (k := k.val) (n := beyond (decide (4231 < v)) s.tamp.tempHi[k])
    (causeGrade_temperature _ (.inl rfl)) (by decide)
  have second : (c ∨ hi[k] = 1 ∧ 4231 < v) → c ∨ beyond (decide (4231 < v)) s.tamp.tempHi[k] = 2 := by
    refine Or.imp_right fun ⟨one, above⟩ => ?_
    rw [h.count, one, decide_eq_true above]; rfl
  rw [tempSensor_warm low]; dsimp only; split
  · exact judged.trip (causeGrade_temperature _ (.inr rfl)) (by decide)
  · exact judged.imp second

/-- Among sensors above the lower limits, one whose second sample in a row is above the upper one leaves the part Crazed. -/
theorem tempSensors_heated (f : Fin 4 → Int) (low : ∀ i, 2231 < f i) {l : List (Fin 4)} (hl : l.Nodup) (h : s.Heated hi c) :
    ∃ hi', (l.foldl (fun t k => t.tempSensor k (f k)) s).Heated hi' (c ∨ ∃ i ∈ l, hi[i] = 1 ∧ 4231 < f i) := by
  induction l generalizing s hi c with
  | nil => exact ⟨hi, h.imp fun e => e.resolve_right (by simp)⟩
  | cons k l ih =>
    obtain ⟨fresh, hl⟩ := List.nodup_cons.mp hl
    obtain ⟨hi', rest⟩ := ih hl (h.tempSensor (k := k) (low k))
    refine ⟨hi', rest.imp ?_⟩
    rintro (hc | ⟨i, mem, one, above⟩)
    · exact .inl (.inl hc)
    · by_cases e : i = k
      · subst e; exact .inl (.inr ⟨one, above⟩)
      · have ne : k.val ≠ i.val := fun e' => e (Fin.ext e'.symm)
        refine .inr ⟨i, (List.mem_cons.mp mem).resolve_left e, ?_, above⟩
        simpa [Vector.getElem_set_ne _ _ ne] using one

/-! ## The command -/

/-- The state that notes when its sensors were last sampled. -/
def State.sampledAt (s : State) (n : Nat) : State := { s with tamp := { s.tamp with tempAt := some n } }

theorem sampledAt_grade (s : State) (n : Nat) : (s.sampledAt n).tamp.grade = s.tamp.grade := rfl
theorem sampledAt_temps (s : State) (n : Nat) : (s.sampledAt n).tamp.temps = s.tamp.temps := rfl
theorem sampledAt_tempHi (s : State) (n : Nat) : (s.sampledAt n).tamp.tempHi = s.tamp.tempHi := rfl
theorem sampledAt_kilnReady (s : State) (n : Nat) : (s.sampledAt n).kilnReady = s.kilnReady := rfl
theorem sampledAt_calm (n : Nat) (h : s.sensing.Calm) : (s.sampledAt n).sensing.Calm := ⟨h.firing, h.crazed, h.shattered, h.few⟩

theorem ended_tamp (s : State) (n : Nat) : (s.ended n).tamp = s.tamp := ((State.Senses.self s).ended n).tamp

theorem exec_temperatureSample {l : List Int} (hvao : s.rails.vao = true) (hsrc : s.clk.tickSrc ≠ none) (hl : l.length = 4) : ∃ n u,
    u = s.ended n ∧ exec (.temperatureSample l) s =
      .next ((List.finRange 4).foldl (fun t k => t.tempSensor k (l.getD k.val 0)) (u.sampledAt n)) := by
  refine ⟨_, _, ?_, congrArg Host.Outcome.next (if_pos (by simp [hvao, Option.isSome_iff_ne_none, hsrc, hl]))⟩
  rfl

theorem temperatureSample_mild {l : List Int} (hvao : s.rails.vao = true) (hsrc : s.clk.tickSrc ≠ none) (hl : l.length = 4)
    (mild : ∀ i : Fin 4, 2231 < l.getD i.val 0 ∧ l.getD i.val 0 ≤ 4231 ∧ rateTrips s.tamp.temps[i] (l.getD i.val 0) = false) :
    Does (.temperatureSample l) s (fun t => t.tamp.grade = s.tamp.grade ∧
      ∀ i : Fin 4, t.tamp.tempHi[i] = 0 ∧ t.tamp.tempLo[i] = 0 ∧ t.tamp.tempVlo[i] = 0 ∧
        t.tamp.temps[i] = (l.getD i.val 0 :: s.tamp.temps[i]).take 50) := by
  obtain ⟨n, u, hu, hn⟩ := exec_temperatureSample hvao hsrc hl
  have tamp : u.tamp = s.tamp := by rw [hu, ended_tamp]
  have temps : (u.sampledAt n).tamp.temps = s.tamp.temps := by rw [sampledAt_temps, tamp]
  obtain ⟨grade, sensors⟩ := tempSensors_quiet (fun i => l.getD i.val 0) (List.nodup_finRange 4) (u.sampledAt n) fun i _ => by
    unfold Mild; rw [temps]; exact mild i
  refine ⟨_, hn, grade.trans (by rw [sampledAt_grade, tamp]), fun i => ?_⟩
  have row := sensors i
  rw [if_pos (List.mem_finRange i), temps] at row
  obtain ⟨hTemps, hCounts⟩ := Prod.mk.inj row
  obtain ⟨hHi, hCounts⟩ := Prod.mk.inj hCounts
  obtain ⟨hLo, hVlo⟩ := Prod.mk.inj hCounts
  exact ⟨hHi, hLo, hVlo, hTemps⟩

theorem temperatureSample_hot {l : List Int} (hvao : s.rails.vao = true) (hsrc : s.clk.tickSrc ≠ none) (hl : l.length = 4)
    (ready : s.kilnReady = true) (calm : s.sensing.Calm) (low : ∀ i : Fin 4, 2231 < l.getD i.val 0)
    (hot : ∃ i : Fin 4, s.tamp.tempHi[i] = 1 ∧ 4231 < l.getD i.val 0) : Does (.temperatureSample l) s (fun t => t.tamp.grade = .crazed) := by
  obtain ⟨n, u, hu, hn⟩ := exec_temperatureSample hvao hsrc hl
  have woken : u.kilnReady = true := by rw [hu]; exact (ended_kilnReady s n).trans ready
  have below : u.sensing.Calm := by rw [hu, ((State.Senses.self s).ended n).eq]; exact calm.at
  have count : (u.sampledAt n).tamp.tempHi = s.tamp.tempHi := by rw [sampledAt_tempHi, hu, ended_tamp]
  have start : (u.sampledAt n).Heated s.tamp.tempHi False :=
    ⟨(sampledAt_kilnReady u n).trans woken, .inl (sampledAt_calm n below), count, nofun⟩
  obtain ⟨hi, heated⟩ := tempSensors_heated (fun i => l.getD i.val 0) low (List.nodup_finRange 4) start
  obtain ⟨i, one, above⟩ := hot
  exact ⟨_, hn, (heated.crazed (.inr ⟨i, List.mem_finRange i, one, above⟩)).crazed⟩

end Sys2Proof.Machine
end

section
/-! O58, from the commands of attack sensing (spec/07_tamper.md R240–R266). -/

namespace Sys2Proof.Machine

open Sys2Proof

/-- Settles O58, from what each command of attack sensing does to what sensing stands on. -/
theorem sensors : Obligations.Sensors := by
  unfold Obligations.Sensors
  intro cause index k pass v s hvao
  dsimp only
  refine ⟨fun hc hs => ⟨?_, ?_, ?_, ?_⟩, fun hsrc hc hf => ⟨?_, ?_, ?_⟩, fun hsrc hk => ?_, fun a l hl hsrc => ?_,
    fun hsrc hg hr ready hh hcheck => crazedQuietExpiry_starts hvao hsrc hg hr ready hh hcheck,
    fun hcheck hg => ⟨fun fails => selfcheck_fails hcheck hg fails, ?_⟩, fun j hj hsrc => suspensionEnd_ends hj hvao hsrc,
    fun hsrc hl => ⟨fun mild => temperatureSample_mild hvao hsrc hl mild, ?_⟩⟩
  · exact fun ⟨ready, hf, below, few⟩ crazed glitches => sensorTrip_crazed hvao hc hs ready (calm_sensing hf below few) crazed glitches
  · exact fun ready hr hf hg shattered => sensorTrip_shattered hvao hc hs ready hr hf hg shattered
  · exact fun ready hf => sensorTrip_sherd hvao hc hs ready hf
  · exact fun ready => sensorTrip_latches hvao hc hs ready
  · exact fun suspended ⟨ready, hf, below, few⟩ => discriminableAnomaly_suspended hvao hsrc hc suspended ready (calm_sensing hf below few)
  · exact fun suspended unexcused => discriminableAnomaly_holds hvao hsrc hc hf suspended unexcused
  · exact fun suspended ref => discriminableAnomaly_excused hvao hsrc hc hf suspended ref
  · obtain ⟨t, ht, holds, grade, ref⟩ := referenceEvent_ends hvao hsrc hk
    refine ⟨t, ht, holds, grade, ?_⟩
    cases k <;> exact ref
  · obtain ⟨t, ht, left, graded⟩ := provisionalHoldExpiry_grades hl hvao hsrc
    exact ⟨t, ht, left, fun ⟨ready, hf, below, few⟩ => graded ready (calm_sensing hf below few)⟩
  · rintro rfl ht hh
    exact ⟨selfcheck_restarts hcheck hg ht hh, selfcheck_clears hcheck hg ht hh⟩
  · exact fun ⟨ready, hf, below, few⟩ low hot => temperatureSample_hot hvao hsrc hl ready (calm_sensing hf below few) low hot

end Sys2Proof.Machine
end

section
/-! The invariant (spec/08_channels.md R286, R290, R308; spec/13_cores.md R516) and the state at reset (R286, R321): the state at reset is safe,
and every step from a safe state answers a safe one. -/

namespace Sys2Proof.Machine

open Sys2Proof

/-! ## The step -/

/-- A step is the command in front of the queue, or a tick on an empty queue; each keeps the queue's rest and the invariant. -/
theorem step_outOk {Q : Prop} {s : State} (h : Q → s.Inv) : OutOk Q s.pending.tail (step s) := by
  cases hp : s.pending with
  | nil =>
    have tick : s.idle.Ok Q [] := State.idle_ok ⟨hp, h⟩
    unfold step
    rw [hp]
    exact tick
  | cons c rest =>
    rw [step_of_pending_cons hp]
    exact exec_ok ⟨rfl, h⟩

/-! ## The state at reset -/

theorem reset_chan (c : Fin 16) : State.reset.chan c = {} := Vector.getElem_replicate c.isLt

theorem reset_ldm (k : Fin 2) : State.reset.ldm[k] = [] := Vector.getElem_replicate k.isLt

/-! ## The obligations -/

/-- Settles O4, from the meanings of the commands and from the tick. -/
theorem stepKeepsInv : Obligations.StepKeepsInv := by
  intro s t hs ht
  have answer : OutOk True s.pending.tail (step s) := step_outOk fun _ => hs
  rw [ht, outOk_next] at answer
  exact answer.2 trivial

/-- Settles O5: memory holds nothing, the tick counter is 0, and every core and every channel is as it comes. -/
theorem resetIsSafe : Obligations.ResetIsSafe := by
  refine ⟨Mem_wf_empty, fun k => ?_, Nat.two_pow_pos 48, core_new_ok, ch_new_ok⟩
  rw [reset_ldm]
  exact Mem_wf_empty

/-- Settles O6: every channel is as it comes. -/
theorem resetChannels : Obligations.ResetChannels := by
  refine ⟨rfl, rfl, fun c => ?_⟩
  rw [reset_chan]
  decide

end Sys2Proof.Machine
end

section
/-! What the machinery of one channel does (spec/08_channels.md R282–R315): an edge that is accepted, a window that is due, a write that the
guard takes, and a freeze. -/

namespace Sys2Proof.Machine

open Sys2Proof

variable {x : Chan} {t : Nat}

/-! ## The driven level (R294) -/

theorem Chan.target_of_connG (hp : x.fenPad.cur = .conn .g) (hr : x.retired = false) (hf : x.fused = false) (hz : x.frozen = false) :
    x.target = (x.dmd && x.latch) := by
  simp [Chan.target, hp, hr, hf, hz]

theorem Chan.target_of_unlatched (hp : x.fenPad.cur = .conn .g) (hl : x.latch = false) : x.target = false := by
  simp [Chan.target, hp, hl]

theorem Chan.clearLatch_latch (x : Chan) : x.clearLatch.latch = false := rfl

/-- A latch that clears ends a continuity hold (R309). -/
theorem Chan.clearLatch_not_hold (x : Chan) (k : Nat) : x.clearLatch.keep ≠ .hold k := by
  unfold Chan.clearLatch
  cases x.keep with
  | idle => exact nofun
  | heartbeat _ => exact nofun
  | hold _ => exact nofun

/-! ## Edges (R282, R283, R304, R315) -/

@[simp] theorem Chan.moveFen_dmd (x : Chan) (t : Nat) : (x.moveFen t).dmd = x.dmd := by
  unfold Chan.moveFen; dsimp only; split
  · rfl
  · exact Chan.push_dmd _ _ _ _

theorem Chan.moveFen_pre (x : Chan) (t : Nat) : ∃ l, (x.moveFen t).fifo = x.fifo ++ l := by
  unfold Chan.moveFen; dsimp only; split
  · exact ⟨[], by simp⟩
  · exact push_pre { x with fen := x.target, conf := none } _ _ _

/-- What the filters ask of an edge: the input is in function, and the level is new (R282). -/
theorem not_rejected {v rise : Bool} (hi : x.inputs = true) (hv : v = !rise) : ¬((!x.inputs || v == rise) = true) := by
  simp [hi, hv]

theorem Chan.dmdEdge_dmd {rise : Bool} (hi : x.inputs = true) (hd : x.dmd = !rise) (bypass : Bool) : (x.dmdEdge rise bypass t).dmd = rise := by
  unfold Chan.dmdEdge
  rw [if_neg (not_rejected hi hd)]; dsimp only
  repeat' split
  all_goals simp

/-- A fall of demand clears the latch, and FEN follows in the same tick, frozen or not (R296). -/
theorem Chan.dmdEdge_fall (hi : x.inputs = true) (hd : x.dmd = true) :
    (x.dmdEdge false false t).latch = false ∧ (x.dmdEdge false false t).fen = false := by
  unfold Chan.dmdEdge
  rw [if_neg (not_rejected hi hd)]
  refine ⟨Chan.settle_latch _ _, ?_⟩
  exact (settle_fen _ _).trans (target_dmd _ (Chan.push_dmd _ _ _ _))

/-- An edge of the bypass queues its own event first, marked, before FEN moves (R287, R315). -/
theorem Chan.dmdEdge_bypass_fifo {rise : Bool} (hi : x.inputs = true) (hd : x.dmd = !rise) (hs : x.stamps = true) (hn : x.fifo.length < 16) :
    ∃ l, (x.dmdEdge rise true t).fifo =
      x.fifo ++ { code := if rise then 0x01 else 0x02, bypass := true, frozen := x.frozen, tick := t } :: l := by
  unfold Chan.dmdEdge
  rw [if_neg (not_rejected hi hd)]; dsimp only
  rw [if_pos rfl]
  refine (Chan.moveFen_pre _ t).imp fun l hl => hl.trans ?_
  have queued := push_fifo { x with dmd := rise } (if rise then evDmdRise else evDmdFall) t true hs hn
  rw [apply_ite Chan.fifo, Chan.clearLatch_fifo, ite_self, queued, List.append_assoc]
  rfl

theorem Chan.fbkEdge_fbk {rise : Bool} (hi : x.inputs = true) (hb : x.fbk = !rise) : (x.fbkEdge rise t).fbk = rise := by
  unfold Chan.fbkEdge
  rw [if_neg (not_rejected hi hb)]; dsimp only; repeat' split
  all_goals simp

/-- Feedback that comes to agree with FEN leaves no confirm window open (R302). -/
theorem Chan.fbkEdge_conf {rise : Bool} (hi : x.inputs = true) (hb : x.fbk = !rise) (hf : x.fen = rise) : (x.fbkEdge rise t).conf = none := by
  unfold Chan.fbkEdge
  rw [if_neg (not_rejected hi hb)]; dsimp only
  generalize hy : Chan.push { x with fbk := rise } (if rise then evFbkRise else evFbkFall) t = y
  have agrees : y.fbk = y.fen := by rw [← hy]; simp [hf]
  split
  · exact checkConf_conf y t agrees
  · rename_i closed
    rw [if_neg (by simp [agrees])]
    simpa using closed

theorem Chan.glitch_of_known (hi : x.inputs = true) (hk : x.known = true) :
    x.glitch true = { x with fbkGlitch := sat16 x.fbkGlitch } ∧ x.glitch false = { x with dmdGlitch := sat16 x.dmdGlitch } := by
  have counts : ¬((!x.inputs || !x.known) = true) := by simp [hi, hk]
  exact ⟨if_neg counts, if_neg counts⟩

/-! ## Windows that are due (R302, R306, R309) -/

theorem Chan.closeConf_of_due {k : Nat} (hc : x.conf = some k) (hk : k ≤ t) :
    (x.closeConf t).conf = none ∧ (x.closeConf t).confLate = sat16 x.confLate := by
  unfold Chan.closeConf
  rw [hc]; dsimp only
  rw [if_pos hk]
  exact ⟨Chan.push_conf _ _ _ _, Chan.push_confLate _ _ _ _⟩

theorem Chan.closeDue_of_idle (h : x.keep = .idle) : x.closeDue t = x.closeConf t := by
  simp [Chan.closeDue, Chan.keepDue, h]

theorem Chan.closeDue_of_keepDue {k : Nat} (h : x.keepDue t = some k) : x.closeDue t = ((x.closeConf k).closeKeep k).closeConf t := by
  unfold Chan.closeDue; rw [h]

theorem Chan.closeKeep_keep (x : Chan) (k : Nat) : (x.closeKeep k).keep = .idle := by
  unfold Chan.closeKeep; split
  · assumption
  · exact Chan.push_keep _ _ _ _
  · exact (Chan.settle_keep _ _).trans (Chan.push_keep _ _ _ _)

theorem Chan.closeKeep_latch_of_heartbeat {j : Nat} (h : x.keep = .heartbeat j) (k : Nat) : (x.closeKeep k).latch = x.latch := by
  unfold Chan.closeKeep; rw [h]
  exact Chan.push_latch _ _ _ _

theorem Chan.closeKeep_latch_of_hold {j : Nat} (h : x.keep = .hold j) (k : Nat) : (x.closeKeep k).latch = false := by
  unfold Chan.closeKeep; rw [h]
  exact (Chan.settle_latch _ _).trans (Chan.push_latch _ _ _ _)

/-- The heartbeat window closes to idle with the latch as it was (R306). -/
theorem Chan.closeDue_of_heartbeat {k : Nat} (h : x.keep = .heartbeat k) (hk : k ≤ t) :
    (x.closeDue t).keep = .idle ∧ (x.closeDue t).latch = x.latch := by
  rw [Chan.closeDue_of_keepDue (k := k) (by simp [Chan.keepDue, h, hk])]
  refine ⟨(Chan.closeConf_keep _ _).trans (Chan.closeKeep_keep _ _), ?_⟩
  rw [Chan.closeConf_latch, Chan.closeKeep_latch_of_heartbeat ((Chan.closeConf_keep _ _).trans h), Chan.closeConf_latch]

/-- The continuity hold closes to idle with the latch cleared (R309). -/
theorem Chan.closeDue_of_hold {k : Nat} (h : x.keep = .hold k) (hk : k ≤ t) : (x.closeDue t).keep = .idle ∧ (x.closeDue t).latch = false := by
  rw [Chan.closeDue_of_keepDue (k := k) (by simp [Chan.keepDue, h, hk])]
  refine ⟨(Chan.closeConf_keep _ _).trans (Chan.closeKeep_keep _ _), ?_⟩
  rw [Chan.closeConf_latch, Chan.closeKeep_latch_of_hold ((Chan.closeConf_keep _ _).trans h)]

/-! ## Writes of the guard (R295, R296, R306–R310, R312, R319) -/

theorem Chan.any_of_not_frozen (hz : x.frozen = false) : x.frz.any = false := (Bool.or_eq_false_iff.mp hz).1

theorem Chan.awaiting_of_not_frozen (hz : x.frozen = false) : x.awaiting = false := by
  have decided : x.needDec = false := (Bool.or_eq_false_iff.mp hz).2
  simp [Chan.awaiting, decided]

theorem Freeze.provisionalAlone_of_not_any {f : Freeze} (h : f.any = false) : f.provisionalAlone = false := by
  unfold Freeze.any at h
  simp only [Bool.or_eq_false_iff] at h
  simp [Freeze.provisionalAlone, h]

theorem Chan.guardWrite_of_fused (hf : x.fused = true) (grant : Bool) : x.guardWrite grant t = x := if_pos hf

theorem Chan.guardWrite_of_unguarded (hf : x.fused = false) (hg : x.eclass.guarded = false) (grant : Bool) :
    x.guardWrite grant t = x.refuseGrant := by
  simp [Chan.guardWrite, hf, hg]

theorem Chan.guardWrite_of_frozen (hf : x.fused = false) (hg : x.eclass.guarded = true) (hz : x.frozen = true) (ha : x.awaiting = false)
    (hp : x.frz.provisionalAlone = false) (grant : Bool) : x.guardWrite grant t = x.ignoreWrite := by
  simp [Chan.guardWrite, hf, hg, hz, ha, hp]

theorem Chan.guardWrite_taken (hf : x.fused = false) (hg : x.eclass.guarded = true) (hz : x.frozen = false) :
    x.guardWrite true t = x.setLatch t ∧ x.guardWrite false t = x.clearLatch.settle t := by
  have undecided := Chan.awaiting_of_not_frozen hz
  have released := Freeze.provisionalAlone_of_not_any (Chan.any_of_not_frozen hz)
  simp [Chan.guardWrite, hf, hg, hz, undecided, released]

theorem Chan.setLatch_of_grantable (h : x.grantable = true) : x.setLatch t = { x with latch := true }.settle t := if_pos h

theorem Chan.setLatch_latch (h : x.grantable = true) : (x.setLatch t).latch = true := by
  rw [Chan.setLatch_of_grantable h, Chan.settle_latch]

/-- A grant under demand drives the output in function G (R294, R295). -/
theorem Chan.setLatch_fen (h : x.grantable = true) (hp : x.fenPad.cur = .conn .g) (hr : x.retired = false) (hf : x.fused = false)
    (hz : x.frozen = false) : (x.setLatch t).fen = true := by
  have demand : x.dmd = true := by
    simp only [Chan.grantable, Bool.and_eq_true] at h
    exact h.1.2
  have driven : Chan.target { x with latch := true } = (x.dmd && true) := Chan.target_of_connG hp hr hf hz
  rw [Chan.setLatch_of_grantable h, settle_fen, driven, demand]
  rfl

theorem Chan.keepWrite_of_unguarded (hf : x.fused = false) (hg : x.eclass.guarded = false) (cmd : KeepCmd) :
    x.keepWrite cmd t = x.refuseKeep := by
  simp [Chan.keepWrite, hf, hg]

theorem Chan.keepWrite_taken (hf : x.fused = false) (hg : x.eclass.guarded = true) (hz : x.frozen = false) :
    x.keepWrite .heartbeat t = x.heartbeat t ∧ x.keepWrite .hold t = x.startHold t ∧ x.keepWrite .stop t = x.stopKeep := by
  have released := Freeze.provisionalAlone_of_not_any (Chan.any_of_not_frozen hz)
  simp [Chan.keepWrite, hf, hg, hz, released]

theorem Chan.startHold_of_latched (hc : x.eclass = .a) (hl : x.latch = true) (hd : x.dmd = true) (hn : ∀ k, x.keep ≠ .hold k) :
    x.startHold t = { x with keep := .hold (t + x.holdLen) } := by
  cases hk : x.keep with
  | idle => simp [Chan.startHold, hc, hl, hd, hk]
  | heartbeat _ => simp [Chan.startHold, hc, hl, hd, hk]
  | hold k => exact absurd hk (hn k)

theorem Chan.stopKeep_of_not_hold (hn : ∀ k, x.keep ≠ .hold k) : x.stopKeep = { x with keep := .idle } := by
  cases hk : x.keep with
  | idle => simp [Chan.stopKeep, hk]
  | heartbeat _ => simp [Chan.stopKeep, hk]
  | hold k => exact absurd hk (hn k)

/-! ## Service, freezes and window lengths (R299, R300, R311, R314) -/

theorem Freeze.get_put_true (f : Freeze) (src : FreezeSrc) : (f.put true src).get src = true := by
  cases src <;> rfl

/-- A channel in service takes every source that is set on it. -/
theorem Chan.freeze_get (hg : x.eclass.guarded = true) (hs : x.service = true) (src : FreezeSrc) : (x.freeze src t).frz.get src = true := by
  unfold Chan.freeze
  cases held : x.frz.get src with
  | true => rw [if_pos (by simp)]; exact held
  | false =>
    rw [if_neg (by simp [hg, hs])]; dsimp only; split
    · exact Freeze.get_put_true _ _
    · rw [Chan.push_frz]; exact Freeze.get_put_true _ _

theorem Chan.freeze_service (x : Chan) (src : FreezeSrc) (t : Nat) : (x.freeze src t).service = x.service := by
  unfold Chan.freeze; split
  · rfl
  · dsimp only; split
    · rfl
    · exact Chan.push_service _ _ _ _

theorem Chan.freeze_contracted (x : Chan) (src : FreezeSrc) (t : Nat) : (x.freeze src t).contracted = x.contracted := by
  unfold Chan.freeze; split
  · rfl
  · dsimp only; split
    · rfl
    · exact Chan.push_contracted _ _ _ _

theorem Chan.loadContracted_contracted (x : Chan) (v : Bool) (t : Nat) : (x.loadContracted v t).contracted = v := by
  cases v with
  | true => rfl
  | false => exact Chan.settle_contracted _ _

theorem Chan.loadContracted_eclass (x : Chan) (v : Bool) (t : Nat) : (x.loadContracted v t).eclass = x.eclass := by
  cases v with
  | true => rfl
  | false => exact Chan.settle_eclass _ _

theorem Chan.loadContracted_service (x : Chan) (v : Bool) (t : Nat) : (x.loadContracted v t).service = x.service := by
  cases v with
  | true => rfl
  | false => exact Chan.settle_service _ _

/-- The sources already present at service entry freeze the channel, and leave the service flag and CONTRACTED as loaded (R299, R311). -/
theorem Chan.enter_serves (hf : x.fused = false) (hg : x.eclass.guarded = true) (hr : x.retired = false) (hs : x.service = false)
    (v : Bool) (conds : FreezeSrc → Bool) : (x.enter v conds t).service = true ∧ (x.enter v conds t).contracted = v := by
  unfold Chan.enter
  rw [if_neg (by simp [hf]), if_neg (by simp [hg, hr]), if_neg (by simp [hs])]; dsimp only
  refine List.foldlRecOn (motive := fun y : Chan => y.service = true ∧ y.contracted = v) _ _ ?_ fun y hy src _ => ?_
  · exact ⟨Chan.push_service _ _ _ _, Chan.push_contracted _ _ _ _⟩
  · split
    · exact ⟨(Chan.freeze_service _ _ _).trans hy.1, (Chan.freeze_contracted _ _ _).trans hy.2⟩
    · exact hy

theorem Chan.xfreeze_of_service (hf : x.fused = false) (hg : x.eclass.guarded = true) (hs : x.service = true) (v : Bool) :
    (x.xfreeze v t).frz.exchange = true ∧ (x.xfreeze v t).contracted = v := by
  unfold Chan.xfreeze
  rw [if_neg (by simp [hf]), if_neg (by simp [hg, hs])]
  refine ⟨?_, (Chan.freeze_contracted _ _ _).trans (Chan.loadContracted_contracted _ _ _)⟩
  exact Chan.freeze_get ((congrArg _ (Chan.loadContracted_eclass _ _ _)).trans hg) ((Chan.loadContracted_service _ _ _).trans hs) .exchange

theorem Chan.lengthWrite_loads {n : Nat} (hf : x.fused = false) (hn : n % 2 ^ 24 ≠ 0) :
    x.lengthWrite .tconf n = { x with tconfLen := n % 2 ^ 24 } ∧ x.lengthWrite .hb n = { x with hbLen := n % 2 ^ 24 } ∧
    x.lengthWrite .hold n = { x with holdLen := n % 2 ^ 24 } := by
  have written : ¬x.fused = true := by simp [hf]
  exact ⟨(if_neg written).trans (if_neg hn), (if_neg written).trans (if_neg hn), (if_neg written).trans (if_neg hn)⟩

theorem Chan.lengthWrite_refuses {n : Nat} (hf : x.fused = false) (hn : n % 2 ^ 24 = 0) (w : WinLen) :
    x.lengthWrite w n = { x with sticky := { x.sticky with loadRefused := true } } :=
  (if_neg (by simp [hf])).trans (if_pos hn)

end Sys2Proof.Machine
end

section
/-! The commands of a channel (spec/08_channels.md R282–R321): edges, windows that close, writes of the Wheel that the guard takes or refuses,
service entry and window lengths. -/

namespace Sys2Proof.Machine

open Sys2Proof

variable {c : Fin 16} {s : State}

/-! ## Commands that are one operation on a channel -/

theorem Does.imp {cmd : Instr} {P R : State → Prop} (h : Does cmd s P) (hi : ∀ t, P t → R t) : Does cmd s R := by
  obtain ⟨t, ht, hp⟩ := h
  exact ⟨t, ht, hi t hp⟩

/-- Where the condition of such a command holds, it applies its operation to the channel as it finds it, and nothing else changes. -/
theorem does_chOp {cmd : Instr} {g : Bool} {f : Chan → Chan} (he : exec cmd s = .next (if g then s.chOp c f else s)) (hg : g = true) :
    Does cmd s (fun t => t.chan c = f (s.due c) ∧ OnlyChan s t c) := by
  subst hg
  exact ⟨_, he, chan_chOp_self s c f, only_chOp s c f⟩

/-! ## Edges (R282, R283, R304, R315) -/

theorem dmdRise_does (hao : s.aoTicks = true) (hi : (s.due c).inputs = true) (hd : (s.due c).dmd = false) :
    Does (.dmdRise c) s (fun t => (t.chan c).dmd = true ∧ OnlyChan s t c) := by
  refine (does_chOp rfl hao).imp fun t ⟨hc, only⟩ => ⟨?_, only⟩
  rw [hc]
  exact Chan.dmdEdge_dmd (rise := true) hi hd false

theorem dmdFall_does (hao : s.aoTicks = true) (hi : (s.due c).inputs = true) (hd : (s.due c).dmd = true) :
    Does (.dmdFall c) s (fun t => (t.chan c).dmd = false ∧ (t.chan c).latch = false ∧ (t.chan c).fen = false ∧ OnlyChan s t c) := by
  refine (does_chOp rfl hao).imp fun t ⟨hc, only⟩ => ?_
  obtain ⟨unlatched, low⟩ := Chan.dmdEdge_fall (t := s.tick) hi hd
  rw [hc]
  exact ⟨Chan.dmdEdge_dmd (rise := false) hi hd false, unlatched, low, only⟩

theorem fbkRise_does (hao : s.aoTicks = true) (hi : (s.due c).inputs = true) (hb : (s.due c).fbk = false) :
    Does (.fbkRise c) s (fun t => (t.chan c).fbk = true ∧ ((s.due c).fen = true → (t.chan c).conf = none) ∧ OnlyChan s t c) := by
  refine (does_chOp rfl hao).imp fun t ⟨hc, only⟩ => ?_
  rw [hc]
  exact ⟨Chan.fbkEdge_fbk (rise := true) hi hb, Chan.fbkEdge_conf (rise := true) hi hb, only⟩

theorem fbkFall_does (hao : s.aoTicks = true) (hi : (s.due c).inputs = true) (hb : (s.due c).fbk = true) :
    Does (.fbkFall c) s (fun t => (t.chan c).fbk = false ∧ ((s.due c).fen = false → (t.chan c).conf = none) ∧ OnlyChan s t c) := by
  refine (does_chOp rfl hao).imp fun t ⟨hc, only⟩ => ?_
  rw [hc]
  exact ⟨Chan.fbkEdge_fbk (rise := false) hi hb, Chan.fbkEdge_conf (rise := false) hi hb, only⟩

theorem glitch_does (hao : s.aoTicks = true) (hi : (s.due c).inputs = true) (hk : (s.due c).known = true) :
    Does (.glitch c true) s (fun t => t.chan c = { s.due c with fbkGlitch := sat16 (s.due c).fbkGlitch } ∧ OnlyChan s t c) ∧
    Does (.glitch c false) s (fun t => t.chan c = { s.due c with dmdGlitch := sat16 (s.due c).dmdGlitch } ∧ OnlyChan s t c) := by
  obtain ⟨feedback, demand⟩ := Chan.glitch_of_known hi hk
  exact ⟨(does_chOp rfl hao).imp fun t ⟨hc, only⟩ => ⟨hc.trans feedback, only⟩,
    (does_chOp rfl hao).imp fun t ⟨hc, only⟩ => ⟨hc.trans demand, only⟩⟩

theorem bypassEdge_does (hvao : s.rails.vao = true) (hsrc : s.clk.tickSrc = none) (hi : (s.due c).inputs = true) {rise : Bool}
    (hd : (s.due c).dmd = !rise) : Does (.bypassEdge c rise) s (fun t => (t.chan c).dmd = rise ∧
      ((s.due c).stamps = true → (s.due c).fifo.length < 16 → ∃ l, (t.chan c).fifo = (s.due c).fifo ++
        { code := if rise then 0x01 else 0x02, bypass := true, frozen := (s.due c).frozen, tick := s.tick } :: l) ∧ OnlyChan s t c) := by
  have unticked : (s.aoUp && s.clk.tickSrc.isNone) = true := by simp [State.aoUp, hvao, hsrc]
  refine (does_chOp rfl unticked).imp fun t ⟨hc, only⟩ => ?_
  rw [hc]
  exact ⟨Chan.dmdEdge_dmd hi hd true, Chan.dmdEdge_bypass_fifo hi hd, only⟩

/-! ## Windows that close (R302, R306, R309) -/

/-- The channel at the closing tick `k`, or now if that is past: what is due by then has closed. -/
def State.windowClosed (s : State) (c : Fin 16) (k : Nat) : State := (s.advanceTo k).chOp c id

theorem windowClosed_tick {k : Nat} (hk : k < 2 ^ 48) : (s.windowClosed c k).tick = max s.tick k := (chOp_tick _ _ _).trans (advanceTo_tick_of_lt hk)

theorem windowClosed_chan {k : Nat} (hk : k < 2 ^ 48) : (s.windowClosed c k).chan c = (s.chan c).closeDue (max s.tick k) := by
  unfold State.windowClosed
  rw [chan_chOp_self, State.due, chan_advance, advanceTo_tick_of_lt hk]
  rfl

theorem windowClosed_lnk (k : Nat) : (s.windowClosed c k).lnk c = s.lnk c := lnk_chOp _ _ _ _

theorem exec_confLate {k : Nat} (hao : s.aoTicks = true) (hc : (s.chan c).conf = some k) : exec (.confLate c) s = .next (s.windowClosed c k) := by
  show execConfLate c s = _
  unfold execConfLate
  rw [hc]
  exact congrArg Host.Outcome.next (if_pos hao)

theorem hbClose_of_heartbeat {k : Nat} (hao : s.aoTicks = true) (hh : (s.chan c).keep = .heartbeat k) : hbClose c s = s.windowClosed c k := by
  unfold hbClose
  rw [hh]
  exact if_pos hao

theorem hbNotice_of_no_session (h : (s.lnk c).sess = none) : s.hbNotice c = s := by
  unfold State.hbNotice
  rw [h]

theorem exec_hbExpired {k : Nat} (hao : s.aoTicks = true) (hh : (s.chan c).keep = .heartbeat k) (hn : (s.lnk c).sess = none) :
    exec (.hbExpired c) s = .next (s.windowClosed c k) := by
  show execHbExpired c s = _
  unfold execHbExpired
  rw [hbClose_of_heartbeat hao hh, hbNotice_of_no_session (by rw [windowClosed_lnk, hn])]

theorem exec_holdExpired {k : Nat} (hao : s.aoTicks = true) (hh : (s.chan c).keep = .hold k) :
    exec (.holdExpired c) s = .next (s.windowClosed c k) := by
  show execHoldExpired c s = _
  unfold execHoldExpired
  rw [hh]
  exact congrArg Host.Outcome.next (if_pos hao)

theorem confLate_does {k : Nat} (hao : s.aoTicks = true) (hk : k < 2 ^ 48) (hc : (s.chan c).conf = some k) (hi : (s.chan c).keep = .idle) :
    Does (.confLate c) s (fun t => (t.chan c).conf = none ∧ (t.chan c).confLate = sat16 (s.chan c).confLate ∧ t.tick = max s.tick k) := by
  obtain ⟨gone, counted⟩ := Chan.closeConf_of_due hc (Nat.le_max_right s.tick k)
  refine ⟨_, exec_confLate hao hc, ?_⟩
  dsimp only
  rw [windowClosed_chan hk, Chan.closeDue_of_idle hi]
  exact ⟨gone, counted, windowClosed_tick hk⟩

theorem hbExpired_does {k : Nat} (hao : s.aoTicks = true) (hk : k < 2 ^ 48) (hh : (s.chan c).keep = .heartbeat k) (hn : (s.lnk c).sess = none) :
    Does (.hbExpired c) s (fun t => (t.chan c).keep = .idle ∧ (t.chan c).latch = (s.chan c).latch ∧ t.tick = max s.tick k) := by
  obtain ⟨idle, latch⟩ := Chan.closeDue_of_heartbeat hh (Nat.le_max_right s.tick k)
  refine ⟨_, exec_hbExpired hao hh hn, ?_⟩
  dsimp only
  rw [windowClosed_chan hk]
  exact ⟨idle, latch, windowClosed_tick hk⟩

theorem holdExpired_does {k : Nat} (hao : s.aoTicks = true) (hk : k < 2 ^ 48) (hh : (s.chan c).keep = .hold k) :
    Does (.holdExpired c) s (fun t => (t.chan c).keep = .idle ∧ (t.chan c).latch = false ∧ t.tick = max s.tick k) := by
  obtain ⟨idle, unlatched⟩ := Chan.closeDue_of_hold hh (Nat.le_max_right s.tick k)
  refine ⟨_, exec_holdExpired hao hh, ?_⟩
  dsimp only
  rw [windowClosed_chan hk]
  exact ⟨idle, unlatched, windowClosed_tick hk⟩

/-! ## Writes of GRANT and KEEP that the guard takes (R295, R296, R306, R308, R310) -/

section taken

variable (hw : s.wheelWrites = true) (hg : (s.due c).eclass.guarded = true) (hf : (s.due c).fused = false) (hz : (s.due c).frozen = false)

include hw hg hf hz

theorem grantSet_does (hgrant : (s.due c).grantable = true) (hr : (s.due c).retired = false) : Does (.grantSet c) s (fun t =>
    (t.chan c).latch = true ∧ ((s.due c).fenPad.cur = .conn .g → (t.chan c).fen = true) ∧ OnlyChan s t c) := by
  refine (does_chOp rfl hw).imp fun t ⟨hc, only⟩ => ?_
  rw [hc, (Chan.guardWrite_taken hf hg hz).1]
  exact ⟨Chan.setLatch_latch hgrant, fun hp => Chan.setLatch_fen hgrant hp hr hf hz, only⟩

theorem grantClear_does : Does (.grantClear c) s (fun t => (t.chan c).latch = false ∧ (∀ k, (t.chan c).keep ≠ .hold k) ∧
    ((s.due c).fenPad.cur = .conn .g → (t.chan c).fen = false) ∧ OnlyChan s t c) := by
  refine (does_chOp rfl hw).imp fun t ⟨hc, only⟩ => ?_
  rw [hc, (Chan.guardWrite_taken hf hg hz).2, Chan.settle_latch, Chan.settle_keep, settle_fen]
  exact ⟨Chan.clearLatch_latch _, Chan.clearLatch_not_hold _, fun hp => Chan.target_of_unlatched hp (Chan.clearLatch_latch _), only⟩

theorem keepHeartbeat_does : Does (.keepHeartbeat c) s (fun t =>
    t.chan c = { s.due c with keep := .heartbeat (s.tick + (s.due c).hbLen) } ∧ OnlyChan s t c) :=
  (does_chOp rfl hw).imp fun _ ⟨hc, only⟩ => ⟨hc.trans (Chan.keepWrite_taken hf hg hz).1, only⟩

theorem keepHold_does (ha : (s.due c).eclass = .a) (hl : (s.due c).latch = true) (hd : (s.due c).dmd = true)
    (hn : ∀ k, (s.due c).keep ≠ .hold k) : Does (.keepHold c) s (fun t =>
      t.chan c = { s.due c with keep := .hold (s.tick + (s.due c).holdLen) } ∧ OnlyChan s t c) := by
  refine (does_chOp rfl hw).imp fun t ⟨hc, only⟩ => ⟨?_, only⟩
  rw [hc, (Chan.keepWrite_taken hf hg hz).2.1]
  exact Chan.startHold_of_latched ha hl hd hn

theorem keepStop_does (hn : ∀ k, (s.due c).keep ≠ .hold k) :
    Does (.keepStop c) s (fun t => t.chan c = { s.due c with keep := .idle } ∧ OnlyChan s t c) := by
  refine (does_chOp rfl hw).imp fun t ⟨hc, only⟩ => ⟨?_, only⟩
  rw [hc, (Chan.keepWrite_taken hf hg hz).2.2]
  exact Chan.stopKeep_of_not_hold hn

end taken

/-! ## Writes that are refused or ignored (R295, R312, R319) -/

theorem guardWrite_does (hw : s.wheelWrites = true) (g : Bool) : Does (if g then .grantSet c else .grantClear c) s (fun t =>
    t.chan c = (s.due c).guardWrite g s.tick ∧ OnlyChan s t c) := by
  cases g with
  | true => exact does_chOp (f := fun x => x.guardWrite true s.tick) rfl hw
  | false => exact does_chOp (f := fun x => x.guardWrite false s.tick) rfl hw

theorem keepHold_refused (hw : s.wheelWrites = true) (hf : (s.due c).fused = false) (hg : (s.due c).eclass.guarded = false) :
    Does (.keepHold c) s (fun t => t.chan c = (s.due c).refuseKeep ∧ OnlyChan s t c) :=
  (does_chOp rfl hw).imp fun _ ⟨hc, only⟩ => ⟨hc.trans (Chan.keepWrite_of_unguarded hf hg .hold), only⟩

/-! ## Service, lengths, events and the tick counter (R291, R299, R300, R314, R321) -/

/-- The partner starts anew at Absent; the channel stays (R392). -/
theorem partnerRestart_chan_pstate (s : State) (c : Fin 16) :
    (s.partnerRestart c).chan c = s.chan c ∧ ((s.partnerRestart c).lnk c).pstate = .absent := by
  unfold State.partnerRestart
  refine ⟨?_, ?_⟩
  · unfold State.partnerRecord
    exact ((wlog_logged _ _ _ _ _).trans (report_logged _ _ _)).chan c
  · rw [lnk_partnerRecord, lnk_setLnk, if_pos rfl]

/-- The channel as service entry leaves it, before its partner starts anew: set up (R48, R299). -/
def State.entered (s : State) (c : Fin 16) (v : Bool) : State :=
  (s.chOp c (fun x => x.enter v s.freezeCond s.tick)).updCh c (fun x => { x with setup := true })

theorem entered_chan (s : State) (c : Fin 16) (v : Bool) :
    (s.entered c v).chan c = { (s.due c).enter v s.freezeCond s.tick with setup := true } := by
  unfold State.entered
  rw [chan_updCh, if_pos rfl, chan_chOp_self]

/-- A channel that was not in service and is now starts its partner anew. -/
theorem exec_serviceEnter {v : Bool} (hw : s.wheelWrites = true) (hs : (s.due c).service = false)
    (hi : ((s.due c).enter v s.freezeCond s.tick).service = true) : exec (.serviceEnter c v) s = .next ((s.entered c v).partnerRestart c) := by
  have was : (s.chan c).service = false := (Chan.closeDue_service _ _).symm.trans hs
  refine congrArg Host.Outcome.next ((if_pos hw).trans (if_pos ?_))
  rw [chan_chOp_self, hi, was]; rfl

theorem serviceEnter_does {v : Bool} (hw : s.wheelWrites = true) (hf : (s.due c).fused = false) (hg : (s.due c).eclass.guarded = true)
    (hr : (s.due c).retired = false) (hs : (s.due c).service = false) : Does (.serviceEnter c v) s (fun t =>
      (t.chan c).service = true ∧ (t.chan c).contracted = v ∧ (t.lnk c).pstate = .absent) := by
  obtain ⟨serves, contracted⟩ := Chan.enter_serves (t := s.tick) hf hg hr hs v s.freezeCond
  obtain ⟨kept, absent⟩ := partnerRestart_chan_pstate (s.entered c v) c
  refine ⟨_, exec_serviceEnter hw hs serves, ?_, ?_, absent⟩
  · rw [kept, entered_chan]; exact serves
  · rw [kept, entered_chan]; exact contracted

theorem xfreeze_does {v : Bool} (hw : s.wheelWrites = true) (hf : (s.due c).fused = false) (hg : (s.due c).eclass.guarded = true)
    (hs : (s.due c).service = true) : Does (.xfreeze c v) s (fun t =>
      (t.chan c).frz.exchange = true ∧ (t.chan c).contracted = v ∧ OnlyChan s t c) := by
  refine (does_chOp rfl hw).imp fun t ⟨hc, only⟩ => ?_
  obtain ⟨frozen, contracted⟩ := Chan.xfreeze_of_service (t := s.tick) hf hg hs v
  rw [hc]
  exact ⟨frozen, contracted, only⟩

theorem windowLengthWrite_does (hw : s.wheelWrites = true) (w : WinLen) (n : Word) : Does (.windowLengthWrite c w n) s (fun t =>
    t.chan c = (s.due c).lengthWrite w n.toNat ∧ OnlyChan s t c) :=
  does_chOp (f := fun x => x.lengthWrite w n.toNat) rfl hw

theorem eventPop_does (hw : s.wheelWrites = true) (hf : (s.due c).fused = false) :
    Does (.eventPop c) s (fun t => t.chan c = { s.due c with fifo := (s.due c).fifo.drop 1 } ∧ OnlyChan s t c) := by
  refine (does_chOp rfl hw).imp fun t ⟨hc, only⟩ => ⟨hc.trans (if_neg ?_), only⟩
  rw [hf]; exact Bool.false_ne_true

theorem tickCounterRead_does (hw : s.wheelWrites = true) :
    Does .tickCounterRead s (fun t => t = { s with tickHi := s.tick / 2 ^ 32 % 2 ^ 16 }) :=
  ⟨_, congrArg Host.Outcome.next (if_pos hw), rfl⟩

/-! ## The obligations -/

/-- Settles O8, clause by clause. -/
theorem edgesAndWindows : Obligations.EdgesAndWindows :=
  ⟨fun _ _ hi => ⟨fun hao => ⟨dmdRise_does hao hi, dmdFall_does hao hi, fbkRise_does hao hi, fbkFall_does hao hi, glitch_does hao hi⟩,
      fun hvao hsrc _ => bypassEdge_does hvao hsrc hi⟩,
    fun _ _ _ hao hk => ⟨confLate_does hao hk, hbExpired_does hao hk, holdExpired_does hao hk⟩⟩

/-- Settles O9, clause by clause. -/
theorem guardAndKeepWrites : Obligations.GuardAndKeepWrites := fun _ _ hw hg hf hz =>
  ⟨grantSet_does hw hg hf hz, grantClear_does hw hg hf hz, keepHeartbeat_does hw hg hf hz, keepHold_does hw hg hf hz, keepStop_does hw hg hf hz⟩

/-- Settles O10, from what a write of GRANT comes to in each case. -/
theorem guardRefusals : Obligations.GuardRefusals := by
  intro c g s hw
  have written := guardWrite_does (c := c) hw g
  refine ⟨fun hf => ?_, fun hf hg => ⟨?_, keepHold_refused hw hf hg⟩, fun hf hg hz ha hp => ?_⟩
  · rw [Chan.guardWrite_of_fused hf] at written; exact written
  · rw [Chan.guardWrite_of_unguarded hf hg] at written; exact written
  · rw [Chan.guardWrite_of_frozen hf hg hz ha hp] at written; exact written

/-- Settles O11, clause by clause. -/
theorem serviceAndLengths : Obligations.ServiceAndLengths := by
  intro c s v n hw
  have written := fun w => windowLengthWrite_does (c := c) hw w n
  refine ⟨fun hf => ⟨serviceEnter_does hw hf, xfreeze_does hw hf, fun hn => ?_, fun hn w => ?_, eventPop_does hw hf⟩, tickCounterRead_does hw⟩
  · obtain ⟨tconf, hb, hold⟩ := Chan.lengthWrite_loads hf hn
    exact ⟨tconf ▸ written .tconf, hb ▸ written .hb, hold ▸ written .hold⟩
  · exact Chan.lengthWrite_refuses hf hn w ▸ written w

end Sys2Proof.Machine
end

section
/-! Attempts, re-keying and fingerprints (spec/09_link_line.md R343–R354; spec/10_link_sessions.md R381, R395): the commands move the clock to
the event's instant, which leaves the link as it was, and then begin a measurement, note a re-key, end the old session or close an occasion. -/

namespace Sys2Proof.Machine

open Sys2Proof

variable {c : Fin 16} {s : State}

/-! ## The main island awake at the instant of the event -/

/-- The clock at tick `k` or later, the windows due by then closed, and the main island awake. -/
def State.awakeAt (s : State) (k : Nat) : State := ((s.advanceTo k).closeWindows).wakeMain

@[simp] theorem awakeAt_lnk (s : State) (k : Nat) (d : Fin 16) : (s.awakeAt k).lnk d = s.lnk d := by
  unfold State.awakeAt; simp

@[simp] theorem awakeAt_lnkPad (s : State) (k : Nat) (d : Fin 16) : ((s.awakeAt k).chan d).lnkPad = (s.chan d).lnkPad := by
  unfold State.awakeAt; rw [chan_wake, chan_closeWindows, due_lnkPad, chan_advance]

theorem awakeAt_tick (s : State) (k : Nat) : (s.awakeAt k).tick = max s.tick (min k (2 ^ 48 - 1)) :=
  (wakeMain_logged _).tick.trans (tick_advanceTo_closeWindows s k)

theorem le_awakeAt_tick (s : State) (k : Nat) : s.tick ≤ (s.awakeAt k).tick := by
  rw [awakeAt_tick]; exact Nat.le_max_left _ _

theorem awakeAt_tick_reaches {k : Nat} (hk : k < 2 ^ 48) : k ≤ (s.awakeAt k).tick := by
  rw [awakeAt_tick, Nat.min_eq_left (Nat.le_sub_one_of_lt hk)]; exact Nat.le_max_right _ _

/-! ## A measurement begins (R343, R351) -/

theorem startFp_lnk (s : State) (c : Fin 16) (o : FpOccasion) : (s.startFp c o).lnk c =
    { s.lnk c with fp := { (s.lnk c).fp with occ := some o, running := true, retryFrom := none } } := by
  unfold State.startFp; simp

theorem startFp_tick (s : State) (c : Fin 16) (o : FpOccasion) : (s.startFp c o).tick = s.tick := rfl

/-- The pair is asked to go to function E; a locked pad takes no request (R86, R94). -/
theorem startFp_lnkPad (o : FpOccasion) (h : (s.chan c).lnkPad.locked = false) : ((s.startFp c o).chan c).lnkPad.req = some (some .e, s.tick) := by
  unfold State.startFp
  rw [chan_updCh, if_pos rfl, chan_updLnk]
  simp [Pad.request, h]

/-- The first attempt at a measurement, for occasion `o`. -/
def State.firstFp (s : State) (c : Fin 16) (o : FpOccasion) : State :=
  (s.updLnk c (fun l => { l with fp := { l.fp with attempts := 0 } })).startFp c o

theorem firstFp_lnk (s : State) (c : Fin 16) (o : FpOccasion) : (s.firstFp c o).lnk c =
    { s.lnk c with fp := { (s.lnk c).fp with occ := some o, running := true, attempts := 0, retryFrom := none } } := by
  unfold State.firstFp; rw [startFp_lnk, lnk_updLnk, if_pos rfl]

theorem firstFp_tick (s : State) (c : Fin 16) (o : FpOccasion) : (s.firstFp c o).tick = s.tick := rfl

theorem firstFp_lnkPad (o : FpOccasion) (h : (s.chan c).lnkPad.locked = false) : ((s.firstFp c o).chan c).lnkPad.req = some (some .e, s.tick) :=
  startFp_lnkPad (s := s.updLnk c _) o h

theorem handshakeAttempt_does (h : s.mayAttempt c = true) : Does (.handshakeAttempt c) s (fun t =>
    (t.lnk c).fp.occ = some .beforeHandshake ∧ (t.lnk c).fp.running = true ∧ s.tick ≤ t.tick) := by
  refine ⟨(s.awakeAt (wakeAt (max s.tick (s.attemptFrom c)))).firstFp c .beforeHandshake, congrArg Host.Outcome.next (if_pos h), ?_⟩
  dsimp only; rw [firstFp_lnk, firstFp_tick]
  exact ⟨rfl, rfl, le_awakeAt_tick _ _⟩

theorem fingerprintDue_does {o : FpOccasion} {k : Nat} (hs : s.linkServed c = true) (hz : s.crazed = false) (hn : (s.lnk c).fp.occ = none)
    (hd : s.fpDue c = some (o, k)) : Does (.fingerprintDue c) s (fun t =>
      (t.lnk c).fp.occ = some o ∧ (t.lnk c).fp.running = true ∧ (t.lnk c).fp.attempts = 0 ∧
        ((s.chan c).lnkPad.locked = false → ∃ m, (t.chan c).lnkPad.req = some (some .e, m))) := by
  have begins : exec (.fingerprintDue c) s = .next ((s.awakeAt k).firstFp c o) := by
    show execFingerprintDue c s = _
    unfold execFingerprintDue
    rw [if_neg (by simp [hs, hz, hn]), hd]
    rfl
  refine ⟨_, begins, ?_⟩
  dsimp only; rw [firstFp_lnk]
  exact ⟨rfl, rfl, rfl, fun unlocked => ⟨_, firstFp_lnkPad o ((congrArg Pad.locked (awakeAt_lnkPad s k c)).trans unlocked)⟩⟩

theorem fingerprintRetry_does {o : FpOccasion} {k : Nat} (hs : s.linkServed c = true) (hz : s.crazed = false) (ho : (s.lnk c).fp.occ = some o)
    (hk : (s.lnk c).fp.retryFrom = some k) : Does (.fingerprintRetry c) s (fun t =>
      (t.lnk c).fp.running = true ∧ (t.lnk c).fp.retryFrom = none ∧ (k + 32768 < 2 ^ 48 → k + 32768 ≤ t.tick)) := by
  have begins : exec (.fingerprintRetry c) s = .next ((s.awakeAt (k + 32768)).startFp c o) := by
    show execFingerprintRetry c s = _
    unfold execFingerprintRetry
    rw [hk, ho]; dsimp only; rw [if_pos (by simp [hs, hz])]
    rfl
  refine ⟨_, begins, ?_⟩
  dsimp only; rw [startFp_lnk, startFp_tick]
  exact ⟨rfl, rfl, awakeAt_tick_reaches⟩

/-! ## Re-keying (R381) -/

/-- A re-key noted at the present tick; its handshake begins with a fingerprint where an attempt may be made. -/
def State.rekeyNoted (s : State) (c : Fin 16) : State :=
  let noted := s.updLnk c (fun l => { l with rekeyDue := some s.tick })
  if noted.mayAttempt c then noted.firstFp c .beforeHandshake else noted

theorem rekeyNoted_due (s : State) (c : Fin 16) : ((s.rekeyNoted c).lnk c).rekeyDue = some (s.rekeyNoted c).tick := by
  unfold State.rekeyNoted; dsimp only; split
  · rw [firstFp_lnk, firstFp_tick, lnk_updLnk, if_pos rfl]; rfl
  · rw [lnk_updLnk, if_pos rfl]; rfl

theorem rekeyDue_does {x : Sess} {k : Contract} (hx : (s.lnk c).sess = some x) (hk : s.linkContract c = some k) (hs : s.linkServed c = true)
    (hn : (s.lnk c).rekeyDue = none) : Does (.rekeyDue c) s (fun t => (t.lnk c).rekeyDue = some t.tick) := by
  have notes : ∃ u : State, exec (.rekeyDue c) s = .next (u.rekeyNoted c) := by
    change ∃ u : State, execRekeyDue c s = .next (u.rekeyNoted c)
    unfold execRekeyDue
    rw [hx, hk]; dsimp only; rw [if_neg (by simp [hs, hn])]
    exact ⟨_, rfl⟩
  obtain ⟨u, hu⟩ := notes
  exact ⟨_, hu, rekeyNoted_due u c⟩

theorem closeSess_rekeyDue (n : Nat) (h : (s.lnk c).sess.isSome = true) : ((s.closeSess c n).lnk c).rekeyDue = none := by
  obtain ⟨x, hx⟩ := Option.isSome_iff_exists.mp h
  unfold State.closeSess; dsimp only; rw [hx]; dsimp only
  rw [(pumpLink_sent _ c).1, lnk_linkReturn, lnk_setLnk, if_pos rfl]

theorem endLink_rekeyDue (n : Nat) (h : (s.lnk c).sess.isSome = true) : ((s.endLink c n).lnk c).rekeyDue = none := by
  unfold State.endLink; rw [if_pos h, lnk_lostSession]; exact closeSess_rekeyDue n h

theorem endLink_hs (n : Nat) (h : (s.lnk c).hs = none) : ((s.endLink c n).lnk c).hs = none := (endLink_ended s c n).2.1 h

theorem rekeyTimeout_does {x : Sess} {k : Nat} (hx : (s.lnk c).sess = some x) (hk : (s.lnk c).rekeyDue = some k) (hm : s.mainUp = true) :
    Does (.rekeyTimeout c) s (fun t => (t.lnk c).sess = none ∧ (t.lnk c).hs = none ∧ (t.lnk c).rekeyDue = none) := by
  have ends : exec (.rekeyTimeout c) s = .next (((s.awakeAt (k + ticks60s)).dropAttempt c).endLink c 1) := by
    show execRekeyTimeout c s = _
    unfold execRekeyTimeout
    rw [hk, hx]; dsimp only; rw [if_pos hm]
    rfl
  exact ⟨_, ends, endLink_sess _ _ _, endLink_hs 1 (dropAttempt_hs _ _), endLink_rekeyDue 1 (by simp [hx])⟩

/-! ## What the end of a session, an attempt and a report leave of the fingerprint activity -/

theorem Link.Sent.fp {a b : Link} (h : a.Sent b) : b.fp = a.fp := by rw [h.1]

theorem Link.Ended.fp {a b : Link} (h : a.Ended b) : b.fp = a.fp := by rw [h.1]

@[simp] theorem closeSess_fp (s : State) (c : Fin 16) (n : Nat) : ((s.closeSess c n).lnk c).fp = (s.lnk c).fp := (closeSess_ended s c n).fp

@[simp] theorem dropAttempt_fp (s : State) (c : Fin 16) : ((s.dropAttempt c).lnk c).fp = (s.lnk c).fp := (dropAttempt_ended s c).fp

@[simp] theorem startHandshake_fp (s : State) (c : Fin 16) : ((s.startHandshake c).lnk c).fp = (s.lnk c).fp := by
  unfold State.startHandshake; split
  · rfl
  · rw [(ask_sent _ c _ _ _).fp]; simp

@[simp] theorem fpReport_lnk (s : State) (c d : Fin 16) (result m : Nat) (t : Int) (o : FpOccasion) (n : Nat) (profile : Bytes) :
    (s.fpReport c result m t o n profile).lnk d = s.lnk d := by
  unfold State.fpReport; dsimp only; rw [lnk_report]; split
  · exact lnk_wlog _ _ _ _ _ _
  · rfl

/-! ## A completed measurement (R349–R351, R353, R354) -/

/-- The occasion and the tick of the last completed measurement have stayed. -/
def Fp.KeepsDone (a b : Fp) : Prop := b.occ = a.occ ∧ b.lastDone = a.lastDone

theorem cableChanged_fp (s : State) (c : Fin 16) (k : Contract) : ((s.cableChanged c k).lnk c).fp =
    { (s.lnk c).fp with changed := true, withholding := k.withhold, matched := 0 } := by
  unfold State.cableChanged; dsimp only; split <;> simp

theorem cableMatched_keepsDone (s : State) (c : Fin 16) (m : Nat) (t : Int) (n : Nat) (profile : Bytes) :
    (s.lnk c).fp.KeepsDone ((s.cableMatched c m t n profile).lnk c).fp := by
  unfold State.cableMatched; dsimp only; (repeat' split) <;> simp [Fp.KeepsDone]

/-- A cable-changed event, with the handshake that its measurement went before where the contract does not withhold. -/
def State.cableOff (s : State) (c : Fin 16) (k : Contract) (o : FpOccasion) : State :=
  if o = .beforeHandshake ∧ !k.withhold then (s.cableChanged c k).startHandshake c else s.cableChanged c k

theorem cableOff_fp (s : State) (c : Fin 16) (k : Contract) (o : FpOccasion) : ((s.cableOff c k o).lnk c).fp =
    { (s.lnk c).fp with changed := true, withholding := k.withhold, matched := 0 } := by
  unfold State.cableOff; split
  · rw [startHandshake_fp, cableChanged_fp]
  · exact cableChanged_fp s c k

theorem fpUnobtained_keepsDone (s : State) (c : Fin 16) (o : FpOccasion) (n : Nat) (profile : Bytes) :
    (s.lnk c).fp.KeepsDone ((s.fpUnobtained c o n profile).lnk c).fp := by
  unfold State.fpUnobtained; dsimp only; split
  · rename_i k _
    change Fp.KeepsDone _ ((State.cableOff _ c k o).lnk c).fp
    rw [cableOff_fp, fpReport_lnk]; exact ⟨rfl, rfl⟩
  · rw [fpReport_lnk]; exact ⟨rfl, rfl⟩

/-- A cable that matches: the handshake that its measurement went before follows, and a retry after a change counts towards the change's end. -/
def State.cableKept (s : State) (c : Fin 16) (m : Nat) (t : Int) (o : FpOccasion) (n : Nat) (profile : Bytes) : State :=
  match o with
  | .beforeHandshake => s.startHandshake c
  | .cableChanged => s.cableMatched c m t n profile
  | _ => s

theorem cableKept_keepsDone (s : State) (c : Fin 16) (m : Nat) (t : Int) (o : FpOccasion) (n : Nat) (profile : Bytes) :
    (s.lnk c).fp.KeepsDone ((s.cableKept c m t o n profile).lnk c).fp := by
  unfold State.cableKept; split
  · rw [startHandshake_fp]; exact ⟨rfl, rfl⟩
  · exact cableMatched_keepsDone s c m t n profile
  · exact ⟨rfl, rfl⟩

/-! The four ways a profile can come out: only reported, not to be compared, within the limit, beyond it. -/

section profile

variable {k : Contract} {p : List Int} {m : Nat} {ts : List Int} (o : FpOccasion) (n : Nat)

theorem fpProfile_of_uncontracted (p : List Int) (hk : s.linkContract c = none) :
    s.fpProfile c o n p = s.fpReport c 3 0xFFFF 0 o n (profileBytes (s.fpMode c) p) := by
  unfold State.fpProfile; rw [hk]

theorem fpProfile_of_incomparable (hk : s.linkContract c = some k) (hp : fpCompare p k.refPoints = none) :
    s.fpProfile c o n p = s.fpUnobtained c o n (profileBytes (s.fpMode c) p) := by
  unfold State.fpProfile; rw [hk]; dsimp only; rw [hp]

theorem fpProfile_of_matched (hk : s.linkContract c = some k) (hp : fpCompare p k.refPoints = some (m, ts)) (hm : m ≤ k.fpLimit) :
    ∃ t, s.fpProfile c o n p = (s.tick1.fpReport c 0 m t o n (profileBytes (s.fpMode c) p)).cableKept c m t o n (profileBytes (s.fpMode c) p) := by
  unfold State.fpProfile
  rw [hk]; dsimp only; rw [hp]; dsimp only; rw [if_pos hm]
  exact ⟨_, rfl⟩

theorem fpProfile_of_missed (hk : s.linkContract c = some k) (hp : fpCompare p k.refPoints = some (m, ts)) (hm : k.fpLimit < m) :
    ∃ t, s.fpProfile c o n p = (s.tick1.fpReport c 1 m t o n (profileBytes (s.fpMode c) p)).cableOff c k o := by
  unfold State.fpProfile
  rw [hk]; dsimp only; rw [hp]; dsimp only; rw [if_neg (Nat.not_le.mpr hm)]
  exact ⟨_, rfl⟩

theorem fpProfile_missed_fp (hk : s.linkContract c = some k) (hp : fpCompare p k.refPoints = some (m, ts)) (hm : k.fpLimit < m) :
    ((s.fpProfile c o n p).lnk c).fp = { (s.lnk c).fp with changed := true, withholding := k.withhold, matched := 0 } := by
  obtain ⟨t, ht⟩ := fpProfile_of_missed o n hk hp hm
  rw [ht, cableOff_fp, fpReport_lnk, lnk_tick1]

end profile

theorem fpProfile_keepsDone (s : State) (c : Fin 16) (o : FpOccasion) (n : Nat) (p : List Int) :
    (s.lnk c).fp.KeepsDone ((s.fpProfile c o n p).lnk c).fp := by
  cases hk : s.linkContract c with
  | none => rw [fpProfile_of_uncontracted o n p hk, fpReport_lnk]; exact ⟨rfl, rfl⟩
  | some k =>
    cases hp : fpCompare p k.refPoints with
    | none => rw [fpProfile_of_incomparable o n hk hp]; exact fpUnobtained_keepsDone _ _ _ _ _
    | some r =>
      obtain ⟨m, ts⟩ := r
      rcases Nat.lt_or_ge k.fpLimit m with hm | hm
      · rw [fpProfile_missed_fp o n hk hp hm]; exact ⟨rfl, rfl⟩
      · obtain ⟨t, ht⟩ := fpProfile_of_matched o n hk hp hm
        have kept := cableKept_keepsDone (s.tick1.fpReport c 0 m t o n (profileBytes (s.fpMode c) p)) c m t o n (profileBytes (s.fpMode c) p)
        rw [fpReport_lnk, lnk_tick1] at kept
        rw [ht]; exact kept

/-! ## A capture completes (R346, R349) -/

/-- The capture is over, the pair is asked back to function T, and the attempt is counted. -/
def State.capEnd (s : State) (c : Fin 16) : State :=
  (s.wakeMain.updCh c (fun x => { x with lnkPad := x.lnkPad.request .t s.tick })).updLnk c
    (fun l => { l with fp := { l.fp with running := false, attempts := (s.lnk c).fp.attempts + 1 } })

theorem capEnd_lnk (s : State) (c : Fin 16) : (s.capEnd c).lnk c =
    { s.lnk c with fp := { (s.lnk c).fp with running := false, attempts := (s.lnk c).fp.attempts + 1 } } := by
  unfold State.capEnd; simp

theorem capEnd_linkContract (s : State) (c : Fin 16) : (s.capEnd c).linkContract c = s.linkContract c := by
  rw [← (wakeMain_logged s).linkContract c]
  unfold State.capEnd State.linkContract
  simp only [chan_updLnk, chan_updCh, if_true]
  rfl

/-- The occasion ends with the capture. -/
def State.occEnd (s : State) (c : Fin 16) : State :=
  (s.capEnd c).updLnk c (fun l => { l with fp := { l.fp with occ := none, lastDone := some s.tick } })

theorem occEnd_lnk (s : State) (c : Fin 16) : (s.occEnd c).lnk c = { s.lnk c with fp := { (s.lnk c).fp with
    running := false, attempts := (s.lnk c).fp.attempts + 1, occ := none, lastDone := some s.tick } } := by
  unfold State.occEnd; rw [lnk_updLnk, if_pos rfl, capEnd_lnk]

theorem occEnd_linkContract (s : State) (c : Fin 16) : (s.occEnd c).linkContract c = s.linkContract c := capEnd_linkContract s c

section done

variable {o : FpOccasion} (hs : s.linkServed c = true) (hz : s.crazed = false) (ho : (s.lnk c).fp.occ = some o) (hm : s.measuring c = true)

include hs hz ho hm

theorem exec_fingerprintDone_disturbed (hn : (s.lnk c).fp.attempts + 1 < 8) : exec (.fingerprintDone c .disturbed) s =
    .next ((s.capEnd c).updLnk c (fun l => { l with fp := { l.fp with retryFrom := some s.tick } })) := by
  show execFingerprintDone c .disturbed s = _
  unfold execFingerprintDone
  rw [ho]; dsimp only; rw [if_pos (by simp [hm, hs, hz]), if_pos hn]
  rfl

theorem exec_fingerprintDone_profile (p : List Int) : exec (.fingerprintDone c (.profile p)) s =
    .next ((s.occEnd c).fpProfile c o ((s.lnk c).fp.attempts + 1) ((p ++ List.replicate 256 0).take 256)) := by
  show execFingerprintDone c (.profile p) s = _
  unfold execFingerprintDone
  rw [ho]; dsimp only; rw [if_pos (by simp [hm, hs, hz])]
  rfl

theorem fingerprintDone_disturbed_does (hn : (s.lnk c).fp.attempts + 1 < 8) : Does (.fingerprintDone c .disturbed) s (fun t =>
    (t.lnk c).fp.occ = some o ∧ (t.lnk c).fp.retryFrom = some s.tick ∧ (t.lnk c).fp.attempts = (s.lnk c).fp.attempts + 1) := by
  refine ⟨_, exec_fingerprintDone_disturbed hs hz ho hm hn, ?_⟩
  dsimp only; rw [lnk_updLnk, if_pos rfl, capEnd_lnk]
  exact ⟨ho, rfl, rfl⟩

theorem fingerprintDone_profile_does (p : List Int) : Does (.fingerprintDone c (.profile p)) s (fun t =>
    (t.lnk c).fp.occ = none ∧ (t.lnk c).fp.lastDone = some s.tick ∧
      ∀ k m ts, s.linkContract c = some k → fpCompare ((p ++ List.replicate 256 0).take 256) k.refPoints = some (m, ts) →
        k.fpLimit < m → (t.lnk c).fp.changed = true ∧ (t.lnk c).fp.withholding = k.withhold) := by
  obtain ⟨occ, lastDone⟩ := fpProfile_keepsDone (s.occEnd c) c o ((s.lnk c).fp.attempts + 1) ((p ++ List.replicate 256 0).take 256)
  rw [occEnd_lnk] at occ lastDone
  refine ⟨_, exec_fingerprintDone_profile hs hz ho hm p, occ, lastDone, fun k m ts hk hp hlimit => ?_⟩
  rw [fpProfile_missed_fp o _ ((occEnd_linkContract s c).trans hk) hp hlimit]
  exact ⟨rfl, rfl⟩

end done

/-! ## The obligation -/

/-- Settles O16, clause by clause. -/
theorem attemptsAndFingerprints : Obligations.AttemptsAndFingerprints :=
  ⟨fun _ _ => ⟨handshakeAttempt_does, fun _ _ => rekeyDue_does, fun _ _ => rekeyTimeout_does⟩,
    fun _ _ p _ hs hz => ⟨fun hn _ => fingerprintDue_does hs hz hn, fun ho => ⟨fun _ => fingerprintRetry_does hs hz ho, fun hm =>
      ⟨fingerprintDone_disturbed_does hs hz ho hm, fingerprintDone_profile_does hs hz ho hm p⟩⟩⟩⟩

end Sys2Proof.Machine
end

section
/-! What a received reply sets off (spec/10_link_sessions.md R366, R371–R377, R392): an attempt that fails, one that goes on, a session that
becomes live; each lemma says what the link of the channel is afterwards. -/

namespace Sys2Proof.Machine

open Sys2Proof

variable {c : Fin 16} {s : State}

/-! ## What the line, the end of a session and the partner state leave of a link -/

theorem Link.Sent.stats {a b : Link} (h : a.Sent b) : b.stats = a.stats := by rw [h.1]

theorem Link.Sent.pstate {a b : Link} (h : a.Sent b) : b.pstate = a.pstate := by rw [h.1]

theorem Link.Sent.rsp {a b : Link} (h : a.Sent b) : b.rsp = a.rsp := by rw [h.1]

theorem Link.Sent.unanswered {a b : Link} (h : a.Sent b) : b.unanswered = a.unanswered := by rw [h.1]

theorem Link.Ended.stats {a b : Link} (h : a.Ended b) : b.stats = a.stats := by rw [h.1]

theorem Link.Ended.cred {a b : Link} (h : a.Ended b) : b.cred = a.cred := by rw [h.1]

theorem Link.Ended.credFlags {a b : Link} (h : a.Ended b) : b.credFlags = a.credFlags := by rw [h.1]

/-- What has been sent moves the send counter of a session, and nothing else of it. -/
theorem Link.Sent.sess_of_some {a b : Link} {y : Sess} (h : a.Sent b) (hy : a.sess = some y) :
    ∃ z, b.sess = some z ∧ z.sid = y.sid ∧ z.ctrRx = y.ctrRx ∧ z.openedAt = y.openedAt := by
  obtain ⟨-, -, -, -, moved⟩ := h
  obtain ⟨n, hn⟩ := moved y hy
  exact ⟨_, hn, rfl, rfl, rfl⟩

theorem Link.Sent.hs_of_some {a b : Link} {h : Hs} (hab : a.Sent b) (hh : a.hs = some h) : ∃ g, b.hs = some g ∧ h.Moved g := by
  obtain ⟨-, -, moved, -, -⟩ := hab
  exact moved h hh

theorem Link.Sent.hs_isSome {a b : Link} (hab : a.Sent b) (hh : a.hs.isSome = true) : b.hs.isSome = true := by
  obtain ⟨h, hh⟩ := Option.isSome_iff_exists.mp hh
  obtain ⟨g, hg, -⟩ := hab.hs_of_some hh
  exact Option.isSome_iff_exists.mpr ⟨g, hg⟩

theorem Link.Sent.hs_of_none {a b : Link} (hab : a.Sent b) (hh : a.hs = none) : b.hs = none := by
  obtain ⟨-, none, -⟩ := hab
  exact none hh

theorem Link.Ended.hs_of_none {a b : Link} (hab : a.Ended b) (hh : a.hs = none) : b.hs = none := by
  obtain ⟨-, none, -⟩ := hab
  exact none hh

theorem Link.count_stats (l : Link) (k : LStat) : (l.count k).stats[k.ix] = sat16 l.stats[k.ix] := by
  simp [Link.count]

/-! ## A session that ends below Hostile leaves an attempt in progress (R393) -/

theorem closeSess_hs_of_some (n : Nat) (h : (s.lnk c).hs.isSome = true) : ((s.closeSess c n).lnk c).hs.isSome = true := by
  unfold State.closeSess; dsimp only; split
  · exact h
  · exact (pumpLink_sent _ c).hs_isSome (by simpa using h)

theorem endLink_hs_of_some (n : Nat) (h : (s.lnk c).hs.isSome = true) : ((s.endLink c n).lnk c).hs.isSome = true := by
  unfold State.endLink; split
  · rw [lnk_lostSession]; exact closeSess_hs_of_some n h
  · exact h

theorem toPartner_faulty_hs_of_some (n : Nat) (h : (s.lnk c).hs.isSome = true) : ((s.toPartner c .faulty n).lnk c).hs.isSome = true := by
  unfold State.toPartner; dsimp only; split
  · exact h
  · exact endLink_hs_of_some 2 (by simpa using h)

theorem linkFault_hs_of_some (h : (s.lnk c).hs.isSome = true) : ((s.linkFault c none).lnk c).hs.isSome = true := by
  unfold State.linkFault; dsimp only; split
  · exact toPartner_faulty_hs_of_some 6 (by simpa using h)
  · simpa using h

/-! ## An attempt that fails (R377, R392) -/

theorem hsFail_hs (s : State) (c : Fin 16) : ((s.hsFail c).lnk c).hs = none := by
  cases e : (s.lnk c).hs with
  | none => unfold State.hsFail; rw [e]; exact e
  | some h => exact (hsFail_ended s c h e).hs_of_none rfl

theorem hsFail_stat (h : (s.lnk c).hs.isSome = true) : (s.hsFail c).stat c .hsFail = sat16 (s.stat c .hsFail) := by
  obtain ⟨x, hx⟩ := Option.isSome_iff_exists.mp h
  unfold State.stat
  rw [(hsFail_ended s c x hx).stats]
  exact Link.count_stats _ _

theorem linkFault_none_stat (s : State) (c : Fin 16) (k : LStat) : (s.linkFault c none).stat c k = s.stat c k := by
  unfold State.stat
  rw [(linkFault_ended s c none).stats]

/-- The attempt is ended, and counted as failed. -/
def State.FailedAttempt (s t : State) (c : Fin 16) : Prop := (t.lnk c).hs = none ∧ t.stat c .hsFail = sat16 (s.stat c .hsFail)

/-- A failed attempt counts from whatever state has the same count. -/
theorem State.FailedAttempt.of_stat {r s t : State} (hst : s.FailedAttempt t c) (h : s.stat c .hsFail = r.stat c .hsFail) : r.FailedAttempt t c := by
  obtain ⟨ended, counted⟩ := hst
  exact ⟨ended, counted.trans (congrArg sat16 h)⟩

theorem failedAttempt_of_fault (h : (s.lnk c).hs.isSome = true) : s.FailedAttempt ((s.linkFault c none).hsFail c) c :=
  ⟨hsFail_hs _ c, (hsFail_stat (linkFault_hs_of_some h)).trans (congrArg sat16 (linkFault_none_stat s c .hsFail))⟩

theorem hostile_of_failed (s : State) (c : Fin 16) (n : Nat) :
    (((s.hsFail c).toPartner c .hostile n).lnk c).pstate = .hostile ∧ (((s.hsFail c).toPartner c .hostile n).lnk c).hs = none :=
  ⟨toPartner_hostile _ c n, (toPartner_ended _ c .hostile n).hs_of_none (hsFail_hs s c)⟩

/-! ## The reply that is taken (R365, R366) -/

/-- The attempt once a burst of the partner has come. -/
def Hs.heard (h : Hs) : Hs := { h with sawBurst := true }

/-- The burst has been heard, and the outstanding request has its reply. -/
def State.answered (s : State) (c : Fin 16) : State := (s.updLnk c Link.heard).doneTxn c

theorem answered_lnk (s : State) (c : Fin 16) :
    (s.answered c).lnk c = { (s.lnk c).heard with txn := none, unanswered := 0 } := by
  unfold State.answered State.doneTxn; simp

theorem Link.heard_hs {l : Link} {h : Hs} (hh : l.hs = some h) : l.heard.hs = some h.heard := by
  unfold Link.heard; rw [hh]; rfl

theorem heard_hs {h : Hs} (hh : (s.lnk c).hs = some h) : ((s.updLnk c Link.heard).lnk c).hs = some h.heard := by
  rw [lnk_updLnk, if_pos rfl]; exact Link.heard_hs hh

theorem answered_hs {h : Hs} (hh : (s.lnk c).hs = some h) : ((s.answered c).lnk c).hs = some h.heard := by
  rw [answered_lnk]; exact Link.heard_hs hh

theorem answered_stat (s : State) (c : Fin 16) (k : LStat) : (s.answered c).stat c k = s.stat c k := by
  unfold State.stat; rw [answered_lnk]; rfl

/-- The burst has been heard, and its frame of type `t` and body `d` has moved the receive counter of its session. -/
def State.noted (s : State) (c : Fin 16) (t : Nat) (d : Bytes) : State := (s.updLnk c Link.heard).updLnk c (fun l => l.rxNote t (fCtr d) d)

theorem noted_lnk (s : State) (c : Fin 16) (t : Nat) (d : Bytes) : (s.noted c t d).lnk c = (s.lnk c).heard.rxNote t (fCtr d) d := by
  unfold State.noted; rw [lnk_updLnk, if_pos rfl, lnk_updLnk, if_pos rfl]

theorem body_ne_nil_of_holds {b : Burst} {t n : Nat} (hb : b.Holds t n) : b.body ≠ [] := by
  obtain ⟨-, -, crc, -⟩ := hb
  intro empty
  have long := crcOk_length crc
  rw [empty] at long
  exact absurd long (by decide)

theorem receiveType_of_holds {b : Burst} {t n : Nat} (hb : b.Holds t n) (s : State) (c : Fin 16) (ok : Bool) :
    s.receiveType c t b ok = s.receive c b ok := by
  have nonempty := body_ne_nil_of_holds hb
  obtain ⟨-, -, -, -, type, -⟩ := hb
  exact if_pos ⟨type, nonempty⟩

section reply

variable {i : Instr} {b : Burst} {ok : Bool} {t n q : Nat} (hi : exec i s = .next (s.receiveType c t b ok)) (hl : s.Listens c)
  (hb : b.Holds t n) (ha : (s.lnk c).Awaits b q)

include hi hl hb ha

theorem exec_plainReply (hp : b.Plain) (hf : fProtected t = false) (h32 : t ≠ 0x32)
    (hq : (t == replyOf q || (isHs q && (t == 0x1E || t == 0x1F))) = true) :
    ∃ x, exec i s = .next ((s.updLnk c Link.heard).acceptFrame c t (fPayload b.body) (some x) ok) := by
  obtain ⟨x, -, -, -, -, taken⟩ := receive_plain s c b ok t n q hl hb hp ha hf h32 hq
  exact ⟨x, by rw [hi, receiveType_of_holds hb, taken]⟩

theorem exec_protReply {y : Sess} (hg : b.Genuine y) (hf : fProtected t = true) (hq : t = replyOf q)
    (hy : (s.lnk c).heard.rxSess t = some y) :
    ∃ x, exec i s = .next ((s.noted c t b.body).acceptFrame c t (b.clear y) (some x) ok) := by
  obtain ⟨x, -, -, -, -, taken⟩ := receive_prot s c b ok t n q y hl hb hg ha hf hq hy
  exact ⟨x, by rw [hi, receiveType_of_holds hb, taken]; rfl⟩

end reply

end Sys2Proof.Machine
end

section
/-! The replies of a handshake (spec/10_link_sessions.md R371–R377, R384, R392). -/

namespace Sys2Proof.Machine

open Sys2Proof

variable {c : Fin 16} {s : State} {h : Hs} {b : Burst} {p : Bytes} {ok : Bool}

/-! ## CRP (R371, R374) -/

/-- The credentials that the contract of the channel allows. -/
def State.allowed (s : State) (c : Fin 16) : List Bytes := match s.linkContract c with | some k => k.allow | none => []

/-- The credential seen last, with its flags. -/
def State.credSeen (s : State) (c : Fin 16) (cr : Bytes) (flags : Nat) : State :=
  s.updLnk c (fun l => { l with cred := cr, credFlags := flags })

/-- The attempt after a CRP `p` whose credential passes, with the ephemeral public key of its KRQ. -/
def Hs.afterCrp (h : Hs) (p : Bytes) (flags : Nat) : Hs :=
  { h with stage := .krp, crp := p, ep := Config.publicKey false h.priv, cred := p.drop 16, credFlags := flags }

/-- The payload of the KRQ: the ephemeral public key and the signature of the part. -/
def State.krq (s : State) (h : Hs) (p : Bytes) : Bytes :=
  let ep := Config.publicKey false h.priv
  ep ++ Config.ecdsa false (s.ksm.slot 0).mat (sha2 .sha256 (lblPartSig ++ sha2 .sha256 (h.crq ++ p ++ ep))) s.freeCount

/-- What a CRP leads to, by the result and the flags of its credential's checks. -/
def State.crpChecked (s : State) (c : Fin 16) (h : Hs) (p : Bytes) : CredRes × Nat → State
  | (.hostile, flags) => ((s.credSeen c (p.drop 16) flags).hsFail c).toPartner c .hostile 7
  | (.faulty, flags) => ((s.credSeen c (p.drop 16) flags).linkFault c none).hsFail c
  | (.ok, flags) =>
    ((s.credSeen c (p.drop 16) flags).drbg.updLnk c (fun l => { l with hs := some (h.afterCrp p flags) })).ask c 0x13 (s.krq h p) false

theorem takeCrp_eq_crpChecked (s : State) (c : Fin 16) (h : Hs) (p : Bytes) (ok : Bool) :
    s.takeCrp c h p ok = s.crpChecked c h p (s.checkCred (some (s.allowed c)) ok (p.drop 16)) := by
  unfold State.takeCrp State.allowed
  cases s.linkContract c with
  | none =>
    dsimp only; obtain ⟨result, flags⟩ := s.checkCred (some []) ok (p.drop 16)
    cases result <;> rfl
  | some k =>
    dsimp only; obtain ⟨result, flags⟩ := s.checkCred (some k.allow) ok (p.drop 16)
    cases result <;> rfl

theorem credSeen_lnk (s : State) (c : Fin 16) (cr : Bytes) (n : Nat) : (s.credSeen c cr n).lnk c = { s.lnk c with cred := cr, credFlags := n } := by
  unfold State.credSeen; rw [lnk_updLnk, if_pos rfl]

theorem credSeen_stat (s : State) (c : Fin 16) (cr : Bytes) (n : Nat) (k : LStat) : (s.credSeen c cr n).stat c k = s.stat c k := by
  unfold State.stat; rw [credSeen_lnk]

theorem acceptFrame_crp (x : Option Txn) (hh : (s.lnk c).hs = some h) :
    s.acceptFrame c 0x12 p x ok = (s.doneTxn c).takeCrp c h p ok := by
  unfold State.acceptFrame; rw [hh]; rfl

/-- An accepted credential is kept, and the attempt goes on with the KRQ. -/
theorem crpChecked_ok_lnk (s : State) (c : Fin 16) (h : Hs) (p : Bytes) (n : Nat) :
    ({ s.lnk c with cred := p.drop 16, credFlags := n, hs := some (h.afterCrp p n) } : Link).Sent ((s.crpChecked c h p (.ok, n)).lnk c) := by
  have sent := ask_sent ((s.credSeen c (p.drop 16) n).drbg.updLnk c (fun l => { l with hs := some (h.afterCrp p n) })) c 0x13 (s.krq h p) false
  rw [lnk_updLnk, if_pos rfl, lnk_drbg, credSeen_lnk] at sent
  exact sent

theorem crpChecked_faulty (hh : (s.lnk c).hs.isSome = true) (n : Nat) : s.FailedAttempt (s.crpChecked c h p (.faulty, n)) c :=
  (failedAttempt_of_fault (by rw [credSeen_lnk]; exact hh)).of_stat (credSeen_stat s c _ n _)

theorem exec_crp (hl : s.Listens c) (hh : (s.lnk c).hs = some h) (hb : b.Holds 0x12 208) (hp : b.Plain) (ha : (s.lnk c).Awaits b 0x11) :
    exec (.crp c b ok) s = .next ((s.answered c).crpChecked c h.heard (fPayload b.body)
      (s.checkCred (some (s.allowed c)) ok ((fPayload b.body).drop 16))) := by
  obtain ⟨x, taken⟩ := exec_plainReply (i := .crp c b ok) rfl hl hb ha hp rfl (by decide) rfl
  rw [taken, acceptFrame_crp _ (heard_hs hh), takeCrp_eq_crpChecked]
  rfl

theorem crp_does (hl : s.Listens c) (hh : (s.lnk c).hs = some h) (hb : b.Holds 0x12 208) (hp : b.Plain) (ha : (s.lnk c).Awaits b 0x11) :
    let p := fPayload b.body
    let r := s.checkCred (some (s.allowed c)) ok (p.drop 16)
    (r.1 = .ok → Does (.crp c b ok) s (fun t => (t.lnk c).cred = p.drop 16 ∧ (t.lnk c).credFlags = r.2 ∧
      ∃ g, (t.lnk c).hs = some g ∧ g.stage = .krp ∧ g.crp = p ∧ g.cred = p.drop 16 ∧ g.ep = Config.publicKey false h.priv)) ∧
    (r.1 = .hostile → Does (.crp c b ok) s (fun t => (t.lnk c).pstate = .hostile ∧ (t.lnk c).hs = none)) ∧
    (r.1 = .faulty → Does (.crp c b ok) s (fun t => (t.lnk c).hs = none ∧ t.stat c .hsFail = sat16 (s.stat c .hsFail))) := by
  have taken := exec_crp (ok := ok) hl hh hb hp ha
  dsimp only
  generalize s.checkCred (some (s.allowed c)) ok ((fPayload b.body).drop 16) = r at taken ⊢
  obtain ⟨result, flags⟩ := r
  refine ⟨?_, ?_, ?_⟩ <;> rintro rfl <;> refine ⟨_, taken, ?_⟩
  · have sent := crpChecked_ok_lnk (s.answered c) c h.heard (fPayload b.body) flags
    obtain ⟨g, hg, m, n, rfl⟩ := sent.hs_of_some rfl
    exact ⟨sent.ended.cred, sent.ended.credFlags, _, hg, rfl, rfl, rfl, rfl⟩
  · exact hostile_of_failed _ c 7
  · exact (crpChecked_faulty (by rw [answered_hs hh]; rfl) flags).of_stat (answered_stat s c _)

/-! ## KRP (R375, R376) -/

theorem takeKrp_of_invalid (hv : (p256Valid (p.take 64) && ok) = false) : s.takeKrp c h p ok = (s.hsFail c).toPartner c .hostile 8 := by
  unfold State.takeKrp; dsimp only; rw [hv]; rfl

theorem takeKrp_of_sid_zero (hv : (p256Valid (p.take 64) && ok) = true) (hx : (h.session (p.take 64)).sid = 0) :
    s.takeKrp c h p ok = (s.dropAttempt c).startHandshake c := by
  unfold State.takeKrp; dsimp only; rw [hv]; exact if_pos hx

/-- The attempt after a KRP that brought the partner's ephemeral public key `ee`. -/
def Hs.afterKrp (h : Hs) (ee : Bytes) : Hs := { h with stage := .frp, ee := ee, eph := 0, sess := some (h.session ee) }

theorem takeKrp_of_sid_ne_zero (hv : (p256Valid (p.take 64) && ok) = true) (hx : (h.session (p.take 64)).sid ≠ 0) :
    s.takeKrp c h p ok = (s.updLnk c (fun l => { l with hs := some (h.afterKrp (p.take 64)) })).ask c 0x15 [] false := by
  unfold State.takeKrp; dsimp only; rw [hv]; exact if_neg hx

/-- What joins the line leaves the stage of an attempt as it was. -/
theorem ask_stage {f : Link → Link} {k : HsStage} (ha : ∃ a, (f (s.lnk c)).hs = some a ∧ a.stage = k) (n : Nat) (q : Bytes) (x : Bool) :
    ∀ g, (((s.updLnk c f).ask c n q x).lnk c).hs = some g → g.stage = k := by
  obtain ⟨a, ha, rfl⟩ := ha
  intro g hg
  have sent := ask_sent (s.updLnk c f) c n q x
  rw [lnk_updLnk, if_pos rfl] at sent
  obtain ⟨g', hg', m, k, rfl⟩ := sent.hs_of_some ha
  rw [hg] at hg'; cases hg'; rfl

/-- An attempt that starts awaits CRP. -/
theorem startHandshake_stage (hn : (s.lnk c).hs = none) : ∀ g, ((s.startHandshake c).lnk c).hs = some g → g.stage = .crp := by
  unfold State.startHandshake; split
  · intro g hg; rw [hn] at hg; cases hg
  · refine ask_stage ?_ _ _ _
    exact ⟨_, rfl, rfl⟩

theorem acceptFrame_krp (x : Option Txn) (hh : (s.lnk c).hs = some h) :
    s.acceptFrame c 0x14 p x ok = (s.doneTxn c).takeKrp c h p ok := by
  unfold State.acceptFrame; rw [hh]; rfl

theorem exec_krp (hl : s.Listens c) (hh : (s.lnk c).hs = some h) (hb : b.Holds 0x14 128) (hp : b.Plain) (ha : (s.lnk c).Awaits b 0x13) :
    exec (.krp c b ok) s = .next ((s.answered c).takeKrp c h.heard (fPayload b.body) ok) := by
  obtain ⟨x, taken⟩ := exec_plainReply (i := .krp c b ok) rfl hl hb ha hp rfl (by decide) rfl
  rw [taken, acceptFrame_krp _ (heard_hs hh)]
  rfl

theorem krp_does (hl : s.Listens c) (hh : (s.lnk c).hs = some h) (hb : b.Holds 0x14 128) (hp : b.Plain) (ha : (s.lnk c).Awaits b 0x13) :
    let p := fPayload b.body
    (p256Valid (p.take 64) = true → ok = true → Does (.krp c b ok) s (fun t =>
      let x := h.session (p.take 64)
      (x.sid ≠ 0 → ∃ g y, (t.lnk c).hs = some g ∧ g.stage = .frp ∧ g.ee = p.take 64 ∧ g.sess = some y ∧ y.sid = x.sid) ∧
      (x.sid = 0 → ∀ g, (t.lnk c).hs = some g → g.stage = .crp))) ∧
    ((p256Valid (p.take 64) && ok) = false → Does (.krp c b ok) s (fun t => (t.lnk c).pstate = .hostile ∧ (t.lnk c).hs = none)) := by
  dsimp only
  have taken := exec_krp (ok := ok) hl hh hb hp ha
  refine ⟨fun valid signed => ?_, fun invalid => ⟨_, taken, ?_⟩⟩
  · have passes : (p256Valid ((fPayload b.body).take 64) && ok) = true := by rw [valid, signed]; rfl
    refine ⟨_, taken, fun sid => ?_, fun sid => ?_⟩
    · rw [takeKrp_of_sid_ne_zero (h := h.heard) passes sid]
      have sent := ask_sent ((s.answered c).updLnk c (fun l => { l with hs := some (h.heard.afterKrp ((fPayload b.body).take 64)) })) c 0x15 [] false
      rw [lnk_updLnk, if_pos rfl] at sent
      obtain ⟨g, hg, m, n, rfl⟩ := sent.hs_of_some rfl
      exact ⟨_, _, hg, rfl, rfl, rfl, rfl⟩
    · rw [takeKrp_of_sid_zero (h := h.heard) passes sid]
      exact startHandshake_stage (dropAttempt_hs _ c)
  · rw [takeKrp_of_invalid invalid]
    exact hostile_of_failed _ c 8

/-! ## FRP (R377, R393) -/

theorem goLive_lnk (s : State) (c : Fin 16) (x : Sess) :
    ((s.goLive c x).lnk c).hs = none ∧ ((s.goLive c x).lnk c).pstate = .present ∧
      (s.goLive c x).stat c .opened = sat16 (s.stat c .opened) ∧ ((s.goLive c x).lnk c).sess = some { x with openedAt := s.tick } := by
  unfold State.stat State.goLive
  dsimp only
  rw [lnk_linkHeartbeat, toPartner_present_lnk, lnk_updLnk, if_pos rfl]
  refine ⟨rfl, rfl, (Link.count_stats _ _).trans ?_, rfl⟩
  dsimp only
  rw [(closeSess_ended s c 1).stats]

/-- A session once a frame of the partner has been accepted in it. -/
def Sess.received (y : Sess) (body : Bytes) : Sess := { y with ctrRx := some (fCtr body), lastRx := body }

theorem rxNote_of_opening {l : Link} {y : Sess} (hh : l.hs = some h) (hy : h.sess = some y) (d : Bytes) :
    (l.rxNote 0x16 (fCtr d) d).hs = some { h with sess := some (y.received d) } := by
  unfold Link.rxNote
  rw [if_pos rfl]; dsimp only; rw [hh]; dsimp only [Option.map_some]; rw [hy]
  rfl

theorem acceptFrame_frp {y : Sess} (x : Option Txn) (hh : (s.lnk c).hs = some h) (hy : h.sess = some y) :
    s.acceptFrame c 0x16 p x ok = ((s.doneTxn c).goLive c y).pumpLink c := by
  simp only [State.acceptFrame, hh, hy]

theorem exec_frp {y : Sess} (hl : s.Listens c) (hh : (s.lnk c).hs = some h) (hy : h.sess = some y) (hb : b.Holds 0x16 0) (hg : b.Genuine y)
    (ha : (s.lnk c).Awaits b 0x15) :
    ∃ u : State, u.tick = s.tick ∧ u.stat c .opened = s.stat c .opened ∧
      exec (.frp c b) s = .next ((u.goLive c (y.received b.body)).pumpLink c) := by
  have opening : (s.lnk c).heard.rxSess 0x16 = some y := by unfold Link.rxSess; rw [if_pos rfl, Link.heard_hs hh]; exact hy
  obtain ⟨x, taken⟩ := exec_protReply (i := .frp c b) rfl hl hb ha hg rfl rfl opening
  have noted : ((s.noted c 0x16 b.body).lnk c).hs = some { h.heard with sess := some (y.received b.body) } := by
    rw [noted_lnk]; exact rxNote_of_opening (Link.heard_hs hh) hy b.body
  refine ⟨_, ?_, ?_, by rw [taken, acceptFrame_frp _ noted rfl]⟩
  · rfl
  · unfold State.stat State.doneTxn
    rw [lnk_updLnk, if_pos rfl, noted_lnk]
    rfl

theorem frp_does {y : Sess} (hl : s.Listens c) (hh : (s.lnk c).hs = some h) (hy : h.sess = some y) (hb : b.Holds 0x16 0) (hg : b.Genuine y)
    (ha : (s.lnk c).Awaits b 0x15) : Does (.frp c b) s (fun t =>
      (t.lnk c).hs = none ∧ (t.lnk c).pstate = .present ∧ t.stat c .opened = sat16 (s.stat c .opened) ∧
      ∃ z, (t.lnk c).sess = some z ∧ z.sid = y.sid ∧ z.ctrRx = some (fCtr b.body) ∧ z.openedAt = s.tick) := by
  obtain ⟨u, tick, opened, taken⟩ := exec_frp hl hh hy hb hg ha
  obtain ⟨ended, present, counted, live⟩ := goLive_lnk u c (y.received b.body)
  have sent := pumpLink_sent (u.goLive c (y.received b.body)) c
  obtain ⟨z, hz, sid, ctr, openedAt⟩ := sent.sess_of_some live
  refine ⟨_, taken, sent.hs_of_none ended, sent.pstate.trans present, ?_, z, hz, sid, ctr, openedAt.trans tick⟩
  rw [← opened, ← counted]
  unfold State.stat
  rw [sent.stats]

/-! ## BUSY, BUSY_RESEND, HS_ERR and the time limit (R377, R384) -/

theorem acceptFrame_busy_lnk (x : Option Txn) (hh : (s.lnk c).hs = some h) : (s.acceptFrame c 0x1E p x ok).lnk c =
    { (s.lnk c).count .busy with
      hs := some { h with busyUntil := some (s.tick + ceilDiv (ofBe p * 32768) 1000) }
      txn := (s.lnk c).txn.map (fun y => { y with sent := false, retries := 0 }) } := by
  unfold State.acceptFrame; rw [hh]
  show ((s.linkCount c .busy).updLnk c _).lnk c = _
  rw [lnk_updLnk, if_pos rfl, linkCount_lnk]; rfl

theorem busy_does {q : Nat} (hl : s.Listens c) (hh : (s.lnk c).hs = some h) (hq : isHs q = true) (ha : (s.lnk c).Awaits b q) (hp : b.Plain)
    (hb : b.Holds 0x1E 2) : Does (.busy c b) s (fun t => t.stat c .busy = sat16 (s.stat c .busy) ∧
      ∃ g, (t.lnk c).hs = some g ∧ g.stage = h.stage ∧ g.busyUntil = some (s.tick + ceilDiv (ofBe (fPayload b.body) * 32768) 1000)) := by
  obtain ⟨x, taken⟩ := exec_plainReply (i := .busy c b) rfl hl hb ha hp rfl (by decide) (by simp [hq])
  refine ⟨_, taken, ?_⟩
  dsimp only; unfold State.stat
  rw [acceptFrame_busy_lnk _ (heard_hs hh), lnk_updLnk, if_pos rfl]
  exact ⟨Link.count_stats _ _, _, rfl, rfl, rfl⟩

theorem hsErr_does {q : Nat} (hl : s.Listens c) (hh : (s.lnk c).hs = some h) (hq : isHs q = true) (ha : (s.lnk c).Awaits b q) (hp : b.Plain)
    (hb : b.Holds 0x1F 1) : Does (.hsErr c b) s (s.FailedAttempt · c) := by
  obtain ⟨x, taken⟩ := exec_plainReply (i := .hsErr c b) rfl hl hb ha hp rfl (by decide) (by simp [hq])
  have fails : exec (.hsErr c b) s = .next (((s.answered c).linkFault c none).hsFail c) := by rw [taken]; rfl
  exact ⟨_, fails, (failedAttempt_of_fault (by rw [answered_hs hh]; rfl)).of_stat (answered_stat s c _)⟩

theorem handshakeTimeout_does (hh : (s.lnk c).hs = some h) (hm : s.mainUp = true) (hz : s.crazed = false) :
    Does (.handshakeTimeout c) s (s.FailedAttempt · c) := by
  have fails : exec (.handshakeTimeout c) s =
      .next (((((s.advanceTo (h.startedAt + 262144)).closeWindows).linkFault c none).hsFail c)) := by
    show execHandshakeTimeout c s = _
    unfold execHandshakeTimeout
    rw [hh]; dsimp only; rw [if_pos (by simp [hm, hz])]
  refine ⟨_, fails, (failedAttempt_of_fault (by simp [hh])).of_stat ?_⟩
  unfold State.stat; simp

/-- Where the line is free and no BUSY time runs, the outstanding request has been sent, its frame as it was. -/
theorem sendTxn_of_free {x : Txn} (hx : (s.lnk c).txn = some x) (hf : s.lineFree c = true) (hw : (s.lnk c).busyWait = false) :
    ∃ y, ((s.sendTxn c).lnk c).txn = some y ∧ y.sent = true ∧ y.frame = x.frame := by
  unfold State.sendTxn
  dsimp only; rw [hx]; dsimp only; rw [hf, hw]
  cases sent : x.sent with
  | false => exact ⟨{ x with sent := true }, by simp, rfl, rfl⟩
  | true => exact ⟨x, hx, sent, rfl⟩

/-- Whether the line is free is read from the pad and from what the link has heard. -/
theorem lineFree_congr {t : State} (hp : (t.chan c).lnkPad = (s.chan c).lnkPad) (hb : (t.lnk c).lineBusy = (s.lnk c).lineBusy) :
    t.lineFree c = s.lineFree c := by
  unfold State.lineFree; rw [hp, hb]

theorem busyResend_does {k : Nat} (hh : (s.lnk c).hs = some h) (hk : h.busyUntil = some k) (hm : s.mainUp = true) :
    Does (.busyResend c) s (fun t => ∃ g, (t.lnk c).hs = some g ∧ g.busyUntil = none ∧
      ∀ x, (s.lnk c).txn = some x → s.lineFree c = true → ∃ y, (t.lnk c).txn = some y ∧ y.sent = true ∧ y.frame = x.frame) := by
  have resends : exec (.busyResend c) s =
      .next ((((s.advanceTo k).closeWindows).updLnk c (fun l => { l with hs := some { h with busyUntil := none } })).sendTxn c) := by
    show execBusyResend c s = _
    unfold execBusyResend
    rw [hh]; dsimp only; rw [hk]; dsimp only; rw [if_pos hm]
  refine ⟨_, resends, ?_⟩
  generalize hu : ((s.advanceTo k).closeWindows).updLnk c (fun l => { l with hs := some { h with busyUntil := none } }) = u
  have link : u.lnk c = { s.lnk c with hs := some { h with busyUntil := none } } := by rw [← hu]; simp
  have pad : (u.chan c).lnkPad = (s.chan c).lnkPad := by rw [← hu, chan_updLnk, chan_closeWindows, due_lnkPad, chan_advance]
  obtain ⟨g, hg, m, n, rfl⟩ := (sendTxn_sent u c).hs_of_some (h := { h with busyUntil := none }) (by rw [link])
  refine ⟨_, hg, rfl, fun x hx free => sendTxn_of_free (by rw [link]; exact hx) ?_ (by rw [link]; rfl)⟩
  rw [lineFree_congr pad (by rw [link]), free]

/-! ## The obligation -/

/-- Settles O13, reply by reply. -/
theorem handshakes : Obligations.Handshakes :=
  ⟨fun _ _ _ _ _ hl hh => ⟨crp_does hl hh, krp_does hl hh, fun _ hy => frp_does hl hh hy⟩,
    fun _ _ _ _ _ hh => ⟨fun hl hq ha hp => ⟨busy_does hl hh hq ha hp, hsErr_does hl hh hq ha hp⟩,
      fun _ => busyResend_does hh, handshakeTimeout_does hh⟩⟩

end Sys2Proof.Machine
end

section
/-! Frames in a live session, the reply to a PROBE and the CLA of a closed session (spec/10_link_sessions.md R366, R371, R379, R385–R388, R396). -/

namespace Sys2Proof.Machine

open Sys2Proof

variable {c : Fin 16} {s : State} {b : Burst} {y : Sess} {p : Bytes} {ok : Bool} {n : Nat}

/-! ## The session's receive counter (R379) -/

/-- A protected frame other than FRP moves the receive counter of the live session and of the wake filter; all else stays. -/
theorem rxNote_of_live {l : Link} {t : Nat} (ht : t ≠ 0x16) (hy : l.sess = some y) (d : Bytes) :
    l.rxNote t (fCtr d) d = { l with sess := some (y.received d), wf := l.wf.map (fun w => { w with lastCtr := some (fCtr d) }) } := by
  unfold Link.rxNote; rw [if_neg ht, hy]; rfl

/-! ## RSP (R382, R386) -/

theorem acceptFrame_rsp_sent (x : Option Txn) :
    ({ s.lnk c with txn := none, unanswered := 0, rsp := some p } : Link).Sent ((s.acceptFrame c 0x22 p x ok).lnk c) := by
  have shown : ∀ u : State, (u.lnk c) = { s.lnk c with txn := none, unanswered := 0, rsp := some p } →
      ({ s.lnk c with txn := none, unanswered := 0, rsp := some p } : Link).Sent ((u.pumpLink c).lnk c) := by
    intro u hu; rw [← hu]; exact pumpLink_sent u c
  unfold State.acceptFrame
  refine shown _ ?_
  (repeat' split) <;> simp [State.doneTxn]

theorem rsp_does (hl : s.Listens c) (hy : (s.lnk c).sess = some y) (hg : b.Genuine y) (hb : b.Holds 0x22 n) (ha : (s.lnk c).Awaits b 0x21) :
    Does (.rsp c b) s (fun t => (t.lnk c).rsp = some (b.clear y) ∧ (t.lnk c).unanswered = 0 ∧
      ∃ z, (t.lnk c).sess = some z ∧ z.sid = y.sid ∧ z.ctrRx = some (fCtr b.body)) := by
  obtain ⟨x, taken⟩ := exec_protReply (i := .rsp c b) rfl hl hb ha hg rfl rfl hy
  have sent := acceptFrame_rsp_sent (s := s.noted c 0x22 b.body) (c := c) (p := b.clear y) (ok := true) (some x)
  rw [noted_lnk, rxNote_of_live (l := (s.lnk c).heard) (by decide) hy] at sent
  obtain ⟨z, hz, sid, ctr, -⟩ := sent.sess_of_some rfl
  exact ⟨_, taken, sent.rsp, sent.unanswered, z, hz, sid, ctr⟩

/-! ## ATN (R379, R387) -/

/-- A genuine protected frame passes checks 4 to 10 and moves its session's receive counter. -/
theorem linkCheck_of_genuine {t : Nat} (hb : b.Holds t n) (hf : fProtected t = true) (hg : b.Genuine y) (hy : (s.lnk c).rxSess t = some y)
    (accept : State → Bytes → State) :
    s.linkCheck c b.body accept = accept (s.updLnk c (fun l => l.rxNote t (fCtr b.body) b.body)) (b.clear y) := by
  obtain ⟨-, -, -, -, type, len, short, length⟩ := hb
  obtain ⟨sid, last, wtag, mac, newer, content⟩ := hg
  rw [len] at wtag mac
  rw [type] at wtag content
  have fresh : ¬ (match y.ctrRx with | some k => decide (fCtr b.body ≤ k) | none => false) = true := by
    cases e : y.ctrRx with
    | none => simp
    | some k => simpa using newer k e
  unfold State.linkCheck
  dsimp only
  rw [type, len, hf, hy, if_neg (Nat.not_lt.mpr short), if_neg (by simp [length, hf]), if_pos rfl]
  dsimp only
  rw [if_neg (by simp [sid])]
  unfold State.linkCheckProt
  dsimp only
  rw [type, len, if_neg last, if_neg (by simp [wtag]), if_neg (by simp [mac])]
  exact (if_neg fresh).trans (if_neg (by rw [← Burst.clear, content]; decide))

theorem body_length_le_of_holds {t : Nat} (hb : b.Holds t n) : b.body.length ≤ 288 := by
  obtain ⟨-, -, -, -, -, -, short, length⟩ := hb
  split at length <;> omega

/-- A whole burst that answers nothing reaches the receive checks. -/
theorem receive_unasked {t : Nat} (hl : s.Listens c) (hb : b.Holds t n) (hu : ∀ x, (s.lnk c).txn = some x → x.sent = false) (ok : Bool) :
    s.receive c b ok = (s.updLnk c (fun l => { l with lineBusy := true })).linkTake c b ok := by
  have nonempty := body_ne_nil_of_holds hb
  have length := body_length_le_of_holds hb
  obtain ⟨decoded, upright, -⟩ := hb
  refine receive_take s c b ok hl decoded upright nonempty length fun x k hx sent => ?_
  rw [hu x hx] at sent; cases sent

theorem heard_answers_none (hu : ∀ x, (s.lnk c).txn = some x → x.sent = false) (k : Option Nat) : (s.lnk c).heard.answers k = none := by
  unfold Link.answers Link.heard
  cases hx : (s.lnk c).txn with
  | none => rfl
  | some x => cases k <;> simp [hu x hx]

theorem linkTake_unasked (hu : ∀ x, (s.lnk c).txn = some x → x.sent = false) {t : Nat} (hb : b.Holds t n) (ok : Bool) :
    (s.updLnk c (fun l => { l with lineBusy := true })).linkTake c b ok =
      if t = 0x32 ∧ (s.lnk c).closedSid = some (fSid b.body) then s.updLnk c Link.heard
      else if !(s.lnk c).heard.expects none t then (s.updLnk c Link.heard).linkFault c (some .unexpected)
      else (s.updLnk c Link.heard).linkCheck c b.body (fun u q => u.acceptFrame c t q none ok) := by
  obtain ⟨-, -, crc, version, type, -⟩ := hb
  unfold State.linkTake
  rw [heard_upd]
  dsimp only
  rw [lnk_updLnk, if_pos rfl, heard_answers_none hu, crc, version, type]
  rfl

theorem acceptFrame_atn_lnk : (s.acceptFrame c 0x23 p none ok).lnk c = { s.lnk c with atn := (s.lnk c).atn ++ [p] } := by
  show ((s.updLnk c _).linkHeartbeat c).lnk c = _
  rw [lnk_linkHeartbeat, lnk_updLnk, if_pos rfl]

theorem exec_atn (hl : s.Listens c) (hy : (s.lnk c).sess = some y) (hg : b.Genuine y) (hb : b.Holds 0x23 n)
    (hu : ∀ x, (s.lnk c).txn = some x → x.sent = false) :
    exec (.atn c b) s = .next ((s.noted c 0x23 b.body).acceptFrame c 0x23 (b.clear y) none true) := by
  have live : ((s.updLnk c Link.heard).lnk c).rxSess 0x23 = some y := by rw [lnk_updLnk, if_pos rfl]; exact hy
  have expected : (s.lnk c).heard.expects none 0x23 = true := by
    unfold Link.expects Link.heard
    cases hx : (s.lnk c).txn with
    | none => simp [hy]
    | some x => simp [hy, hu x hx]
  show Host.Outcome.next (s.receiveType c 0x23 b true) = _
  rw [receiveType_of_holds hb, receive_unasked hl hb hu, linkTake_unasked hu hb, if_neg (by simp), if_neg (by simp [expected]),
    linkCheck_of_genuine hb rfl hg live]
  rfl

theorem atn_does (hl : s.Listens c) (hy : (s.lnk c).sess = some y) (hg : b.Genuine y) (hb : b.Holds 0x23 n)
    (hu : ∀ x, (s.lnk c).txn = some x → x.sent = false) : Does (.atn c b) s (fun t =>
      (t.lnk c).atn = (s.lnk c).atn ++ [b.clear y] ∧ ∃ z, (t.lnk c).sess = some z ∧ z.sid = y.sid ∧ z.ctrRx = some (fCtr b.body)) := by
  refine ⟨_, exec_atn hl hy hg hb hu, ?_⟩
  dsimp only
  rw [acceptFrame_atn_lnk, noted_lnk, rxNote_of_live (l := (s.lnk c).heard) (by decide) hy]
  exact ⟨rfl, _, rfl, rfl, rfl⟩

/-! ## PROBE (R371, R396) -/

/-- The partner is graded by the result of the checks of its PROBE's credential. -/
def State.probeGraded (s : State) (c : Fin 16) : CredRes → State
  | .hostile => s.toPartner c .hostile 7
  | .faulty => s.linkFault c none
  | .ok => (s.updLnk c (fun l => { l with unanswered := 0, noBurst := 0 })).toPartner c .present 1

/-- A record that is made or not leaves every link as it was. -/
theorem lnk_recordedIf (q : Prop) [Decidable q] (prev : PState) (n : Nat) : (if q then s.partnerRecord c prev n else s).lnk c = s.lnk c := by
  split
  · exact lnk_partnerRecord s c c prev n
  · rfl

theorem takeProbe_lnk {r : CredRes × Nat} (hr : s.checkCred none ok p = r) :
    (s.takeProbe c p ok).lnk c = ((s.credSeen c p r.2).probeGraded c r.1).lnk c := by
  obtain ⟨result, flags⟩ := r
  unfold State.takeProbe
  rw [hr]
  cases result <;> exact lnk_recordedIf _ _ _

theorem probeGraded_cred (s : State) (c : Fin 16) (r : CredRes) :
    ((s.probeGraded c r).lnk c).cred = (s.lnk c).cred ∧ ((s.probeGraded c r).lnk c).credFlags = (s.lnk c).credFlags := by
  cases r with
  | hostile => exact ⟨(toPartner_ended s c _ _).cred, (toPartner_ended s c _ _).credFlags⟩
  | faulty => exact ⟨(linkFault_ended s c none).cred, (linkFault_ended s c none).credFlags⟩
  | ok => unfold State.probeGraded; simp [toPartner_present_lnk]

theorem probeRsp_does (hl : s.Listens c) (hb : b.Holds 0x02 192) (hp : b.Plain) (ha : (s.lnk c).Awaits b 0x01) :
    Does (.probeRsp c b ok) s (fun t =>
      let r := s.checkCred none ok (fPayload b.body)
      (t.lnk c).cred = fPayload b.body ∧ (t.lnk c).credFlags = r.2 ∧ (r.1 = .ok → (t.lnk c).pstate = .present) ∧
        (r.1 = .hostile → (t.lnk c).pstate = .hostile)) := by
  obtain ⟨x, taken⟩ := exec_plainReply (i := .probeRsp c b ok) rfl hl hb ha hp rfl (by decide) rfl
  have probes : exec (.probeRsp c b ok) s = .next (((s.answered c).takeProbe c (fPayload b.body) ok).pumpLink c) := by rw [taken]; rfl
  refine ⟨_, probes, ?_⟩
  have sent := pumpLink_sent ((s.answered c).takeProbe c (fPayload b.body) ok) c
  have checks : (s.answered c).checkCred none ok (fPayload b.body) = s.checkCred none ok (fPayload b.body) := rfl
  rw [takeProbe_lnk checks] at sent
  dsimp only
  generalize s.checkCred none ok (fPayload b.body) = r at sent ⊢
  obtain ⟨result, flags⟩ := r
  obtain ⟨cred, credFlags⟩ := probeGraded_cred ((s.answered c).credSeen c (fPayload b.body) flags) c result
  rw [credSeen_lnk] at cred credFlags
  refine ⟨sent.ended.cred.trans cred, sent.ended.credFlags.trans credFlags, ?_, ?_⟩ <;> rintro rfl
  · exact sent.pstate.trans (toPartner_present _ c 1)
  · exact sent.pstate.trans (toPartner_hostile _ c 7)

/-! ## CLA (R388) -/

/-- With nothing outstanding and no attempt, a burst that is heard only makes the line busy. -/
theorem heard_of_idle {l : Link} (ht : l.txn = none) (hh : l.hs = none) : l.heard = { l with lineBusy := true } := by
  unfold Link.heard; rw [ht, hh]; rfl

theorem exec_cla (hl : s.Listens c) (hb : b.Holds 0x32 n) (ht : (s.lnk c).txn = none) :
    exec (.cla c b) s = .next (if (s.lnk c).closedSid = some (fSid b.body) then s.updLnk c Link.heard
      else (s.updLnk c Link.heard).linkFault c (some .unexpected)) := by
  have unasked : ∀ x, (s.lnk c).txn = some x → x.sent = false := by rw [ht]; nofun
  have unexpected : (s.lnk c).heard.expects none 0x32 = false := rfl
  show Host.Outcome.next (s.receiveType c 0x32 b true) = _
  rw [receiveType_of_holds hb, receive_unasked hl hb unasked, linkTake_unasked unasked hb, unexpected]
  simp

theorem cla_closed_does (hl : s.Listens c) (hb : b.Holds 0x32 n) (ht : (s.lnk c).txn = none) (hh : (s.lnk c).hs = none)
    (hc : (s.lnk c).closedSid = some (fSid b.body)) : Does (.cla c b) s (fun t => t = s.updLnk c (fun l => { l with lineBusy := true })) := by
  refine ⟨_, (exec_cla hl hb ht).trans (congrArg Host.Outcome.next (if_pos hc)), ?_⟩
  exact congrArg (s.setLnk c) (heard_of_idle ht hh)

theorem cla_other_does (hl : s.Listens c) (hb : b.Holds 0x32 n) (ht : (s.lnk c).txn = none)
    (hc : (s.lnk c).closedSid ≠ some (fSid b.body)) : Does (.cla c b) s (fun t => t.stat c .unexpected = sat16 (s.stat c .unexpected)) := by
  refine ⟨_, (exec_cla hl hb ht).trans (congrArg Host.Outcome.next (if_neg hc)), ?_⟩
  dsimp only; unfold State.stat
  rw [(linkFault_ended _ c _).stats, lnk_updLnk, if_pos rfl]
  exact Link.count_stats _ _

/-! ## The obligation -/

/-- Settles O14, frame by frame. -/
theorem sessionTraffic : Obligations.SessionTraffic :=
  fun _ _ _ _ _ hl => ⟨fun _ hy hg => ⟨rsp_does hl hy hg, atn_does hl hy hg⟩, probeRsp_does hl,
    fun hb ht hh => ⟨cla_closed_does hl hb ht hh, cla_other_does hl hb ht⟩⟩

end Sys2Proof.Machine
end

section
/-! What the uplink has received (spec/11_uplink.md R408, R409, R413, R428, R436, R444): both ports, the floors, the beacons heard and the
latest one. Records, log entries, windows of channels, frames of the Slip Joint and the Kiln's time leave it alone. -/

namespace Sys2Proof.Machine

open Sys2Proof

variable {s t : State}

/-! ## The projection -/

/-- What the ports and the beacons heard have left behind. -/
structure Reception where
  a : PortSt
  b : PortSt
  floors : Vector Floor 3
  seen : List Bytes
  lastBeacon : Option Nat

/-- What the uplink of a state has received; an update of anything else keeps it by definition. -/
def State.reception (s : State) : Reception where
  a := s.upl.a
  b := s.upl.b
  floors := s.upl.floors
  seen := s.upl.seen
  lastBeacon := s.clk.lastBeacon

/-- Port `p`. -/
def Reception.port (x : Reception) : Port → PortSt
  | .a => x.a | .b => x.b

theorem port_eq (s : State) (p : Port) : s.port p = s.reception.port p := by cases p <;> rfl

theorem port_of_reception (h : t.reception = s.reception) (p : Port) : t.port p = s.port p := by rw [port_eq, port_eq, h]

/-! ## One port (R408, R413) -/

@[simp] theorem port_updPort (s : State) (p : Port) (f : PortSt → PortSt) : (s.updPort p f).port p = f (s.port p) := by cases p <;> rfl

@[simp] theorem tick_updPort (s : State) (p : Port) (f : PortSt → PortSt) : (s.updPort p f).tick = s.tick := by cases p <;> rfl

@[simp] theorem out_updPort (s : State) (p : Port) (f : PortSt → PortSt) : (s.updPort p f).out = s.out := by cases p <;> rfl

@[simp] theorem ring_updPort (s : State) (p : Port) (f : PortSt → PortSt) : (s.updPort p f).upl.ring = s.upl.ring := by cases p <;> rfl

/-! ## What leaves it alone -/

theorem Logged.reception (l : Logged s t) : t.reception = s.reception := (congrArg State.reception l.1).trans rfl

theorem OnlyChans.reception (c : OnlyChans s t) : t.reception = s.reception := (congrArg State.reception c.1).trans rfl

theorem OnlyMet.reception (o : OnlyMet s t) : t.reception = s.reception := (congrArg State.reception o).trans rfl

theorem Ran.reception (r : Ran s t) : t.reception = s.reception := (congrArg State.reception r).trans rfl

@[simp] theorem reception_wakeMain (s : State) : s.wakeMain.reception = s.reception := (wakeMain_logged s).reception

@[simp] theorem reception_wakeKiln (s : State) : s.wakeKiln.reception = s.reception := (wakeKiln_logged s).reception

@[simp] theorem reception_report (s : State) (n : Nat) (b : Bytes) : (s.report n b).reception = s.reception := (report_logged s n b).reception

@[simp] theorem reception_klog (s : State) (n : Nat) (b : Bytes) : (s.klog n b).reception = s.reception := (klog_logged s n b).reception

@[simp] theorem reception_wlog (s : State) (n g : Nat) (b : Bytes) (r : Bool) : (s.wlog n g b r).reception = s.reception :=
  (wlog_logged s n g b r).reception

@[simp] theorem reception_closeWindows (s : State) : s.closeWindows.reception = s.reception := (onlyChans_closeWindows s).reception

/-! ## The Kiln's time and the beacon reference (R148, R810, R811) -/

@[simp] theorem reception_setTimeSt (s : State) (f : Kiln → Kiln) : (s.setTimeSt f).reception = s.reception := (setTimeSt_logged_of s f).reception

@[simp] theorem reception_handBeacon (s : State) (key time frac rx : Nat) : (s.handBeacon key time frac rx).reception = s.reception := by
  unfold State.handBeacon; dsimp only; split
  · exact reception_setTimeSt _ _
  · split
    · rw [reception_klog, reception_setTimeSt]
    · exact reception_setTimeSt _ _

@[simp] theorem reception_discipline (s : State) : s.discipline.reception = s.reception := by
  unfold State.discipline; split
  · exact reception_setTimeSt _ _
  · rfl

@[simp] theorem reception_qualifyBeacon (s : State) : s.qualifyBeacon.reception = s.reception := by
  unfold State.qualifyBeacon; split
  · rfl
  · exact (reception_klog _ _ _).trans (reception_discipline _)

/-! ## What a beacon sets off (R418, R429, R468) -/

@[simp] theorem reception_saveFloors (s : State) : s.saveFloors.reception = s.reception := by
  unfold State.saveFloors; (repeat' split) <;> rfl

@[simp] theorem reception_sendTime (s : State) : s.sendTime.reception = s.reception := by
  unfold State.sendTime; dsimp only; split_ifs
  · exact (joint_slipSend _ _ _ _ _).1.reception
  · rfl

@[simp] theorem reception_attest (s : State) (m : Bytes) : (s.attest m).reception = s.reception := by
  unfold State.attest; split_ifs
  · exact reception_report _ _ _
  · rfl

/-! ## A reference event (R255–R258) -/

@[simp] theorem reception_gradeWatch (s : State) (t : Trip) (ref refTick : Nat) : (s.gradeWatch t ref refTick).reception = s.reception :=
  (tripLog_logged s .watch t ref refTick).reception

@[simp] theorem reception_excuse (s : State) (a : Anomaly) (ref : Nat × Nat) : (s.excuse a ref).reception = s.reception := by
  unfold State.excuse; dsimp only; split
  · exact (reception_gradeWatch _ _ _ _).trans (reception_gradeWatch _ _ _ _)
  · exact reception_gradeWatch _ _ _ _

@[simp] theorem reception_endHold (s : State) : s.endHold.reception = s.reception := by
  unfold State.endHold; split
  · rfl
  · rw [(drainReports_logged _).reception, (programLog_logged _).reception, (onlyChans_releaseAll _ _).reception]; rfl

@[simp] theorem reception_reference (s : State) (k : RefEvent) : (s.reference k).reception = s.reception := by
  have excused : ((s.tamp.hit s.tick).foldl (fun x a => x.excuse a (refCode k, s.tick)) (s.referred k)).reception = s.reception :=
    List.foldlRecOn (motive := fun t : State => t.reception = s.reception) _ _ rfl fun t ht a _ => (reception_excuse t a _).trans ht
  rw [reference_eq]; dsimp only
  generalize (s.tamp.hit s.tick).foldl _ (s.referred k) = u at excused ⊢
  split
  · exact excused
  · split
    · exact excused
    · exact (reception_endHold u).trans excused

end Sys2Proof.Machine
end

section
/-! The uplink ports (spec/11_uplink.md R408, R409, R412, R413, R444; spec/07_tamper.md R255): link, alarm, inbound faults, quarantine and the
concentrator address. -/

namespace Sys2Proof.Machine

open Sys2Proof

variable {s : State} {p : Port} {fcs : Bool} {frame : Bytes}

/-! ## The link (R408, R413) -/

theorem linkUp_does (hup : s.phyUp = true) (hl : (s.port p).linked = false) :
    Does (.linkUp p) s (fun t => t = s.updPort p (fun x => { x with linked := true, annAt := none })) :=
  ⟨_, rfl, if_pos (by simp [hup, hl])⟩

theorem linkDown_does (hl : (s.port p).linked = true) :
    Does (.linkDown p) s (fun t => t = s.updPort p (fun x => { x with linked := false, addr := none })) :=
  ⟨_, rfl, if_pos hl⟩

/-! ## A common-mode alarm (R255, R409) -/

/-- The reference event of a common-mode alarm on a port. -/
def alarmRef : Port → RefEvent
  | .a => .upaAlarm | .b => .upbAlarm

theorem exec_commonModeAlarm (hup : s.phyUp = true) (hsrc : s.clk.tickSrc.isSome = true) :
    exec (.commonModeAlarm p) s = .next ((s.countAlarm (alarmRef p)).reference (alarmRef p)).settleGrade := by
  refine congrArg Host.Outcome.next ((if_pos (by simp [hup, hsrc])).trans ?_)
  cases p <;> rfl

theorem countAlarm_eq (s : State) (p : Port) : s.countAlarm (alarmRef p) = s.updPort p (fun x => { x with alarms := sat16 x.alarms }) := by
  cases p <;> rfl

/-- With no start to abandon, settling the grade only schedules applets. -/
theorem settleGrade_ran (h : s.tamp.grade ≠ .crazed) : Ran s s.settleGrade := by
  unfold State.settleGrade; rw [crazedStart_of_calm h]; exact reschedule_ran s

theorem grade_ne_of_calm (h : s.crazed = false) : s.tamp.grade ≠ .crazed := by
  intro e; unfold State.crazed at h; simp [e] at h

theorem commonModeAlarm_does (hup : s.phyUp = true) (hsrc : s.clk.tickSrc.isSome = true) (hc : s.crazed = false) :
    Does (.commonModeAlarm p) s (fun t =>
      (t.port p).alarms = sat16 (s.port p).alarms ∧ (p = .a → t.tamp.refA = some s.tick) ∧ (p = .b → t.tamp.refB = some s.tick)) := by
  obtain ⟨ex, n, u, q, referred⟩ := ((State.Senses.self s).countAlarm (alarmRef p)).reference (alarmRef p)
  have grade : ((s.countAlarm (alarmRef p)).reference (alarmRef p)).tamp.grade ≠ .crazed := by
    rw [referred.tamp]; exact (Tamp.refer_grade _ _ _).trans_ne (grade_ne_of_calm hc)
  have kept := (settleGrade_ran grade).reception.trans (reception_reference _ _)
  refine ⟨_, exec_commonModeAlarm hup hsrc, ?_⟩
  dsimp only
  rw [port_of_reception kept, countAlarm_eq, port_updPort, ← countAlarm_eq, referred.settleGrade.tamp]
  refine ⟨rfl, ?_, ?_⟩ <;> rintro rfl <;> rfl

/-! ## Inbound faults and quarantine (R412, R444) -/

/-- A port after an inbound fault in tick `now`. -/
def PortSt.faulted (x : PortSt) (now : Nat) : PortSt :=
  let l := now :: x.faults.filter (fun t => decide (now < t + 1966080))
  if 64 ≤ l.length then { x with faultCount := sat16 x.faultCount, quarantine := some now, faults := [], addr := none }
  else { x with faultCount := sat16 x.faultCount, faults := l }

theorem inboundFault_port (s : State) (p : Port) : (s.inboundFault p).port p = (s.port p).faulted s.tick := by
  unfold State.inboundFault PortSt.faulted; dsimp only; split
  · rw [port_of_reception (reception_wlog _ _ _ _ _), port_updPort, port_updPort, tick_updPort]
  · exact port_updPort _ _ _

theorem inboundFault_floors (s : State) (p : Port) : (s.inboundFault p).upl.floors = s.upl.floors := by
  unfold State.inboundFault; dsimp only; split
  · exact (congrArg Reception.floors (reception_wlog _ _ _ _ _)).trans (by cases p <;> rfl)
  · cases p <;> rfl

theorem PortSt.faulted_count (x : PortSt) (now : Nat) : (x.faulted now).faultCount = sat16 x.faultCount := by
  unfold PortSt.faulted; dsimp only; split <;> rfl

theorem PortSt.faulted_few {x : PortSt} {now : Nat} (h : (x.faults.filter (fun t => decide (now < t + 1966080))).length < 63) :
    now ∈ (x.faulted now).faults ∧ (x.faulted now).quarantine = x.quarantine := by
  unfold PortSt.faulted; dsimp only
  rw [if_neg (by rw [List.length_cons]; omega)]
  exact ⟨List.mem_cons_self, rfl⟩

theorem PortSt.faulted_many {x : PortSt} {now : Nat} (h : 63 ≤ (x.faults.filter (fun t => decide (now < t + 1966080))).length) :
    (x.faulted now).quarantine = some now ∧ (x.faulted now).faults = [] ∧ (x.faulted now).addr = none := by
  unfold PortSt.faulted; dsimp only
  rw [if_pos (by rw [List.length_cons]; omega)]
  exact ⟨rfl, rfl, rfl⟩

theorem inboundOpen_iff : s.inboundOpen p = true ↔ s.linkedTo p = true ∧ (s.port p).quarantine = none ∧ s.life.firing ≠ .greenware := by
  simp [State.inboundOpen, and_assoc]

/-- A frame that fails a check is a fault; that it may also break the run of R148 leaves the port as the fault did. -/
theorem inboundFrame_refused (ho : s.inboundOpen p = true)
    (bad : (s.frameOk fcs frame && envelopeOk (framePayload frame) && lengthOk (framePayload frame)) = false) :
    Does (.inboundFrame p fcs frame) s (fun t => t.port p = (s.port p).faulted s.tick) := by
  have fault : (s.wakeMain.inboundFault p).port p = (s.port p).faulted s.tick := by
    rw [inboundFault_port, port_of_reception (reception_wakeMain s), (wakeMain_logged s).tick]
  refine ⟨_, rfl, ?_⟩
  dsimp only
  rw [if_pos ho, if_neg (by rw [bad]; nofun)]
  split
  · exact (port_of_reception (t := State.updClk _ _) rfl p).trans fault
  · exact fault

theorem inboundFrame_does (ho : s.inboundOpen p = true)
    (bad : (s.frameOk fcs frame && envelopeOk (framePayload frame) && lengthOk (framePayload frame)) = false) :
    Does (.inboundFrame p fcs frame) s (fun t => (t.port p).faultCount = sat16 (s.port p).faultCount ∧
      let n := ((s.port p).faults.filter (fun k => decide (s.tick < k + 1966080))).length
      (n < 63 → s.tick ∈ (t.port p).faults ∧ (t.port p).quarantine = none) ∧
      (63 ≤ n → (t.port p).quarantine = some s.tick ∧ (t.port p).faults = [] ∧ (t.port p).addr = none)) := by
  obtain ⟨t, taken, port⟩ := inboundFrame_refused ho bad
  obtain ⟨-, quarantine, -⟩ := inboundOpen_iff.mp ho
  refine ⟨t, taken, ?_⟩
  dsimp only
  rw [port, ← quarantine]
  exact ⟨PortSt.faulted_count _ _, PortSt.faulted_few, PortSt.faulted_many⟩

/-! ## What ends after its time (R413, R444) -/

/-- At the end of a window nothing of the uplink has changed. -/
theorem ended_reception (s : State) (n : Nat) : (s.ended n).reception = s.reception := reception_closeWindows (s.advanceTo n)

theorem concentratorAddressTimeout_does (ha : (s.port p).addr.isSome = true) (hup : s.phyUp = true) (hsrc : s.clk.tickSrc.isSome = true) :
    Does (.concentratorAddressTimeout p) s (fun t => (t.port p).addr = none ∧ (t.port p).linked = (s.port p).linked ∧
      t.tick = max s.tick (min ((s.port p).addrAt + 19660800) (2 ^ 48 - 1))) := by
  have taken : exec (.concentratorAddressTimeout p) s =
      .next ((s.ended ((s.port p).addrAt + 19660800)).updPort p (fun x => { x with addr := none })) :=
    congrArg Host.Outcome.next (if_pos (by simp [ha, hup, hsrc]))
  refine ⟨_, taken, ?_⟩
  dsimp only
  rw [port_updPort, tick_updPort, ended_tick, port_of_reception (ended_reception _ _)]
  exact ⟨rfl, rfl, rfl⟩

theorem quarantineEnd_does {k : Nat} (hq : (s.port p).quarantine = some k) (hvao : s.rails.vao = true) (hsrc : s.clk.tickSrc.isSome = true) :
    Does (.quarantineEnd p) s (fun t => (t.port p).quarantine = none ∧ (t.port p).linked = (s.port p).linked ∧
      t.tick = max s.tick (min (k + 1966080) (2 ^ 48 - 1))) := by
  have taken : exec (.quarantineEnd p) s = .next ((s.ended (k + 1966080)).updPort p (fun x => { x with quarantine := none })) := by
    show execQuarantineEnd p s = _
    unfold execQuarantineEnd
    rw [hq]; exact congrArg Host.Outcome.next (if_pos (by simp [hvao, hsrc]))
  refine ⟨_, taken, ?_⟩
  dsimp only
  rw [port_updPort, tick_updPort, ended_tick, port_of_reception (ended_reception _ _)]
  exact ⟨rfl, rfl, rfl⟩

/-! ## The obligation -/

/-- Settles O17, event by event. -/
theorem ports : Obligations.Ports :=
  fun _ _ _ _ => ⟨linkUp_does, linkDown_does, commonModeAlarm_does, inboundFrame_does, concentratorAddressTimeout_does,
    fun _ => quarantineEnd_does⟩

end Sys2Proof.Machine
end

section
/-! ACK and BEACON (spec/11_uplink.md R422–R429, R436, R445): a message of an accepted key within the port's limit is counted, then judged, or
held in Crazed; what a judged one leaves. -/

namespace Sys2Proof.Machine

open Sys2Proof

variable {s t u : State} {p : Port} {m : Bytes} {ok : Bool} {src : Nat × Nat} {rx : Nat}

/-! ## What the count of a message changes (R436) -/

/-- From `s` to `t` only the ports have changed, and the main island may have been woken. -/
def OnlyPorts (s t : State) : Prop := t = { s with pwr := t.pwr, upl := { s.upl with a := t.upl.a, b := t.upl.b } }

theorem OnlyPorts.trans (a : OnlyPorts s t) (b : OnlyPorts t u) : OnlyPorts s u := by
  unfold OnlyPorts at *; rw [b, a]

theorem onlyPorts_wakeMain (s : State) : OnlyPorts s s.wakeMain := by
  unfold State.wakeMain; split <;> rfl

theorem onlyPorts_updPort (s : State) (p : Port) (f : PortSt → PortSt) : OnlyPorts s (s.updPort p f) := by cases p <;> rfl

section

variable (o : OnlyPorts s t)

include o

theorem OnlyPorts.tick : t.tick = s.tick := by rw [o]
theorem OnlyPorts.out : t.out = s.out := by rw [o]
theorem OnlyPorts.life : t.life = s.life := by rw [o]
theorem OnlyPorts.crazed : t.crazed = s.crazed := by rw [o]; rfl
theorem OnlyPorts.ring : t.upl.ring = s.upl.ring := by rw [o]
theorem OnlyPorts.msgs : t.upl.msgs = s.upl.msgs := by rw [o]
theorem OnlyPorts.seen : t.upl.seen = s.upl.seen := by rw [o]
theorem OnlyPorts.floors : t.upl.floors = s.upl.floors := by rw [o]
theorem OnlyPorts.ackFormed (m : Bytes) : t.ackFormed m = s.ackFormed m := by rw [o]; rfl
theorem OnlyPorts.beaconFormed (m : Bytes) : t.beaconFormed m = s.beaconFormed m := by rw [o]; rfl
theorem OnlyPorts.keyAccepted (key : Nat) : t.keyAccepted key = s.keyAccepted key := by rw [o]; rfl

end

/-- The part awake, the second in progress on port `p` begun. -/
def State.windowed (s : State) (p : Port) : State := s.wakeMain.updPort p (fun x => x.verWindow s.wakeMain.tick)

/-- A message of KEY_ID `key` is let through to its check; a signed one is counted by `f`. -/
def State.letIn (s : State) (p : Port) (key : Nat) (f : PortSt → PortSt) : State :=
  if key = 0 then s.windowed p else (s.windowed p).updPort p f

/-- One more ACK verified in this second. -/
def PortSt.ackSeen (x : PortSt) : PortSt := { x with verAcks := x.verAcks + 1 }

/-- One more BEACON verified in this second. -/
def PortSt.beaconSeen (x : PortSt) : PortSt := { x with verBeacons := x.verBeacons + 1 }

theorem windowed_port (s : State) (p : Port) : (s.windowed p).port p = (s.port p).verWindow s.tick := by
  unfold State.windowed
  rw [port_updPort, port_of_reception (reception_wakeMain s), (wakeMain_logged s).tick]

theorem onlyPorts_letIn (s : State) (p : Port) (key : Nat) (f : PortSt → PortSt) : OnlyPorts s (s.letIn p key f) := by
  have windowed : OnlyPorts s (s.windowed p) := (onlyPorts_wakeMain s).trans (onlyPorts_updPort _ _ _)
  unfold State.letIn; split
  · exact windowed
  · exact windowed.trans (onlyPorts_updPort _ _ _)

theorem verWindow_faultCount (x : PortSt) (now : Nat) : (x.verWindow now).faultCount = x.faultCount := by
  unfold PortSt.verWindow; dsimp only; split <;> rfl

theorem letIn_faultCount {key : Nat} {f : PortSt → PortSt} (hf : ∀ x : PortSt, (f x).faultCount = x.faultCount) :
    ((s.letIn p key f).port p).faultCount = (s.port p).faultCount := by
  unfold State.letIn; split
  · rw [windowed_port, verWindow_faultCount]
  · rw [port_updPort, hf, windowed_port, verWindow_faultCount]

/-! ## ACK (R422–R424, R445) -/

theorem keyAccepted_le {key : Nat} (h : s.keyAccepted key = true) : key ≤ 2 := by
  unfold State.keyAccepted at h
  split at h <;> simp at h <;> omega

theorem keyAccepted_not_sherd {key : Nat} (h : s.keyAccepted key = true) : s.life.firing ≠ .sherd := by
  intro e; unfold State.keyAccepted at h; simp [e] at h

/-- The state in which an ACK of the port's limit is judged. -/
def State.ackLet (s : State) (p : Port) (m : Bytes) : State := s.letIn p (beAt m 4 1) PortSt.ackSeen

theorem onlyPorts_ackLet (s : State) (p : Port) (m : Bytes) : OnlyPorts s (s.ackLet p m) := onlyPorts_letIn _ _ _ _

section

variable (ho : s.inboundOpen p = true) (formed : s.ackFormed m = true) (accepted : s.keyAccepted (beAt m 4 1) = true)
  (room : beAt m 4 1 = 0 ∨ ((s.port p).verWindow s.tick).verAcks < 10)

include ho formed accepted room

theorem exec_ack :
    exec (.ack p m ok) s = .next (
      if s.crazed then { s.ackLet p m with upl := { (s.ackLet p m).upl with msgs := (s.ackLet p m).upl.msgs ++ [.ack p m ok] } }
      else (s.ackLet p m).ackJudged p m ok) := by
  have woken := onlyPorts_wakeMain s
  have within : ¬(beAt m 4 1 ≠ 0 ∧ 10 ≤ ((s.windowed p).port p).verAcks) := by rw [windowed_port]; omega
  refine congrArg Host.Outcome.next ?_
  rw [if_neg (by simp [ho])]; dsimp only
  rw [if_neg (by simp [woken.ackFormed, formed]), if_neg (by rw [woken.life]; exact keyAccepted_not_sherd accepted),
    if_neg (by simp [woken.keyAccepted, accepted]), ← (onlyPorts_ackLet s p m).crazed]
  exact if_neg within

theorem ack_taken (calm : s.crazed = false) (verified : beAt m 4 1 = 0 ∨ ok = true) :
    Does (.ack p m ok) s (fun t => t.upl.ring = s.upl.ring.map (fun r =>
      if (ackRanges m).any (fun e => decide (e.1 ≤ r.seq ∧ r.seq ≤ e.2)) then { r with acked := true } else r)) := by
  refine ⟨_, exec_ack ho formed accepted room, ?_⟩
  dsimp only
  rw [if_neg (ne_true_of_eq_false calm)]
  unfold State.ackJudged
  rw [if_neg (by rcases verified with h | h <;> simp [h]), ← (onlyPorts_ackLet s p m).ring]
  rfl

theorem ack_held (crazed : s.crazed = true) :
    Does (.ack p m ok) s (fun t => t.upl.ring = s.upl.ring ∧ t.upl.msgs = s.upl.msgs ++ [.ack p m ok]) := by
  refine ⟨_, exec_ack ho formed accepted room, ?_⟩
  dsimp only
  rw [if_pos crazed]; dsimp only
  rw [(onlyPorts_ackLet s p m).ring, (onlyPorts_ackLet s p m).msgs]
  exact ⟨rfl, rfl⟩

end

/-! ## BEACON (R426–R429, R436, R445) -/

/-- The floors of the key and the beacons seen, once a BEACON is taken. -/
def State.beaconNoted (s : State) (m : Bytes) : State :=
  { s with upl := { s.upl with floors := s.upl.floors.setIfInBounds (beAt m 4 1) ⟨beAt m 24 8, beAt m 32 4⟩, seen := m :: s.upl.seen } }

/-- What a taken BEACON sets off leaves the address, the floors and its place as the latest one heard. -/
theorem takeBeacon_reception (s : State) (p : Port) (m : Bytes) (src : Nat × Nat) (rx : Nat) :
    (s.takeBeacon p m src rx).reception = { ((s.beaconNoted m).learnAddr p src).reception with lastBeacon := some rx } := by
  unfold State.takeBeacon; dsimp only
  rw [reception_attest, reception_sendTime, reception_saveFloors, reception_qualifyBeacon, reception_handBeacon, reception_wakeKiln]
  rfl

theorem learnAddr_port (s : State) (p : Port) (src : Nat × Nat) :
    (s.learnAddr p src).port p = { s.port p with addr := some src, addrAt := s.tick } := port_updPort _ _ _

theorem onlyPorts_learnAddr (s : State) (p : Port) (src : Nat × Nat) : OnlyPorts s (s.learnAddr p src) := onlyPorts_updPort _ _ _

theorem takeBeacon_port : (s.takeBeacon p m src rx).port p = { s.port p with addr := some src, addrAt := s.tick } := by
  rw [port_eq, takeBeacon_reception]
  exact (port_eq ((s.beaconNoted m).learnAddr p src) p).symm.trans ((learnAddr_port _ _ _).trans (by cases p <;> rfl))

theorem takeBeacon_lastBeacon : (s.takeBeacon p m src rx).clk.lastBeacon = some rx :=
  congrArg Reception.lastBeacon (takeBeacon_reception s p m src rx)

theorem takeBeacon_seen : (s.takeBeacon p m src rx).upl.seen = m :: s.upl.seen :=
  (congrArg Reception.seen (takeBeacon_reception s p m src rx)).trans (onlyPorts_learnAddr (s.beaconNoted m) p src).seen

theorem takeBeacon_floors : (s.takeBeacon p m src rx).upl.floors = s.upl.floors.setIfInBounds (beAt m 4 1) ⟨beAt m 24 8, beAt m 32 4⟩ :=
  (congrArg Reception.floors (takeBeacon_reception s p m src rx)).trans (onlyPorts_learnAddr (s.beaconNoted m) p src).floors

theorem beaconFormed_accepted (h : s.beaconFormed m = true) : s.keyAccepted (beAt m 4 1) = true := by
  unfold State.beaconFormed at h
  rw [Bool.and_eq_true] at h
  exact h.2

/-- The state in which a BEACON of the port's limit is judged. -/
def State.beaconLet (s : State) (p : Port) (m : Bytes) : State := s.letIn p (beAt m 4 1) PortSt.beaconSeen

theorem onlyPorts_beaconLet (s : State) (p : Port) (m : Bytes) : OnlyPorts s (s.beaconLet p m) := onlyPorts_letIn _ _ _ _

variable {mac ip : Nat}

theorem beacon_duplicate (ho : s.inboundOpen p = true) (hf : s.life.firing ≠ .sherd) (formed : s.beaconFormed m = true) (dup : m ∈ s.upl.seen) :
    Does (.beacon p m ok mac ip) s (fun t =>
      (t.port p).addr = some (mac, ip) ∧ (t.port p).addrAt = s.tick ∧ t.upl.floors = s.upl.floors) := by
  have woken := onlyPorts_wakeMain s
  have taken : exec (.beacon p m ok mac ip) s = .next (s.wakeMain.learnAddr p (mac, ip)) := by
    refine congrArg Host.Outcome.next ?_
    rw [if_neg (by simp [ho, hf])]; dsimp only
    rw [if_neg (by simp [woken.beaconFormed, formed]), if_pos (by simpa [woken.seen] using dup)]
  refine ⟨_, taken, ?_⟩
  dsimp only
  rw [learnAddr_port, woken.tick]
  exact ⟨rfl, rfl, (woken.trans (onlyPorts_learnAddr _ _ _)).floors⟩

section

variable (ho : s.inboundOpen p = true) (hf : s.life.firing ≠ .sherd) (formed : s.beaconFormed m = true) (new : m ∉ s.upl.seen)
  (room : beAt m 4 1 = 0 ∨ ((s.port p).verWindow s.tick).verBeacons < 1)

include ho hf formed new room

theorem exec_beacon :
    exec (.beacon p m ok mac ip) s = .next (
      if s.crazed then { s.beaconLet p m with
        upl := { (s.beaconLet p m).upl with msgs := (s.beaconLet p m).upl.msgs ++ [.beacon p m ok (mac, ip) (s.beaconLet p m).tick] } }
      else (s.beaconLet p m).beaconJudged p m ok (mac, ip) (s.beaconLet p m).tick) := by
  have woken := onlyPorts_wakeMain s
  have within : ¬(beAt m 4 1 ≠ 0 ∧ 1 ≤ ((s.windowed p).port p).verBeacons) := by rw [windowed_port]; omega
  refine congrArg Host.Outcome.next ?_
  rw [if_neg (by simp [ho, hf])]; dsimp only
  rw [if_neg (by simp [woken.beaconFormed, formed]), if_neg (by simpa [woken.seen] using new), ← (onlyPorts_beaconLet s p m).crazed]
  exact if_neg within

theorem beacon_taken (calm : s.crazed = false) (verified : beAt m 4 1 = 0 ∨ ok = true)
    (later : ((s.upl.floors[beAt m 4 1]?).getD {}).bseq < beAt m 24 8) (notBehind : ((s.upl.floors[beAt m 4 1]?).getD {}).time ≤ beAt m 32 4) :
    Does (.beacon p m ok mac ip) s (fun t =>
      (t.port p).addr = some (mac, ip) ∧ (t.port p).addrAt = s.tick ∧ t.clk.lastBeacon = some s.tick ∧ m ∈ t.upl.seen ∧
      t.upl.floors[beAt m 4 1]? = some ⟨beAt m 24 8, beAt m 32 4⟩) := by
  have counted := onlyPorts_beaconLet s p m
  have key : beAt m 4 1 < 3 := Nat.lt_succ_of_le (keyAccepted_le (beaconFormed_accepted formed))
  have judged : (s.beaconLet p m).beaconJudged p m ok (mac, ip) (s.beaconLet p m).tick =
      (s.beaconLet p m).takeBeacon p m (mac, ip) (s.beaconLet p m).tick := by
    have signed : ¬(beAt m 4 1 ≠ 0 ∧ ok = false) := by rcases verified with h | h <;> simp [h]
    unfold State.beaconJudged; dsimp only
    rw [counted.seen, counted.floors, if_neg (by simpa using new), if_neg (by simpa [later, notBehind] using signed)]
  refine ⟨_, exec_beacon ho hf formed new room, ?_⟩
  dsimp only
  rw [if_neg (ne_true_of_eq_false calm), judged, takeBeacon_port, takeBeacon_lastBeacon, takeBeacon_seen, takeBeacon_floors, counted.tick]
  exact ⟨rfl, rfl, rfl, List.mem_cons_self, by simp [key]⟩

theorem beacon_refused (calm : s.crazed = false) (signed : beAt m 4 1 ≠ 0) (bad : ok = false) :
    Does (.beacon p m ok mac ip) s (fun t =>
      t.upl.floors = s.upl.floors ∧ t.clk.beaconRun = 0 ∧ (t.port p).faultCount = sat16 (s.port p).faultCount) := by
  have counted := onlyPorts_beaconLet s p m
  have judged : (s.beaconLet p m).beaconJudged p m ok (mac, ip) (s.beaconLet p m).tick = (s.beaconLet p m).refuseBeacon p := by
    unfold State.beaconJudged; dsimp only
    rw [counted.seen, if_neg (by simpa using new), if_pos (by simp [signed, bad])]
  have port : ((s.beaconLet p m).refuseBeacon p).port p = ((s.beaconLet p m).port p).faulted (s.beaconLet p m).tick :=
    (port_of_reception (t := State.updClk _ _) rfl p).trans (inboundFault_port _ p)
  refine ⟨_, exec_beacon ho hf formed new room, ?_⟩
  dsimp only
  rw [if_neg (ne_true_of_eq_false calm), judged, port, PortSt.faulted_count]
  exact ⟨(inboundFault_floors _ p).trans counted.floors, rfl, congrArg sat16 (letIn_faultCount fun _ => rfl)⟩

theorem beacon_held (crazed : s.crazed = true) :
    Does (.beacon p m ok mac ip) s (fun t =>
      t.upl.floors = s.upl.floors ∧ t.upl.msgs = s.upl.msgs ++ [.beacon p m ok (mac, ip) s.tick]) := by
  have counted := onlyPorts_beaconLet s p m
  refine ⟨_, exec_beacon ho hf formed new room, ?_⟩
  dsimp only
  rw [if_pos crazed]; dsimp only
  rw [counted.floors, counted.msgs, counted.tick]
  exact ⟨rfl, rfl⟩

end

/-! ## The obligation -/

/-- Settles O18, message by message. -/
theorem acksAndBeacons : Obligations.AcksAndBeacons :=
  fun _ _ _ _ _ _ ho => ⟨fun formed accepted room => ⟨ack_taken ho formed accepted room, ack_held ho formed accepted room⟩,
    fun hf formed => ⟨beacon_duplicate ho hf formed, fun new room =>
      ⟨beacon_taken ho hf formed new room, beacon_refused ho hf formed new room, beacon_held ho hf formed new room⟩⟩⟩

end Sys2Proof.Machine
end

section
/-! Sending (spec/11_uplink.md R418, R421, R435; spec/06_lifecycle.md R211): records that are due, announcements, the Sherd identity and the
daily STATUS. -/

namespace Sys2Proof.Machine

open Sys2Proof

variable {s t : State} {p : Port}

/-! ## RECORD_SEND (R435) -/

/-- Messages go on the trace one after another, the newest first. -/
theorem foldl_emit {α : Type} (e : α → Emit) (l : List α) (s : State) :
    l.foldl (fun t a => t.emit (e a)) s = { s with out := (l.map e).reverse ++ s.out } := by
  induction l generalizing s with
  | nil => rfl
  | cons a l ih => rw [List.foldl_cons, ih]; simp [State.emit]

/-- Messages a port has sent in the second in progress. -/
def State.sentThisSecond (s : State) (p : Port) : Nat := if (s.port p).paceFrom = s.tick / 32768 * 32768 then (s.port p).paceSent else 0

theorem sendList_length (s : State) (p : Port) (n : Nat) : (s.sendList p n).length ≤ n := List.length_take_le _ _

/-- The records of `l` have gone out on port `p`. -/
def State.recordsSent (s : State) (p : Port) (l : List Rec) : State :=
  let u := (l.foldl (fun t r => t.emit (.record p r)) (if l.isEmpty then s else s.wakeMain)).updPort p
    (fun x => { x with paceFrom := s.tick / 32768 * 32768, paceSent := s.sentThisSecond p + l.length })
  { u with upl := { u.upl with ring := u.upl.ring.map (fun r => if l.any (fun e => e.seq == r.seq) then r.sentNow p s.tick else r) } }

theorem awakeFor_onlyPorts (s : State) (l : List Rec) : OnlyPorts s (if l.isEmpty then s else s.wakeMain) := by
  split
  · rfl
  · exact onlyPorts_wakeMain s

theorem recordsSent_out (s : State) (p : Port) (l : List Rec) : (s.recordsSent p l).out = (l.map (Emit.record p)).reverse ++ s.out := by
  have out := (awakeFor_onlyPorts s l).out
  unfold State.recordsSent; dsimp only
  generalize (if l.isEmpty then s else s.wakeMain) = u at out ⊢
  rw [out_updPort, foldl_emit, ← out]

theorem recordsSent_paceSent (s : State) (p : Port) (l : List Rec) :
    ((s.recordsSent p l).port p).paceSent = s.sentThisSecond p + l.length := by
  unfold State.recordsSent; dsimp only
  generalize (if l.isEmpty then s else s.wakeMain) = u
  exact (congrArg PortSt.paceSent (port_of_reception (s := State.updPort _ _ _) rfl p)).trans (congrArg PortSt.paceSent (port_updPort _ _ _))

theorem recordsSent_ring (s : State) (p : Port) (l : List Rec) : (s.recordsSent p l).upl.ring =
    s.upl.ring.map (fun r => if l.any (fun e => e.seq == r.seq) then r.sentNow p s.tick else r) := by
  have ring := (awakeFor_onlyPorts s l).ring
  unfold State.recordsSent; dsimp only
  generalize (if l.isEmpty then s else s.wakeMain) = u at ring ⊢
  rw [ring_updPort, foldl_emit, ← ring]

theorem recordSend_does (hw : s.wheelUp = true) (hl : s.linkedTo p = true) (ha : (s.port p).addr.isSome = true) :
    let l := s.sendList p (100 - s.sentThisSecond p)
    Does (.recordSend p) s (fun t => t.out = (l.map (Emit.record p)).reverse ++ s.out ∧ (t.port p).paceSent = s.sentThisSecond p + l.length ∧
      l.length ≤ 100 - s.sentThisSecond p ∧
      t.upl.ring = s.upl.ring.map (fun r => if l.any (fun e => e.seq == r.seq) then r.sentNow p s.tick else r)) := by
  intro l
  have taken : exec (.recordSend p) s = .next (s.recordsSent p l) := congrArg Host.Outcome.next (if_pos (by simp [hw, hl, ha]))
  exact ⟨_, taken, recordsSent_out s p l, recordsSent_paceSent s p l, sendList_length s p _, recordsSent_ring s p l⟩

/-! ## Announcements (R416, R421) -/

theorem OnlyChans.mainUp (c : OnlyChans s t) : t.mainUp = s.mainUp := by
  have islands : t.mainUp = s.mainUp ∨ t.mainUp = s.wakeMain.mainUp := c.2.imp (congrArg fun w : Pwr => w.main == .running || w.main == .retention)
    (congrArg fun w : Pwr => w.main == .running || w.main == .retention)
  exact islands.elim id fun h => h.trans (wakeMain_logged s).mainUp

theorem OnlyChans.ring (c : OnlyChans s t) : t.upl.ring = s.upl.ring := by rw [c.1]

theorem onlyChans_wakeMain (s : State) : OnlyChans s s.wakeMain := by
  refine ⟨?_, .inr rfl⟩
  unfold State.wakeMain; split <;> rfl

theorem OnlyChans.canSign (c : OnlyChans s t) (r : Rec) : t.canSign r = s.canSign r := by
  have main := c.mainUp
  unfold State.canSign
  rw [main, c.1]; rfl

theorem buildRec_sigalg (s : State) (type : Nat) (body : Bytes) (held : Bool) :
    (s.buildRec type body held).sigalg = if type = 0x0B then 2 else 1 := rfl

/-- The key that signs a record depends on its SIGALG alone, and so on its TYPE where it is built now; the tick has no part in it. -/
theorem canSign_buildRec (s u v : State) (n type : Nat) (body body' : Bytes) (held : Bool) :
    State.canSign { s with tick := n } (u.buildRec type body held) = s.canSign (v.buildRec type body' held) := by
  unfold State.canSign sigSlot; rw [buildRec_sigalg, buildRec_sigalg]; rfl

/-- The part awake at the tick of port `p`'s next announcement. -/
def State.announceAt (s : State) (p : Port) : State :=
  ((match (s.port p).annAt with | some k => s.advanceTo (k + 327680) | none => s).closeWindows).wakeMain

theorem announceAt_onlyChans (s : State) (p : Port) : ∃ n, OnlyChans { s with tick := n } (s.announceAt p) := by
  have awake : ∀ u : State, OnlyChans u u.closeWindows.wakeMain := fun u => (onlyChans_closeWindows u).trans (onlyChans_wakeMain _)
  unfold State.announceAt; split
  · exact ⟨_, awake (s.advanceTo _)⟩
  · exact ⟨s.tick, awake s⟩

/-- An announcement goes out on port `p`, or is left out where the part cannot sign it. -/
def State.announced (s : State) (p : Port) : State :=
  let r := s.buildRec 0x02 s.identityBody false
  if s.canSign r then ((s.sign r).1.updPort p (fun x => { x with annAt := some (s.sign r).1.tick })).emit (.record p (s.sign r).2)
  else s.updPort p (fun x => { x with annAt := some s.tick })

theorem announced_annAt (s : State) (p : Port) : ((s.announced p).port p).annAt = some (s.announced p).tick := by
  unfold State.announced; dsimp only; split <;> cases p <;> rfl

theorem announced_ring (s : State) (p : Port) : (s.announced p).upl.ring = s.upl.ring := by
  unfold State.announced; dsimp only; split <;> cases p <;> rfl

theorem announced_out (h : s.canSign (s.buildRec 0x02 s.identityBody false) = true) :
    ∃ r rest, (s.announced p).out = .record p r :: rest ∧ r.type = 0x02 ∧ r.seq = 0 := by
  unfold State.announced; dsimp only
  rw [if_pos h]; exact ⟨_, _, rfl, rfl, rfl⟩

theorem announcement_does (hw : s.wheelUp = true) (hl : s.linkedTo p = true) (ha : (s.port p).addr = none) (hf : announces s.life.firing = true)
    (hsrc : s.clk.tickSrc.isSome = true) :
    Does (.announcement p) s (fun t => (t.port p).annAt = some t.tick ∧ t.upl.ring = s.upl.ring ∧
      (s.canSign (s.buildRec 0x02 s.identityBody false) = true → ∃ r rest, t.out = .record p r :: rest ∧ r.type = 0x02 ∧ r.seq = 0)) := by
  have taken : exec (.announcement p) s = .next ((s.announceAt p).announced p) :=
    congrArg Host.Outcome.next (if_pos (by simp [hw, hl, ha, hf, hsrc]))
  obtain ⟨n, awake⟩ := announceAt_onlyChans s p
  refine ⟨_, taken, announced_annAt _ _, (announced_ring _ _).trans awake.ring, fun can => announced_out ?_⟩
  exact (awake.canSign _).trans ((canSign_buildRec _ _ _ _ _ _ _ _).trans can)

/-! ## The Sherd identity (R211) -/

theorem ended_linkedTo (s : State) (n : Nat) (p : Port) : (s.ended n).linkedTo p = s.linkedTo p := by
  have main : (s.ended n).mainUp = s.mainUp := (onlyChans_closeWindows (s.advanceTo n)).mainUp
  have clk : (s.ended n).clk = s.clk := clk_closeWindows (s.advanceTo n)
  unfold State.linkedTo State.phyUp
  rw [main, clk, port_of_reception (ended_reception s n)]

/-- The unsigned IDENTITY of a Sherd part. -/
def State.sherdRecord (s : State) : Rec := { s.buildRec 0x02 s.identityBody false with sigalg := 0 }

/-- The record goes out on each linked port. -/
def State.sentOnLinked (s : State) (r : Rec) : State :=
  let u := if s.linkedTo .a then s.emit (.record .a r) else s
  if u.linkedTo .b then u.emit (.record .b r) else u

theorem mem_sentOnLinked {r : Rec} (hl : s.linkedTo p = true) : .record p r ∈ (s.sentOnLinked r).out := by
  unfold State.sentOnLinked; dsimp only
  cases p with
  | a =>
    rw [if_pos hl]; split
    · exact List.mem_cons_of_mem _ List.mem_cons_self
    · exact List.mem_cons_self
  | b =>
    have linked : (if s.linkedTo .a then s.emit (.record .a r) else s).linkedTo .b = true := by
      split
      · exact hl
      · exact hl
    rw [if_pos linked]; exact List.mem_cons_self

theorem sherdIdentity_does (hf : s.life.firing = .sherd) (hm : s.mainUp = true) (hsrc : s.clk.tickSrc.isSome = true) (hl : s.linkedTo p = true) :
    Does .sherdIdentity s (fun t => ∃ r, .record p r ∈ t.out ∧ r.type = 0x02 ∧ r.sigalg = 0 ∧ r.sig = []) := by
  have linked : (s.linkedTo .a || s.linkedTo .b) = true := by
    cases p with
    | a => simp [hl]
    | b => simp [hl]
  let n := (s.tick / 32768 + 1) * 32768
  have taken : exec .sherdIdentity s = .next ((s.ended n).sentOnLinked (s.ended n).sherdRecord) :=
    congrArg Host.Outcome.next (if_pos (by simp [hf, hm, linked, hsrc]))
  exact ⟨_, taken, _, mem_sentOnLinked ((ended_linkedTo s n p).trans hl), rfl, rfl, rfl⟩

/-! ## STATUS (R397, R409, R418) -/

theorem clearReported_stat (s : State) (c : Fin 16) (k : LStat) : s.clearReported.stat c k = 0 := by
  simp [State.clearReported, State.stat, State.lnk]

theorem exec_status (hw : s.wheelUp = true) (hsrc : s.clk.tickSrc.isSome = true) : ∃ u : State, exec .status s = .next u.clearReported :=
  ⟨_, congrArg Host.Outcome.next (if_pos (by simp [hw, hsrc]))⟩

theorem status_does (hw : s.wheelUp = true) (hsrc : s.clk.tickSrc.isSome = true) :
    Does .status s (fun t => (∀ c k, t.stat c k = 0) ∧ t.upl.dropped = 0 ∧ t.tamp.excused = 0 ∧ t.upl.a.alarms = 0 ∧ t.upl.b.alarms = 0 ∧
      t.upl.statusAt = some t.tick) := by
  obtain ⟨u, taken⟩ := exec_status hw hsrc
  exact ⟨_, taken, clearReported_stat u, rfl, rfl, rfl, rfl, rfl⟩

/-! ## The obligation -/

/-- Settles O20, command by command. -/
theorem sending : Obligations.Sending :=
  fun _ _ => ⟨recordSend_does, announcement_does, sherdIdentity_does, status_does⟩

end Sys2Proof.Machine
end

section
/-! One application core (spec/13_cores.md R498, R500, R515, R525, R563; log 21, log 22): what a core reads as after an update of one, a
register write, a retired instruction and an exception, and that no other core changes. -/

namespace Sys2Proof.Machine

open Sys2Proof

variable {s t u : State} {k j : Fin 2}

/-! ## A core after an update -/

@[simp] theorem core_updCore_self (s : State) (k : Fin 2) (f : Core → Core) : (s.updCore k f).core[k] = f s.core[k] := by
  simp [State.coreOf]

theorem core_updCore_ne (f : Core → Core) (h : j ≠ k) : (s.updCore k f).core[j] = s.core[j] := by
  have : k.val ≠ j.val := fun e => h (Fin.ext e.symm)
  simp [Vector.getElem_set_ne, this]

theorem onlyCore_self (s : State) (k : Fin 2) : OnlyCore s s k := ⟨rfl, fun _ _ => rfl⟩

theorem onlyCore_updCore (s : State) (k : Fin 2) (f : Core → Core) : OnlyCore s (s.updCore k f) k := ⟨rfl, fun _ h => core_updCore_ne f h⟩

theorem OnlyCore.trans (a : OnlyCore s t k) (b : OnlyCore t u k) : OnlyCore s u k :=
  ⟨by rw [b.1, a.1], fun j h => (b.2 j h).trans (a.2 j h)⟩

/-! ## Registers and the pc -/

theorem onlyCore_setReg (s : State) (k : Fin 2) (rd : Fin 32) (v : Nat) : OnlyCore s (s.setReg k rd v) k := by
  unfold State.setReg; split
  · exact onlyCore_self s k
  · exact onlyCore_updCore s k _

theorem regs_setReg_self {rd : Fin 32} (h : rd ≠ 0) (v : Nat) : (s.setReg k rd v).core[k].regs[rd] = BitVec.ofNat 32 v := by
  rw [State.setReg, if_neg h, core_updCore_self]
  simp

theorem regs_setReg_ne {r rd : Fin 32} (h : r ≠ rd ∨ rd = 0) (v : Nat) : (s.setReg k rd v).core[k].regs[r] = s.core[k].regs[r] := by
  by_cases zero : rd = 0
  · rw [State.setReg, if_pos zero]
  · have other : rd.val ≠ r.val := fun e => h.elim (fun h => h (Fin.ext e.symm)) zero
    rw [State.setReg, if_neg zero, core_updCore_self]
    simp [other]

@[simp] theorem core_setReg_pc (s : State) (k : Fin 2) (rd : Fin 32) (v : Nat) : (s.setReg k rd v).core[k].pc = s.core[k].pc := by
  unfold State.setReg; split
  · rfl
  · rw [core_updCore_self]

@[simp] theorem core_retire_pc (s : State) (k : Fin 2) (n : Nat) : (s.retire k n).core[k].pc = (s.core[k].pc + n) % 2 ^ 32 := by
  rw [State.retire, core_updCore_self]

@[simp] theorem core_retire_regs (s : State) (k : Fin 2) (n : Nat) : (s.retire k n).core[k].regs = s.core[k].regs := by
  rw [State.retire, core_updCore_self]

theorem onlyCore_retire (s : State) (k : Fin 2) (n : Nat) : OnlyCore s (s.retire k n) k := onlyCore_updCore s k _

/-! ## Exceptions (R500, R525, R563) -/

theorem Core.trapped_trap (c : Core) (cause tval : Nat) : c.Trapped (c.trap false cause tval) cause tval := by
  simp [Core.Trapped, Core.trap, Core.machine]

/-- Where no applet runs, the exception is the trap alone. -/
theorem exception_eq_trap (h : s.core[k].level ≠ .p2 ∨ s.running k = none) (cause tval : Nat) :
    s.exception k cause tval = s.updCore k (·.trap false cause tval) := by
  unfold State.exception; dsimp only; split
  · rename_i d hd
    exact if_neg (h.resolve_right (by simp [hd]))
  · rfl

theorem exception_traps (h : s.core[k].level ≠ .p2 ∨ s.running k = none) (cause tval : Nat) :
    OnlyCore s (s.exception k cause tval) k ∧ s.core[k].Trapped (s.exception k cause tval).core[k] cause tval := by
  rw [exception_eq_trap h, core_updCore_self]
  exact ⟨onlyCore_updCore s k _, Core.trapped_trap _ _ _⟩

theorem accessFault_traps (h : s.core[k].level ≠ .p2 ∨ s.running k = none) (w : Who) (x : AccType) (kind a : Nat) :
    OnlyCore s (s.accessFault k w x kind a) k ∧
      Core.Trapped { s.core[k] with pFault := pFaultWord w x kind } (s.accessFault k w x kind a).core[k] (faultCause x) a := by
  have stays : (s.updCore k (fun c => { c with pFault := pFaultWord w x kind })).core[k].level ≠ .p2 ∨
      (s.updCore k (fun c => { c with pFault := pFaultWord w x kind })).running k = none := by
    rw [core_updCore_self]; exact h
  obtain ⟨only, traps⟩ := exception_traps stays (faultCause x) a
  rw [core_updCore_self] at traps
  exact ⟨(onlyCore_updCore s k _).trans only, traps⟩

end Sys2Proof.Machine
end

section
/-! Loads of a core (spec/13_cores.md R503, R513, R515; spec/14_protection.md R549, R550, R558, R563). -/

namespace Sys2Proof.Machine

open Sys2Proof

variable {s : State} {k : Fin 2} {a n : Nat} {signed : Bool} {rd : Fin 32}

/-! ## The value of a load -/

theorem ofLe_lt (l : Bytes) : ofLe l < 256 ^ l.length := by
  induction l with
  | nil => simp [ofLe]
  | cons b l ih =>
    have := b.isLt
    rw [ofLe, List.length_cons, Nat.pow_succ]
    omega

theorem toInt_extend (size : AccSize) {l : Bytes} (hl : l.length = accBytes size) :
    (BitVec.ofNat 32 (extend (ofLe l) (accBytes size) true)).toInt = (BitVec.ofNat (8 * accBytes size) (ofLe l)).toInt := by
  have small := ofLe_lt l
  rw [hl] at small
  generalize ofLe l = v at small ⊢
  rw [BitVec.toInt_eq_toNat_cond, BitVec.toInt_eq_toNat_cond, BitVec.toNat_ofNat, BitVec.toNat_ofNat]
  unfold extend
  cases size
  all_goals
    simp only [accBytes, true_and, Nat.reducePow, Nat.reduceMul, Nat.reduceSub] at small ⊢
    split_ifs <;> omega

theorem toNat_extend (size : AccSize) {l : Bytes} (hl : l.length = accBytes size) :
    (BitVec.ofNat 32 (extend (ofLe l) (accBytes size) false)).toNat = ofLe l := by
  have small := ofLe_lt l
  have wide : 256 ^ accBytes size ≤ 2 ^ 32 := by cases size <;> decide
  rw [hl] at small
  simpa [extend] using Nat.mod_eq_of_lt (small.trans_le wide)

/-- The load has taken `l`: `rd` holds its value, the pc is past the instruction, and nothing else has changed. -/
def Took (s t : State) (k : Fin 2) (n : Nat) (signed : Bool) (rd : Fin 32) (l : Bytes) : Prop :=
  OnlyCore s t k ∧ t.core[k].pc = (s.core[k].pc + s.instrLen k) % 2 ^ 32 ∧
    (∀ r : Fin 32, (r ≠ rd ∨ rd = 0) → t.core[k].regs[r] = s.core[k].regs[r]) ∧
    (rd ≠ 0 → signed = true → t.core[k].regs[rd].toInt = (BitVec.ofNat (8 * n) (ofLe l)).toInt) ∧
    (rd ≠ 0 → signed = false → t.core[k].regs[rd].toNat = ofLe l)

theorem loaded_took (size : AccSize) (l : Bytes) (hl : l.length = accBytes size) :
    Took s (s.loaded k (ofLe l) (accBytes size) signed rd) k (accBytes size) signed rd l := by
  unfold State.loaded Took
  rw [core_retire_pc, core_setReg_pc, core_retire_regs]
  refine ⟨(onlyCore_setReg s k _ _).trans (onlyCore_retire _ k _), rfl, fun r h => regs_setReg_ne h _, fun h e => ?_, fun h e => ?_⟩
  · rw [regs_setReg_self h, e, toInt_extend size hl]
  · rw [regs_setReg_self h, e, toNat_extend size hl]

/-! ## The buffered stores that cover a byte (R515; log 24) -/

/-- The buffered store covers the byte at `a`. -/
def StoreEnt.Covers (e : StoreEnt) (a : Nat) : Prop := e.addr = a / 4 * 4 ∧ e.mask.testBit (a % 4) = true

theorem fwdByte_append (p q : List StoreEnt) (a : Nat) (h : ∀ e ∈ q, ¬ e.Covers a) : fwdByte (p ++ q) a = fwdByte p a := by
  induction q using List.reverseRecOn with
  | nil => rw [List.append_nil]
  | append_singleton q e ih =>
    rw [← ih fun x hx => h x (List.mem_append_left _ hx), ← List.append_assoc]
    unfold fwdByte
    rw [List.foldl_append]
    exact if_neg (h e (by simp))

theorem fwdByte_uncovered {l : List StoreEnt} (h : ∀ e ∈ l, ¬ e.Covers a) : fwdByte l a = none := fwdByte_append [] l a h

theorem fwdByte_newest {p q : List StoreEnt} {e : StoreEnt} (he : e.Covers a) (h : ∀ x ∈ q, ¬ x.Covers a) :
    fwdByte (p ++ e :: q) a = some (BitVec.ofNat 8 (e.data / 256 ^ (a % 4))) := by
  rw [List.append_cons, fwdByte_append _ _ _ h]
  unfold fwdByte
  rw [List.foldl_append]
  exact if_pos he

/-- An aligned access that begins below an aligned end stays below it. -/
theorem accBytes_fits_ldm (size : AccSize) (al : a % accBytes size = 0) (hi : a < 0x04040000) : a + accBytes size ≤ 0x04040000 := by
  cases size <;> simp only [accBytes] at al ⊢ <;> omega

/-! ## The targets of an access (R505, R540) -/

theorem targetOf_sram (w : Who) (lo : 0x20000000 ≤ a) (hi : a < 0x20C00000) : targetOf w a = some 22 := by
  unfold targetOf
  rw [if_neg (by omega), if_neg (by omega), if_neg (by omega), if_neg (by omega), if_pos ⟨lo, hi⟩]

theorem targetOf_ldm (w : Who) (lo : 0x04000000 ≤ a) (hi : a < 0x04040000) : targetOf w a = some (if w.core = some 1 then 25 else 24) := by
  unfold targetOf
  rw [if_neg (by omega), if_pos ⟨lo, hi⟩]

theorem targetOf_flash (w : Who) (lo : 0x10000000 ≤ a) (hi : a < 0x14000000) : targetOf w a = some 20 ∨ targetOf w a = some 21 := by
  unfold targetOf
  rw [if_neg (by omega), if_neg (by omega)]
  by_cases low : a < 0x12000000
  · exact .inl (if_pos ⟨lo, low⟩)
  · rw [if_neg (by omega), if_pos ⟨by omega, hi⟩]
    exact .inr rfl

theorem memByte_ldm {w : Who} (hw : w.core = some k) (lo : 0x04000000 ≤ a) (hi : a < 0x04040000) : s.memByte w a = readByte s.ldm[k] a := by
  unfold State.memByte
  rw [targetOf_ldm w lo hi, hw]
  match k with
  | 0 => rfl
  | 1 => rfl

@[simp] theorem readBytes_length (m : Mem) (a n : Nat) : (readBytes m a n).length = n := by simp [readBytes]

theorem memRead_ldm {w : Who} (hw : w.core = some k) (lo : 0x04000000 ≤ a) (hi : a + n ≤ 0x04040000) :
    s.memRead w a n = readBytes s.ldm[k] a n := by
  refine List.map_congr_left fun i hi => memByte_ldm hw (by omega) ?_
  have := List.mem_range.mp hi
  omega

/-! ## What a load comes to -/

theorem exec_coreLoad (h : s.coreActive k = true) (addr : Word) (size : AccSize) (ecc : Ecc) :
    exec (.coreLoad k addr size signed rd ecc) s = .next (s.coreLoad k addr.toNat (accBytes size) signed rd ecc) :=
  congrArg Host.Outcome.next (if_pos h)

theorem coreLoad_misaligned (mis : a % n ≠ 0) (ecc : Ecc) : s.coreLoad k a n signed rd ecc = s.exception k 4 a := if_pos mis

theorem coreLoad_held (al : a % n = 0) (held : s.prot.holds (s.accWho k) a n = true) (ecc : Ecc) :
    s.coreLoad k a n signed rd ecc = { s with prot := { s.prot with held := s.prot.held ++ [.load k a n signed rd] } } := by
  unfold State.coreLoad; dsimp only
  rw [if_neg (not_not.mpr al), if_pos held]

theorem coreLoad_aligned (al : a % n = 0) (free : s.prot.holds (s.accWho k) a n = false) (ecc : Ecc) :
    s.coreLoad k a n signed rd ecc = s.performLoad k (s.accWho k) a n signed rd ecc := by
  unfold State.coreLoad; dsimp only
  rw [if_neg (not_not.mpr al), free]
  rfl

theorem coreLoad_refused (al : a % n = 0) (free : s.prot.holds (s.accWho k) a n = false) {kind f : Nat}
    (refused : s.prot.check (s.accWho k) .read false a n = some (kind, f)) (ecc : Ecc) :
    s.coreLoad k a n signed rd ecc = s.accessFault k (s.accWho k) .read kind f := by
  rw [coreLoad_aligned al free, State.performLoad, refused]

section

variable (h : s.Allows k .read a n) (ecc : Ecc)

include h

theorem coreLoad_sram (lo : 0x20000000 ≤ a) (hi : a < 0x20C00000) :
    s.coreLoad k a n signed rd ecc = s.loadSram k (s.accWho k) a n signed rd ecc := by
  obtain ⟨al, free, passes⟩ := h
  rw [coreLoad_aligned al free, State.performLoad, passes]
  simp only [targetOf_sram _ lo hi]

theorem coreLoad_ldm (lo : 0x04000000 ≤ a) (hi : a < 0x04040000) :
    s.coreLoad k a n signed rd ecc = s.loadLdm k (s.accWho k) a n signed rd ecc := by
  obtain ⟨al, free, passes⟩ := h
  rw [coreLoad_aligned al free, State.performLoad, passes]
  have target := targetOf_ldm (s.accWho k) lo hi
  split at target
  · simp only [target]
  · simp only [target]

theorem coreLoad_flash (lo : 0x10000000 ≤ a) (hi : a < 0x14000000) :
    s.coreLoad k a n signed rd ecc = s.loadFlash k (s.accWho k) a n signed rd ecc := by
  obtain ⟨al, free, passes⟩ := h
  rw [coreLoad_aligned al free, State.performLoad, passes]
  rcases targetOf_flash (s.accWho k) lo hi with target | target
  · simp only [target]
  · simp only [target]

end

/-- What a load of shared SRAM takes: each byte from the newest buffered store that covers it, else from memory (R515; log 24). -/
def State.sramBytes (s : State) (k : Fin 2) (a n : Nat) : Bytes :=
  (List.range n).map (fun i => (fwdByte s.core[k].sbuf (a + i)).getD (readByte s.mem (a + i)))

@[simp] theorem sramBytes_length (s : State) (k : Fin 2) (a n : Nat) : (s.sramBytes k a n).length = n := by simp [State.sramBytes]

theorem sramBytes_get {i : Nat} (hi : i < n) :
    (s.sramBytes k a n)[i]? = some ((fwdByte s.core[k].sbuf (a + i)).getD (readByte s.mem (a + i))) := by
  simp [State.sramBytes, hi]

theorem loadSram_clean (good : s.badWord a = false) (w : Who) :
    s.loadSram k w a n signed rd .clean = s.loaded k (ofLe (s.sramBytes k a n)) n signed rd := by
  refine if_neg ?_
  simp [good]

theorem sramBad_badWord (s : State) (a : Nat) : (s.sramBad a).badWord a = true := by
  unfold State.badWord State.sramBad; dsimp only; split
  · assumption
  · simp

theorem loadSram_uncorrectable (hn : 0 < n) (empty : s.core[k].sbuf = []) (w : Who) :
    s.loadSram k w a n signed rd .uncorrectable = { s.sramBad a with memError := true }.accessFault k w .read 6 a := by
  refine if_pos ?_
  have uncovered : ∃ i < n, fwdByte (s.coreOf k).sbuf (a + i) = none := ⟨0, hn, by rw [State.coreOf, empty]; rfl⟩
  simpa [sramBad_badWord] using uncovered

theorem loadLdm_clean (good : a / 4 * 4 ∉ (s.ldmBad[k] : List Nat)) {w : Who} (hw : w.core = some k) (lo : 0x04000000 ≤ a)
    (hi : a + n ≤ 0x04040000) : s.loadLdm k w a n signed rd .clean = s.loaded k (ofLe (readBytes s.ldm[k] a n)) n signed rd := by
  rw [← memRead_ldm hw lo hi]
  refine if_neg ?_
  simpa using good

theorem setErase_poison (f : Flc) (b : Nat) (j : Option EraseJob) : (f.setErase b j).poison = f.poison := by
  unfold Flc.setErase; split <;> rfl

/-- A suspend of an erase may log ERASE_STARVED; it touches neither a core nor the poison map (R746, R747). -/
theorem suspendErase_keeps (s : State) (b : Nat) : (s.suspendErase b).core = s.core ∧ (s.suspendErase b).flc.poison = s.flc.poison := by
  unfold State.suspendErase; split
  · split
    · exact ⟨rfl, rfl⟩
    · dsimp only; split
      · exact ⟨(klogRep_logged _ _ _).core, (congrArg Flc.poison (klogRep_logged _ _ _).flc).trans (setErase_poison _ _ _)⟩
      · exact ⟨rfl, setErase_poison _ _ _⟩
  · exact ⟨rfl, rfl⟩

theorem loadFlash_poisoned (bad : s.flc.poisoned (a % 0x10000000 / 512) = true) (w : Who) :
    s.loadFlash k w a n signed rd .clean = (s.suspendErase (a % 0x10000000 / 512 / 512)).accessFault k w .read 7 a := by
  have still : (s.suspendErase (a % 0x10000000 / 512 / 512)).flc.poisoned (a % 0x10000000 / 512) = true := by
    rw [Flc.poisoned, (suspendErase_keeps s _).2]; exact bad
  exact if_pos (by simpa using still)

/-! ## The obligation -/

/-- Settles O41: a load traps, is held, or takes its value from the target of its address. -/
theorem coreLoads : Obligations.CoreLoads := by
  intro k addr size signed rd s active a n w c load faults takes
  have some_bytes : 0 < n := by cases size <;> decide
  have answers (ecc : Ecc) : exec (load ecc) s = .next (s.coreLoad k a n signed rd ecc) := exec_coreLoad active addr size ecc
  refine ⟨fun ecc level mis => ⟨_, answers ecc, ?_⟩, fun ecc al held => ⟨_, answers ecc, coreLoad_held al held ecc⟩,
    fun ecc kind f level al free refused => ⟨_, answers ecc, ?_⟩, fun allowed => ⟨fun lo hi => ⟨fun good => ⟨_, answers _, ?_⟩,
      fun empty level => ⟨_, answers _, ?_⟩⟩, fun lo hi good => ⟨_, answers _, ?_⟩, fun lo hi level bad => ⟨_, answers _, ?_⟩⟩⟩
  · rw [coreLoad_misaligned mis]
    exact exception_traps (.inl level) 4 a
  · rw [coreLoad_refused al free refused]
    exact accessFault_traps (.inl level) w .read kind f
  · rw [coreLoad_sram allowed _ lo hi, loadSram_clean good]
    refine ⟨s.sramBytes k a n, sramBytes_length s k a n, loaded_took size _ (sramBytes_length s k a n), fun i hi => ⟨fun none => ?_, ?_⟩⟩
    · rw [sramBytes_get hi, fwdByte_uncovered none]; rfl
    · intro p e q buffer covers rest
      rw [sramBytes_get hi, buffer, fwdByte_newest covers rest]; rfl
  · rw [coreLoad_sram allowed _ lo hi, loadSram_uncorrectable some_bytes empty]
    obtain ⟨only, traps⟩ := accessFault_traps (s := { s.sramBad a with memError := true }) (.inl level) w .read 6 a
    rw [only.1]
    exact ⟨rfl, sramBad_badWord s a, traps⟩
  · rw [coreLoad_ldm allowed _ lo hi, loadLdm_clean good rfl lo (accBytes_fits_ldm size allowed.1 hi)]
    exact loaded_took size _ (readBytes_length _ _ _)
  · rw [coreLoad_flash allowed _ lo hi, loadFlash_poisoned bad]
    have same := (suspendErase_keeps s (a % 0x10000000 / 512 / 512)).1
    have below : (s.suspendErase (a % 0x10000000 / 512 / 512)).core[k].level ≠ .p2 := by rw [same]; exact level
    have traps := (accessFault_traps (.inl below) w .read 7 a).2
    rw [same] at traps
    exact traps

end Sys2Proof.Machine
end

section
/-! Stores of a core (spec/13_cores.md R516; spec/00_scope.md R13): the obligation asks for no canonical memory (`Mem.wf`, a part of
`State.Inv`), and a list of cells that holds an address twice does not read as written. -/

namespace Sys2Proof.Machine

open Sys2Proof

/-- A running part whose memory lists address 0 twice, and a buffered store of the byte 0 there. -/
def twiceListed : State :=
  { State.reset with
    pwr := { State.reset.pwr with main := .running }
    mem := [(0, 1), (0, 1)]
    core := Vector.replicate 2 { sbuf := [{ addr := 0, mask := 1, data := 0 }] } }

/-- The drain takes the first cell away; the second shows. -/
theorem twiceListed_drains : readByte (landed twiceListed (exec (.storeDrain 0 .clean) twiceListed)).mem 0 = 1 := by decide +kernel

/-- Refutes O42: on a memory that is not in its canonical form a drained store of a zero byte does not read back. -/
theorem not_coreStores : ¬ Obligations.CoreStores := by
  intro h
  obtain ⟨-, drains, -⟩ := h 0 0 .byte 0 .clean twiceListed
  obtain ⟨t, taken, -, written, -⟩ := drains rfl rfl { addr := 0, mask := 1, data := 0 } [] rfl
  have reads : readByte t.mem 0 = 0 := written 0 (by decide) (by decide)
  have shows := twiceListed_drains
  rw [taken] at shows
  exact absurd (reads.symm.trans shows) (by decide)

end Sys2Proof.Machine
end

section
/-! What the Wheel keeps of an applet, apart from where it runs, and its install records: only quarantine, a start and the wait for decisions
change it (spec/13_cores.md R526; spec/21_applets.md R777, R781, R788–R794). -/

namespace Sys2Proof.Machine

open Sys2Proof

/-! ## The predicate -/

/-- An applet without what it keeps on the cores, the install records, and the powered time. -/
structure Dossier where
  app : App
  installs : List Install
  powered : Nat

/-- An applet without what it keeps on the cores. -/
def App.offCores (a : App) : App := { a with cpu := Vector.replicate 2 {} }

/-- The dossier of domain `d`. -/
def State.dossier (s : State) (d : Fin 16) : Dossier := ⟨(s.appOf d).offCores, s.kiln.installs, s.powered⟩

/-- The dossier of domain `d` is `x`; an update of anything else keeps it by definition. -/
def State.Filed (d : Fin 16) (x : Dossier) (s : State) : Prop := s.dossier d = x

variable {d e : Fin 16} {k : Fin 2} {x : Dossier} {s t : State}

theorem State.Filed.self (s : State) (d : Fin 16) : s.Filed d (s.dossier d) := rfl

theorem State.Filed.faults (h : s.Filed d x) : (s.appOf d).faults = x.app.faults := congrArg (fun y => y.app.faults) h
theorem State.Filed.fresh (h : s.Filed d x) : (s.appOf d).fresh = x.app.fresh := congrArg (fun y => y.app.fresh) h
theorem State.Filed.quar (h : s.Filed d x) : (s.appOf d).quar = x.app.quar := congrArg (fun y => y.app.quar) h
theorem State.Filed.barred (h : s.Filed d x) : (s.appOf d).barred = x.app.barred := congrArg (fun y => y.app.barred) h
theorem State.Filed.installs (h : s.Filed d x) : s.kiln.installs = x.installs := congrArg Dossier.installs h
theorem State.Filed.powered (h : s.Filed d x) : s.powered = x.powered := congrArg Dossier.powered h

/-! ## What leaves it alone -/

theorem State.Filed.ite {p : Prop} {_ : Decidable p} (hs : s.Filed d x) (ht : t.Filed d x) : (if p then s else t).Filed d x := by
  split
  · exact hs
  · exact ht

theorem State.Filed.foldl {α : Type} {f : State → α → State} {l : List α} (h : s.Filed d x) (hf : ∀ t a, t.Filed d x → (f t a).Filed d x) :
    (l.foldl f s).Filed d x := List.foldlRecOn (motive := State.Filed d x) _ _ h fun t ht a _ => hf t a ht

theorem State.Filed.logged (h : s.Filed d x) (l : Logged s t) : t.Filed d x :=
  (congrArg (State.dossier · d) l.1).trans h

theorem State.Filed.wlog {code grade : Nat} {detail : Bytes} {rep : Bool} (h : s.Filed d x) : (s.wlog code grade detail rep).Filed d x :=
  h.logged (wlog_logged _ _ _ _ _)

theorem State.Filed.updCore {f : Core → Core} (h : s.Filed d x) : (s.updCore k f).Filed d x := h

theorem State.Filed.onlyCore (h : s.Filed d x) (o : OnlyCore s t k) : t.Filed d x := (congrArg (State.dossier · d) o.1).trans h

theorem appOf_updApp_self (s : State) (d : Fin 16) (f : App → App) : (s.updApp d f).appOf d = f (s.appOf d) := by
  simp [State.updApp, State.appOf]

theorem appOf_updApp_ne (h : d ≠ e) (f : App → App) : (s.updApp e f).appOf d = s.appOf d := by
  have : e.val ≠ d.val := fun eq => h (Fin.ext eq.symm)
  simp [State.updApp, State.appOf, this]

/-- An update of domain `d` itself. -/
theorem State.Filed.change {f : App → App} (h : s.Filed d x) : (s.updApp d f).Filed d { x with app := (f (s.appOf d)).offCores } := by
  subst h
  unfold State.Filed State.dossier
  rw [appOf_updApp_self]; rfl

/-- An update of what some applet keeps on the cores. -/
theorem State.Filed.updApp {f : App → App} (hf : ∀ a, (f a).offCores = a.offCores) (h : s.Filed d x) : (s.updApp e f).Filed d x := by
  by_cases same : d = e
  · subst same
    have changed := h.change (f := f)
    rw [hf] at changed
    subst h
    exact changed
  · subst h
    unfold State.Filed State.dossier
    rw [appOf_updApp_ne same]; rfl

theorem State.Filed.updCpu {f : AppCore → AppCore} (h : s.Filed d x) : (s.updCpu e k f).Filed d x := h.updApp fun _ => rfl

theorem State.Filed.takeOff {st : AppSt} (h : s.Filed d x) : (s.takeOff k st).Filed d x := by
  unfold State.takeOff; split
  · exact h
  · exact h.updCpu.updCore

theorem State.Filed.putOn (h : s.Filed d x) : (s.putOn k e).Filed d x := h.updCpu.updCore

theorem State.Filed.schedule (h : s.Filed d x) : (s.schedule k).Filed d x := by
  unfold State.schedule; split
  · exact h
  · split
    · exact h
    · split
      · exact h.putOn
      · exact h.takeOff.putOn.ite h

theorem State.Filed.reschedule (h : s.Filed d x) : s.reschedule.Filed d x := h.schedule.schedule

theorem State.Filed.stopApplet {st : AppSt} (h : s.Filed d x) : (s.stopApplet e st).Filed d x := by
  unfold State.stopApplet
  exact ((h.takeOff.ite h.updCpu).takeOff.ite (h.takeOff.ite h.updCpu).updCpu).updApp fun _ => rfl

theorem State.Filed.updRing {n : Eng} {r : Nat} {f : Machine.Ring → Machine.Ring} (h : s.Filed d x) : (s.updRing n r f).Filed d x := by
  have set : (s.updEng n (fun y => { y with rings := y.rings.modify r f })).Filed d x := h
  unfold State.updRing; dsimp only
  exact set.ite (set.logged (spySend_logged _ _ _ _))

theorem State.Filed.freeContexts {rings : List (Eng × Nat × Nat × Bool)} (h : s.Filed d x) : (s.freeContexts e rings).Filed d x := by
  unfold State.freeContexts
  refine State.Filed.foldl ?_ fun t r ht => .ite ?_ ht
  · exact h
  unfold State.freeSaggar; split
  · exact State.Filed.ite ht ht
  · exact ht

theorem State.Filed.wipeApplet (h : s.Filed d x) : (s.wipeApplet e).Filed d x := by
  unfold State.wipeApplet; split
  · exact h
  · exact h

theorem State.Filed.chOp {c : Fin 16} {f : Chan → Chan} (h : s.Filed d x) : (s.chOp c f).Filed d x :=
  (congrArg (State.dossier · d) (only_chOp s c f).1).trans h

theorem State.Filed.wheelDecide {c : Fin 16} (h : s.Filed d x) : (s.wheelDecide c).Filed d x := by
  unfold State.wheelDecide; dsimp only; split
  · exact h.chOp
  · exact (h.chOp.ite h).ite h.chOp
  · exact h

theorem State.Filed.measure {i : Fin 24} {level event : Nat} {msg : Bytes} (h : s.Filed d x) : (s.measure i level event msg).Filed d x := by
  unfold State.measure; exact h.ite h

theorem State.Filed.measureApplet {km ki : Fin 24} {em ei : Nat} {img : Bytes} (h : s.Filed d x) : (s.measureApplet km ki em ei img).Filed d x := by
  unfold State.measureApplet; exact (h.measure.ite h).measure

theorem State.Filed.xFreeze (h : s.Filed d x) : (s.xFreeze e).Filed d x := by
  unfold State.xFreeze; exact h.stopApplet.foldl fun _ _ ht => ht.chOp

theorem State.Filed.xRing {m : Manifest} {r : Eng × Nat × Nat × Bool} (h : s.Filed d x) : (s.xRing e m r).Filed d x := by
  unfold State.xRing; exact h.updRing.ite (h.ite h.updRing)

/-! ## Quarantine and restart (R788, R789) -/

/-- What quarantine makes of an applet. -/
def App.quarantined (a : App) (reason : Nat) : App :=
  { a with quar := some reason, startedAt := none, fresh := false, xstep := .none, incoming := none }

theorem State.Filed.markQuarantined {reason mcause mepc mtval pf : Nat} (h : s.Filed d x) :
    (s.markQuarantined d reason mcause mepc mtval pf).Filed d { x with app := x.app.quarantined reason } := by
  subst h
  unfold State.markQuarantined
  exact (State.Filed.self s d).change.wlog

theorem State.Filed.quarantine {reason mcause mepc mtval pf : Nat} (h : s.Filed d x) :
    (s.quarantine d reason mcause mepc mtval pf).Filed d { x with app := x.app.quarantined reason } := by
  unfold State.quarantine; dsimp only
  exact ((h.stopApplet.foldl fun _ _ ht => ht.updRing).freeContexts.wipeApplet.foldl fun _ _ ht => ht.wheelDecide).markQuarantined.reschedule

theorem reschedule_faults (s : State) (d : Fin 16) : (s.reschedule.appOf d).faults = (s.appOf d).faults := (State.Filed.self s d).reschedule.faults

theorem startApplet_faults (s : State) (d : Fin 16) (m : Manifest) (p : Placed) (bank first : Nat) (img : Bytes) :
    ((s.startApplet d m p bank first img).appOf d).faults = (s.appOf d).faults := by
  unfold State.startApplet
  exact (State.Filed.self s.tick1 d).change.wipeApplet.faults

theorem awaitDecisions_faults (s : State) (d : Fin 16) (fresh : Bool) : ((s.awaitDecisions d fresh).appOf d).faults = (s.appOf d).faults := by
  unfold State.awaitDecisions; dsimp only
  rw [appOf_updApp_self]

/-- A restart keeps the faults of the last 24 h (R789). -/
theorem restartApplet_faults (s : State) (d : Fin 16) : ((s.restartApplet d).appOf d).faults = (s.appOf d).faults := by
  unfold State.restartApplet; split
  · dsimp only
    rw [reschedule_faults, awaitDecisions_faults, startApplet_faults]
    exact ((State.Filed.self s d).measureApplet.xFreeze.foldl fun _ _ ht => ht.xRing).freeContexts.wipeApplet.faults
  · rfl

/-! ## An applet fault (R526, R788, R789, R794) -/

section

variable {mcause mepc mtval pf : Nat}

/-- The applet has stopped, and the fault is logged and reported. -/
theorem State.Filed.stopped {detail : Bytes} (h : s.Filed d x) : ((s.stopApplet d .exchanging).wlog 0x0A01 0 detail true).Filed d x :=
  h.stopApplet.wlog

/-- The first fault of a fresh image quarantines it with reason 0x08 and bars it. -/
theorem State.Filed.fault_fresh (h : s.Filed d x) (fresh : x.app.fresh = true) :
    ((s.appletFault d mcause mepc mtval pf).appOf d).quar = some 8 ∧
      ((s.appletFault d mcause mepc mtval pf).appOf d).barred = (s.installOf d).map (·.digest) := by
  unfold State.appletFault; dsimp only
  have stopped := h.stopped (detail := faultDetail d 0 mcause (mepc - (s.appOf d).imgAt) (s.reportAddr d mtval) pf)
  generalize State.wlog _ _ _ _ _ = u at stopped ⊢
  rw [if_pos (stopped.fresh.trans fresh), appOf_updApp_self]
  have out := stopped.quarantine (reason := 8) (mcause := mcause) (mepc := mepc - (s.appOf d).imgAt) (mtval := s.reportAddr d mtval) (pf := pf)
  exact ⟨out.quar, by rw [State.installOf, out.installs, State.installOf, h.installs]⟩

/-- Any other fault is remembered; the third within 24 h of powered time quarantines the applet with reason 0x07. -/
theorem State.Filed.fault_again (h : s.Filed d x) (seasoned : x.app.fresh = false) :
    ((s.appletFault d mcause mepc mtval pf).appOf d).faults.head? = some x.powered ∧
      (2 ≤ x.app.faults.length → (∀ t ∈ x.app.faults, x.powered < t + 2831155200) →
        ((s.appletFault d mcause mepc mtval pf).appOf d).quar = some 7) := by
  unfold State.appletFault; dsimp only
  have stopped := h.stopped (detail := faultDetail d 0 mcause (mepc - (s.appOf d).imgAt) (s.reportAddr d mtval) pf)
  generalize State.wlog _ _ _ _ _ = u at stopped ⊢
  rw [if_neg (by rw [stopped.fresh, seasoned]; decide), stopped.faults, stopped.powered]
  have remembered := stopped.change (f := fun a => { a with faults := x.powered :: x.app.faults.filter fun t => decide (x.powered < t + 2831155200) })
  split
  · exact ⟨congrArg List.head? remembered.quarantine.faults, fun _ _ => remembered.quarantine.quar⟩
  · rename_i few
    refine ⟨by rw [restartApplet_faults, appOf_updApp_self]; rfl, fun two near => absurd ?_ few⟩
    rwa [List.filter_eq_self.mpr (by simpa using near)]

end

end Sys2Proof.Machine
end

section
/-! Machine-mode registers (spec/13_cores.md R500, R501, R503, R504, R510, R525; spec/14_protection.md R562, R565; spec/17_digest.md R648):
the handover, the IPI, the CSRs and two registers of the register space. -/

namespace Sys2Proof.Machine

open Sys2Proof

variable {s : State} {k j : Fin 2} {v : Word}

/-! ## A core that is given to an applet or taken back (R777, R781) -/

/-- What that changes of the core; a core that runs still runs. -/
def Core.Ceded (c d : Core) : Prop :=
  d = { c with level := d.level, domain := d.domain, regs := d.regs, pc := d.pc, tw := d.tw, wfi := d.wfi } ∧ (c.wfi = false → d.wfi = false)

theorem Core.Ceded.refl (c : Core) : c.Ceded c := ⟨rfl, id⟩

theorem Core.Ceded.trans {c d e : Core} (a : c.Ceded d) (b : d.Ceded e) : c.Ceded e := ⟨by rw [b.1, a.1], b.2 ∘ a.2⟩

theorem updCore_ceded {f : Core → Core} (h : ∀ c : Core, c.Ceded (f c)) (s : State) (k j : Fin 2) : s.core[j].Ceded (s.updCore k f).core[j] := by
  by_cases same : j = k
  · rw [same, core_updCore_self]; exact h _
  · rw [core_updCore_ne f same]; exact .refl _

theorem takeOff_ceded (s : State) (k j : Fin 2) (st : AppSt) : s.core[j].Ceded (s.takeOff k st).core[j] := by
  unfold State.takeOff; split
  · exact .refl _
  · exact updCore_ceded (f := fun x => { x with level := .p1 }) (fun _ => ⟨rfl, id⟩) _ k j

theorem putOn_ceded (s : State) (k j : Fin 2) (d : Fin 16) : s.core[j].Ceded (s.putOn k d).core[j] :=
  updCore_ceded (fun _ => ⟨rfl, fun _ => rfl⟩) _ k j

theorem schedule_ceded (s : State) (k j : Fin 2) : s.core[j].Ceded (s.schedule k).core[j] := by
  unfold State.schedule; split
  · exact .refl _
  · split
    · exact .refl _
    · split
      · exact putOn_ceded _ _ _ _
      · split
        · exact (takeOff_ceded _ _ _ _).trans (putOn_ceded _ _ _ _)
        · exact .refl _

theorem reschedule_ceded (s : State) (j : Fin 2) : s.core[j].Ceded s.reschedule.core[j] := (schedule_ceded s 0 j).trans (schedule_ceded _ 1 j)

/-! ## An access in machine mode, and in U mode -/

theorem csrAccess_machine (active : s.coreActive k = true) (level : s.core[k].level ≠ .p2) (f : State → State) :
    s.csrAccess k f = (f s).retire k 4 := by
  have machine : (s.coreOf k).machine = true := bne_iff_ne.mpr level
  rw [State.csrAccess, active, machine]; rfl

theorem csrAccess_user (active : s.coreActive k = true) (level : s.core[k].level = .p2) (f : State → State) :
    s.csrAccess k f = s.exception k 2 (ofLe (s.memRead (s.accWho k) (s.coreOf k).pc 4)) := by
  have user : (s.coreOf k).machine = false := bne_eq_false_iff_eq.mpr level
  rw [State.csrAccess, active, user]; rfl

/-- In U mode each of these is an illegal instruction (R500, R525). -/
theorem illegal_in_user (active : s.coreActive k = true) (level : s.core[k].level = .p2) (idle : s.running k = none) :
    ∀ i ∈ [Instr.pHandover k, .ipiRaise k, .ipiClear k, .registerWrite k (.csr 0x340) v], Does i s (fun t => OnlyCore s t k ∧
      ∃ x, s.core[k].Trapped t.core[k] 2 x) := by
  have traps (x : Nat) : OnlyCore s (s.exception k 2 x) k ∧ ∃ y, s.core[k].Trapped (s.exception k 2 x).core[k] 2 y :=
    let ⟨only, trapped⟩ := exception_traps (.inr idle) 2 x
    ⟨only, x, trapped⟩
  have user : (s.coreOf k).machine = false := bne_eq_false_iff_eq.mpr level
  intro i hi
  simp only [List.mem_cons, List.not_mem_nil, or_false] at hi
  rcases hi with rfl | rfl | rfl | rfl
  · exact ⟨_, congrArg Host.Outcome.next (csrAccess_user active level _), traps _⟩
  · exact ⟨_, congrArg Host.Outcome.next (csrAccess_user active level _), traps _⟩
  · exact ⟨_, congrArg Host.Outcome.next (csrAccess_user active level _), traps _⟩
  · exact ⟨_, congrArg Host.Outcome.next (if_pos (by simp [active, user])), traps _⟩

/-! ## The handover (R501, R503; spec/17_digest.md R648) -/

/-- A core with P_LEVEL set, in machine mode. -/
def Core.handedOver (c : Core) : Core := { c with pLevel := true, level := .p1 }

theorem handover_core (s : State) (k : Fin 2) : (s.handover k).core[k] = s.core[k].handedOver := by
  have : (s.handover k).core = (s.updCore k Core.handedOver).core := by
    unfold State.handover; split <;> rfl
  simp only [this, core_updCore_self]

theorem handover_dig (s : State) (k : Fin 2) : (s.handover k).dig = { s.dig with bootLock := s.dig.bootLock || decide (k = 0) } := by
  unfold State.handover
  by_cases first : k = 0
  · simp [first]
  · simp [first]

/-- The instruction retires on a core that is otherwise as it was. -/
theorem core_retire (s : State) (k : Fin 2) (n : Nat) : (s.retire k n).core[k] = { s.core[k] with
    pc := (s.core[k].pc + n) % 2 ^ 32, minstret := (s.retire k n).core[k].minstret, icache := (s.retire k n).core[k].icache } := by
  rw [State.retire, core_updCore_self]

/-! ## The IPI (R503, R504) -/

theorem otherCore_ne (k : Fin 2) : otherCore k ≠ k := by revert k; decide

theorem updCore_updCore (s : State) (k : Fin 2) (f g : Core → Core) : (s.updCore k f).updCore k g = s.updCore k (fun c => g (f c)) := by
  simp [State.updCore, State.coreOf]

/-- A core that has been sent the interrupt. -/
def Core.signalled (c : Core) : Core := { c with msip := true, wfi := if c.pLevel && !c.msie then c.wfi else false }

/-- Core 1, in its boot wait until then, that has been sent the interrupt. -/
def Core.booted (c : Core) : Core := { c with msip := true, wfi := false, pLevel := true, level := .p1 }

theorem ipiRaise_pending (h : s.core[otherCore k].msip = true) : s.ipiRaise k = s := if_pos h

theorem ipiRaise_of_handedOver (clear : s.core[otherCore k].msip = false) (h : s.core[otherCore k].pLevel = true) :
    s.ipiRaise k = s.updCore (otherCore k) Core.signalled := by
  have up : (s.coreOf (otherCore k)).pLevel = true := h
  have low : (s.coreOf (otherCore k)).msip = false := clear
  unfold State.ipiRaise; dsimp only
  rw [low, up, Bool.not_true, Bool.and_false]
  rfl

theorem ipiRaise_of_boot (first : k = 0) (clear : s.core[otherCore k].msip = false) (boot : s.core[otherCore k].pLevel = false) :
    s.ipiRaise k = (s.updCore (otherCore k) Core.booted).reschedule := by
  have down : (s.coreOf (otherCore k)).pLevel = false := boot
  have low : (s.coreOf (otherCore k)).msip = false := clear
  have one : otherCore k = 1 := by rw [first]; rfl
  have twice := updCore_updCore s (otherCore k) Core.signalled (fun x => { x with wfi := false, pLevel := true, level := .p1 })
  rw [show Core.booted = fun c => { c.signalled with wfi := false, pLevel := true, level := .p1 } from rfl, ← twice]
  unfold State.ipiRaise; dsimp only
  rw [low, down, one]
  rfl

section

variable (active : s.coreActive k = true) (level : s.core[k].level ≠ .p2)

include active level

/-- In machine mode the access does what it does, and retires. -/
theorem csrAccess_does {i : Instr} {f : State → State} {P : State → Prop} (meaning : exec i s = .next (s.csrAccess k f))
    (does : P ((f s).retire k 4)) : Does i s P :=
  ⟨_, meaning.trans (congrArg Host.Outcome.next (csrAccess_machine active level f)), does⟩

theorem pHandover_first (h : s.core[k].pLevel = false) : Does (.pHandover k) s (fun t => t.core[k].pc = (s.core[k].pc + 4) % 2 ^ 32 ∧
    t.core[k].pLevel = true ∧ t.core[k].level = .p1 ∧ t.dig.bootLock = (s.dig.bootLock || decide (k = 0)) ∧ t.dig.meas = s.dig.meas) := by
  refine csrAccess_does active level rfl ?_
  rw [if_neg (by rw [State.coreOf, h]; decide), core_retire, handover_core, State.retire, State.updCore_dig, handover_dig]
  exact ⟨rfl, rfl, rfl, rfl, rfl⟩

theorem pHandover_again (h : s.core[k].pLevel = true) : Does (.pHandover k) s (fun t => OnlyCore s t k ∧
    t.core[k].pc = (s.core[k].pc + 4) % 2 ^ 32 ∧ t.core[k].pLevel = true) := by
  refine csrAccess_does active level rfl ?_
  rw [show (s.coreOf k).pLevel = true from h, if_pos rfl]
  refine ⟨onlyCore_retire s k 4, core_retire_pc s k 4, ?_⟩
  rw [core_retire]; exact h

theorem ipiClear_does : Does (.ipiClear k) s (fun t => OnlyCore s t k ∧ t.core[k].pc = (s.core[k].pc + 4) % 2 ^ 32 ∧ t.core[k].msip = false) := by
  refine csrAccess_does active level rfl ⟨(onlyCore_updCore s k _).trans (onlyCore_retire _ k 4), ?_⟩
  rw [core_retire, core_updCore_self]
  exact ⟨rfl, rfl⟩

theorem ipiRaise_handedOver (h : s.core[otherCore k].pLevel = true) : Does (.ipiRaise k) s (fun t =>
    t.core[k].pc = (s.core[k].pc + 4) % 2 ^ 32 ∧ t.core[otherCore k].msip = true ∧ t.core[otherCore k].pc = s.core[otherCore k].pc) := by
  refine csrAccess_does active level rfl ?_
  rw [core_retire_pc, State.retire, core_updCore_ne _ (otherCore_ne k)]
  cases raised : s.core[otherCore k].msip with
  | true =>
    rw [ipiRaise_pending raised]
    exact ⟨rfl, raised, rfl⟩
  | false =>
    rw [ipiRaise_of_handedOver raised h, core_updCore_self, core_updCore_ne _ (otherCore_ne k).symm]
    exact ⟨rfl, rfl, rfl⟩

theorem ipiRaise_boots (first : k = 0) (clear : s.core[otherCore k].msip = false) (boot : s.core[otherCore k].pLevel = false) :
    Does (.ipiRaise k) s (fun t => t.core[otherCore k].msip = true ∧ t.core[otherCore k].pLevel = true ∧ t.core[otherCore k].wfi = false) := by
  refine csrAccess_does active level rfl ?_
  rw [State.retire, core_updCore_ne _ (otherCore_ne k), ipiRaise_of_boot first clear boot]
  obtain ⟨ceded, runs⟩ := reschedule_ceded (s.updCore (otherCore k) Core.booted) (otherCore k)
  rw [core_updCore_self] at ceded runs
  refine ⟨?_, ?_, runs rfl⟩
  · rw [ceded]; rfl
  · rw [ceded]; rfl

/-! ## CSRs (R500, R503; log 22) -/

/-- A CSR that a write of machine mode reaches takes `f v` (the two with effects of their own, 0x7C1 and 0x7C3, apart); what `P` says of
the core is said of it once the write has retired. -/
theorem csr_does {n : Nat} {f : Nat → Core} {P : Core → Prop} (plain : n ≠ 0x7C1 ∧ n ≠ 0x7C3)
    (takes : ∀ x, s.core[k].csrWrite n x = some (f x)) (pc : (f v.toNat).pc = s.core[k].pc)
    (does : ∀ p m i, P { f v.toNat with pc := p, minstret := m, icache := i }) :
    Does (.registerWrite k (.csr n) v) s (fun t => OnlyCore s t k ∧ t.core[k].pc = (s.core[k].pc + 4) % 2 ^ 32 ∧ P t.core[k]) := by
  have there : s.csrThere k n = true := by rw [State.csrThere, State.coreOf, takes]; simp
  have machine : (s.coreOf k).machine = true := bne_iff_ne.mpr level
  have stores : s.csrStore k n v.toNat = s.updCore k (fun _ => f v.toNat) := by
    unfold State.csrStore; split
    · exact absurd rfl plain.1
    · exact absurd rfl plain.2
    · rw [State.coreOf, takes]
  refine csrAccess_does active level (congrArg Host.Outcome.next (if_neg (by simp [machine, there]))) ?_
  rw [stores]
  refine ⟨(onlyCore_updCore s k _).trans (onlyCore_retire _ k 4), ?_, ?_⟩
  · rw [core_retire_pc, core_updCore_self, pc]
  · rw [core_retire, core_updCore_self]
    exact does _ _ _

end

/-! ## The register space (spec/14_protection.md R562, R565) -/

theorem spaceWrite_does {a : Nat} (runs : s.mainRuns = true) (held : s.prot.held = []) {p : Prot}
    (inside : 0x30000000 ≤ a ∧ a < 0x30130000) (writes : s.regWrite k (a / 4 * 4) 4 v.toNat = { s with prot := p })
    (same : p.held = s.prot.held) :
    exec (.registerWrite k (.space a) v) s = .next { s with prot := p } := by
  refine congrArg Host.Outcome.next ((if_pos (by simp [runs, inside])).trans ?_)
  rw [writes, State.resumeCores, same, held]
  rfl

theorem probeBase_does (runs : s.mainRuns = true) (held : s.prot.held = []) : Does (.registerWrite k (.space 0x30030840) v) s (fun t =>
    t = { s with prot := { s.prot with probeBase := v.toNat } }) := by
  refine ⟨_, spaceWrite_does (p := { s.prot with probeBase := v.toNat }) runs held (by decide) ?_ rfl, rfl⟩
  conv => rhs; rw [← Nat.mod_eq_of_lt v.isLt]
  rfl

/-- What a write of ones clears of the sticky bits (R565). -/
def Prot.unstick (p : Prot) (v : Word) : Prot :=
  { p with writeLocked := p.writeLocked && !v.getLsbD 1, commitRefused := p.commitRefused && !v.getLsbD 0 }

theorem sticky_does (runs : s.mainRuns = true) (held : s.prot.held = []) : Does (.registerWrite k (.space 0x30030810) v) s (fun t =>
    t.prot.writeLocked = (s.prot.writeLocked && !v.getLsbD 1) ∧ t.prot.commitRefused = (s.prot.commitRefused && !v.getLsbD 0) ∧
      t = { s with prot := t.prot }) := by
  refine ⟨_, spaceWrite_does (p := s.prot.unstick v) runs held (by decide) ?_ rfl, rfl, rfl, rfl⟩
  unfold Prot.unstick BitVec.getLsbD
  conv => rhs; rw [← Nat.mod_eq_of_lt v.isLt]
  rfl

/-! ## The obligation -/

/-- Settles O44, register by register. -/
theorem machineRegisters : Obligations.MachineRegisters := by
  intro k v s c o next csr
  refine ⟨fun active level => ⟨pHandover_first active level, pHandover_again active level, ipiRaise_handedOver active level,
    ipiRaise_boots active level, ipiClear_does active level, ?_, ?_, ?_, ?_, ?_, ?_, ?_⟩, illegal_in_user,
    fun runs held => ⟨probeBase_does runs held, sticky_does runs held⟩⟩
  · exact csr_does (P := fun d => d.mie = v.getLsbD 3 ∧ d.mprv = v.getLsbD 17 ∧ d.tw = v.getLsbD 21) active level (by decide) (fun _ => rfl) rfl
      fun _ _ _ => ⟨rfl, rfl, rfl⟩
  · exact csr_does (P := fun d => d.msie = v.getLsbD 3 ∧ d.meie = v.getLsbD 11) active level (by decide) (fun _ => rfl) rfl
      fun _ _ _ => ⟨rfl, rfl⟩
  · exact csr_does (P := fun d => d.mtvec = _) active level (by decide) (fun _ => rfl) rfl fun _ _ _ => rfl
  · exact csr_does (P := fun d => d.mscratch = _) active level (by decide) (fun _ => rfl) rfl fun _ _ _ => rfl
  · exact csr_does (P := fun d => d.mepc = _) active level (by decide) (fun _ => rfl) rfl fun _ _ _ => rfl
  · exact csr_does (P := fun d => d.domain = _) active level (by decide) (fun _ => rfl) rfl fun _ _ _ => rfl
  · exact csr_does (P := fun d => d.ienable = _) active level (by decide) (fun _ => rfl) rfl fun _ _ _ => rfl

end Sys2Proof.Machine
end

section
/-! Exceptions, interrupts and parity errors of a core (spec/13_cores.md R500, R511, R525–R527; log 22). -/

namespace Sys2Proof.Machine

open Sys2Proof

variable {s : State} {k : Fin 2}

/-! ## Exceptions in U mode (R525, R526) -/

/-- The type of access that a cause reports. -/
def faultType (cause : Nat) : Option AccType := match cause with | 1 => some .exec | 5 => some .read | 7 => some .write | _ => none

/-- P_FAULT takes the fault of an access. -/
def Core.faulting (c : Core) (w : Who) (type : Option AccType) (kind : Nat) : Core :=
  match type with | some x => { c with pFault := pFaultWord w x kind } | none => c

/-- The same in the state. -/
def State.faulting (s : State) (k : Fin 2) (type : Option AccType) (kind : Nat) : State :=
  match type with | some x => s.updCore k (fun c => { c with pFault := pFaultWord (s.accWho k) x kind }) | none => s

theorem core_faulting (s : State) (k : Fin 2) (type : Option AccType) (kind : Nat) :
    OnlyCore s (s.faulting k type kind) k ∧ (s.faulting k type kind).core[k] = s.core[k].faulting (s.accWho k) type kind := by
  unfold State.faulting Core.faulting
  cases type with
  | none => exact ⟨onlyCore_self s k, rfl⟩
  | some x => exact ⟨onlyCore_updCore s k _, core_updCore_self s k _⟩

theorem Core.faulting_level (c : Core) (w : Who) (type : Option AccType) (kind : Nat) : (c.faulting w type kind).level = c.level := by
  cases type <;> rfl

theorem exec_exception {cause : Fin 8} (active : s.coreActive k = true) (level : s.core[k].level = .p2) (some_cause : cause ≠ 0)
    (mtval : Word) (kind : Fin 9) : exec (.exception k cause mtval kind) s =
      .next ((s.faulting k (faultType cause.val) kind.val).exception k cause.val mtval.toNat) := by
  have user : (s.coreOf k).level = .p2 := level
  refine congrArg Host.Outcome.next ((if_pos (by simp [active, user, some_cause])).trans ?_)
  fin_cases cause <;> rfl

/-- Where applet `d` runs, the exception is a fault of it. -/
theorem exception_faults {d : Fin 16} (level : s.core[k].level = .p2) (runs : s.running k = some d) (cause tval : Nat) :
    s.exception k cause tval =
      ((s.updCore k (·.trap false cause tval)).appletFault d cause (s.coreOf k).pc tval (s.coreOf k).pFault).reschedule := by
  unfold State.exception
  rw [runs]
  exact if_pos level

/-- What the Wheel does of it, as the obligation says it: the fault is remembered, and the third within 24 h quarantines the applet; a fresh
image is barred. -/
theorem appletFault_judges {u : State} {d : Fin 16} {cause epc tval pf : Nat} (filed : u.Filed d (s.dossier d)) :
    let t := (u.appletFault d cause epc tval pf).reschedule
    (s.app[d].fresh = false → t.app[d].faults.head? = some s.powered ∧
      (2 ≤ s.app[d].faults.length → (∀ x ∈ s.app[d].faults, s.powered < x + 2831155200) → t.app[d].quar = some 7)) ∧
    (s.app[d].fresh = true → t.app[d].quar = some 8 ∧ t.app[d].barred = (s.installOf d).map (fun x => x.digest)) := by
  have again := filed.fault_again (mcause := cause) (mepc := epc) (mtval := tval) (pf := pf)
  have first := filed.fault_fresh (mcause := cause) (mepc := epc) (mtval := tval) (pf := pf)
  have same : u.installOf d = s.installOf d := by unfold State.installOf; rw [filed.installs]; rfl
  rw [same] at first
  generalize u.appletFault d cause epc tval pf = v at again first ⊢
  have kept := (State.Filed.self v d).reschedule
  refine ⟨fun seasoned => ?_, fun fresh => ?_⟩
  · obtain ⟨latest, third⟩ := again seasoned
    exact ⟨(congrArg List.head? kept.faults).trans latest, fun two near => kept.quar.trans (third two near)⟩
  · obtain ⟨quar, barred⟩ := first fresh
    exact ⟨kept.quar.trans quar, kept.barred.trans barred⟩

/-! ## Interrupts (R527) -/

theorem interrupt_absent (h : s.meipOf k = false) :
    Does (.interrupt k) s (fun t => OnlyCore s t k ∧ t.core[k] = { s.core[k] with meip := false }) := by
  have nothing : s.takeInterrupt k = s.updCore k (fun x => { x with meip := false }) := by
    unfold State.takeInterrupt; dsimp only
    rw [h]
    exact if_pos (by simp)
  exact ⟨_, congrArg Host.Outcome.next nothing, onlyCore_updCore s k _, core_updCore_self s k _⟩

/-- A core that executes instructions waits for nothing, and its island runs. -/
theorem coreActive_free (active : s.coreActive k = true) : s.mainRuns = true ∧ (s.coreOf k).wfi = false ∧ (s.coreOf k).fence = false ∧
    (s.coreOf k).stalled = none ∧ s.prot.commits.contains k = false ∧ s.prot.held.any (fun h => h.ofCore k) = false := by
  unfold State.coreActive at active
  simp only [Bool.and_eq_true, Bool.not_eq_true', Option.isNone_iff_eq_none] at active
  obtain ⟨⟨⟨⟨⟨⟨runs, awake⟩, noFence⟩, noStall⟩, -⟩, noCommit⟩, noHeld⟩ := active
  exact ⟨runs, awake, noFence, noStall, noCommit, noHeld⟩

/-- The interrupt is taken: the trap, the sources served, the return, then the core is scheduled. -/
theorem takeInterrupt_taken (active : s.coreActive k = true) (asserted : s.meipOf k = true) (enabled : s.core[k].meie = true)
    (unmasked : s.core[k].level = .p2 ∨ s.core[k].mie = true) : ∃ u : State, s.takeInterrupt k = u.reschedule ∧
      u.irq = s.irq - (s.irq &&& (s.core[k].ienable &&& 0x24001)) ∧ u.memError = (s.memError && !s.core[k].ienable.testBit 16) ∧
      u.core[k].mepc = s.core[k].pc ∧ u.core[k].mcause = 2 ^ 31 + 11 := by
  obtain ⟨runs, awake, noFence, noStall, noCommit, noHeld⟩ := coreActive_free active
  have on : (s.coreOf k).meie = true := enabled
  have takes : ((s.coreOf k).level != .p2 && !(s.coreOf k).mie) = false := by
    rcases unmasked with level | mie
    · simp [show (s.coreOf k).level = .p2 from level]
    · simp [show (s.coreOf k).mie = true from mie]
  refine ⟨_, (if_neg (by rw [runs, awake, noFence, noStall, noCommit, noHeld, asserted, on]; simp)).trans (if_neg (by rw [takes]; decide)),
    rfl, rfl, ?_, ?_⟩
  · simp [State.serveIrq, Core.mret, Core.trap, State.coreOf]
  · simp [State.serveIrq, Core.mret, Core.trap, State.coreOf]

theorem interrupt_does (active : s.coreActive k = true) (asserted : s.meipOf k = true) (enabled : s.core[k].meie = true)
    (unmasked : s.core[k].level = .p2 ∨ s.core[k].mie = true) : Does (.interrupt k) s (fun t =>
      t.irq = s.irq - (s.irq &&& (s.core[k].ienable &&& 0x24001)) ∧ t.memError = (s.memError && !s.core[k].ienable.testBit 16) ∧
      t.core[k].mepc = s.core[k].pc ∧ t.core[k].mcause = 2 ^ 31 + 11) := by
  obtain ⟨u, taken, irq, memError, mepc, mcause⟩ := takeInterrupt_taken active asserted enabled unmasked
  have ran : u.reschedule = _ := reschedule_ran u
  obtain ⟨ceded, -⟩ := reschedule_ceded u k
  exact ⟨_, congrArg Host.Outcome.next taken, (congrArg State.irq ran).trans irq, (congrArg State.memError ran).trans memError,
    (congrArg Core.mepc ceded).trans mepc, (congrArg Core.mcause ceded).trans mcause⟩

/-! ## Parity errors of the cache (R511) -/

theorem cacheParityError_does {addr : Word} (active : s.coreActive k = true) (cached : addr.toNat / 32 * 32 ∈ s.core[k].icache) :
    Does (.cacheParityError k addr) s (fun t => OnlyCore s t k ∧ t.core[k].parity = sat16 s.core[k].parity ∧ t.core[k].pc = s.core[k].pc ∧
      t.core[k].regs = s.core[k].regs) := by
  have hit : (s.coreOf k).icache.contains (addr.toNat / 32 * 32) = true := List.elem_eq_true_of_mem cached
  refine ⟨_, congrArg Host.Outcome.next (if_pos (by rw [active, hit]; rfl)), onlyCore_updCore s k _, ?_⟩
  rw [core_updCore_self]
  exact ⟨rfl, rfl, rfl⟩

/-! ## The obligation -/

/-- Settles O43: an exception is a trap, and a fault of the applet that runs; what the Wheel keeps of that applet says the rest. -/
theorem coreTraps : Obligations.CoreTraps := by
  intro k cause mtval addr kind s c type c1
  refine ⟨fun active level some_cause => ?_, interrupt_absent, interrupt_does, cacheParityError_does⟩
  obtain ⟨only, core⟩ := core_faulting s k (faultType cause.val) kind.val
  refine ⟨fun idle => ⟨_, exec_exception active level some_cause mtval kind, ?_⟩,
    fun d runs => ⟨_, exec_exception active level some_cause mtval kind, ?_⟩⟩
  · have idle' : (s.faulting k (faultType cause.val) kind.val).running k = none := by rw [only.1]; exact idle
    obtain ⟨traps, trapped⟩ := exception_traps (.inr idle') cause.val mtval.toNat
    rw [core] at trapped
    exact ⟨only.trans traps, trapped⟩
  · have runs' : (s.faulting k (faultType cause.val) kind.val).running k = some d := by rw [only.1]; exact runs
    have level' : (s.faulting k (faultType cause.val) kind.val).core[k].level = .p2 := by rw [core, Core.faulting_level]; exact level
    rw [exception_faults level' runs']
    exact appletFault_judges (((State.Filed.self s d).onlyCore only).updCore)

end Sys2Proof.Machine
end

section
/-! Kernel calls on the link (spec/13_cores.md R528, R530; spec/21_applets.md R783): the obligation asks for no canonical memory (`Mem.wf`, a
part of `State.Inv`), and a buffer whose cells a list holds twice does not read as the call has written it. -/

namespace Sys2Proof.Machine

open Sys2Proof

/-- The applet of domain 0 in U mode on core 0, about to make LINK_ATN for its channel 0 with a buffer in local data memory; an ATN of one
zero byte is held, and local data memory lists the buffer's first byte twice. -/
def atnHeld : State :=
  let running : AppCore := { st := .running }
  let manifest : Manifest := { calls := 2 ^ 0x21, channels := [0] }
  let regs : Vector Word 32 := ((Vector.replicate 32 0).set 17 0x21).set 11 0x04000000
  let writable : Region := { start := 0x04000000, stop := 18, perm := 2 ^ 31 + 2 ^ 7 }
  let cells : Mem := [(0x04000000, 1), (0x04000000, 1)]
  { State.reset with
    pwr := { State.reset.pwr with main := .running }
    core := Vector.replicate 2 { level := .p2, regs := regs }
    ldm := Vector.replicate 2 cells
    prot := { State.reset.prot with gate := State.reset.prot.gate.set 192 writable }
    link := State.reset.link.set 0 { State.reset.link[0] with atn := [[0]] }
    app := State.reset.app.set 0 { State.reset.app[0] with man := some manifest, cpu := Vector.replicate 2 running } }

/-- The call it makes. -/
def atnCall : KCall := { core := 0, dom := 0, args := [0, 0x04000000, 0, 0, 0, 0] }

theorem atnHeld_calls : atnHeld.Calls 0x21 atnCall := by unfold State.Calls; decide +kernel

theorem atnHeld_buf : atnHeld.Buf atnCall .write (atnCall.a 1) 240 := by unfold State.Buf; decide +kernel

/-- The write of the zero byte takes the first cell away; the second shows. -/
theorem atnHeld_writes : (landed atnHeld (exec (.linkAtn 0) atnHeld)).memRead atnCall.who 0x04000000 1 = [1] := by decide +kernel

/-- Refutes O48: where local data memory is not in its canonical form, a payload with a zero byte does not read back from the buffer of
LINK_ATN. -/
theorem not_linkCalls : ¬ Obligations.LinkCalls := by
  intro h
  obtain ⟨-, link, -⟩ := h 0x21 atnCall 0 atnHeld
  obtain ⟨-, atn, -⟩ := link atnHeld_calls (by decide +kernel)
  obtain ⟨-, gives⟩ := atn rfl atnHeld_buf
  obtain ⟨t, taken, -, ⟨reads, -⟩, -⟩ := gives [0] [] rfl (by decide)
  have shows := atnHeld_writes
  rw [show atnCall.core = 0 from rfl] at taken
  rw [taken] at shows
  exact absurd (reads.symm.trans shows) (by decide)

end Sys2Proof.Machine
end

section
/-! Descriptors and calls that write memory (spec/15_rings.md R592; spec/13_cores.md R530; spec/00_scope.md R13): the obligations ask for no
canonical memory (`Mem.wf`, a part of `State.Inv`), and where a list of cells holds an address twice, a zero byte written there does not read
back. Each refutation runs one descriptor, or one call, on such a memory. -/

namespace Sys2Proof.Machine

open Sys2Proof

/-! ## A descriptor in progress -/

/-- A descriptor without buffers, its PARAM as given. -/
def bareDesc (op flags : Nat) (param : Bytes) : Desc :=
  { opcode := op, flags := flags, zero02 := 0, length := 0, inA := 0, inCount := 0, zero0D := 0, outA := 0, outCount := 0, zero15 := 0
    param := padTo 24 param }

/-- Tables that open flash and shared SRAM to every level for every access. -/
def openTables : Prot :=
  let flash : Region := { start := 0x10000000, stop := 26, perm := 0x800001FF }
  let sram : Region := { start := 0x20000000, stop := 24, perm := 0x800001FF }
  let both : Region := { start := 0x10000000, stop := 0x20C00000, perm := 0x800001FF }
  { State.reset.prot with
    ipt := State.reset.prot.ipt.set 0 both
    gate := ((State.reset.prot.gate.set 160 flash).set 168 flash).set 176 sram }

/-- A running part with `d` the one pending descriptor on ring `k` of engine `e`, whose slot lies at the start of shared SRAM; memory lists
the high byte of its DETAIL twice. -/
def slotTwice (e : Eng) (k : Nat) (d : Desc) : State :=
  let ring (r : Ring) : Ring := { r with base := 0x20000000, log2 := 4, enable := true, prod := 1, fetch := 1, st := .running, cur := some d }
  { State.reset with
    pwr := { State.reset.pwr with main := .running, kiln := .running }
    prot := openTables
    mem := [(0x20000033, 1), (0x20000033, 1)] }.updEng e (fun x => { x with rings := x.rings.modify k ring })

/-- A completion shows the high byte of its DETAIL. -/
theorem Completes.detail_high {s t : State} {e : Eng} {k : Nat} {d : Desc} {x : Done} (h : Completes s t e k d x) :
    readByte t.mem (s.wbAt e k + 3) = BitVec.ofNat 8 (x.detail / 256) := by
  obtain ⟨-, -, written, -⟩ := h
  have shown := congrArg (fun b : Bytes => b.getD 3 0) written
  simpa [readBytes, Done.wb, leBytes, List.range_succ] using shown

/-- Where the byte still reads as before, the command has not completed the descriptor with a DETAIL below 256. -/
theorem not_does_completes {c : Instr} {s : State} {e : Eng} {k : Nat} {d : Desc} {x : Done} {P : State → Prop} (low : x.detail < 256)
    (shows : readByte (landed s (exec c s)).mem (s.wbAt e k + 3) = 1) (completes : ∀ t, P t → Completes s t e k d x) : ¬ Does c s P := by
  rintro ⟨t, taken, holds⟩
  rw [taken] at shows
  have high := (completes t holds).detail_high
  rw [Nat.div_eq_of_lt low] at high
  exact absurd (high.symm.trans shows) (by decide)

/-! ## Cipher engines -/

/-- ENC under slot 0, which holds no key. -/
def keylessEnc : Desc := bareDesc 0x01 0 []

/-- Refutes O24: on a memory that is not in its canonical form the completion SLOT of a bad key reference does not read back. -/
theorem not_cipherJobs : ¬ Obligations.CipherJobs := by
  intro h
  have inHand : (slotTwice .fae 0 keylessEnc).InHand .fae 0 0x01 keylessEnc := by unfold State.InHand; decide +kernel
  obtain ⟨slot, -⟩ := h .fae 0 0x01 (.enc .fae 0) keylessEnc _ (by decide) inHand (by decide)
  exact not_does_completes (by decide) (by decide +kernel) (fun _ => id) (slot 2 (by decide +kernel))

/-- VERDICT over no byte. -/
def emptyVerdict : Desc := bareDesc 0x10 0 []

/-- Refutes O25: on such a memory the completion DONE of a VERDICT on equal inputs does not read back. -/
theorem not_verdicts : ¬ Obligations.Verdicts := by
  intro h
  have inHand : (slotTwice .fae 0 emptyVerdict).InHand .fae 0 0x10 emptyVerdict := by unfold State.InHand; decide +kernel
  obtain ⟨plain, -⟩ := h .fae 0 emptyVerdict (slotTwice .fae 0 emptyVerdict)
  obtain ⟨same, -⟩ := plain inHand (by decide) (by unfold State.Clears; decide +kernel)
  exact not_does_completes (by decide) (by decide +kernel) (fun _ => id) (same (by decide +kernel))

/-! ## The digest engine -/

/-- FREE of context 0. -/
def freeing : Desc := bareDesc 0x05 0 []

/-- Refutes O26: on such a memory the completion DONE of FREE does not read back. -/
theorem not_digestJobs : ¬ Obligations.DigestJobs := by
  intro h
  have inHand : (slotTwice .dig 0 freeing).InHand .dig 0 0x05 freeing := by unfold State.InHand; decide +kernel
  obtain ⟨-, -, -, -, free⟩ := h 0 0x05 (.free 0) freeing (slotTwice .dig 0 freeing) (by decide +kernel) (by decide)
  exact not_does_completes (by decide) (by decide +kernel) (fun _ => And.left) (free inHand)

/-- EXTEND_CTX of register 0 by the digest of context 0, with ALG SHA-256. -/
def extending : Desc := bareDesc 0x21 0 [0, 1]

/-- Context 0 is FINAL, with a digest of SHA-256. -/
def digestReady : State :=
  let s := slotTwice .dig 0 extending
  { s with dig := { s.dig with ctx := s.dig.ctx.set 0 { st := .final, alg := 1 } } }

/-- Refutes O27: on such a memory the completion DONE of EXTEND_CTX does not read back. -/
theorem not_measurements : ¬ Obligations.Measurements := by
  intro h
  have inHand : digestReady.InHand .dig 0 0x21 extending := by unfold State.InHand; decide +kernel
  obtain ⟨digests, -⟩ := h 0 extending 0 digestReady
  obtain ⟨-, extendCtx⟩ := digests (by decide +kernel) (by decide) (by decide)
  exact not_does_completes (by decide) (by decide +kernel) (fun _ => And.left) (extendCtx inHand)

/-! ## The multiplier -/

/-- MUL with FIELD and modulus register 0, which is not VALID. -/
def fieldless : Desc := bareDesc 0x01 4 []

/-- Refutes O28: on such a memory the completion VALUE of a refused modulus does not read back. -/
theorem not_wideProductsAndModuli : ¬ Obligations.WideProductsAndModuli := by
  intro h
  obtain ⟨wide, -⟩ := h
  have inHand : (slotTwice .wmu 0 fieldless).InHand .wmu 0 1 fieldless := by unfold State.InHand; decide +kernel
  obtain ⟨products, -⟩ := wide 0 1 (.mul 0) fieldless (slotTwice .wmu 0 fieldless)
  obtain ⟨refused, -⟩ := products (by decide) inHand (by decide +kernel)
  exact not_does_completes (by decide) (by decide +kernel) (fun _ => And.left) (refused 1 (by decide +kernel))

/-! ## The key store -/

/-- DELETE of slot 16 with GEN 0. -/
def deleting : Desc := bareDesc 0x08 0 (leBytes 2 16)

/-- Slot 16 is LIVE. -/
def slotLive : State :=
  let s := slotTwice .ksm 0 deleting
  { s with ksm := { s.ksm with slots := [(16, { st := .live })] } }

/-- Refutes O29: on such a memory the completion DONE of DELETE does not read back. -/
theorem not_newKeys : ¬ Obligations.NewKeys := by
  intro h
  have inHand : slotLive.InHand .ksm 0 0x08 deleting := by unfold State.InHand; decide +kernel
  obtain ⟨-, -, -, -, -, -, delete⟩ := h 0 deleting slotLive (by decide) (by decide) (by decide +kernel) (by unfold State.Clears; decide +kernel)
  exact not_does_completes (by decide) (by decide +kernel) (fun _ made => made.2.2) (delete inHand)

/-- RANDOM of no byte. -/
def noRandom : Desc := bareDesc 0x09 0 []

/-- The random generator is ready. -/
def drbgReady : State :=
  let s := slotTwice .ksm 0 noRandom
  { s with ksm := { s.ksm with drbgReady := true } }

/-- Refutes O30: on such a memory the completion DONE of RANDOM does not read back. -/
theorem not_keyUses : ¬ Obligations.KeyUses := by
  intro h
  have inHand : drbgReady.InHand .ksm 0 0x09 noRandom := by unfold State.InHand; decide +kernel
  obtain ⟨uses, -⟩ := h 0 noRandom 0 false drbgReady
  obtain ⟨-, -, -, random, -⟩ := uses (by decide) (by decide) (by decide +kernel) (by unfold State.Clears; decide +kernel)
  exact not_does_completes (by decide) (by decide +kernel) (fun _ made => made.2.1) (random inHand)

/-- CNT_READ of counter 0. -/
def reading : Desc := bareDesc 0x20 0 []

/-- Refutes O31: on such a memory the completion DONE of CNT_READ does not read back. -/
theorem not_counters : ¬ Obligations.Counters := by
  intro h
  have inHand : (slotTwice .ksm 0 reading).InHand .ksm 0 0x20 reading := by unfold State.InHand; decide +kernel
  obtain ⟨read, -⟩ := h 0 reading (slotTwice .ksm 0 reading) (by decide) (by decide) (by decide +kernel) (by unfold State.Clears; decide +kernel)
  exact not_does_completes (by decide) (by decide +kernel) (fun _ => And.left) (read inHand)

/-! ## Flash -/

/-- ERASE of block 2. -/
def erasing : Desc := bareDesc 0x02 0 (leBytes 4 0x10080000)

/-- Refutes O32: on such a memory the completion DONE_SAME of ERASE on a blank block does not read back. -/
theorem not_flashWrites : ¬ Obligations.FlashWrites := by
  intro h
  have inHand : (slotTwice .flc 0 erasing).InHand .flc 0 0x02 erasing := by unfold State.InHand; decide +kernel
  obtain ⟨-, erase⟩ := h 0 0 [] erasing (slotTwice .flc 0 erasing) (by decide +kernel) (by decide +kernel)
  obtain ⟨same, -⟩ := erase inHand (by decide) (by decide +kernel) (by decide +kernel)
  exact not_does_completes (by decide) (by decide +kernel) (fun _ => id) (same (by decide +kernel))

end Sys2Proof.Machine
end

section
/-! Kernel calls that fill a buffer of the caller (spec/13_cores.md R530; spec/21_applets.md R783, R870): the obligations ask for no canonical
local data memory (a part of `State.Inv`), and where its list of cells holds an address twice, a zero byte written there does not read back. -/

namespace Sys2Proof.Machine

open Sys2Proof

/-- The applet of domain 0 in U mode on core 0, about to make call `n` with `x` in a0 and `y` in a1; its manifest allows every call and gives
it eight counters; the Kiln carries the time. Local data memory lists the byte at `a` twice. -/
def calling (n x y : Word) (a : Nat) : State :=
  let manifest : Manifest := { calls := 2 ^ 256 - 1, counters := 1 }
  let regs : Vector Word 32 := (((Vector.replicate 32 0).set 17 n).set 10 x).set 11 y
  let writable : Region := { start := 0x04000000, stop := 18, perm := 2 ^ 31 + 2 ^ 7 }
  let cells : Mem := [(a, 1), (a, 1)]
  { State.reset with
    pwr := { State.reset.pwr with main := .running }
    core := Vector.replicate 2 { level := .p2, regs := regs }
    ldm := Vector.replicate 2 cells
    prot := { State.reset.prot with gate := State.reset.prot.gate.set 192 writable }
    kiln := { State.reset.kiln with timeSt := .carried }
    sjm := { State.reset.sjm with measure := zeros 196 }
    app := State.reset.app.set 0 { State.reset.app[0] with man := some manifest, cntFrom := 16, cpu := Vector.replicate 2 { st := .running } } }

/-- The call it makes. -/
def madeCall (x y : Nat) : KCall := { core := 0, dom := 0, args := [x, y, 0, 0, 0, 0] }

/-- A call that has written `b` at `a` shows its byte `i` at `a + i`. -/
theorem Writes.byte {s t : State} {c : KCall} {a : Nat} {b : Bytes} (h : Writes s t c a b) {i : Nat} (inside : i < b.length) :
    t.memByte c.who (a + i) = b[i] := by
  have shown : (t.memRead c.who a b.length)[i]? = b[i]? := congrArg (·[i]?) h.1
  simpa [State.memRead, inside] using shown

/-- Where the byte for the zero that it writes still reads as before, the call has not written its buffer. -/
theorem not_does_writes {i : Instr} {s : State} {c : KCall} {a j : Nat} {b : Bytes} {P : State → Prop} (inside : j < b.length) (zero : b[j] = 0)
    (shows : (landed s (exec i s)).memByte c.who (a + j) = 1) (writes : ∀ t, P t → Writes s t c a b) : ¬ Does i s P := by
  rintro ⟨t, taken, holds⟩
  rw [taken] at shows
  have written := (writes t holds).byte inside
  exact absurd (zero.symm.trans (written.symm.trans shows)) (by decide)

/-! ## TIME -/

/-- TIME with its buffer at the start of local data memory, whose byte 8 is listed twice. -/
def timeCalled : State := calling 0x02 0x04000000 0 0x04000008

/-- Refutes O47: on a local data memory that is not in its canonical form, a zero byte of the time does not read back from the buffer of
TIME. -/
theorem not_channelCalls : ¬ Obligations.ChannelCalls := by
  intro h
  have calls : timeCalled.Calls 0x02 (madeCall 0x04000000 0) := by unfold State.Calls; decide +kernel
  obtain ⟨-, -, time, -⟩ := h 0x02 (madeCall 0x04000000 0) 0 timeCalled calls
  exact not_does_writes (j := 8) (by decide +kernel) (by decide +kernel) (by decide +kernel) (fun _ made => made.2.1)
    (time rfl (by unfold State.Buf; decide +kernel))

/-! ## CNT_READ -/

/-- CNT_READ of counter 16, which is 0, with its buffer at the start of local data memory, whose first byte is listed twice. -/
def cntReadCalled : State := calling 0x50 16 0x04000000 0x04000000

/-- Refutes O49: on such a memory a zero byte of the counter does not read back from the buffer of CNT_READ. -/
theorem not_keyCalls : ¬ Obligations.KeyCalls := by
  intro h
  have calls : cntReadCalled.Calls 0x50 (madeCall 16 0x04000000) := by unfold State.Calls; decide +kernel
  obtain ⟨-, -, serves⟩ := h 0x50 (madeCall 16 0x04000000) cntReadCalled calls (by decide)
  obtain ⟨-, -, -, -, read, -⟩ := serves (by decide) (by decide)
  exact not_does_writes (j := 0) (by decide +kernel) (by decide +kernel) (by decide +kernel) (fun _ made => made.2.2)
    (read rfl (by decide +kernel) (by unfold State.Buf; decide +kernel))

/-! ## MEASURE -/

/-- MEASURE with its buffer at the start of local data memory, whose first byte is listed twice; the payload held is zero. -/
def measureCalled : State := calling 0x60 0x04000000 0 0x04000000

/-- Refutes O50: on such a memory a zero byte of the payload does not read back from the buffer of MEASURE. -/
theorem not_deviceCalls : ¬ Obligations.DeviceCalls := by
  intro h
  have calls : measureCalled.Calls 0x60 (madeCall 0x04000000 0) := by unfold State.Calls; decide +kernel
  obtain ⟨measure, -⟩ := h 0x60 (madeCall 0x04000000 0) measureCalled calls
  exact not_does_writes (j := 0) (by decide +kernel) (by decide +kernel) (by decide +kernel) (fun _ made => made.2.1)
    (measure rfl (by unfold State.Buf; decide +kernel) (by decide +kernel))

end Sys2Proof.Machine
end

section
/-! Region registers and changes of protection (spec/14_protection.md R541, R554–R559, R562, R565, R566, R572): a store of a word to the
protection block comes to a change of `Prot` alone, once the core's buffer has drained. -/

namespace Sys2Proof.Machine

open Sys2Proof

variable {s t : State} {k : Fin 2}

/-! ## Store buffers that drain (R516) -/

/-- In `t` the oldest `n` stores of core `k` have left its buffer; protection, the other buffers and the stalled stores are as in `s`. -/
structure State.Drained (s t : State) (k : Fin 2) (n : Nat) : Prop where
  prot : t.prot = s.prot
  own : t.core[k].sbuf = s.core[k].sbuf.drop n
  other : ∀ j : Fin 2, j ≠ k → t.core[j].sbuf = s.core[j].sbuf
  stalled : ∀ j : Fin 2, t.core[j].stalled = s.core[j].stalled

theorem sramStore_cores (s : State) (e : StoreEnt) (ecc : Ecc) :
    (s.sramStore e ecc).prot = s.prot ∧ (s.sramStore e ecc).core = s.core := by
  unfold State.sramStore State.sramBad
  dsimp only
  split_ifs <;> exact ⟨rfl, rfl⟩

/-- An update of core `k` that keeps its buffer and its stalled store. -/
theorem State.Drained.updCore {n : Nat} (h : s.Drained t k n) {f : Core → Core} (sbuf : ∀ c, (f c).sbuf = c.sbuf)
    (stalled : ∀ c, (f c).stalled = c.stalled) : s.Drained (t.updCore k f) k n where
  prot := h.prot
  own := by rw [core_updCore_self, sbuf, h.own]
  other j ne := by rw [core_updCore_ne f ne, h.other j ne]
  stalled j := by
    by_cases ne : j = k
    · rw [ne, core_updCore_self, stalled, h.stalled]
    · rw [core_updCore_ne f ne, h.stalled]

theorem State.Drained.retire {n : Nat} (h : s.Drained t k n) (m : Nat) : s.Drained (t.retire k m) k n :=
  h.updCore (fun _ => rfl) (fun _ => rfl)

theorem drainOne_drained (s : State) (k : Fin 2) (ecc : Ecc) : s.Drained (s.drainOne k ecc) k 1 := by
  unfold State.drainOne
  split
  next empty =>
    have none : s.core[k].sbuf = [] := empty
    exact ⟨rfl, by rw [none]; rfl, fun _ _ => rfl, fun _ => rfl⟩
  next e l buffer =>
    have cons : s.core[k].sbuf = e :: l := buffer
    obtain ⟨prot, core⟩ := sramStore_cores s e ecc
    have left : s.Drained ((s.sramStore e ecc).updCore k (fun c => { c with sbuf := l })) k 1 := by
      refine ⟨prot, by rw [core_updCore_self, cons]; rfl, fun j ne => by rw [core_updCore_ne _ ne, core], fun j => ?_⟩
      by_cases ne : j = k
      · rw [ne, core_updCore_self, core]
      · rw [core_updCore_ne _ ne, core]
    dsimp only
    split
    · exact (left.updCore (f := fun c => { c with fence := false }) (fun _ => rfl) (fun _ => rfl)).retire 4
    · exact left

theorem State.Drained.trans {u : State} {n m : Nat} (h : s.Drained t k n) (g : t.Drained u k m) : s.Drained u k (n + m) where
  prot := g.prot.trans h.prot
  own := by rw [g.own, h.own, List.drop_drop]
  other j ne := (g.other j ne).trans (h.other j ne)
  stalled j := (g.stalled j).trans (h.stalled j)

theorem drainMany_drained (l : List Nat) (s : State) (k : Fin 2) : s.Drained (l.foldl (fun t _ => t.drainOne k .clean) s) k l.length := by
  induction l generalizing s with
  | nil => exact ⟨rfl, rfl, fun _ _ => rfl, fun _ => rfl⟩
  | cons a l ih =>
    have first := (drainOne_drained s k .clean).trans (ih (s.drainOne k .clean))
    rwa [Nat.add_comm] at first

theorem drainAll_drained (s : State) (k : Fin 2) : s.Drained (s.drainAll k) k s.core[k].sbuf.length := by
  have all := drainMany_drained (List.range s.core[k].sbuf.length) s k
  rwa [List.length_range] at all

theorem drainAll_sbuf (s : State) (k : Fin 2) : (s.drainAll k).core[k].sbuf = [] := by
  rw [(drainAll_drained s k).own, List.drop_length]

/-! ## A word stored to the register space (R508, R518, R558) -/

/-- A store of a word that a core may make to the register space comes to the register's write, protection being what it was before. -/
theorem wordStore_prot {a v : Nat} {p : Prot} (active : s.coreActive k = true) (allows : s.Allows k .write a 4)
    (space : 0x30000000 ≤ a ∧ a < 0x30130000) (writes : ∀ u : State, u.prot = s.prot → (u.regWrite k a 4 v).prot = p) (still : p.held = []) :
    (s.doStore k a 4 v .clean).prot = p := by
  obtain ⟨aligned, free, passes⟩ := allows
  have target : targetOf (s.accWho k) a = some (a % 0x10000000 / 0x10000) := by
    unfold targetOf
    rw [if_neg (by omega), if_neg (by omega), if_neg (by omega), if_neg (by omega), if_neg (by omega), if_pos space]
  have low : a % 0x10000000 / 0x10000 ≤ 18 := by omega
  have stores : s.coreStore k a 4 v .clean = ((s.drainAll k).retire k (s.instrLen k)).regWrite k a 4 v := by
    unfold State.coreStore State.performStore
    simp only [aligned, free, passes, target, ne_eq, not_true_eq_false, if_false, Bool.false_eq_true]
    split
    case h_4 => rfl
    all_goals rename_i far; simp only [Option.some.injEq, reduceCtorEq] at far
    all_goals omega
  have wrote := writes ((s.drainAll k).retire k (s.instrLen k)) (drainAll_drained s k).prot
  unfold State.doStore
  rw [if_pos active, stores, State.resumeCores, wrote, still]
  exact wrote

/-! ## Region registers (R554, R566) -/

theorem regionAddr_space (x : RegionReg) : 0x30000000 ≤ regionAddr x ∧ regionAddr x < 0x30130000 := by
  cases x <;> simp only [regionAddr] <;> omega

theorem ix_val (n : Nat) [NeZero n] (i : Fin n) (j : Nat) (h : j = i.val) : ix n j = i := by
  subst h; exact Fin.ofNat_val_eq_self i

/-- The address of a region register names it. -/
theorem regionReg_regionAddr (x : RegionReg) : ∃ b, (b = 3 ∨ b = 4) ∧ regionAddr x % 0x10000000 / 0x10000 = b ∧
    regionReg b (regionAddr x % 0x10000 / 4 * 4) = some x := by
  cases x with
  | iptStart n =>
    have here : regionAddr (.iptStart n) % 0x10000 / 4 * 4 = 16 * n.val := by simp only [regionAddr]; omega
    have word : 16 * n.val % 16 = 0 := by omega
    refine ⟨3, .inl rfl, by simp only [regionAddr]; omega, ?_⟩
    rw [here, regionReg, if_pos rfl, if_pos (by omega), word]
    exact congrArg (some ∘ RegionReg.iptStart) (ix_val 64 n _ (by omega))
  | iptEnd n =>
    have here : regionAddr (.iptEnd n) % 0x10000 / 4 * 4 = 16 * n.val + 4 := by simp only [regionAddr]; omega
    have word : (16 * n.val + 4) % 16 = 4 := by omega
    refine ⟨3, .inl rfl, by simp only [regionAddr]; omega, ?_⟩
    rw [here, regionReg, if_pos rfl, if_pos (by omega), word]
    exact congrArg (some ∘ RegionReg.iptEnd) (ix_val 64 n _ (by omega))
  | iptPerm n =>
    have here : regionAddr (.iptPerm n) % 0x10000 / 4 * 4 = 16 * n.val + 8 := by simp only [regionAddr]; omega
    have word : (16 * n.val + 8) % 16 = 8 := by omega
    refine ⟨3, .inl rfl, by simp only [regionAddr]; omega, ?_⟩
    rw [here, regionReg, if_pos rfl, if_pos (by omega), word]
    exact congrArg (some ∘ RegionReg.iptPerm) (ix_val 64 n _ (by omega))
  | gateBase g r =>
    have here : regionAddr (.gateBase g r) % 0x10000 / 4 * 4 = 256 * g.val + 8 * r.val := by simp only [regionAddr]; omega
    have word : (256 * g.val + 8 * r.val) % 8 = 0 := by omega
    refine ⟨4, .inr rfl, by simp only [regionAddr]; omega, ?_⟩
    rw [here, regionReg, if_neg (by decide), if_pos (by omega), word]
    exact congrArg some (congrArg₂ RegionReg.gateBase (ix_val 26 g _ (by omega)) (ix_val 8 r _ (by omega)))
  | gatePerm g r =>
    have here : regionAddr (.gatePerm g r) % 0x10000 / 4 * 4 = 256 * g.val + 8 * r.val + 4 := by simp only [regionAddr]; omega
    have word : (256 * g.val + 8 * r.val + 4) % 8 = 4 := by omega
    refine ⟨4, .inr rfl, by simp only [regionAddr]; omega, ?_⟩
    rw [here, regionReg, if_neg (by decide), if_pos (by omega), word]
    exact congrArg some (congrArg₂ RegionReg.gatePerm (ix_val 26 g _ (by omega)) (ix_val 8 r _ (by omega)))

theorem regWrite_regionAddr (s : State) (k : Fin 2) (x : RegionReg) (v : Word) :
    (s.regWrite k (regionAddr x) 4 v.toNat).prot = s.prot.regionWrite x v.toNat := by
  obtain ⟨b, three | four, block, named⟩ := regionReg_regionAddr x
  all_goals
    subst b
    rw [State.regWrite, if_pos rfl, block, Nat.mod_eq_of_lt v.isLt]
    unfold State.regStore
    dsimp only [blockEng]
    rw [named]
    rfl

theorem regionWrite_held (p : Prot) (x : RegionReg) (v : Nat) : (p.regionWrite x v).held = p.held := by
  unfold Prot.regionWrite
  cases x <;> dsimp only <;> split_ifs <;> rfl

theorem regionWrite_does {x : RegionReg} {v : Word} (active : s.coreActive k = true) (held : s.prot.held = [])
    (allows : s.Allows k .write (regionAddr x) 4) : Does (.regionWrite k x v) s (fun t => t.prot = s.prot.regionWrite x v.toNat) :=
  ⟨_, rfl, wordStore_prot active allows (regionAddr_space x) (fun u same => by rw [regWrite_regionAddr, same])
    ((regionWrite_held _ _ _).trans held)⟩

/-- A region register that LOCK of the active copy freezes. -/
def Prot.frozen (p : Prot) : RegionReg → Bool
  | .iptStart n | .iptEnd n | .iptPerm n => permLocked p.ipt[n].perm
  | .gateBase g r | .gatePerm g r => permLocked (p.gate.toList.getD (8 * g.val + r.val) {}).perm

/-- Gates 3 and 4 have no regions. -/
def hasRegion : RegionReg → Bool
  | .gateBase g _ | .gatePerm g _ => g != 3 && g != 4
  | _ => true

theorem regionWrite_frozen {p : Prot} {x : RegionReg} (locked : p.frozen x = true) (there : hasRegion x = true) (v : Nat) :
    p.regionWrite x v = { p with writeLocked := true } := by
  cases x with
  | iptStart n => exact if_pos locked
  | iptEnd n => exact if_pos locked
  | iptPerm n => exact if_pos locked
  | gateBase g r => exact (if_neg (by simpa [hasRegion, not_or] using there)).trans (if_pos locked)
  | gatePerm g r => exact (if_neg (by simpa [hasRegion, not_or] using there)).trans (if_pos locked)

/-- The active regions, and the commits that wait, are not a write's. -/
theorem regionWrite_active (p : Prot) (x : RegionReg) (v : Nat) : (p.regionWrite x v).ipt = p.ipt ∧ (p.regionWrite x v).gate = p.gate ∧
    (p.regionWrite x v).commits = p.commits := by
  unfold Prot.regionWrite
  cases x <;> dsimp only <;> split_ifs <;> exact ⟨rfl, rfl, rfl⟩

/-- A write of an IPT region that takes it to `r`. -/
theorem iptS_set (p : Prot) (n : Fin 64) (r : Region) : (p.iptS.set n r)[n] = r ∧ ∀ m : Fin 64, m ≠ n → (p.iptS.set n r)[m] = p.iptS[m] := by
  refine ⟨by simp, fun m ne => ?_⟩
  have apart : n.val ≠ m.val := fun e => ne (Fin.ext e.symm)
  simp [Vector.getElem_set_ne, apart]

theorem gateS_set (p : Prot) {i : Nat} (h : i < 208) (r : Region) : (p.gateS.setIfInBounds i r).toList.getD i {} = r := by
  simp [List.getD_eq_getElem?_getD, h]

/-- Settles O45: a write of a region register is a change of `Prot`, by the register and by LOCK. -/
theorem regionWrites : Obligations.RegionWrites := by
  intro k n g r v s active held g3 g4 p i does others
  have takes (x : RegionReg) (P : Prot → Prop) (holds : P (p.regionWrite x v.toNat)) : does x P := fun allows =>
    let ⟨t, taken, wrote⟩ := regionWrite_does (v := v) active held allows
    let ⟨ipt, gate, commits⟩ := regionWrite_active p x v.toNat
    ⟨t, taken, (congrArg Prot.ipt wrote).trans ipt, (congrArg Prot.gate wrote).trans gate, (congrArg Prot.commits wrote).trans commits,
      (congrArg P wrote).mpr holds⟩
  clear_value does
  have locks (x : RegionReg) (locked : p.frozen x = true) (there : hasRegion x = true) : does x (fun q => q = { p with writeLocked := true }) :=
    takes x _ (regionWrite_frozen locked there _)
  have whole : v.toNat % 2 ^ 32 = v.toNat := Nat.mod_eq_of_lt v.isLt
  have gates : ¬ (g = 3 ∨ g = 4) := not_or.mpr ⟨g3, g4⟩
  have inside : i < 208 := by have := g.isLt; have := r.isLt; omega
  have open_ {q : Nat} (zero : q / 2 ^ 30 % 2 = 0) : permLocked q = false := beq_eq_false_iff_ne.mpr (by rw [field]; omega)
  have shut {q : Nat} (one : q / 2 ^ 30 % 2 = 1) : permLocked q = true := beq_iff_eq.mpr one
  refine ⟨fun zero => ?_, fun one x hx => ?_, fun zero => ?_, fun one x hx => ?_⟩
  · have goes := open_ zero
    refine ⟨takes _ _ ?_, takes _ _ ?_, takes _ _ ?_⟩
    all_goals
      simp only [Prot.regionWrite, p, goes, whole, if_neg, Bool.false_eq_true, not_false_eq_true]
      obtain ⟨self, rest⟩ := iptS_set s.prot n _
      exact ⟨self, rfl, rest⟩
  · simp only [List.mem_cons, List.not_mem_nil, or_false] at hx
    rcases hx with rfl | rfl | rfl <;> exact locks _ (shut one) rfl
  · have goes := open_ zero
    refine ⟨takes _ _ ?_, takes _ _ ?_⟩
    all_goals
      simp only [Prot.regionWrite, p, gates, if_false]
      rw [if_neg (by rw [goes]; decide)]
      exact ⟨rfl, by rw [whole]; exact gateS_set _ inside _⟩
  · simp only [List.mem_cons, List.not_mem_nil, or_false] at hx
    rcases hx with rfl | rfl <;> exact locks _ (shut one) (by simp [hasRegion, g3, g4])

end Sys2Proof.Machine
end

section
/-! Commits, UPDATE, the probe and held accesses (spec/14_protection.md R555–R559, R562, R572). -/

namespace Sys2Proof.Machine

open Sys2Proof

variable {s : State} {k : Fin 2}

/-! ## Commit writes (R555–R557) -/

theorem commitWrite_held (p : Prot) (k : Fin 2) : (p.commitWrite k).held = p.held := by
  unfold Prot.commitWrite Prot.judgeCommit
  split
  · split_ifs <;> rfl
  · rfl

theorem protCommit_does (active : s.coreActive k = true) (held : s.prot.held = []) (allows : s.Allows k .write 0x30030804 4) :
    Does (.protCommit k) s (fun t => t.prot = s.prot.commitWrite k) :=
  ⟨_, rfl, wordStore_prot active allows (by decide) (fun u same => (congrArg (fun p : Prot => p.commitWrite k) same : _))
    ((commitWrite_held s.prot k).trans held)⟩

theorem commitWrite_accepted {p : Prot} (first : p.commits = []) (valid : p.commitFault = 0) : p.commitWrite k = { p with commits := [k] } := by
  unfold Prot.commitWrite Prot.judgeCommit
  rw [first]
  exact if_neg (not_not.mpr valid)

theorem commitWrite_waits {p : Prot} (earlier : p.commits ≠ []) : p.commitWrite k = { p with commits := p.commits ++ [k] } := by
  unfold Prot.commitWrite
  split
  next none => exact absurd none earlier
  next => rfl

/-- A region that is neither enabled nor frozen is not judged. -/
theorem not_judged {sh act : Region} (off : sh.perm / 2 ^ 31 % 2 = 0) (open_ : act.perm / 2 ^ 30 % 2 = 0) :
    (permEnabled sh.perm || permLocked act.perm) = false := by
  have enabled : permEnabled sh.perm = false := beq_eq_false_iff_ne.mpr (by rw [field]; omega)
  have locked : permLocked act.perm = false := beq_eq_false_iff_ne.mpr (by rw [field]; omega)
  rw [enabled, locked]; rfl

/-- The first found is the value at `n` where the function has none below. -/
theorem findSome?_finRange {α : Type} {m : Nat} {f : Fin m → Option α} {n : Fin m} {x : α} (here : f n = some x)
    (below : ∀ i : Fin m, i < n → f i = none) : (List.finRange m).findSome? f = some x := by
  refine List.findSome?_eq_some_iff.mpr ⟨(List.finRange m).take n, n, (List.finRange m).drop (n + 1), ?_, here, fun i mem => ?_⟩
  · have split := (List.take_append_drop n (List.finRange m)).symm
    rwa [List.drop_eq_getElem_cons (by simp), List.getElem_finRange] at split
  · obtain ⟨j, lt, rfl⟩ := List.mem_take_iff_getElem.mp mem
    rw [List.getElem_finRange]
    exact below _ (Fin.lt_def.mpr (lt_of_lt_of_le lt (Nat.min_le_left _ _)))

/-- An enabled IPT region that ends where it starts or before, with no region judged below it, is the one that the commit names. -/
theorem commitFault_ipt {p : Prot} {n : Fin 64} (enabled : p.iptS[n].perm / 2 ^ 31 % 2 = 1) (empty : p.iptS[n].stop ≤ p.iptS[n].start)
    (below : ∀ m : Fin 64, m < n → p.iptS[m].perm / 2 ^ 31 % 2 = 0 ∧ p.ipt[m].perm / 2 ^ 30 % 2 = 0) : p.commitFault = 2 ^ 12 + n.val := by
  unfold Prot.commitFault
  have judged : permEnabled p.iptS[n].perm = true := beq_iff_eq.mpr enabled
  have fault : p.iptS[n].iptFault = 1 := if_pos empty
  dsimp only
  rw [findSome?_finRange (n := n) (x := 2 ^ 12 + n.val)]
  · rfl
  · rw [if_pos (by rw [judged, fault]; rfl), fault, Nat.one_mul]
  · intro m lt
    obtain ⟨off, open_⟩ := below m lt
    exact if_neg (by rw [not_judged off open_]; simp)

theorem commitWrite_refused {p : Prot} (first : p.commits = []) (fault : p.commitFault ≠ 0) :
    p.commitWrite k = { p with commitRefused := true, cstat := p.commitFault } := by
  unfold Prot.commitWrite Prot.judgeCommit
  rw [first]
  exact if_pos fault

/-! ## The commit instant (R555) -/

theorem unstall_nothing (none : s.core[k].stalled = none) : s.unstall k = s := by
  unfold State.unstall
  rw [State.coreOf, none]

/-- What a commit makes active, where no other commit write waits. -/
def Prot.committed (p : Prot) : Prot := { p with ipt := p.iptS, gate := p.gateS, gen := sat16 p.gen, update := 0, commits := [] }

/-- The part after both buffers have drained and the shadows have become active, the instruction caches empty. -/
def State.committed (s : State) : State :=
  let t := (s.drainAll 0).drainAll 1
  { t with prot := s.prot.committed, core := t.core.map (fun c => { c with icache := [] }) }

theorem committed_core (s : State) (j : Fin 2) : s.committed.core[j] = { ((s.drainAll 0).drainAll 1).core[j] with icache := [] } := by
  simp [State.committed]

theorem committed_sbuf (s : State) (j : Fin 2) : s.committed.core[j].sbuf = [] := by
  rw [committed_core]
  match j with
  | 0 => exact ((drainAll_drained (s.drainAll 0) 1).other 0 (by decide)).trans (drainAll_sbuf s 0)
  | 1 => exact drainAll_sbuf (s.drainAll 0) 1

theorem committed_stalled (s : State) (j : Fin 2) : s.committed.core[j].stalled = s.core[j].stalled := by
  rw [committed_core]
  exact ((drainAll_drained (s.drainAll 0) 1).stalled j).trans ((drainAll_drained s 0).stalled j)

/-- Where nothing waits for it, the commit instant is the commit alone. -/
theorem commitInstant_eq (commits : s.prot.commits = [k]) (held : s.prot.held = []) (stalled : ∀ j : Fin 2, s.core[j].stalled = none) :
    s.commitInstant = s.committed := by
  have drained : ((s.drainAll 0).drainAll 1).prot = s.prot := (drainAll_drained (s.drainAll 0) 1).prot.trans (drainAll_drained s 0).prot
  have applied : ((s.drainAll 0).drainAll 1).prot.apply = s.prot.committed := by rw [drained, Prot.apply, commits]; rfl
  have ready (j : Fin 2) : s.committed.core[j].stalled = none := (committed_stalled s j).trans (stalled j)
  have none : s.committed.prot.held = [] := held
  unfold State.commitInstant
  dsimp only
  rw [applied]
  change State.resumeCores (State.releaseDma ((s.committed.unstall 0).unstall 1)) = s.committed
  rw [unstall_nothing (ready 0), unstall_nothing (ready 1), State.releaseDma, none, List.foldl_nil, State.resumeCores, none, List.foldl_nil]

theorem commitInstant_does (commits : s.prot.commits = [k]) (held : s.prot.held = []) (stalled : ∀ j : Fin 2, s.core[j].stalled = none) :
    Does .commitInstant s (fun t =>
      t.prot = { s.prot with ipt := s.prot.iptS, gate := s.prot.gateS, gen := sat16 s.prot.gen, update := 0, commits := [] } ∧
      ∀ j : Fin 2, t.core[j].icache = [] ∧ t.core[j].sbuf = []) := by
  have waits : s.prot.commits.isEmpty = false := by rw [commits]; rfl
  refine ⟨s.committed, ?_, rfl, fun j => ⟨by rw [committed_core], committed_sbuf s j⟩⟩
  rw [← commitInstant_eq commits held stalled]
  exact congrArg Host.Outcome.next (if_neg (by rw [waits]; decide))

/-! ## UPDATE (R558) -/

theorem protUpdate_does {v : Word} (active : s.coreActive k = true) (held : s.prot.held = []) (allows : s.Allows k .write 0x30030800 4) :
    Does (.protUpdate k v) s (fun t => t.prot = { s.prot with update := v.toNat &&& 0x7FFFFE7 }) := by
  refine ⟨_, rfl, wordStore_prot active allows (by decide) (fun u same => ?_) held⟩
  have whole : v.toNat % 2 ^ 32 = v.toNat := Nat.mod_eq_of_lt v.isLt
  show (State.releaseDma { u with prot := { u.prot with update := updateFields (v.toNat % 2 ^ 32) } }).prot = _
  rw [whole, State.releaseDma, same, held]
  rfl

/-! ## The probe (R562) -/

theorem probe_held (p : Prot) (k : Fin 2) (v : Nat) : (p.probe k v).held = p.held := by
  unfold Prot.probe
  split
  · rfl
  · dsimp only
    split <;> rfl

theorem protProbe_does {v : Word} (active : s.coreActive k = true) (held : s.prot.held = []) (allows : s.Allows k .write 0x30030848 4) :
    Does (.protProbe k v) s (fun t => t.prot = s.prot.probe k (v.toNat ||| 1)) := by
  have whole : (v.toNat ||| 1) % 2 ^ 32 = v.toNat ||| 1 := Nat.mod_eq_of_lt (Nat.or_lt_two_pow v.isLt (by decide))
  refine ⟨_, rfl, wordStore_prot active allows (by decide) (fun u same => ?_) ((probe_held _ _ _).trans held)⟩
  show u.prot.probe k ((v.toNat ||| 1) % 2 ^ 32) = _
  rw [whole, same]

/-- GO is bit 0, below the fields of the request. -/
theorem field_go {v hi lo : Nat} (above : 0 < lo) : field (v ||| 1) hi lo = field v hi lo := by
  have gone : 1 / 2 ^ lo = 0 := Nat.div_eq_of_lt (Nat.one_lt_two_pow above.ne')
  have same : (v ||| 1) / 2 ^ lo = v / 2 ^ lo := by
    rw [← Nat.shiftRight_eq_div_pow, Nat.shiftRight_or_distrib, Nat.shiftRight_eq_div_pow 1, gone, Nat.or_zero, Nat.shiftRight_eq_div_pow]
  rw [field, field, same]

/-- The type of access that TYPE asks about. -/
def probeType (type : Nat) : AccType := if type = 0 then .read else if type = 1 then .write else .exec

/-- What the probe's registers say of a verdict. -/
def Prot.answer (p : Prot) (held : Nat) : Option (Nat × Nat) → Prot
  | none => { p with probeRes := p.gen * 2 ^ 16 + held + 3, probeAddr := 0 }
  | some (kind, a) => { p with probeRes := p.gen * 2 ^ 16 + kind * 16 + held + 1, probeAddr := a }

theorem probeVerdict_inside {p : Prot} (w : Who) (t : AccType) (some_bytes : 0 < p.probeLen) (inside : p.probeBase + p.probeLen ≤ 2 ^ 32) :
    p.probeVerdict w t p.probeBase p.probeLen = p.check w t false p.probeBase p.probeLen := by
  have whole : min p.probeLen (2 ^ 32 - p.probeBase) = p.probeLen := by omega
  unfold Prot.probeVerdict
  rw [if_neg some_bytes.ne', whole]
  cases p.check w t false p.probeBase p.probeLen with
  | none => exact if_neg (by omega)
  | some x => rfl

/-- A probe of a level, a type and a range that are there is answered by the check. -/
theorem probe_answers {p : Prot} {v : Nat} (level : v / 16 % 4 < 3) (type : v / 4 % 4 < 3) (some_bytes : 0 < p.probeLen)
    (inside : p.probeBase + p.probeLen ≤ 2 ^ 32) :
    let w : Who := ⟨v / 16 % 4, v / 256 % 16, some k⟩
    p.probe k (v ||| 1) =
      p.answer (if p.inUpdate w p.probeBase p.probeLen then 4 else 0) (p.check w (probeType (v / 4 % 4)) false p.probeBase p.probeLen) := by
  have go : (v ||| 1).testBit 0 = true := by simp
  have whole : min p.probeLen (2 ^ 32 - p.probeBase) = p.probeLen := by omega
  have l : field (v ||| 1) 5 4 = v / 16 % 4 := field_go (by decide)
  have y : field (v ||| 1) 3 2 = v / 4 % 4 := field_go (by decide)
  have d : field (v ||| 1) 11 8 = v / 256 % 16 := field_go (by decide)
  have there : ¬ (v / 16 % 4 = 3 ∨ v / 4 % 4 = 3) := by omega
  have tells : v / 4 % 4 = 0 ∨ v / 4 % 4 = 1 ∨ v / 4 % 4 = 2 := by omega
  unfold Prot.probe
  rw [if_neg (by rw [go]; decide)]
  dsimp only
  rw [l, y, d, if_neg there, probeVerdict_inside _ _ some_bytes inside, whole]
  rcases tells with type | type | type
  all_goals
    rw [type]
    split
    next passed => exact (congrArg (p.answer _) passed).symm
    next refused => exact (congrArg (p.answer _) refused).symm

/-! ## A held access at its limit (R559) -/

theorem heldLoad_times_out {a n : Nat} {signed : Bool} {rd : Fin 32} {rest : List HeldAcc} (held : s.prot.held = .load k a n signed rd :: rest)
    (idle : s.running k = none) : Does .heldAccessTimeout s (fun t => t.prot = { s.prot with held := rest } ∧
      Core.Trapped { s.core[k] with pFault := pFaultWord (s.accWho k) .read 8 } t.core[k] 5 a) := by
  have dropped : s.dropHeld (.load k a n signed rd) = { s with prot := { s.prot with held := rest } } := by
    unfold State.dropHeld
    rw [held, List.erase_cons_head]
  refine ⟨s.timeoutHeld (.load k a n signed rd), ?_, ?_⟩
  · exact congrArg Host.Outcome.next (by rw [held])
  · unfold State.timeoutHeld
    dsimp only
    rw [dropped]
    obtain ⟨only, traps⟩ := accessFault_traps (s := { s with prot := { s.prot with held := rest } }) (.inr idle) (s.accWho k) .read 8 a
    exact ⟨congrArg State.prot only.1, traps⟩

/-! ## The obligation -/

/-- Settles O46, command by command. -/
theorem protectionChanges : Obligations.ProtectionChanges := by
  intro k v s p
  refine ⟨fun active held allows => ⟨fun first valid => ?_, fun earlier => ?_, fun n first enabled empty below => ?_⟩,
    commitInstant_does, protUpdate_does, ?_,
    fun a n signed rd rest held idle => heldLoad_times_out held idle⟩
  · obtain ⟨t, taken, wrote⟩ := protCommit_does active held allows
    exact ⟨t, taken, wrote.trans (commitWrite_accepted first valid)⟩
  · obtain ⟨t, taken, wrote⟩ := protCommit_does active held allows
    exact ⟨t, taken, wrote.trans (commitWrite_waits earlier)⟩
  · obtain ⟨t, taken, wrote⟩ := protCommit_does active held allows
    have fault := commitFault_ipt enabled empty below
    refine ⟨t, taken, wrote.trans ((commitWrite_refused first (by rw [fault]; omega)).trans ?_)⟩
    rw [fault]
  · intro active held allows level type w x waits lv ty some_bytes inside
    obtain ⟨t, taken, wrote⟩ := protProbe_does (v := v) active held allows
    have answered := wrote.trans (probe_answers (k := k) lv ty some_bytes inside)
    exact ⟨t, taken, fun passed => answered.trans (congrArg (p.answer waits) passed),
      fun kind f refused => answered.trans (congrArg (p.answer waits) refused)⟩

end Sys2Proof.Machine
end

section
/-! Rings (spec/15_rings.md R577–R608): what a ring reads as after an update of one, and what leaves every ring alone. -/

namespace Sys2Proof.Machine

open Sys2Proof

variable {s t : State} {e g : Eng} {k j : Nat}

/-! ## A ring after an update -/

theorem engIx_ne (h : g ≠ e) : engIx g ≠ engIx e := by
  revert h; cases g <;> cases e <;> decide

theorem ring_of_eng (h : t.eng = s.eng) : t.ring e k = s.ring e k := by
  unfold State.ring State.engOf; rw [h]

theorem engOf_of_eng (h : t.eng = s.eng) : t.engOf e = s.engOf e := by
  unfold State.engOf; rw [h]

theorem engOf_updEng_self (s : State) (e : Eng) (f : EngSt → EngSt) : (s.updEng e f).engOf e = f (s.engOf e) := by
  simp [State.updEng, State.engOf]

theorem engOf_updEng_ne (f : EngSt → EngSt) (h : g ≠ e) : (s.updEng e f).engOf g = s.engOf g := by
  have apart : (engIx e).val ≠ (engIx g).val := fun x => engIx_ne h (Fin.ext x.symm)
  simp [State.updEng, State.engOf, Vector.getElem_set_ne, apart]

/-- A message on the Spyhole apart, an update of a ring is one of its engine. -/
theorem updRing_eng (s : State) (e : Eng) (k : Nat) (f : Machine.Ring → Machine.Ring) :
    (s.updRing e k f).eng = (s.updEng e (fun x => { x with rings := x.rings.modify k f })).eng := by
  unfold State.updRing State.ringMsg
  dsimp only
  split
  · rfl
  · exact (spySend_logged _ _ _ _).eng

theorem engOf_updRing_self (s : State) (e : Eng) (k : Nat) (f : Machine.Ring → Machine.Ring) :
    (s.updRing e k f).engOf e = { s.engOf e with rings := (s.engOf e).rings.modify k f } :=
  (engOf_of_eng (updRing_eng s e k f)).trans (engOf_updEng_self s e _)

theorem ring_updRing_self {f : Machine.Ring → Machine.Ring} (there : k < (s.engOf e).rings.length) :
    (s.updRing e k f).ring e k = f (s.ring e k) := by
  rw [State.ring, engOf_updRing_self]
  simp [State.ring, List.getD_eq_getElem?_getD, there]

theorem ring_updRing_ne (f : Machine.Ring → Machine.Ring) (h : j ≠ k) : (s.updRing e k f).ring e j = s.ring e j := by
  rw [State.ring, engOf_updRing_self]
  simp [State.ring, List.getD_eq_getElem?_getD, h.symm]

theorem rings_updRing (s : State) (e : Eng) (k : Nat) (f : Machine.Ring → Machine.Ring) :
    ((s.updRing e k f).engOf e).rings.length = (s.engOf e).rings.length := by
  rw [engOf_updRing_self]; exact List.length_modify _ _ _

theorem ring_absent (h : (s.engOf e).rings.length ≤ k) : s.ring e k = {} := by
  rw [State.ring, List.getD_eq_default _ _ h]

/-! ## What leaves the rings alone -/

theorem freeSaggar_eng (s : State) (k : Nat) : (s.freeSaggar k).eng = s.eng := by
  unfold State.freeSaggar
  split
  · split <;> rfl
  · rfl

theorem saggarOnStop_eng (s : State) (e : Eng) (k : Nat) : (s.saggarOnStop e k).eng = s.eng := by
  unfold State.saggarOnStop
  split
  · exact freeSaggar_eng s k
  · exact freeSaggar_eng s k
  · rfl

/-- Nothing can be fetched from a ring that does not run, has a descriptor in progress, or has none pending. -/
def Ring.quiet (r : Machine.Ring) : Prop := r.st ≠ .running ∨ r.cur.isSome = true ∨ r.pending = 0

theorem fetchNext_quiet (quiet : (s.ring e k).quiet) : s.fetchNext e k = s := by
  unfold State.fetchNext
  rcases quiet with off | busy | none
  · have idle : s.fetchable e k = false := by simp [State.fetchable, off]
    cases (s.ring e k).pending with
    | zero => rfl
    | succ n => exact if_neg (by rw [idle]; simp)
  · have idle : s.fetchable e k = false := by
      simp [State.fetchable, Option.isNone_eq_false_iff.mpr busy]
    cases (s.ring e k).pending with
    | zero => rfl
    | succ n => exact if_neg (by rw [idle]; simp)
  · rw [none]; rfl

/-- A ring that is quiet after a write of one of its registers reads as written. -/
theorem ring_written {f : Machine.Ring → Machine.Ring} (there : k < (s.engOf e).rings.length) (quiet : (f (s.ring e k)).quiet) :
    (((s.updRing e k f).saggarOnStop e k).fetchNext e k).ring e k = f (s.ring e k) := by
  have wrote : ((s.updRing e k f).saggarOnStop e k).ring e k = f (s.ring e k) :=
    (ring_of_eng (saggarOnStop_eng _ e k)).trans (ring_updRing_self there)
  rw [fetchNext_quiet (by rw [wrote]; exact quiet)]
  exact wrote

end Sys2Proof.Machine
end

section
/-! Doorbells, ENABLE, configuration and the reset of an engine (spec/15_rings.md R578–R584, R600, R601). -/

namespace Sys2Proof.Machine

open Sys2Proof

variable {s : State} {e : Eng} {k : Nat} {v : Word}

/-! ## Doorbells (R583, R584) -/

/-- A doorbell changes the indices that it names and the two flags of a refusal. -/
theorem Ring.doorbell_eq (r : Machine.Ring) (i n : Nat) : r.doorbell i n =
    { r with
      prod := if r.indexOk i then i % 65536 else r.prod, doorbellRefused := r.doorbellRefused || !r.indexOk i
      seen := if r.seenOk n then n % 65536 else r.seen, seenRefused := r.seenRefused || !r.seenOk n } := by
  unfold Ring.doorbell
  cases hi : r.indexOk i <;> cases hn : r.seenOk n <;> simp [Ring.seenOk] at hn ⊢ <;> simp [hn]

theorem doorbell_quiet {r : Machine.Ring} (busy : r.st ≠ .running ∨ r.cur.isSome = true) (i n : Nat) : (r.doorbell i n).quiet := by
  rw [Ring.doorbell_eq]
  exact busy.imp_right .inl

/-- The ring after a doorbell that starts no work. -/
theorem doorbell_does (runs : s.mainRuns = true) (ours : ringOwn e k = false) (there : k < (s.engOf e).rings.length)
    (busy : (s.ring e k).st ≠ .running ∨ (s.ring e k).cur.isSome = true) :
    Does (.doorbell e k v) s (fun t => t.ring e k = (s.ring e k).doorbell (v.toNat % 65536) (v.toNat / 65536)) := by
  have rung (u : State) (h : u.eng = (s.updRing e k (fun r => r.doorbell (v.toNat % 65536) (v.toNat / 65536))).eng) :
      (u.fetchNext e k).ring e k = (s.ring e k).doorbell (v.toNat % 65536) (v.toNat / 65536) := by
    have reads := (ring_of_eng h).trans (ring_updRing_self there)
    rw [fetchNext_quiet (by rw [reads]; exact doorbell_quiet busy _ _)]
    exact reads
  refine ⟨_, congrArg Host.Outcome.next (if_pos (by rw [State.regWrites, runs, ours]; rfl)), ?_⟩
  dsimp only
  split
  · exact rung _ (wakeKiln_logged _).eng
  · exact rung _ rfl

/-! ## ENABLE and configuration (R579–R581) -/

/-- What a write to STEM_RING_POLICY makes of the ring. -/
def Ring.policed (r : Machine.Ring) (e : Eng) (w : Nat) : Machine.Ring :=
  if w.testBit 31 then (r.policyWrite e w).enableWrite e else (r.policyWrite e w).disableWrite

theorem policyWrite_ring {w : Nat} (there : k < (s.engOf e).rings.length) (quiet : ((s.ring e k).policed e w).quiet) :
    (s.policyWrite e k w).ring e k = (s.ring e k).policed e w :=
  ring_written (f := fun r => r.policed e w) there quiet

/-- A write of a configurable ring's policy leaves its place and its state. -/
theorem policyWrite_configurable {r : Machine.Ring} (free : r.configurable = true) (w : Nat) :
    let q := r.policyWrite e w
    q.configurable = true ∧ q.st = r.st ∧ q.prod = r.prod ∧ q.cons = r.cons := by
  unfold Ring.policyWrite
  rw [if_pos free]
  exact ⟨free, rfl, rfl, rfl⟩

/-- A write of a running ring's policy changes nothing but, where it is refused, CONFIG_REFUSED. -/
theorem policyWrite_running {r : Machine.Ring} (runs : r.st = .running) (w : Nat) :
    ∃ b, r.policyWrite e w = { r with configRefused := b } := by
  have fixed : r.configurable = false := by rw [Ring.configurable, runs]; rfl
  unfold Ring.policyWrite
  rw [if_neg (by rw [fixed]; decide)]
  split
  · exact ⟨_, rfl⟩
  · exact ⟨true, rfl⟩

theorem configurable_iff {r : Machine.Ring} : r.configurable = true ↔ r.st = .off ∨ r.st = .halted := by
  simp [Ring.configurable]

/-- ENABLE = 1 on a ring that is OFF or HALTED. -/
theorem enableWrite_stopped {r : Machine.Ring} (free : r.configurable = true) : r.enableWrite e =
    if r.enableOk e then { r with enable := true, st := .running, reason := 0, fetch := r.cons, cur := none } else r.refuseConfig := by
  unfold Ring.enableWrite
  rcases configurable_iff.mp free with off | halted
  · rw [off]
  · rw [halted]

theorem pending_none {r : Machine.Ring} (h : r.prod = r.cons) : r.pending = 0 := by
  rw [Ring.pending, sub16, h]; omega

theorem testBit_enable (v : Word) : (v.toNat % 2 ^ 31 + 2 ^ 31).testBit 31 = true := by
  rw [Nat.add_comm, Nat.testBit_two_pow_add_eq, Nat.testBit_lt_two_pow (Nat.mod_lt _ (by decide))]
  rfl

theorem ringEnable_does {P : Machine.Ring → Prop} (runs : s.mainRuns = true) (ours : ringOwn e k = false)
    (there : k < (s.engOf e).rings.length) (free : (s.ring e k).configurable = true) (none : (s.ring e k).prod = (s.ring e k).cons)
    (holds : P (((s.ring e k).policyWrite e (v.toNat % 2 ^ 31 + 2 ^ 31)).enableWrite e)) :
    Does (.ringEnable e k v) s (fun t => P (t.ring e k)) := by
  obtain ⟨still, -, prod, cons⟩ := policyWrite_configurable (e := e) free (v.toNat % 2 ^ 31 + 2 ^ 31)
  have policed : (s.ring e k).policed e (v.toNat % 2 ^ 31 + 2 ^ 31) =
      ((s.ring e k).policyWrite e (v.toNat % 2 ^ 31 + 2 ^ 31)).enableWrite e := if_pos (testBit_enable v)
  refine ⟨_, congrArg Host.Outcome.next (if_pos (by rw [State.regWrites, runs, ours]; rfl)), ?_⟩
  dsimp only
  rw [policyWrite_ring there ?_, policed]
  · exact holds
  · rw [policed, enableWrite_stopped still]
    refine .inr (.inr (pending_none ?_))
    split
    · exact prod.trans (none.trans cons.symm)
    · exact prod.trans (none.trans cons.symm)

theorem ringDisable_does (runs : s.mainRuns = true) (ours : ringOwn e k = false) (there : k < (s.engOf e).rings.length)
    (running : (s.ring e k).st = .running) (idle : (s.ring e k).cur = none) :
    Does (.ringDisable e k v) s (fun t => (t.ring e k).st = .off ∧ (t.ring e k).enable = false) := by
  obtain ⟨b, refused⟩ := policyWrite_running (e := e) running (v.toNat % 2 ^ 31)
  have low : (v.toNat % 2 ^ 31).testBit 31 = false := Nat.testBit_lt_two_pow (Nat.mod_lt _ (by decide))
  have policed : (s.ring e k).policed e (v.toNat % 2 ^ 31) = { s.ring e k with configRefused := b, enable := false, st := .off } := by
    rw [Ring.policed, low, refused, Ring.disableWrite]
    simp [running, idle]
  refine ⟨_, congrArg Host.Outcome.next (if_pos (by rw [State.regWrites, runs, ours]; rfl)), ?_⟩
  dsimp only
  rw [policyWrite_ring there (by rw [policed]; exact .inl (by simp)), policed]
  exact ⟨rfl, rfl⟩

theorem baseWrite_does {P : Machine.Ring → Prop} (runs : s.mainRuns = true) (ours : ringOwn e k = false)
    (there : k < (s.engOf e).rings.length) (holds : P ((s.ring e k).baseWrite v.toNat)) :
    Does (.ringConfigWrite e k .base v) s (fun t => P (t.ring e k)) := by
  refine ⟨_, congrArg Host.Outcome.next (if_pos (by rw [State.regWrites, runs, ours]; rfl)), ?_⟩
  dsimp only
  rw [ring_of_eng (saggarOnStop_eng _ e k), ring_updRing_self there]
  exact holds

theorem sizeWrite_does {P : Machine.Ring → Prop} (runs : s.mainRuns = true) (ours : ringOwn e k = false)
    (there : k < (s.engOf e).rings.length) (holds : P ((s.ring e k).sizeWrite v.toNat)) :
    Does (.ringConfigWrite e k .size v) s (fun t => P (t.ring e k)) := by
  refine ⟨_, congrArg Host.Outcome.next (if_pos (by rw [State.regWrites, runs, ours]; rfl)), ?_⟩
  dsimp only
  rw [ring_updRing_self there]
  exact holds

/-- Writes to FLC ring 3 (R582). -/
theorem ringOwn_does (own : ringOwn e k = true) (g : Sys2Proof.RingReg) : ∀ c ∈ [Instr.doorbell e k v, .ringEnable e k v, .ringDisable e k v,
    .ringConfigWrite e k g v], Does c s (fun t => t = s) := by
  have nothing (t : State) : (if s.regWrites && !ringOwn e k then t else s) = s := if_neg (by rw [own]; simp)
  intro c hc
  simp only [List.mem_cons, List.not_mem_nil, or_false] at hc
  rcases hc with rfl | rfl | rfl | rfl <;> exact ⟨_, congrArg Host.Outcome.next (nothing _), rfl⟩

/-! ## The reset of an engine (R600, R601) -/

/-- Of a ring that the reset has done with: nothing pending, nothing in progress, no doorbell held. -/
structure Ring.Settled (r : Machine.Ring) : Prop where
  pending : r.pending = 0
  cur : r.cur = none
  held : r.held = []

/-- A ring as the reset finds it: no doorbell held, and a descriptor in progress is a pending one. -/
structure Ring.Sound (r : Machine.Ring) : Prop where
  held : r.held = []
  cur : r.cur.isSome = true → r.pending ≠ 0

theorem Ring.Settled.sound {r : Machine.Ring} (h : r.Settled) : r.Sound := ⟨h.held, fun some => by rw [h.cur] at some; cases some⟩

/-- `q` is `r` with one descriptor less pending, and none in progress. -/
structure Ring.Passes (r q : Machine.Ring) : Prop where
  pending : q.pending = r.pending - 1
  cur : q.cur = none
  held : q.held = r.held

theorem Ring.passes_advance {r : Machine.Ring} (some : r.pending ≠ 0) : r.Passes r.advance := by
  refine ⟨?_, rfl, rfl⟩
  unfold Ring.pending Ring.advance sub16 at *
  dsimp only
  omega

/-- From `s` to `t` ring `k` of engine `e` alone has changed, of all of its engine's. -/
structure OnlyRing (s t : State) (e : Eng) (k : Nat) : Prop where
  other : ∀ j, j ≠ k → t.ring e j = s.ring e j
  rings : (t.engOf e).rings.length = (s.engOf e).rings.length

theorem OnlyRing.refl (s : State) (e : Eng) (k : Nat) : OnlyRing s s e k := ⟨fun _ _ => rfl, rfl⟩

theorem OnlyRing.trans {t u : State} (a : OnlyRing s t e k) (b : OnlyRing t u e k) : OnlyRing s u e k :=
  ⟨fun j h => (b.other j h).trans (a.other j h), b.rings.trans a.rings⟩

theorem onlyRing_updRing {u : State} (same : u.eng = s.eng) (e : Eng) (k : Nat) (f : Machine.Ring → Machine.Ring) :
    OnlyRing s (u.updRing e k f) e k :=
  ⟨fun _ h => (ring_updRing_ne f h).trans (ring_of_eng same), (rings_updRing u e k f).trans (by rw [engOf_of_eng same])⟩

/-- An aborted descriptor is passed, on its ring alone. -/
theorem updRing_passes {u : State} (same : u.eng = s.eng) (there : k < (s.engOf e).rings.length) {f : Machine.Ring → Machine.Ring}
    (passes : (s.ring e k).Passes (f (s.ring e k))) :
    (s.ring e k).Passes ((u.updRing e k f).ring e k) ∧ OnlyRing s (u.updRing e k f) e k := by
  have inside : k < (u.engOf e).rings.length := by rw [engOf_of_eng same]; exact there
  rw [ring_updRing_self inside, ring_of_eng same]
  exact ⟨passes, onlyRing_updRing same e k f⟩

theorem abortOne_passes (there : k < (s.engOf e).rings.length) (some : (s.ring e k).pending ≠ 0) (code : Code) :
    (s.ring e k).Passes ((s.abortOne e k code).ring e k) ∧ OnlyRing s (s.abortOne e k code) e k := by
  have completes {u : State} (same : u.eng = s.eng) (d : Done) :
      (s.ring e k).Passes ((u.complete e k d).ring e k) ∧ OnlyRing s (u.complete e k d) e k :=
    updRing_passes (u := u.sramWrite ((u.ring e k).slot (u.ring e k).cons + 0x30) d.wb) same there (Ring.passes_advance some)
  unfold State.abortOne
  dsimp only
  split
  · split
    · have flash : (s.abortFlash k (code == .abortTamper)).1.eng = s.eng := by rw [abortFlash_eq]
      split <;> rename_i stopped <;> rw [stopped] at flash <;> exact completes flash _
    · exact completes rfl _
  · split
    · exact completes rfl _
    · have faulted (p : Prot) := updRing_passes (s := s) (u := { s with prot := p }) (f := fun x => { x.advance with wbLost := true }) rfl there
        ⟨(Ring.passes_advance some).pending, rfl, rfl⟩
      exact faulted _

theorem abortMany_settles {n : Nat} {code : Code} (there : k < (s.engOf e).rings.length) (pending : (s.ring e k).pending = n)
    (held : (s.ring e k).held = []) (idle : n = 0 → (s.ring e k).cur = none) :
    ((s.abortMany n e k code).ring e k).Settled ∧ OnlyRing s (s.abortMany n e k code) e k := by
  induction n generalizing s with
  | zero => exact ⟨⟨pending, idle rfl, held⟩, .refl s e k⟩
  | succ n ih =>
    obtain ⟨passes, only⟩ := abortOne_passes there (by rw [pending]; exact Nat.succ_ne_zero n) code
    have left : ((s.abortOne e k code).ring e k).pending = n := by rw [passes.pending, pending]; rfl
    obtain ⟨settled, rest⟩ := ih (by rw [only.rings]; exact there) left (passes.held.trans held) (fun _ => passes.cur)
    exact ⟨settled, only.trans rest⟩

/-- The abort of a ring settles it, and leaves the others. -/
theorem abortRing_settles (sound : (s.ring e k).Sound) (code : Code) :
    ((s.abortRing e k code).ring e k).Settled ∧ OnlyRing s (s.abortRing e k code) e k := by
  by_cases there : k < (s.engOf e).rings.length
  · have idle (empty : (s.ring e k).pending = 0) : (s.ring e k).cur = none := by
      by_contra some
      exact sound.cur (Option.isSome_iff_ne_none.mpr some) empty
    obtain ⟨settled, only⟩ := abortMany_settles (code := code) there rfl sound.held idle
    exact ⟨settled, only.other, only.rings⟩
  · have absent : s.ring e k = {} := ring_absent (Nat.le_of_not_lt there)
    have nothing : (s.ring e k).pending = 0 := by rw [absent]; rfl
    unfold State.abortRing
    rw [nothing]
    refine ⟨?_, fun _ _ => rfl, rfl⟩
    change (s.ring e k).Settled
    rw [absent]
    exact ⟨rfl, rfl, rfl⟩

/-- The aborts of a list of rings settle these, and no ring is unsettled by them. -/
theorem abortRings_settle (l : List Nat) {s : State} (sound : ∀ j, (s.ring e j).Sound) (code : Code) :
    let t := l.foldl (fun t k => t.abortRing e k code) s
    (∀ j, (j ∈ l ∨ (s.ring e j).Settled) → (t.ring e j).Settled) ∧ (t.engOf e).rings.length = (s.engOf e).rings.length := by
  induction l generalizing s with
  | nil => exact ⟨fun j h => h.resolve_left (List.not_mem_nil), rfl⟩
  | cons k l ih =>
    obtain ⟨settled, only⟩ := abortRing_settles (sound k) code
    have keeps (j : Nat) (h : (s.ring e j).Settled) : ((s.abortRing e k code).ring e j).Settled := by
      by_cases same : j = k
      · rw [same]; exact settled
      · rw [only.other j same]; exact h
    have stays (j : Nat) : ((s.abortRing e k code).ring e j).Sound := by
      by_cases same : j = k
      · rw [same]; exact settled.sound
      · rw [only.other j same]; exact sound j
    obtain ⟨rest, rings⟩ := ih stays
    refine ⟨fun j h => rest j ?_, rings.trans only.rings⟩
    rcases h with mem | before
    · rcases List.mem_cons.mp mem with rfl | later
      · exact .inr settled
      · exact .inl later
    · exact .inr (keeps j before)

theorem abortEngine_settles (sound : ∀ j, (s.ring e j).Sound) (code : Code) (j : Nat) : ((s.abortEngine e code).ring e j).Settled := by
  obtain ⟨settled, rings⟩ := abortRings_settle (List.range (s.engOf e).rings.length) sound code
  by_cases there : j < (s.engOf e).rings.length
  · exact settled j (.inl (List.mem_range.mpr there))
  · have absent : (s.abortEngine e code).ring e j = {} := ring_absent (by rw [State.abortEngine, rings]; exact Nat.le_of_not_lt there)
    rw [absent]
    exact ⟨rfl, rfl, rfl⟩

theorem clearEngine_eng (s : State) (e : Eng) : (s.clearEngine e).eng = s.eng := by cases e <;> rfl

/-- Where no doorbell is held, there is none to judge. -/
theorem Ring.judgeHeld_none {r : Machine.Ring} (none : r.held = []) : r.judgeHeld = r := by
  unfold Ring.judgeHeld
  rw [none, List.foldl_nil, ← none]

/-- Nothing is fetched from rings that are all quiet. -/
theorem fetchEngine_quiet (quiet : ∀ j, (s.ring e j).quiet) : s.fetchEngine e = s :=
  List.foldlRecOn (motive := fun t => t = s) _ _ rfl fun t same k _ => by rw [same]; exact fetchNext_quiet (quiet k)

theorem engineReset_does (runs : s.mainRuns = true) (sound : ∀ j, (s.ring e j).Sound) :
    Does (.engineReset e) s (fun t => ∀ j, (t.ring e j).Settled) := by
  let s1 := (s.abortEngine e .abortReset).clearEngine e
  let s2 := s1.updEng e (fun x => { x with resetting := false, rings := x.rings.map Ring.judgeHeld })
  have settled (j : Nat) : (s2.ring e j).Settled := by
    have before : (s1.ring e j).Settled := by
      rw [ring_of_eng (clearEngine_eng _ e)]
      exact abortEngine_settles sound .abortReset j
    have judged : s2.ring e j = (s1.ring e j).judgeHeld := by
      rw [State.ring, engOf_updEng_self, State.ring, List.getD_eq_getElem?_getD, List.getD_eq_getElem?_getD, List.getElem?_map]
      cases (s1.engOf e).rings[j]? with
      | none => rfl
      | some r => rfl
    rw [judged, Ring.judgeHeld_none before.held]
    exact before
  have quiet (p : Prot) : State.fetchEngine { s2 with prot := p } e = { s2 with prot := p } :=
    fetchEngine_quiet fun j => .inr (.inr (settled j).pending)
  refine ⟨_, congrArg Host.Outcome.next (if_pos runs), ?_⟩
  unfold State.engineReset
  dsimp only
  rw [quiet]
  exact settled

/-! ## The obligation -/

/-- Settles O22, register by register. -/
theorem ringRegisters : Obligations.RingRegisters := by
  intro e k v s runs r i n
  refine ⟨fun own g => ?_, fun ours there => ⟨fun busy => ?_, fun free empty => ⟨fun legal => ?_, fun illegal => ?_, ?_, ?_⟩,
    fun running idle => ringDisable_does runs ours there running idle, fun running g other => ?_⟩, fun sound => ?_⟩
  · have all := ringOwn_does (s := s) (v := v) own g
    exact ⟨all _ (by simp), all _ (by simp), all _ (by simp), all _ (by simp)⟩
  · have index : i % 65536 = i := Nat.mod_mod _ _
    have seen : n % 65536 = n := Nat.mod_eq_of_lt (by have := v.isLt; omega)
    obtain ⟨t, taken, rung⟩ := doorbell_does (v := v) runs ours there busy
    rw [Ring.doorbell_eq] at rung
    refine ⟨fun ok => ⟨t, taken, ?_⟩, fun bad => ⟨t, taken, ?_⟩, fun ok => ⟨t, taken, ?_⟩, fun bad => ⟨t, taken, ?_⟩⟩
    · exact (congrArg Ring.prod rung).trans ((if_pos ok).trans index)
    · dsimp only; rw [rung]; exact ⟨if_neg (by rw [bad]; decide), (congrArg (fun b => r.doorbellRefused || !b) bad).trans (Bool.or_true _)⟩
    · exact (congrArg Ring.seen rung).trans ((if_pos ok).trans seen)
    · dsimp only; rw [rung]; exact ⟨if_neg (by rw [bad]; decide), (congrArg (fun b => r.seenRefused || !b) bad).trans (Bool.or_true _)⟩
  · obtain ⟨still, -, -, cons⟩ := policyWrite_configurable (e := e) free (v.toNat % 2 ^ 31 + 2 ^ 31)
    refine ringEnable_does (P := fun q => q.st = .running ∧ q.enable = true ∧ q.reason = 0 ∧ q.fetch = r.cons) runs ours there free empty ?_
    rw [enableWrite_stopped still, if_pos legal]
    exact ⟨rfl, rfl, rfl, cons⟩
  · obtain ⟨still, st, -, -⟩ := policyWrite_configurable (e := e) free (v.toNat % 2 ^ 31 + 2 ^ 31)
    refine ringEnable_does (P := fun q => q.st = r.st ∧ q.configRefused = true) runs ours there free empty ?_
    rw [enableWrite_stopped still, if_neg (by rw [illegal]; decide)]
    exact ⟨st, rfl⟩
  · refine baseWrite_does (P := fun q => q.base = v.toNat / 64 * 64 ∧ q.prod = 0 ∧ q.seen = 0 ∧ q.cons = 0 ∧ q.fetch = 0 ∧
      q.haltIndex = 0 ∧ q.st = .off) runs ours there ?_
    rw [Ring.baseWrite, if_pos free]
    exact ⟨rfl, rfl, rfl, rfl, rfl, rfl, rfl⟩
  · refine sizeWrite_does (P := fun q => q.log2 = v.toNat % 16 ∧ q.st = r.st) runs ours there ?_
    rw [Ring.sizeWrite, if_pos free]
    exact ⟨rfl, rfl⟩
  · have fixed : ¬ r.configurable = true := by rw [configurable_iff, running]; decide
    cases g with
    | base => exact baseWrite_does (P := fun q => q = _) runs ours there (if_neg fixed)
    | size => exact sizeWrite_does (P := fun q => q = _) runs ours there (if_neg fixed)
    | policy => exact absurd rfl other
  · obtain ⟨t, taken, settled⟩ := engineReset_does runs (fun j => ⟨(sound j).1, (sound j).2⟩)
    exact ⟨t, taken, fun j => ⟨(settled j).pending, (settled j).cur⟩⟩

end Sys2Proof.Machine
end

section
/-! SUPPORT. The bundle machine: what an outcome leaves in it, what staging and installing record, and O21 (22_kiln.md R813–R823). -/

namespace Sys2Proof.Machine

open Sys2Proof

variable {s t : State}

/-! ## Outcomes (R802, R816) -/

/-- The outcome as the bundle machine holds it. -/
def State.outcomeHeld (s : State) (result detail : Nat) : State :=
  { s with kiln := { s.kiln with bundle := resultState result, result := result, resultDetail := detail, verifying := none } }

/-- The bundle machine holds the outcome. -/
structure Concluded (t : State) (r d : Nat) : Prop where
  result : t.kiln.result = r
  detail : t.kiln.resultDetail = d
  verifying : t.kiln.verifying = none
  bundle : t.kiln.bundle = resultState r

theorem Concluded.of_logged {r d : Nat} (h : Logged (s.outcomeHeld r d) t) : Concluded t r d := by
  obtain ⟨e, -, -⟩ := h
  exact ⟨congrArg (fun v => v.kiln.result) e, congrArg (fun v => v.kiln.resultDetail) e, congrArg (fun v => v.kiln.verifying) e,
    congrArg (fun v => v.kiln.bundle) e⟩

theorem Concluded.same {r d : Nat} (h : Concluded s r d) (result : t.kiln.result = s.kiln.result)
    (detail : t.kiln.resultDetail = s.kiln.resultDetail) (verifying : t.kiln.verifying = s.kiln.verifying)
    (bundle : t.kiln.bundle = s.kiln.bundle) : Concluded t r d :=
  ⟨result.trans h.result, detail.trans h.detail, verifying.trans h.verifying, bundle.trans h.bundle⟩

theorem wakeMain_kiln (s : State) : s.wakeMain.kiln = s.kiln := by
  unfold State.wakeMain; split <;> rfl

theorem Concluded.wakeMain {r d : Nat} (h : Concluded s r d) : Concluded s.wakeMain r d := by
  have same := wakeMain_kiln s
  exact h.same (by rw [same]) (by rw [same]) (by rw [same]) (by rw [same])

theorem sendPort_kiln (s : State) (p : Port) (m : Bytes) : (s.sendPort p m).kiln = s.kiln := by
  unfold State.sendPort; split <;> rfl

theorem setBStatus_kiln (s : State) (b : BStatus) : (s.setBStatus b).kiln = s.kiln := by
  unfold State.setBStatus
  split
  · split
    · rfl
    · exact (sendPort_kiln _ _ _).trans (sendPort_kiln _ _ _)
  · rfl

/-- An outcome is logged and reported. -/
theorem outcome_told (s : State) (r d : Nat) (body : Bytes) :
    Logged (s.outcomeHeld r d) (((s.outcomeHeld r d).klog 0x0501 (body.take 20)).report 0x0C body) :=
  (klog_logged _ _ _).trans (report_logged _ _ _)

/-- A staged bundle stays: its outcome is only taken and told. -/
theorem bundleOutcome_staged (s : State) (d : Nat) : Logged (s.outcomeHeld 6 d) (s.bundleOutcome 6 d) := outcome_told s 6 d _

theorem Concluded.rewriteDisplaced {r d : Nat} (h : Concluded s r d) : Concluded s.rewriteDisplaced r d := by
  unfold State.rewriteDisplaced
  split
  · exact h
  · exact h.same rfl rfl rfl rfl

theorem bundleOutcome_concludes (s : State) (r d : Nat) : Concluded (s.bundleOutcome r d) r d := by
  have told := Concluded.of_logged (outcome_told s r d (s.resultBody r d))
  unfold State.bundleOutcome
  dsimp only
  split
  · exact told
  · have ended := told.rewriteDisplaced
    have shown (u : State) (b : BStatus) (hu : Concluded u r d) : Concluded (u.setBStatus b) r d := by
      have same := setBStatus_kiln u b
      exact hu.same (by rw [same]) (by rw [same]) (by rw [same]) (by rw [same])
    exact shown _ _ (ended.same rfl rfl rfl rfl)

/-! ## Verification (R816) -/

/-- What follows the checks: the failed check's outcome, or the bundle passes. -/
def State.judgeBundle (s : State) : Option (Nat × Nat) → State
  | some (r, d) => s.bundleOutcome r d
  | none => s.bundlePassed (bundleOf s.bundleData)

theorem verificationDone_judges {lms ecc cred bad : Bool} {faddr total : Nat} {id : Bytes} (runs : s.pwr.kiln = .running) (calm : s.crazed = false)
    (verifying : s.kiln.bundle = .verifying) (what : s.kiln.verifying = some (faddr, total, id)) {o : Option (Nat × Nat)}
    (checked : s.bundleFail total lms ecc cred bad = o) : exec (.verificationDone lms ecc cred bad) s = .next (s.judgeBundle o).wakeMain := by
  change execVerificationDone lms ecc cred bad s = _
  unfold execVerificationDone
  rw [verifying, what, runs, calm]
  dsimp only
  rw [checked, if_neg (by decide)]
  cases o <;> rfl

/-- No check fails with the result of a bundle that is applied or staged. -/
theorem bundleFail_refuses {lms ecc cred bad : Bool} {total r d : Nat} (failed : s.bundleFail total lms ecc cred bad = some (r, d)) :
    resultState r = .refused := by
  unfold State.bundleFail at failed
  dsimp only at failed
  repeat' split at failed
  all_goals cases failed <;> rfl

/-- A bundle whose every check passed has one of the five kinds, and its kind fits the firing. -/
theorem bundleFail_none {lms ecc cred bad : Bool} {total : Nat} (passed : s.bundleFail total lms ecc cred bad = none) :
    let x := bundleOf s.bundleData
    x.kind ≤ 5 ∧ kindOk s.life.firing x.kind x.signer = true := by
  unfold State.bundleFail at passed
  dsimp only at passed
  split at passed
  · exact absurd passed (by simp)
  rename_i formed
  split at passed
  · exact absurd passed (by simp)
  rename_i kind
  refine ⟨?_, by simpa using kind⟩
  have whole : bundleFormed s.bundleData = true := by
    cases h : bundleFormed s.bundleData with
    | true => rfl
    | false => rw [h] at formed; simp at formed
  unfold bundleFormed at whole
  simp only [Bool.and_eq_true, decide_eq_true_eq] at whole
  obtain ⟨⟨⟨⟨⟨-, -, -, -, -, -, five, -⟩, -⟩, -⟩, -⟩, -⟩ := whole
  exact five

/-! ## Staging (R218, R219) -/

/-- A staged record whose burn step may not be done waits. -/
theorem pursueStaged_waits {g : Staged} (staged : s.life.staged = some g) (unburned : g.burned = false) (fixed : s.burnOk = false)
    (burns : g.sherd = none → g.target ≠ s.life.firing) : s.pursueStaged = s := by
  have burn : s.burnStaged = s := by
    unfold State.burnStaged
    rw [staged, fixed]
    dsimp only
    split
    · rfl
    · split
      · rfl
      · rename_i none
        rw [if_neg (burns none)]
        rfl
  have apply : s.applyStaged true = s := by
    unfold State.applyStaged
    rw [staged]
    dsimp only
    rw [if_pos (by rw [unburned]; simp)]
  unfold State.pursueStaged
  rw [burn]
  dsimp only
  rw [apply, ite_self]

/-- A record leaves whether fuses may be burned, of a Kiln that runs. -/
theorem Logged.burnOk (h : Logged s t) (runs : s.pwr.kiln = .running) : t.burnOk = s.burnOk := by
  have still : t.pwr.kiln = s.pwr.kiln := by
    rcases h.2.2 with same | ⟨off, -⟩
    · exact same
    · rw [runs] at off; exact absurd off (by decide)
  have flushing : t.pwr.flushing = s.pwr.flushing := congrArg (fun v => v.pwr.flushing) h.1
  unfold State.burnOk State.railsOk State.kilnRuns
  rw [h.rails, h.bins, h.tick, h.crazed, still, flushing]

theorem stage_stages {x : Bundle} (kind : 3 < x.kind) (five : x.kind ≤ 5) (fits : kindOk s.life.firing x.kind x.signer = true)
    (runs : s.pwr.kiln = .running) (free : s.stagedOpen = false) (fixed : s.burnOk = false) :
    (s.stage x).life.staged = some (s.stagedOf x) ∧ Concluded (s.stage x) 6 0 := by
  let u : State := { s with life := { s.life with staged := some (s.stagedOf x) } }
  have told : Logged (u.outcomeHeld 6 0) (u.bundleOutcome 6 0) := bundleOutcome_staged u 0
  have staged : (u.bundleOutcome 6 0).life.staged = some (s.stagedOf x) := by rw [told.life]; rfl
  have firing : (u.bundleOutcome 6 0).life.firing = s.life.firing := by rw [told.life]; rfl
  have cases45 : x.kind = 4 ∨ x.kind = 5 := by omega
  have waits : (u.bundleOutcome 6 0).pursueStaged = u.bundleOutcome 6 0 := by
    refine pursueStaged_waits staged ?_ ((told.burnOk runs).trans fixed) fun none => ?_
    · rcases cases45 with four | five <;> simp only [State.stagedOf, *]
    · rw [firing]
      rcases cases45 with four | five
      · intro burned
        simp only [State.stagedOf, four] at burned
        rw [← burned, four] at fits
        exact absurd fits (by simp [kindOk])
      · simp [State.stagedOf, five] at none
  have shape : s.stage x = u.bundleOutcome 6 0 := by
    unfold State.stage
    rw [free, if_neg (by decide)]
    exact waits
  rw [shape]
  exact ⟨staged, .of_logged told⟩

/-! ## Installing (R817, R819, R822) -/

/-- The entry of a bundle's image, whatever copies it has. -/
structure Install.Of (e : Install) (x : Bundle) : Prop where
  wheel : e.wheel = (x.kind == 1)
  trial : e.trial = (x.kind == 1)
  domain : e.domain = x.domain
  release : e.release = x.serial
  digest : e.digest = sha2 .sha384 x.body

theorem entryOf_of (x : Bundle) : (entryOf x).Of x := ⟨rfl, rfl, rfl, rfl, rfl⟩

theorem Install.Of.put {e : Install} {x : Bundle} (h : e.Of x) (bank : Nat) (at_ : Option Nat) (img : Bytes) : (e.put bank at_ img).Of x := by
  unfold Install.put
  split
  · exact h
  · split
    · exact ⟨h.wheel, h.trial, h.domain, h.release, h.digest⟩
    · exact ⟨h.wheel, h.trial, h.domain, h.release, h.digest⟩

/-- The new entry is recorded, whether it replaces one or joins the list. -/
theorem mem_replaceEntry (e : Install) (l : List Install) : e ∈ replaceEntry e l := by
  unfold replaceEntry
  dsimp only
  split
  · rename_i old
    obtain ⟨i, mem, mine⟩ := List.any_eq_true.mp old
    refine List.mem_flatMap.mpr ⟨i, mem, ?_⟩
    rw [if_pos mine]
    exact List.mem_cons_self
  · simp

theorem raiseApplet_logged (s : State) (x : Bundle) : Logged s (s.raiseApplet x) := by
  unfold State.raiseApplet
  dsimp only
  split
  · exact (cntAdvance_logged s _ _).trans (klogRep_logged _ _ _)
  · exact .rfl' s

theorem Logged.installs (h : Logged s t) : t.kiln.installs = s.kiln.installs := congrArg (fun v => v.kiln.installs) h.1

/-- From a state that records the new image, once that is logged: the outcome is 6, and the records are kept. -/
theorem installed_staged {u : State} (h : Logged s u) (d : Nat) :
    Concluded (u.bundleOutcome 6 d) 6 d ∧ (u.bundleOutcome 6 d).kiln.installs = s.kiln.installs := by
  have told := bundleOutcome_staged u d
  exact ⟨.of_logged told, told.installs.trans h.installs⟩

theorem installWheel_installs (s : State) (x : Bundle) :
    Concluded (s.installWheel x true) 6 0 ∧ ∃ e ∈ (s.installWheel x true).kiln.installs, e.Of x := by
  obtain ⟨outcome, installs⟩ := installed_staged (klog_logged _ _ _) 0
  refine ⟨outcome, (entryOf x).put s.recvBank (s.roomIn s.recvBank (entryOf x).length true) x.body, ?_, (entryOf_of x).put _ _ _⟩
  unfold State.installWheel
  dsimp only
  rw [if_pos rfl]
  exact installs ▸ List.mem_cons_self

theorem installWheel_mismatch (s : State) (x : Bundle) : Concluded (s.installWheel x false) 5 0 := by
  unfold State.installWheel
  exact bundleOutcome_concludes _ 5 0

theorem installApplet_mismatch (s : State) (x : Bundle) (ok : Bool) : Concluded (s.installApplet x false ok) 5 0 := by
  unfold State.installApplet
  exact bundleOutcome_concludes _ 5 0

/-- The applet's image is recorded; where the domain holds no applet it is loaded at the next start. -/
theorem installApplet_installs (x : Bundle) (none : (s.appOf (dom x.domain)).man = none) :
    Concluded (s.installApplet x true true) 6 0 ∧ ∃ e ∈ (s.installApplet x true true).kiln.installs, e.Of x := by
  let b := s.recvBank
  let e := entryOf x
  let e1 := (e.put b (s.roomIn b e.length false) x.body).put (1 - b) (s.roomIn (1 - b) e.length false) x.body
  let s1 : State := { s with kiln := { s.kiln with installs := replaceEntry e1 s.kiln.installs } }
  let s2 := ((s1.logCopy 0x0502 e b).logCopy 0x0502 e (1 - b)).raiseApplet x
  have logged : Logged s1 s2 := ((klog_logged _ _ _).trans (klog_logged _ _ _)).trans (raiseApplet_logged _ x)
  obtain ⟨outcome, installs⟩ := installed_staged logged 0
  have told := bundleOutcome_staged s2 0
  have absent : ((s2.bundleOutcome 6 0).appOf (dom x.domain)).man = Option.none := by
    unfold State.appOf
    rw [told.app]
    change s2.app[dom x.domain].man = _
    rw [logged.app]
    exact none
  have shape : s.installApplet x true true = s2.bundleOutcome 6 0 := by
    unfold State.installApplet
    refine (if_neg (by decide)).trans ((if_neg (by decide)).trans (if_neg ?_))
    rw [absent]
    exact Bool.false_ne_true
  rw [shape]
  exact ⟨outcome, e1, installs ▸ mem_replaceEntry e1 _, ((entryOf_of x).put _ _ _).put _ _ _⟩

/-- INSTALL_DONE of an installing bundle, outside Crazed and any hold: the record is the Wheel's or the applet's, and measuring changes the
digest engine alone. -/
theorem installDone_installs {ok1 ok2 : Bool} (runs : s.pwr.kiln = .running) (calm : s.crazed = false) (installing : s.kiln.bundle = .installing)
    (unheld : s.provisional = false) :
    let x := bundleOf s.bundleData
    Does (.installDone ok1 ok2) s (fun t => t.kiln = (if x.kind = 1 then s.installWheel x ok1 else s.installApplet x ok1 ok2).kiln) := by
  let x := bundleOf s.bundleData
  let u := (if x.kind = 1 then s.installWheel x ok1 else s.installApplet x ok1 ok2).wakeMain
  refine ⟨if u.kiln.bundle == .staged && u.wheelRuns then u.measure 8 1 0x0801 s.bundleData else u, ?_, ?_⟩
  · change execInstallDone ok1 ok2 s = _
    unfold execInstallDone
    rw [installing, runs, calm, unheld, if_neg (by decide)]
  · have measured : (u.measure 8 1 0x0801 s.bundleData).kiln = u.kiln := by unfold State.measure; split <;> rfl
    dsimp only
    split
    · exact measured.trans (wakeMain_kiln _)
    · exact wakeMain_kiln _

theorem Concluded.of_kiln {r d : Nat} (h : Concluded s r d) (same : t.kiln = s.kiln) : Concluded t r d :=
  h.same (by rw [same]) (by rw [same]) (by rw [same]) (by rw [same])

/-- Settles O21. -/
theorem bundles : Obligations.Bundles := by
  intro lms ecc cred bad total faddr id s runs calm x
  refine ⟨fun verifying what => ⟨fun r d failed => ?_, fun passed => ⟨fun kind fresh free => ?_, fun kind free fixed => ?_⟩⟩,
    fun installing unheld => ⟨fun wheel => ?_, ?_, fun applet none => ?_⟩⟩
  · refine ⟨_, verificationDone_judges runs calm verifying what failed, ?_⟩
    have done : Concluded (s.judgeBundle (some (r, d))).wakeMain r d := (bundleOutcome_concludes s r d).wakeMain
    exact ⟨done.result, done.detail, done.verifying, done.bundle.trans (bundleFail_refuses failed)⟩
  · refine ⟨_, verificationDone_judges runs calm verifying what passed, ?_⟩
    have begun : s.judgeBundle none = { s with kiln := { s.kiln with bundle := .installing } } :=
      (if_neg (Nat.not_le.mpr (Nat.lt_succ_of_le kind))).trans ((if_neg (by rw [fresh]; decide)).trans (if_neg (by rw [free]; decide)))
    dsimp only
    rw [begun, wakeMain_kiln]
  · refine ⟨_, verificationDone_judges runs calm verifying what passed, ?_⟩
    obtain ⟨five, fits⟩ := bundleFail_none passed
    obtain ⟨staged, done⟩ := stage_stages kind five fits runs free fixed
    have stages : s.judgeBundle none = s.stage x := if_pos (Nat.le_of_lt kind)
    rw [stages, (wakeMain_logged _).life]
    exact ⟨staged, done.wakeMain.result, done.wakeMain.bundle⟩
  · obtain ⟨t, taken, kiln⟩ := installDone_installs (ok1 := true) (ok2 := bad) runs calm installing unheld
    rw [if_pos wheel] at kiln
    obtain ⟨done, e, mem, of⟩ := installWheel_installs s x
    have end_ := done.of_kiln kiln
    have mine : (x.kind == 1) = true := by rw [wheel]; rfl
    exact ⟨t, taken, end_.result, end_.bundle, e, kiln ▸ mem, of.wheel.trans mine, of.trial.trans mine, of.release, of.digest⟩
  · obtain ⟨t, taken, kiln⟩ := installDone_installs (ok1 := false) (ok2 := bad) runs calm installing unheld
    have done : Concluded (if x.kind = 1 then s.installWheel x false else s.installApplet x false bad) 5 0 := by
      split
      · exact installWheel_mismatch s x
      · exact installApplet_mismatch s x bad
    have end_ := done.of_kiln kiln
    exact ⟨t, taken, end_.result, end_.bundle⟩
  · obtain ⟨t, taken, kiln⟩ := installDone_installs (ok1 := true) (ok2 := true) runs calm installing unheld
    rw [if_neg applet] at kiln
    obtain ⟨done, e, mem, of⟩ := installApplet_installs x none
    have end_ := done.of_kiln kiln
    exact ⟨t, taken, end_.result, end_.bundle, e, kiln ▸ mem, of.wheel.trans (beq_false_of_ne applet), of.domain, of.release, of.digest⟩

end Sys2Proof.Machine
end

section
/-! SUPPORT. What the part has put out stays put out: the burns that waited, with the zeroization and the commit they may bring, only add to
the output, and end no factory run (06_lifecycle.md R219, R266–R270; 23_test_observe.md R847, R851). -/

namespace Sys2Proof.Machine

open Sys2Proof

/-! ## The predicate -/

/-- The output ends with `l`, its newest message first, and the power-up is a factory run or not, as `f` says. -/
def State.Shows (l : List Emit) (f : Bool) (s : State) : Prop := l <:+ s.out ∧ s.selft.factory = f

variable {l : List Emit} {f : Bool} {s t : State}

theorem State.Shows.self (s : State) : s.Shows s.out s.selft.factory := ⟨List.suffix_refl _, rfl⟩

theorem State.Shows.of_eq (h : s.Shows l f) (out : t.out = s.out) (factory : t.selft.factory = s.selft.factory) : t.Shows l f := by
  obtain ⟨suffix, same⟩ := h
  exact ⟨out ▸ suffix, factory.trans same⟩

theorem State.Shows.emit {m : Emit} (h : s.Shows l f) : (s.emit m).Shows l f := ⟨h.1.trans (List.suffix_cons m s.out), h.2⟩

theorem State.Shows.ite {p : Prop} {_ : Decidable p} (hs : s.Shows l f) (ht : t.Shows l f) : (if p then s else t).Shows l f := by
  split
  · exact hs
  · exact ht

theorem State.Shows.foldl {α : Type} {g : State → α → State} {as : List α} (h : s.Shows l f) (hg : ∀ t a, t.Shows l f → (g t a).Shows l f) :
    (as.foldl g s).Shows l f := List.foldlRecOn (motive := State.Shows l f) _ _ h fun t ht a _ => hg t a ht

theorem State.Shows.eachCh {g : Fin 16 → State → State} (h : s.Shows l f) (hg : ∀ c t, t.Shows l f → (g c t).Shows l f) :
    (s.eachCh g).Shows l f := h.foldl fun t c ht => hg c t ht

theorem State.Shows.ran (h : s.Shows l f) (r : Ran s t) : t.Shows l f := by
  unfold Ran at r
  exact h.of_eq (congrArg State.out r :) (congrArg (fun v => v.selft.factory) r :)

theorem State.Shows.onlyChans (h : s.Shows l f) (o : OnlyChans s t) : t.Shows l f :=
  h.of_eq (congrArg State.out o.1 :) (congrArg (fun v => v.selft.factory) o.1 :)

theorem State.Shows.withLife {x : Life} (h : s.Shows l f) : State.Shows l f { s with life := x } := h

theorem State.Shows.withKsm {x : Ksm} (h : s.Shows l f) : State.Shows l f { s with ksm := x } := h

theorem State.Shows.withEngines {x : Flc} {y : Wmu} {z : Dig} {w : Aes} (h : s.Shows l f) :
    State.Shows l f { s with flc := x, wmu := y, dig := z, aes := w } := h

theorem State.Shows.withKsmLife {x : Ksm} {y : Life} (h : s.Shows l f) : State.Shows l f { s with ksm := x, life := y } := h

theorem State.Shows.withFuses {x : Fuses} (h : s.Shows l f) : State.Shows l f { s with fuses := x } := h

theorem State.Shows.withMet {x : Met} (h : s.Shows l f) : State.Shows l f { s with met := x } := h

theorem State.Shows.tick1 (h : s.Shows l f) : s.tick1.Shows l f := h

/-! ## Records and the Spyhole -/

theorem State.Shows.wakeMain (h : s.Shows l f) : s.wakeMain.Shows l f := by
  unfold State.wakeMain; exact State.Shows.ite h h

theorem State.Shows.wakeKiln (h : s.Shows l f) : s.wakeKiln.Shows l f := by
  unfold State.wakeKiln; exact State.Shows.ite h h

theorem State.Shows.compactDue (h : s.Shows l f) : s.compactDue.Shows l f := by
  unfold State.compactDue; dsimp only; repeat' split
  all_goals exact h

theorem State.Shows.journalProgram (h : s.Shows l f) : s.journalProgram.Shows l f := State.Shows.compactDue h

theorem State.Shows.journalAdd {e : JEntry} (h : s.Shows l f) : (s.journalAdd e).Shows l f := by
  unfold State.journalAdd; dsimp only; split
  · exact State.Shows.journalProgram h
  · exact h

theorem State.Shows.cntInc {k : Nat} (h : s.Shows l f) : (s.cntInc k).Shows l f := by
  have set : State.Shows l f { s with ksm := s.ksm.setCnt k (s.ksm.cntOf k + 1) } := h
  unfold State.cntInc; exact set.journalAdd.journalProgram.ite set.journalAdd

theorem State.Shows.advanceEntries {n k d : Nat} (h : s.Shows l f) : (State.advanceEntries n s k d).Shows l f := by
  induction n generalizing s d with
  | zero => exact h
  | succ n ih =>
    have set : State.Shows l f { s with ksm := s.ksm.setCnt k (s.ksm.cntOf k + min d 16) } := h
    exact ih set.journalAdd

theorem State.Shows.cntAdvance {k d : Nat} (h : s.Shows l f) : (s.cntAdvance k d).Shows l f := h.advanceEntries.journalProgram

theorem State.Shows.writeEntry {code grade source : Nat} {detail : Bytes} {now : Bool} (h : s.Shows l f) :
    (s.writeEntry code grade source detail now).Shows l f := by
  have program (u : State) (hu : u.Shows l f) : u.programLog.Shows l f := State.Shows.ite hu hu
  unfold State.writeEntry; dsimp only; split
  · exact program _ h
  · exact h

theorem State.Shows.retain {r : Rec} (h : s.Shows l f) : (s.retain r).Shows l f := by
  unfold State.retain; dsimp only; split
  · exact h.wakeKiln.writeEntry
  · exact h.cntInc

theorem State.Shows.report {type : Nat} {body : Bytes} (h : s.Shows l f) : (s.report type body).Shows l f := by
  unfold State.report; dsimp only; repeat' split
  · exact h.wakeMain
  · exact h.wakeMain
  · exact h.wakeMain.retain
  · exact h.wakeMain

theorem State.Shows.logEv {code grade source : Nat} {detail : Bytes} {rep now : Bool} (h : s.Shows l f) :
    (s.logEv code grade source detail rep now).Shows l f := by
  unfold State.logEv; dsimp only; repeat' split
  · exact h.wakeKiln.writeEntry.report
  · exact h.wakeKiln.writeEntry
  · exact h

theorem State.Shows.klog {code : Nat} {detail : Bytes} (h : s.Shows l f) : (s.klog code detail).Shows l f := h.logEv

theorem State.Shows.klogRep {code : Nat} {detail : Bytes} (h : s.Shows l f) : (s.klogRep code detail).Shows l f := h.logEv

theorem State.Shows.wlog {code grade : Nat} {detail : Bytes} {rep : Bool} (h : s.Shows l f) : (s.wlog code grade detail rep).Shows l f := h.logEv

theorem State.Shows.spySend {type : Nat} {payload : Bytes} {lifecycle : Bool} (h : s.Shows l f) :
    (s.spySend type payload lifecycle).Shows l f := by
  unfold State.spySend; dsimp only; repeat' split
  · exact h
  · exact h
  · exact h
  · exact h
  · exact State.Shows.emit h.wakeKiln

theorem State.Shows.spyEvent {kind code index grade tick : Nat} {detail : Bytes} (h : s.Shows l f) :
    (s.spyEvent kind code index grade tick detail).Shows l f := h.spySend

/-! ## Channels, links and rings -/

theorem State.Shows.chOp {c : Fin 16} {g : Chan → Chan} (h : s.Shows l f) : (s.chOp c g).Shows l f := h.onlyChans (only_chOp s c g).onlyChans

theorem State.Shows.updCh {c : Fin 16} {g : Chan → Chan} (h : s.Shows l f) : (s.updCh c g).Shows l f := h

theorem State.Shows.updLnk {c : Fin 16} {g : Link → Link} (h : s.Shows l f) : (s.updLnk c g).Shows l f := h

theorem State.Shows.setLnk {c : Fin 16} {x : Link} (h : s.Shows l f) : (s.setLnk c x).Shows l f := h

theorem State.Shows.sendTxn {c : Fin 16} (h : s.Shows l f) : (s.sendTxn c).Shows l f := by
  unfold State.sendTxn; dsimp only; split
  · split
    · exact h.setLnk.emit
    · exact h
  · exact h

theorem State.Shows.openTxn {c : Fin 16} {type : Nat} {p : Bytes} {applet : Bool} (h : s.Shows l f) : (s.openTxn c type p applet).Shows l f := by
  unfold State.openTxn; dsimp only; repeat' split
  · exact h.setLnk.sendTxn
  · exact h
  · exact h
  · exact h.setLnk.sendTxn
  · exact h
  · exact h.setLnk.sendTxn

theorem State.Shows.pumpLink {c : Fin 16} (h : s.Shows l f) : (s.pumpLink c).Shows l f := by
  unfold State.pumpLink; dsimp only; repeat' split
  · exact h.sendTxn
  · exact h
  · exact h.setLnk.updLnk.emit
  · exact h.setLnk.openTxn
  · exact h

theorem State.Shows.closeSess {c : Fin 16} {reason : Nat} (h : s.Shows l f) : (s.closeSess c reason).Shows l f := by
  unfold State.closeSess; dsimp only; split
  · exact h
  · exact (h.setLnk.ran (linkReturn_ran _ _ _ _)).pumpLink

theorem State.Shows.partnerRestart {c : Fin 16} (h : s.Shows l f) : (s.partnerRestart c).Shows l f := by
  unfold State.partnerRestart State.partnerRecord; exact h.setLnk.wlog.report

theorem State.Shows.linkRecontract {c : Fin 16} (h : s.Shows l f) : (s.linkRecontract c).Shows l f := by
  unfold State.linkRecontract; split
  · exact h.updLnk
  · exact State.Shows.partnerRestart (h.closeSess.updLnk.updCh)

theorem State.Shows.updRing {e : Eng} {k : Nat} {g : Machine.Ring → Machine.Ring} (h : s.Shows l f) : (s.updRing e k g).Shows l f := by
  have set : (s.updEng e (fun x => { x with rings := x.rings.modify k g })).Shows l f := h
  unfold State.updRing; exact set.ite set.spySend

theorem State.Shows.complete {e : Eng} {k : Nat} {d : Done} (h : s.Shows l f) : (s.complete e k d).Shows l f := State.Shows.updRing h

theorem State.Shows.abortOne {e : Eng} {k : Nat} {code : Code} (h : s.Shows l f) : (s.abortOne e k code).Shows l f := by
  unfold State.abortOne; dsimp only; split
  · split
    · have flash := abortFlash_eq s k (code == .abortTamper)
      have aborted : (s.abortFlash k (code == .abortTamper)).1.Shows l f := by rw [flash]; exact h
      split <;> rename_i eq <;> rw [eq] at aborted <;> exact aborted.complete
    · exact h.complete
  · split
    · exact h.complete
    · exact State.Shows.updRing h

theorem State.Shows.abortMany {n : Nat} {e : Eng} {k : Nat} {code : Code} (h : s.Shows l f) : (State.abortMany n s e k code).Shows l f := by
  induction n generalizing s with
  | zero => exact h
  | succ n ih => exact ih h.abortOne

theorem State.Shows.abortEngines {es : List Eng} {code : Code} (h : s.Shows l f) : (s.abortEngines es code).Shows l f :=
  h.foldl fun _ _ ht => ht.foldl fun _ _ hu => hu.abortMany

/-! ## Zeroization (R266–R270) -/

theorem State.Shows.abandonRun (h : s.Shows l f) : s.abandonRun.Shows l f := by
  unfold State.abandonRun; split
  · exact h
  · exact h

theorem State.Shows.dropSessions (h : s.Shows l f) : s.dropSessions.Shows l f := by
  have dropped := h.eachCh (g := fun c t => (t.updLnk c Link.dropSession).updCh c (fun x => x.pairBack t.tick)) fun _ _ ht => ht
  exact dropped

theorem State.Shows.dropSlip (h : s.Shows l f) : s.dropSlip.Shows l f := h

theorem State.Shows.freezeAll {x : FreezeSrc} (h : s.Shows l f) : (s.freezeAll x).Shows l f := h.onlyChans (onlyChans_freezeAll s x)

theorem State.Shows.releaseAll {x : FreezeSrc} (h : s.Shows l f) : (s.releaseAll x).Shows l f := h.onlyChans (onlyChans_releaseAll s x)

theorem State.Shows.gradeChange (h : s.Shows l f) : s.gradeChange.Shows l f := h

theorem State.Shows.crazedEffects (h : s.Shows l f) : s.crazedEffects.Shows l f := by
  unfold State.crazedEffects
  exact h.gradeChange.freezeAll.releaseAll.wakeMain.withKsm.dropSessions.dropSlip.abortEngines.abandonRun.withEngines

theorem State.Shows.zeroShown (h : s.Shows l f) : s.zeroShown.Shows l f := h.spyEvent

theorem State.Shows.zeroize {cause : SherdCause} (h : s.Shows l f) : (s.zeroize cause).Shows l f := by
  have graded : State.Shows l f { s with tamp := { s.tamp with grade := .shattered, sherdLatch := some cause } } := h
  have z2 {u : State} (hu : u.Shows l f) : (u.zeroZ2 cause).Shows l f := State.Shows.zeroShown (by exact hu)
  have z3 {u : State} (hu : u.Shows l f) : u.zeroZ3.Shows l f := by
    have dropped := hu.dropSessions.dropSlip
    exact State.Shows.zeroShown (by exact dropped)
  have z4 {u : State} (hu : u.Shows l f) : (u.zeroZ4 cause).Shows l f := State.Shows.zeroShown (by exact hu)
  have z5 {u : State} (hu : u.Shows l f) : (u.zeroZ5 cause).Shows l f := State.Shows.zeroShown (by exact hu)
  have z6 {u : State} (hu : u.Shows l f) : (u.zeroZ6 cause).Shows l f := State.Shows.zeroShown (State.Shows.klog (by exact hu))
  unfold State.zeroize; dsimp only; split
  · exact (z6 (z5 (z4 (z3 (z2 graded.crazedEffects.wakeKiln))))).eachCh fun _ _ ht => ht.chOp
  · exact graded.crazedEffects

/-! ## Commits and bundles (R219, R228, R816) -/

theorem State.Shows.burn {w mask : Nat} (h : s.Shows l f) : (s.burn w mask).Shows l f := h

theorem State.Shows.burnHash {w : Nat} {x : Bytes} (h : s.Shows l f) : (s.burnHash w x).Shows l f := h.foldl fun _ _ ht => ht.burn

theorem State.Shows.rotateRoot (h : s.Shows l f) : s.rotateRoot.Shows l f := by
  unfold State.rotateRoot; repeat' split
  · exact h.burnHash.burn.withLife
  · exact h
  · exact h
  · exact h
  · exact h

theorem State.Shows.deleteSlot {k : Nat} (h : s.Shows l f) : (s.deleteSlot k).Shows l f := by
  have stored {x : Slot} : (s.storeSlot k x).Shows l f := h
  have freed {u : State} (hu : u.Shows l f) : (u.freeGen k).Shows l f := by
    unfold State.freeGen; split
    · exact hu
    · exact hu
  have cleared {u : State} (hu : u.Shows l f) : (u.clearWake k).Shows l f := hu.eachCh fun _ _ ht => ht.updLnk
  have recorded {u : State} (hu : u.Shows l f) : (u.keyRecord k).Shows l f := hu
  have deleted {x : Life} := (cleared (freed (stored (x := {})))).withLife (x := x)
  unfold State.deleteSlot; exact (recorded deleted).ite deleted

theorem State.Shows.newKey {k cls usage owner : Nat} {persist : Bool} {mat : Bytes} (h : s.Shows l f) :
    (s.newKey k cls usage owner persist mat).Shows l f := by
  unfold State.newKey; dsimp only; split
  · exact h
  · exact h

theorem State.Shows.commissionKeys {blobs : List Bytes} (h : s.Shows l f) : (s.commissionKeys blobs).Shows l f := by
  have deleted := h.foldl (g := fun t k => t.deleteSlot k) (as := s.life.commSlots) fun _ _ ht => ht.deleteSlot
  refine deleted.withLife.foldl fun t _ ht => ?_
  dsimp only; split
  · exact ht.newKey.withLife
  · exact ht

theorem State.Shows.ignoreContract {c : Fin 16} (h : s.Shows l f) : (s.ignoreContract c).Shows l f := by
  unfold State.ignoreContract; split
  · exact h.withLife.ite h.withLife.wlog
  · exact h

theorem State.Shows.settleContracts (h : s.Shows l f) : s.settleContracts.Shows l f := by
  refine h.eachCh fun c t ht => ?_
  have settled := ht.ignoreContract (c := c)
  dsimp only; repeat' split
  · exact settled.chOp
  · exact settled
  · exact settled

theorem State.Shows.applyContent {g : Staged} {live : Bool} (h : s.Shows l f) : (s.applyContent g live).Shows l f := by
  unfold State.applyContent; dsimp only; split
  · exact h.withLife
  · split
    · refine State.Shows.eachCh h.withLife.commissionKeys.cntAdvance.rotateRoot.settleContracts fun c t ht => ?_
      exact ht.ite (State.Shows.chOp ht.linkRecontract)
    · exact h.withLife.commissionKeys.cntAdvance.rotateRoot

theorem State.Shows.sendPort {p : Port} {msg : Bytes} (h : s.Shows l f) : (s.sendPort p msg).Shows l f := by
  unfold State.sendPort; exact h.emit.ite h

theorem State.Shows.setBStatus {x : BStatus} (h : s.Shows l f) : (s.setBStatus x).Shows l f := by
  unfold State.setBStatus; repeat' split
  · exact h
  · exact State.Shows.sendPort (State.Shows.sendPort (by exact h))
  · exact h

theorem State.Shows.bundleOutcome {result detail : Nat} (h : s.Shows l f) : (s.bundleOutcome result detail).Shows l f := by
  have held : (s.outcomeHeld result detail).Shows l f := h
  have told := (held.klog (code := 0x0501) (detail := (s.resultBody result detail).take 20)).report (type := 0x0C) (body := s.resultBody result detail)
  have rewritten {u : State} (hu : u.Shows l f) : u.rewriteDisplaced.Shows l f := by
    unfold State.rewriteDisplaced; split
    · exact hu
    · exact hu
  unfold State.bundleOutcome; dsimp only; split
  · exact told
  · exact State.Shows.setBStatus (by exact rewritten told)

theorem State.Shows.measure {k : Fin 24} {level event : Nat} {msg : Bytes} (h : s.Shows l f) : (s.measure k level event msg).Shows l f := by
  unfold State.measure; exact State.Shows.ite h h

theorem State.Shows.applyStaged {live : Bool} (h : s.Shows l f) : (s.applyStaged live).Shows l f := by
  unfold State.applyStaged; repeat' split
  · exact h
  · exact h.applyContent.measure.withLife.klogRep.spyEvent.bundleOutcome
  · exact h

/-! ## The burns that waited (R214, R847) -/

theorem State.Shows.burnStaged (h : s.Shows l f) : s.burnStaged.Shows l f := by
  unfold State.burnStaged; repeat' split
  · exact h
  · exact h.zeroize
  · exact h
  · exact h
  · exact h
  · exact h
  · exact h

theorem State.Shows.pursueStaged (h : s.Shows l f) : s.pursueStaged.Shows l f := by
  unfold State.pursueStaged; exact h.burnStaged.applyStaged.ite h.burnStaged

theorem State.Shows.completeBurn (h : s.Shows l f) : s.completeBurn.Shows l f := by
  have burnt {x : Fuses} {v : Nat} : State.Shows l f { s.burn 0 v with fuses := x } := h
  unfold State.completeBurn; dsimp only; split
  · exact (burnt.ite burnt.klogRep).ite (burnt.ite burnt.klogRep).klogRep
  · exact h

theorem State.Shows.pendingBurns (h : s.Shows l f) : s.pendingBurns.Shows l f := by
  have pursued := h.completeBurn.rotateRoot.pursueStaged
  unfold State.pendingBurns; exact pursued.compactDue.ite pursued

theorem State.Shows.factorySeries (h : s.Shows l f) : s.factorySeries.Shows l f := by
  have item {u : State} {code : Nat} {x : Bytes} (hu : u.Shows l f) : (u.factoryItem code x).Shows l f := hu.foldl fun _ _ ht => ht.spyEvent
  exact item (item (item (item h)))

theorem State.Shows.makeKeys (h : s.Shows l f) : s.makeKeys.Shows l f := by
  unfold State.makeKeys; dsimp only
  exact (h.tick1.foldl fun _ _ ht => ht.burn).withFuses.newKey.newKey.newKey.newKey.withMet

theorem State.Shows.personalise {o : FactoryOrder} (h : s.Shows l f) : (s.personalise o).Shows l f := by
  unfold State.personalise
  exact h.makeKeys.burnHash.burnHash.burn.withKsmLife.klog.spyEvent.factorySeries

theorem State.Shows.factoryOrder (h : s.Shows l f) : s.factoryOrder.Shows l f := by
  have ordered : State.Shows l f { s with selft := { s.selft with factoryDue := none } } := h
  unfold State.factoryOrder; repeat' split
  · exact h
  · exact ordered.zeroize
  · exact ordered.personalise
  · exact ordered
  · exact ordered
  · exact h

theorem State.Shows.raiseOption (h : s.Shows l f) : s.raiseOption.Shows l f := by
  unfold State.raiseOption; dsimp only; repeat' split
  · have raised {u : State} (hu : u.Shows l f) : State.Shows l f { u with pwr := { u.pwr with floorRaise := false } } := hu
    exact (raised (h.foldl fun _ _ ht => ht.burn)).klogRep
  · exact h
  · exact h

theorem State.Shows.retryBurns (h : s.Shows l f) : s.retryBurns.Shows l f := by
  unfold State.retryBurns; exact h.pendingBurns.factoryOrder.raiseOption.ite h.pendingBurns.factoryOrder

end Sys2Proof.Machine
end

section
/-! SUPPORT. The Spyhole's messages: what is sent while there is room, and that what follows it leaves it sent (23_test_observe.md
R849–R854). -/

namespace Sys2Proof.Machine

open Sys2Proof

variable {s t : State}

/-! ## Sending (R850) -/

/-- A message enqueued: its SEQ taken, its bytes in the queue, the message in the output. -/
def State.spySent (s : State) (type : Nat) (payload : Bytes) : State :=
  State.emit { s.wakeKiln with spy := { s.wakeKiln.spy with seq := (s.wakeKiln.spy.seq + 1) % 256, fill := s.wakeKiln.spy.fill + (payload.length + 10) } }
    (.spy type (spyFrame type s.wakeKiln.spy.seq payload))

theorem spySend_sends {type n : Nat} {payload : Bytes} (may : s.MaySend type n) (room : payload.length ≤ n) (named : type ≠ 0) :
    s.spySend type payload = s.spySent type payload := by
  obtain ⟨allowed, ready, rom, fits⟩ := may
  have unheld : ¬ (s.pwr.kiln == .rom && !(type == 1 || type == 2)) = true := by
    rcases rom with h | h
    · simp [h]
    · have : type = 1 ∨ type = 2 := by omega
      rcases this with rfl | rfl <;> simp
  unfold State.spySend
  rw [allowed, ready, if_neg (by decide)]
  dsimp only
  rw [if_neg unheld, if_neg (by decide), if_neg (by
    simp only [Bool.or_eq_true, Bool.and_eq_true, decide_eq_true_eq]
    omega)]
  rfl

theorem spySent_sent (s : State) (type : Nat) (payload : Bytes) : Sent (s.spySent type payload) type payload := ⟨_, List.mem_cons_self⟩

theorem State.Shows.sent {type : Nat} {payload : Bytes} {f : Bool} (h : t.Shows s.out f) (sent : Sent s type payload) : Sent t type payload := by
  obtain ⟨q, mem⟩ := sent
  exact ⟨q, h.1.subset mem⟩

/-- What sending leaves alone of the Spyhole's own state. -/
theorem spySend_spy (s : State) (type : Nat) (payload : Bytes) (lc : Bool) :
    ∃ seq fill lost, (s.spySend type payload lc).spy = { s.spy with seq := seq, fill := fill, lost := lost } ∧ fill ≤ s.spy.fill + (payload.length + 10) := by
  have kept : s.wakeKiln.spy = s.spy := by unfold State.wakeKiln; split <;> rfl
  unfold State.spySend; dsimp only; repeat' split
  · exact ⟨_, _, _, rfl, Nat.le_add_right _ _⟩
  · exact ⟨_, _, _, rfl, Nat.le_add_right _ _⟩
  · exact ⟨_, _, _, rfl, Nat.le_add_right _ _⟩
  · exact ⟨_, _, _, rfl, Nat.le_add_right _ _⟩
  · refine ⟨(s.spy.seq + 1) % 256, s.spy.fill + (payload.length + 10), s.spy.lost, ?_, Nat.le_refl _⟩
    change ({ s.wakeKiln.spy with seq := (s.wakeKiln.spy.seq + 1) % 256, fill := s.wakeKiln.spy.fill + (payload.length + 10) } : Spy) = _
    rw [kept]

/-- The Spyhole may send at the end of a window what it might before. -/
theorem State.MaySend.onlyChans {type n : Nat} (h : s.MaySend type n) (o : OnlyChans s t) : t.MaySend type n := by
  have islands : t.pwr.kiln = s.pwr.kiln ∧ t.pwr.optCopy = s.pwr.optCopy := by
    rcases o.2 with hp | hp
    · rw [hp]; exact ⟨rfl, rfl⟩
    · rw [hp]; unfold State.wakeMain; split
      · exact ⟨rfl, rfl⟩
      · exact ⟨rfl, rfl⟩
  obtain ⟨allowed, ready, rom, fits⟩ := h
  have opt : t.opt = s.opt := (congrArg State.opt o.1 :)
  have life : t.life = s.life := (congrArg State.life o.1 :)
  have spy : t.spy = s.spy := (congrArg State.spy o.1 :)
  refine ⟨?_, o.kilnReady.trans ready, by rw [islands.1]; exact rom, by rw [spy]; exact fits⟩
  unfold State.pcInGlazed at allowed ⊢
  rw [islands.2, opt, life]
  exact allowed

theorem State.MaySend.ended {type n : Nat} (h : s.MaySend type n) (k : Nat) : (s.ended k).MaySend type n :=
  State.MaySend.onlyChans (s := s.advanceTo k) h (onlyChans_closeWindows _)

/-- After a message with room for it, the Spyhole may still send what there was room for besides. -/
theorem State.MaySend.after {type n : Nat} {type' : Nat} {payload : Bytes} {lc : Bool} (h : s.MaySend type (n + (payload.length + 10))) :
    (s.spySend type' payload lc).MaySend type n := by
  obtain ⟨allowed, ready, rom, fits⟩ := h
  have logged := spySend_logged s type' payload lc
  obtain ⟨_, fill, _, spy, le⟩ := spySend_spy s type' payload lc
  have opt : (s.spySend type' payload lc).pwr.optCopy = s.pwr.optCopy := (congrArg (fun v => v.pwr.optCopy) logged.1 :)
  have flush : (s.spySend type' payload lc).pwr.flushDone = s.pwr.flushDone := (congrArg (fun v => v.pwr.flushDone) logged.1 :)
  refine ⟨?_, ?_, ?_, ?_⟩
  · unfold State.pcInGlazed at allowed ⊢
    rw [opt, logged.opt, logged.life]
    exact allowed
  · unfold State.kilnReady State.kilnRuns State.railsOk at ready ⊢
    rw [logged.rails, logged.bins, flush]
    rcases logged.2.2 with same | ⟨-, runs⟩
    · rw [same]; exact ready
    · rw [runs]; rfl
  · rcases logged.2.2 with same | ⟨-, runs⟩
    · rw [same]; exact rom
    · exact .inl (by rw [runs]; decide)
  · rw [spy]
    dsimp only
    omega

/-! ## HEARTBEAT (R851) -/

theorem heartbeatBody_length (s : State) : s.heartbeatBody.length = 40 := by
  simp [State.heartbeatBody, State.deviceId]

theorem heartbeatBody_identity (s : State) : s.heartbeatBody.take 16 = s.deviceId := by
  have whole : s.deviceId.length = 16 := by simp [State.deviceId]
  simp only [State.heartbeatBody, List.append_assoc]
  rw [← whole, List.take_left]

/-- The end of the heartbeat period, whatever it was. -/
def State.heartbeatDue (s : State) : State := (match s.spy.hbAt with | some t => s.advanceTo (t + s.heartbeatPeriod) | none => s).closeWindows

theorem heartbeatDue_ended (s : State) : s.heartbeatDue.deviceId = s.deviceId ∧ s.heartbeatDue.selft = s.selft ∧
    ∀ type n, s.MaySend type n → s.heartbeatDue.MaySend type n := by
  have closes (u : State) (fuses : u.fuses = s.fuses) (selft : u.selft = s.selft) (may : ∀ type n, s.MaySend type n → u.MaySend type n) :
      u.closeWindows.deviceId = s.deviceId ∧ u.closeWindows.selft = s.selft ∧ ∀ type n, s.MaySend type n → u.closeWindows.MaySend type n := by
    have only := onlyChans_closeWindows u
    have burnt : u.closeWindows.fuses = s.fuses := (congrArg State.fuses only.1 :).trans fuses
    have tests : u.closeWindows.selft = s.selft := (congrArg State.selft only.1 :).trans selft
    refine ⟨?_, tests, fun type n h => (may type n h).onlyChans only⟩
    unfold State.deviceId State.fuse
    rw [burnt]
  unfold State.heartbeatDue
  split
  · exact closes _ rfl rfl fun _ _ h => h
  · exact closes _ rfl rfl fun _ _ h => h

/-- The instant of the heartbeat is noted. -/
def State.beaten (s : State) : State := { s with spy := { s.spy with hbAt := some s.tick } }

/-- In a factory power-up the series follows. -/
def State.beatSeries (s : State) : State := if s.selft.factory && s.life.firing == .bisque then s.factorySeries else s

theorem beatSeries_rest (rest : s.selft.factory = false) : s.beatSeries = s := by
  unfold State.beatSeries
  rw [rest]
  exact if_neg Bool.false_ne_true

theorem beaten_rest (rest : s.selft.factory = false) : s.beaten.beatSeries = s.beaten := beatSeries_rest rest

theorem exec_heartbeat (ready : s.kilnReady = true) (source : s.clk.tickSrc ≠ none) :
    exec .heartbeat s = .next (s.heartbeatDue.spySend 1 s.heartbeatDue.heartbeatBody).retryBurns.beaten.beatSeries := by
  change execHeartbeat s = _
  unfold execHeartbeat
  rw [ready, if_neg (by simp [Option.isNone_iff_eq_none, source])]
  unfold State.beatSeries State.beaten State.heartbeatDue
  cases s.spy.hbAt with
  | none => dsimp only
  | some t => dsimp only

/-- The burns that waited keep what has been sent, and the power-up what it is. -/
theorem retryBurns_keeps {type : Nat} {payload : Bytes} (sent : Sent s type payload) :
    Sent s.retryBurns type payload ∧ s.retryBurns.selft.factory = s.selft.factory :=
  ⟨(State.Shows.self s).retryBurns.sent sent, (State.Shows.self s).retryBurns.2⟩

theorem heartbeat_sends (ready : s.kilnReady = true) (source : s.clk.tickSrc ≠ none) (rest : s.selft.factory = false) (may : s.MaySend 1 40) :
    Does .heartbeat s (fun t => t.spy.hbAt = some t.tick ∧ ∃ b, Sent t 1 b ∧ b.length = 40 ∧ b.take 16 = s.deviceId) := by
  obtain ⟨device, tests, sends⟩ := heartbeatDue_ended s
  have body := heartbeatBody_length s.heartbeatDue
  have told : Sent (s.heartbeatDue.spySend 1 s.heartbeatDue.heartbeatBody) 1 s.heartbeatDue.heartbeatBody := by
    rw [spySend_sends (sends 1 40 may) (Nat.le_of_eq body) (by decide)]
    exact spySent_sent _ _ _
  obtain ⟨still, same⟩ := retryBurns_keeps told
  rw [(spySend_logged _ _ _ _).selft, tests, rest] at same
  have taken := exec_heartbeat ready source
  rw [beaten_rest same] at taken
  generalize (s.heartbeatDue.spySend 1 s.heartbeatDue.heartbeatBody).retryBurns = u at taken still
  exact ⟨u.beaten, taken, rfl, _, still, body, (heartbeatBody_identity _).trans device⟩

/-! ## PC messages (R851, R852) -/

theorem pcMsg_spySend (s : State) (k : Fin 2) : s.pcMsg k = s ∨ ∃ p : Bytes, p.length = 6 ∧ s.pcMsg k = s.spySend 6 p := by
  unfold State.pcMsg; dsimp only; split
  · split
    · exact .inr ⟨_, by simp, rfl⟩
    · exact .inl rfl
  · exact .inl rfl

theorem pcMsg_logged (s : State) (k : Fin 2) : Logged s (s.pcMsg k) := by
  rcases pcMsg_spySend s k with same | ⟨_, -, sent⟩
  · rw [same]; exact .rfl' s
  · rw [sent]; exact spySend_logged _ _ _ _

theorem State.Shows.pcMsg {l : List Emit} {f : Bool} {k : Fin 2} (h : s.Shows l f) : (s.pcMsg k).Shows l f := by
  rcases pcMsg_spySend s k with same | ⟨_, -, sent⟩
  · rw [same]; exact h
  · rw [sent]; exact h.spySend

/-- The PC message of core `k` that runs domain `d`. -/
def State.pcBody (s : State) (k : Fin 2) (d : Fin 16) : Bytes :=
  beBytes 1 k.val ++ beBytes 1 d.val ++ beBytes 4 (s.core[k].pc - s.app[d].imgAt)

theorem pcMsg_sent {k : Fin 2} {d : Fin 16} (runs : s.running k = some d) (level : s.core[k].level = .p2) (awake : s.core[k].wfi = false)
    (may : s.MaySend 6 6) : Sent (s.pcMsg k) 6 (s.pcBody k d) := by
  have shape : s.pcMsg k = s.spySend 6 (s.pcBody k d) := by
    unfold State.pcMsg
    rw [runs]
    exact if_pos (by unfold State.coreOf; rw [level, awake]; rfl)
  rw [shape, spySend_sends may (by simp [State.pcBody]) (by decide)]
  exact spySent_sent _ _ _

theorem pcSample_sends {k : Fin 2} {d : Fin 16} (period : s.spy.pcPeriod ≠ 0) (main : s.mainRuns = true) (may : s.MaySend 6 22)
    (runs : s.running k = some d) (level : s.core[k].level = .p2) (awake : s.core[k].wfi = false) :
    Does .pcSample s (fun t => Sent t 6 (s.pcBody k d) ∧ t.core = s.core) := by
  have less : s.MaySend 6 6 := ⟨may.1, may.2.1, may.2.2.1, by have := may.2.2.2; omega⟩
  have first := pcMsg_logged s 0
  refine ⟨(s.pcMsg 0).pcMsg 1, congrArg Host.Outcome.next (if_neg (by simp [period, main])), ?_, (first.trans (pcMsg_logged _ 1)).core⟩
  rcases Fin.exists_fin_two.mp ⟨k, rfl⟩ with rfl | rfl
  · exact (State.Shows.self (s.pcMsg 0)).pcMsg.sent (pcMsg_sent runs level awake less)
  · have runs' : (s.pcMsg 0).running 1 = some d := by
      unfold State.running State.cpuOf State.appOf at runs ⊢
      rw [first.app]; exact runs
    have may' : (s.pcMsg 0).MaySend 6 6 := by
      rcases pcMsg_spySend s 0 with same | ⟨p, six, sent⟩
      · rw [same]; exact less
      · rw [sent]; exact State.MaySend.after (by rw [six]; exact may)
    have body : (s.pcMsg 0).pcBody 1 d = s.pcBody 1 d := by
      unfold State.pcBody
      rw [first.core, first.app]
    rw [← body]
    exact pcMsg_sent runs' (by rw [first.core]; exact level) (by rw [first.core]; exact awake) may'

/-! ## OCC (R851, R854) -/

/-- What every message keeps, the messages of rings and of counters keep. -/
theorem ringMessages_keeps {P : State → Prop} (kept : ∀ t type p lc, P t → P (t.spySend type p lc)) (h : P s) : P s.ringMessages := by
  unfold State.ringMessages
  refine List.foldlRecOn (motive := P) _ _ h fun t ht e _ => List.foldlRecOn (motive := P) _ _ ht fun u hu k _ => ?_
  split
  · exact hu
  · exact kept u _ _ _ hu

theorem cntMessages_keeps {P : State → Prop} (kept : ∀ t type p lc, P t → P (t.spySend type p lc)) (h : P s) : P s.cntMessages := by
  unfold State.cntMessages
  split
  · exact List.foldlRecOn (motive := P) _ _ h fun t ht _ _ => kept t _ _ _ ht
  · exact List.foldlRecOn (motive := P) _ _ h fun t ht _ _ => kept t _ _ _ ht
  · exact kept _ _ _ _ (kept _ _ _ _ (kept _ _ _ _ (kept _ _ _ _ h)))

theorem occBody_length (window : Nat) (busy : List Nat) : (occBody window busy).length = 23 := by
  simp [occBody, List.length_flatMap]

/-- The messages of rings, and those of counters, that go with an OCC. -/
def State.occRings (s : State) : State := if s.spy.ringEn then s.ringMessages else s
def State.occCounts (s : State) : State := if s.spy.cntEn then s.cntMessages else s

theorem occRings_keeps {P : State → Prop} (kept : ∀ t type p lc, P t → P (t.spySend type p lc)) (h : P s) : P s.occRings := by
  unfold State.occRings; split
  · exact ringMessages_keeps kept h
  · exact h

theorem occCounts_keeps {P : State → Prop} (kept : ∀ t type p lc, P t → P (t.spySend type p lc)) (h : P s) : P s.occCounts := by
  unfold State.occCounts; split
  · exact cntMessages_keeps kept h
  · exact h

/-- An OCC message is sent; those that follow keep it, and the live window. -/
theorem occ_sent {payload : Bytes} (may : s.MaySend 3 23) (fits : payload.length = 23) :
    Sent (s.spySend 3 payload).occRings.occCounts 3 payload ∧ (s.spySend 3 payload).occRings.occCounts.spy.liveWindow = s.spy.liveWindow := by
  have told : Sent (s.spySend 3 payload) 3 payload := by
    rw [spySend_sends may (Nat.le_of_eq fits) (by decide)]
    exact spySent_sent _ _ _
  have live (v : State) (type : Nat) (p : Bytes) (lc : Bool) (h : v.spy.liveWindow = s.spy.liveWindow) :
      (v.spySend type p lc).spy.liveWindow = s.spy.liveWindow := by
    obtain ⟨_, _, _, spy, -⟩ := spySend_spy v type p lc
    rw [spy]; exact h
  refine ⟨State.Shows.sent (f := (s.spySend 3 payload).selft.factory) ?_ told, ?_⟩
  · exact occCounts_keeps (fun _ _ _ _ h => h.spySend) (occRings_keeps (fun _ _ _ _ h => h.spySend) (State.Shows.self _))
  · exact occCounts_keeps (P := fun v => v.spy.liveWindow = s.spy.liveWindow) live (occRings_keeps live (live s _ _ _ rfl))

/-- The end of an OCC period is noted, with the group of counters that is next. -/
def State.occNoted (s : State) : State :=
  { s with spy := { s.spy with occAt := some s.tick, cntGroup := if s.spy.cntEn then (s.spy.cntGroup + 1) % 3 else s.spy.cntGroup } }

/-- The live counters gone on. -/
def State.occCounted (s : State) (window : Nat) (busy : List Nat) : State := { s with spy := s.spy.count window busy }

theorem exec_occPeriod {window : Nat} {busy : List Nat} (period : s.spy.occPeriod ≠ 0) (up : s.mainUp = true) (source : s.clk.tickSrc ≠ none)
    (ready : s.kilnReady = true) : exec (.occPeriod window busy) s = .next
      ((((s.ended (s.spy.occAt.getD s.tick + max 33 s.spy.occPeriod)).occCounted window busy).spySend 3 (occBody window busy)).occRings.occCounts.occNoted) := by
  change execOccPeriod window busy s = _
  unfold execOccPeriod
  rw [if_neg (by simp [period, up, Option.isNone_iff_eq_none, source, ready])]
  unfold State.occNoted State.occCounts State.occRings State.occCounted State.ended
  dsimp only

theorem occPeriod_sends {window : Nat} {busy : List Nat} (period : s.spy.occPeriod ≠ 0) (up : s.mainUp = true) (source : s.clk.tickSrc ≠ none)
    (may : s.MaySend 3 23) : Does (.occPeriod window busy) s (fun t =>
      Sent t 3 (occBody window busy) ∧ t.spy.occAt = some t.tick ∧ t.spy.liveWindow = min (2 ^ 32 - 1) (s.spy.liveWindow + window)) := by
  have taken := exec_occPeriod (window := window) (busy := busy) period up source may.2.1
  have ended := may.ended (s.spy.occAt.getD s.tick + max 33 s.spy.occPeriod)
  have spy : (s.ended (s.spy.occAt.getD s.tick + max 33 s.spy.occPeriod)).spy = s.spy := (congrArg State.spy (onlyChans_closeWindows _).1 :)
  generalize s.ended (s.spy.occAt.getD s.tick + max 33 s.spy.occPeriod) = s1 at taken ended spy
  have counted : (s1.occCounted window busy).MaySend 3 23 := ended
  have live : (s1.occCounted window busy).spy.liveWindow = min (2 ^ 32 - 1) (s.spy.liveWindow + window) := by rw [← spy]; rfl
  generalize s1.occCounted window busy = u at taken counted live
  obtain ⟨sent, same⟩ := occ_sent counted (occBody_length window busy)
  generalize (u.spySend 3 (occBody window busy)).occRings.occCounts = v at taken sent same
  exact ⟨v.occNoted, taken, sent, rfl, same.trans live⟩

/-! ## SNAP (R854) -/

theorem occSnap_takes {window : Nat} {busy : List Nat} (runs : s.mainRuns = true) : Does (.occSnap window busy) s (fun t =>
    t = { s with spy := t.spy } ∧ t.spy.occWindow = min (2 ^ 32 - 1) (s.spy.liveWindow + window) ∧ t.spy.liveWindow = 0 ∧
      ∀ i : Fin 19, t.spy.occBusy[i] = min (2 ^ 32 - 1) (s.spy.liveBusy[i] + busy.getD i.val 0) ∧ t.spy.liveBusy[i] = 0) := by
  refine ⟨_, congrArg Host.Outcome.next (if_pos runs), rfl, rfl, rfl, fun i => ⟨?_, ?_⟩⟩
  · simp [Spy.count, satAdd]
  · simp

end Sys2Proof.Machine
end

section
/-! SUPPORT. Self-test runs: the result of a partition, the start of a scheduled run, the close of a window; and O53 (23_test_observe.md
R834–R842, R846). -/

namespace Sys2Proof.Machine

open Sys2Proof

variable {s t : State}

/-! ## A partition's result (R842, R846) -/

theorem sendTxn_selft (s : State) (c : Fin 16) : (s.sendTxn c).selft = s.selft := by
  unfold State.sendTxn; dsimp only; split
  · split
    · rfl
    · rfl
  · rfl

theorem openTxn_selft (s : State) (c : Fin 16) (type : Nat) (p : Bytes) (applet : Bool) : (s.openTxn c type p applet).selft = s.selft := by
  unfold State.openTxn; dsimp only; repeat' split
  · exact sendTxn_selft _ c
  · rfl
  · rfl
  · exact sendTxn_selft _ c
  · rfl
  · exact sendTxn_selft _ c

theorem pumpLink_selft (s : State) (c : Fin 16) : (s.pumpLink c).selft = s.selft := by
  unfold State.pumpLink; dsimp only; repeat' split
  · exact sendTxn_selft s c
  · rfl
  · rfl
  · exact openTxn_selft _ c _ _ _
  · rfl

theorem linkRetire_selft (s : State) (c : Fin 16) : (s.linkRetire c).selft = s.selft := by
  have updated (u : State) (g : Link → Link) : (u.updLnk c g).selft = u.selft := rfl
  unfold State.linkRetire State.closeSess
  dsimp only
  rw [updated]
  split
  · rfl
  · exact (pumpLink_selft _ c).trans (congrArg State.selft (linkReturn_ran _ c .abortReset []) :)

theorem chan_linkRetire (s : State) (c d : Fin 16) : (s.linkRetire c).chan d = s.chan d := by
  unfold State.linkRetire State.closeSess
  dsimp only
  rw [chan_updLnk]
  split
  · rfl
  · rw [chan_pumpLink, (linkReturn_ran _ _ _ _).chan, chan_setLnk]

theorem chOp_selft (s : State) (c : Fin 16) (f : Chan → Chan) : (s.chOp c f).selft = s.selft := (congrArg State.selft (only_chOp s c f).1 :)

theorem announced_selft (s : State) (code grade kind ev index shown at_ : Nat) (detail shownDetail : Bytes) (report : Bool) :
    ((s.wlog code grade detail report).spyEvent kind ev index shown at_ shownDetail).selft = s.selft :=
  (spyEvent_logged _ _ _ _ _ _ _).selft.trans (wlog_logged _ _ _ _ _).selft

theorem retireCh_selft (s : State) (c : Fin 16) (pads : Bool) : (s.retireCh c pads).selft = s.selft := by
  unfold State.retireCh; dsimp only; split
  · rfl
  · rw [announced_selft]
    exact (chOp_selft _ c _).trans (linkRetire_selft s c)

theorem returnCh_selft (s : State) (c : Fin 16) (at_ : Nat) : (s.returnCh c at_).selft = s.selft := by
  unfold State.returnCh; dsimp only; split
  · rfl
  · rw [announced_selft]
    exact chOp_selft _ c _

/-- A channel that is not fused leaves retirement retired, whether it was or not. -/
theorem retireCh_retired {c : Fin 16} {pads : Bool} (unfused : (s.chan c).fused = false) : ((s.retireCh c pads).chan c).retired = true := by
  cases was : (s.chan c).retired with
  | true =>
    have shape : s.retireCh c pads = s := if_pos (by rw [was]; rfl)
    rw [shape]; exact was
  | false =>
    unfold State.retireCh
    rw [if_neg (by rw [was, unfused]; decide)]
    dsimp only
    rw [chan_announced, chan_recordRetired, chan_chOp_self]
    refine (Chan.retire_of_working ?_ ?_ _).1
    · rw [due_retired, chan_linkRetire]; exact was
    · rw [due_fused, chan_linkRetire]; exact unfused

theorem channelResult_selft (s : State) (k : Nat) (c : Fin 16) (pass : Bool) (at_ : Nat) : (s.channelResult k c pass at_).selft = s.selft := by
  have returned (u : State) (p q : Bool) (same : u.selft = s.selft) :
      (if q then (if p then u.returnCh c at_ else u) else s).selft = s.selft := by
    split
    · split
      · exact (returnCh_selft u c at_).trans same
      · exact same
    · rfl
  unfold State.channelResult; dsimp only; split
  · repeat' split
    · rfl
    · exact chOp_selft s c _
    · rfl
    · exact retireCh_selft s c false
  · exact returned _ _ _ rfl

/-- A failed partition of a guarded channel retires the channel. -/
theorem channelResult_retires {k : Nat} {c : Fin 16} {at_ : Nat} (cls : s.straps.cls[c] ∈ [EClass.h, EClass.a]) (unfused : (s.chan c).fused = false) :
    ((s.channelResult k c false at_).chan c).retired = true := by
  have shape : s.channelResult k c false at_ = s.retireCh c false := by
    unfold State.channelResult
    rcases List.mem_pair.mp cls with h | h
    · rw [h]; rfl
    · rw [h]; rfl
  rw [shape]
  exact retireCh_retired unfused

/-- The state of the sequencer once partition `k` of run `r` has its result. -/
def SelfT.took (x : SelfT) (r : StRun) (k : Nat) (pass : Bool) : SelfT :=
  { x with
    run := some { r with todo := r.todo.filter (fun j => j != k) }
    prepared := if x.prepared = some k then none else x.prepared
    results := x.results.setIfInBounds k (if pass then 0 else 1) }

theorem partResult_selft (s : State) (r : StRun) (k : Nat) (pass : Bool) : (s.partResult r k pass).selft = s.selft.took r k pass := by
  unfold State.partResult; dsimp only; split
  · exact (channelResult_selft _ k _ pass _).trans (spyEvent_logged _ _ _ _ _ _ _).selft
  · exact (spyEvent_logged _ _ _ _ _ _ _).selft

theorem partResult_retires {r : StRun} {k : Nat} {c : Fin 16} (part : partChannel k = some c) (cls : s.straps.cls[c] ∈ [EClass.h, EClass.a])
    (unfused : (s.chan c).fused = false) : ((s.partResult r k false).chan c).retired = true := by
  unfold State.partResult
  rw [part]
  dsimp only
  refine channelResult_retires ?_ ?_
  · rw [(spyEvent_logged _ _ _ _ _ _ _).straps]; exact cls
  · rw [(spyEvent_logged _ _ _ _ _ _ _).chan]; exact unfused

theorem slipHello_selft (s : State) : s.slipHello.selft = s.selft := by
  have kept (p : Bool) (u : State) (h : u.selft = s.selft) : (if p then s else u).selft = s.selft := by
    split
    · rfl
    · exact h
  unfold State.slipHello
  exact kept _ _ ((congrArg State.selft (joint_slipSend _ _ _ _ _).1 :).trans (drbg_logged s).selft)

theorem afterTest_selft (s : State) (k : Nat) : (s.afterTest k).selft = s.selft := by
  unfold State.afterTest; split
  · exact slipHello_selft s
  · rfl

/-- A run that has not tested everything goes on. -/
theorem runOn_goes {x : SelfT} {r : StRun} {k : Nat} {pass : Bool} (took : s.selft = x.took r k pass) (more : ∃ j ∈ r.todo, j ≠ k) :
    s.runOn r = s := by
  obtain ⟨j, mem, other⟩ := more
  have left : j ∈ r.todo.filter (fun j => j != k) := List.mem_filter.mpr ⟨mem, by simpa using other⟩
  have waits : s.runDone = false := by
    unfold State.runDone
    rw [took]
    exact List.isEmpty_eq_false_iff_exists_mem.mpr ⟨j, left⟩
  unfold State.runOn
  rw [waits]
  rfl

/-- A channel's partition is no other unit's, and its test leaves nothing in one. -/
theorem testEffect_channel (s : State) {k : Nat} {c : Fin 16} (part : partChannel k = some c) :
    k ≠ 61 ∧ k ≠ 10 ∧ s.testEffect k = s := by
  have range : 16 ≤ k ∧ k < 48 := by
    unfold partChannel at part
    split at part
    · omega
    · split at part
      · omega
      · cases part
  refine ⟨by omega, by omega, ?_⟩
  unfold State.testEffect
  split
  case h_11 => rfl
  all_goals omega

/-- The run's test of a partition takes the result, and goes on. -/
theorem partitionTestDone_takes {k : Nat} {sig : Bytes} {faulty : Bool} {bad : List Nat} {r : StRun} (run : s.selft.run = some r) (mem : k ∈ r.todo)
    (unheld : s.provisional = false) (calm : s.crazed = false) (runs : s.kilnRuns = true) (idle : r.trigger.whole = true ∨ s.partIdle k = true)
    (more : ∃ j ∈ r.todo, j ≠ k) : ∃ u : State, (partChannel k ≠ none → u = s) ∧
      exec (.partitionTestDone k sig faulty bad) s = .next ((u.partResult r k (s.testPasses k sig faulty bad)).afterTest k) := by
  refine ⟨if k = 61 then s.flashSweep bad else s.testEffect k, fun some => ?_, ?_⟩
  · obtain ⟨c, part⟩ := Option.ne_none_iff_exists'.mp some
    obtain ⟨flash, -, still⟩ := testEffect_channel s part
    rw [if_neg flash, still]
  · have due : (r.trigger.whole || s.partIdle k) = true := by
      rcases idle with h | h
      · rw [h]; rfl
      · rw [h]; exact Bool.or_true _
    change execPartitionTestDone k sig faulty bad s = _
    unfold execPartitionTestDone
    rw [run]
    dsimp only
    rw [unheld, calm, runs, due, List.contains_iff_mem.mpr mem, if_neg (by decide)]
    exact congrArg Host.Outcome.next (runOn_goes ((afterTest_selft _ _).trans (partResult_selft _ _ _ _)) more)

theorem testPasses_iff (s : State) (k : Nat) (sig : Bytes) (faulty : Bool) (bad : List Nat) :
    s.testPasses k sig faulty bad = true ↔ faulty = false ∧ (if k = 61 then bad = [] else sig = s.golden k) := by
  unfold State.testPasses
  split <;> simp

theorem partitionTestDone_records {k : Fin 64} {sig : Bytes} {faulty : Bool} {bad : List Nat} {r : StRun} (run : s.selft.run = some r)
    (mem : k.val ∈ r.todo) (unheld : s.provisional = false) (calm : s.crazed = false) (runs : s.kilnRuns = true)
    (idle : r.trigger.whole = true ∨ s.partIdle k = true) (more : ∃ j ∈ r.todo, j ≠ k.val) :
    Does (.partitionTestDone k sig faulty bad) s (fun t =>
      (t.selft.results[k] = 0 ↔ faulty = false ∧ (if k.val = 61 then bad = [] else sig = s.golden k)) ∧
      t.selft.run = some { r with todo := r.todo.filter (fun j => j != k.val) } ∧
      ∀ c : Fin 16, partChannel k = some c → t.selft.results[k] = 1 → s.straps.cls[c] ∈ [EClass.h, EClass.a] → (s.chan c).fused = false →
        (t.chan c).retired = true) := by
  obtain ⟨u, channel, taken⟩ := partitionTestDone_takes (sig := sig) (faulty := faulty) (bad := bad) run mem unheld calm runs idle more
  have took := (afterTest_selft (u.partResult r k (s.testPasses k sig faulty bad)) k).trans (partResult_selft u r k _)
  have result : (u.selft.took r k (s.testPasses k sig faulty bad)).results[k] = if s.testPasses k sig faulty bad then 0 else 1 := by
    simp [SelfT.took]
  have still {c : Fin 16} (part : partChannel k = some c) (v : State) : v.afterTest k = v :=
    if_neg fun h => (testEffect_channel s part).2.1 h.1
  refine ⟨_, taken, ?_, ?_, fun c part failed cls unfused => ?_⟩
  · rw [took, result, ← testPasses_iff]
    split
    · simp_all
    · simp_all
  · rw [took]; rfl
  · rw [took, result] at failed
    have bad_ : s.testPasses k sig faulty bad = false := by
      by_contra pass
      rw [Bool.not_eq_false] at pass
      rw [pass] at failed
      exact absurd failed (by decide)
    rw [still part, bad_, channel (by rw [part]; exact Option.some_ne_none _)]
    exact partResult_retires part cls unfused

/-! ## The start of a scheduled run (R834) -/

/-- A run begun, as the sequencer holds it. -/
theorem beginRun_selft (s : State) (tr : StTrigger) (mask : List Nat) (window : Nat) : ∃ todo close started, (s.beginRun tr mask window).selft =
    { s.selft with
      number := (s.selft.number + 1) % 65536, trigger := some tr, startedAt := started, duration := 0
      run := some { trigger := tr, todo := todo, started := started, close := close }
      results := Vector.replicate 64 3, prepared := none
      lastFull := (s.beginRun tr mask window).selft.lastFull } := by
  have woken : s.wakeKiln.selft = s.selft := (wakeKiln_logged s).selft
  unfold State.beginRun
  dsimp only
  rw [(spyEvent_logged _ _ _ _ _ _ _).selft, woken]
  exact ⟨_, _, _, rfl⟩

theorem beginRun_tick (s : State) (tr : StTrigger) (mask : List Nat) (window : Nat) : (s.beginRun tr mask window).tick = s.tick :=
  (spyEvent_logged _ _ _ _ _ _ _).tick.trans (wakeKiln_logged s).tick

/-- A Running main island is not woken: only the channels change with a window's close. -/
theorem ended_running (runs : s.mainRuns = true) (k : Nat) : (s.ended k).pwr = s.pwr := by
  have awake : s.pwr.main ≠ .retention := by
    rw [show s.pwr.main = .running by simpa [State.mainRuns] using runs]; decide
  rcases (onlyChans_closeWindows (s.advanceTo k)).2 with h | h
  · exact h
  · exact h.trans (wakeMain_pwr_of_ne (s := s.advanceTo k) awake)

theorem ended_mayTest (may : s.mayTest = true) (k : Nat) : (s.ended k).mayTest = true := by
  have only := onlyChans_closeWindows (s.advanceTo k)
  have runs : s.mainRuns = true := by
    unfold State.mayTest State.wheelRuns at may
    simp only [Bool.and_eq_true] at may
    exact may.1.1.1.1.1.1
  have life : (s.ended k).life = s.life := (congrArg State.life only.1 :)
  unfold State.mayTest State.wheelRuns at may ⊢
  rw [ended_kilnReady, ended_running runs, life]
  have tamp := ended_tamp s k
  unfold State.crazed at may ⊢
  rw [tamp]
  exact may

/-- The instant at which the next scheduled run is due. -/
def State.scheduleDue (s : State) : Nat := s.tick + (s.selft.lastFull + s.schedInterval - s.powered)

theorem scheduledRun_begins (may : s.mayTest = true) (free : s.selft.run = none) (interval : s.schedInterval ≠ 0) (source : s.clk.tickSrc ≠ none) :
    exec .scheduledRun s = .next ((s.ended s.scheduleDue).beginRun .schedule fullMask s.schedWindow) := by
  have tests := ended_mayTest may s.scheduleDue
  have selft : (s.ended s.scheduleDue).selft = s.selft := (congrArg State.selft (onlyChans_closeWindows _).1 :)
  have life : (s.ended s.scheduleDue).life = s.life := (congrArg State.life (onlyChans_closeWindows _).1 :)
  unfold State.mayTest State.wheelRuns at may
  simp only [Bool.and_eq_true, bne_iff_ne] at may
  obtain ⟨⟨⟨⟨⟨⟨-, -⟩, -⟩, fired⟩, ready⟩, -⟩, copy⟩ := may
  have due : exec .scheduledRun s = .next ((s.ended s.scheduleDue).triggerRun .schedule fullMask s.schedWindow) := by
    refine congrArg Host.Outcome.next (if_neg ?_)
    simp [Option.isNone_iff_eq_none, interval, source, fired, ready, Option.isSome_iff_ne_none.mp copy]
  rw [due]
  unfold State.triggerRun
  rw [if_neg (by rw [life]; exact fired), selft, free, tests]
  exact congrArg Host.Outcome.next (if_pos rfl)

theorem scheduledRun_does (may : s.mayTest = true) (free : s.selft.run = none) (interval : s.schedInterval ≠ 0) (source : s.clk.tickSrc ≠ none) :
    Does .scheduledRun s (fun t =>
      t.selft.number = (s.selft.number + 1) % 65536 ∧ t.selft.trigger = some .schedule ∧ (∃ r, t.selft.run = some r ∧ r.trigger = .schedule) ∧
      (∀ j : Fin 64, t.selft.results[j] = 3) ∧
      t.tick = max s.tick (min (s.tick + (s.selft.lastFull + s.schedInterval - s.powered)) (2 ^ 48 - 1))) := by
  obtain ⟨todo, close, started, begun⟩ := beginRun_selft (s.ended s.scheduleDue) .schedule fullMask s.schedWindow
  have selft : (s.ended s.scheduleDue).selft = s.selft := (congrArg State.selft (onlyChans_closeWindows _).1 :)
  refine ⟨_, scheduledRun_begins may free interval source, ?_, ?_, ?_, fun j => ?_, ?_⟩
  · rw [begun, selft]
  · rw [begun]
  · rw [begun]; exact ⟨_, rfl, rfl⟩
  · rw [begun]; simp
  · rw [beginRun_tick, ended_tick]; rfl

/-! ## The close of a run's window (R836) -/

theorem selfLog_selft (s : State) : ∃ due, s.selfLog.selft = { s.selft with logDue := due } := by
  unfold State.selfLog; split
  · dsimp only
    exact ⟨false, (wlog_logged _ _ _ _ _).selft⟩
  · exact ⟨s.selft.logDue, rfl⟩

theorem selfLog_tick (s : State) : s.selfLog.tick = s.tick := by
  unfold State.selfLog; split
  · exact (wlog_logged _ _ _ _ _).tick
  · rfl

theorem startKept_none (none : s.selft.kept = none) : s.startKept = s := by
  unfold State.startKept
  rw [none]

/-- Every listed entry of the results becomes DEFERRED. -/
theorem deferred_getElem (l : List Nat) (v : Vector Nat 64) (j : Fin 64) :
    (l.foldl (fun v k => v.setIfInBounds k 2) v)[j] = if j.val ∈ l then 2 else v[j] := by
  induction l generalizing v with
  | nil => rfl
  | cons k l ih =>
    rw [List.foldl_cons, ih]
    by_cases later : j.val ∈ l
    · rw [if_pos later, if_pos (List.mem_cons_of_mem k later)]
    · rw [if_neg later]
      by_cases same : k = j.val
      · rw [if_pos (same ▸ List.mem_cons_self)]
        simp [same]
      · rw [if_neg (by simp [later, Ne.symm same])]
        simp [same]

theorem endRun_defers {r : StRun} (run : s.selft.run = some r) (kept : s.selft.kept = none) :
    s.endRun.selft.run = none ∧ s.endRun.selft.deferred = r.todo.filter (fun k => k != 58) ∧ s.endRun.tick = s.tick ∧
      s.endRun.selft.results = (r.todo.filter (fun k => k != 58)).foldl (fun v k => v.setIfInBounds k 2) s.selft.results := by
  let u : State := { s with selft := { s.selft with
    run := none, prepared := none, logDue := true
    deferred := r.todo.filter (fun k => k != 58), twice := (r.todo.filter (fun k => k != 58)).filter (fun k => s.selft.deferred.contains k)
    results := (r.todo.filter (fun k => k != 58)).foldl (fun v k => v.setIfInBounds k 2) s.selft.results
    duration := min 65535 ((s.powered - r.started) * 1000 / 32768) } }
  obtain ⟨due, logged⟩ := selfLog_selft u
  have shape : s.endRun = u.selfLog := by
    unfold State.endRun
    rw [run]
    exact startKept_none (by rw [logged]; exact kept)
  rw [shape, logged]
  exact ⟨rfl, rfl, selfLog_tick u, rfl⟩

theorem runWindowClose_does {r : StRun} {at_ : Nat} (run : s.selft.run = some r) (close : r.close = some at_) (source : s.clk.tickSrc ≠ none)
    (kept : s.selft.kept = none) : Does .runWindowClose s (fun t =>
      t.selft.run = none ∧ t.selft.deferred = r.todo.filter (fun j => j != 58) ∧ t.tick = max s.tick (min at_ (2 ^ 48 - 1)) ∧
      ∀ j : Fin 64, j.val ∈ r.todo → j.val ≠ 58 → t.selft.results[j] = 2) := by
  have selft : (s.ended at_).selft = s.selft := (congrArg State.selft (onlyChans_closeWindows _).1 :)
  obtain ⟨stopped, deferred, tick, results⟩ := endRun_defers (s := s.ended at_) (by rw [selft]; exact run) (by rw [selft]; exact kept)
  have taken : exec .runWindowClose s = .next (s.ended at_).endRun := by
    change execRunWindowClose s = _
    unfold execRunWindowClose
    rw [run]
    dsimp only
    rw [close]
    exact congrArg Host.Outcome.next (if_neg (by simpa [Option.isNone_iff_eq_none] using source))
  refine ⟨_, taken, stopped, deferred, tick.trans (ended_tick s at_), fun j mem other => ?_⟩
  rw [results, deferred_getElem, if_pos (List.mem_filter.mpr ⟨mem, by simpa using other⟩)]

/-! ## The obligation -/

/-- Settles O53, clause by clause. -/
theorem selfTestsAndSpyhole : Obligations.SelfTestsAndSpyhole :=
  ⟨fun _ _ _ _ _ => ⟨fun _ run mem unheld calm runs idle more => partitionTestDone_records run mem unheld calm runs idle more,
      scheduledRun_does, fun _ _ run close source kept => runWindowClose_does run close source kept⟩,
    fun _ _ _ _ => ⟨heartbeat_sends, fun period main may _ runs level awake => pcSample_sends period main may runs level awake,
      occPeriod_sends, occSnap_takes⟩⟩

end Sys2Proof.Machine
end

section
/-! SUPPORT. Applets on cores: what the scheduler makes of one applet's share of one core (21_applets.md R780, R781). -/

namespace Sys2Proof.Machine

open Sys2Proof

variable {s t u : State} {d e : Fin 16} {k j : Fin 2}

/-! ## One share after an update -/

theorem cpuOf_updCpu_self (s : State) (d : Fin 16) (k : Fin 2) (f : AppCore → AppCore) : (s.updCpu d k f).cpuOf d k = f (s.cpuOf d k) := by
  unfold State.cpuOf State.updCpu
  rw [appOf_updApp_self]
  simp

theorem cpuOf_updCpu_domain (ne : e ≠ d) (k j : Fin 2) (f : AppCore → AppCore) : (s.updCpu d k f).cpuOf e j = s.cpuOf e j := by
  unfold State.cpuOf State.updCpu
  rw [appOf_updApp_ne ne]

theorem cpuOf_updCpu_core (ne : j ≠ k) (d e : Fin 16) (f : AppCore → AppCore) : (s.updCpu d k f).cpuOf e j = s.cpuOf e j := by
  by_cases same : e = d
  · have other : k.val ≠ j.val := fun h => ne (Fin.ext h.symm)
    subst same
    unfold State.cpuOf State.updCpu
    rw [appOf_updApp_self]
    simp [other]
  · exact cpuOf_updCpu_domain same k j f

theorem cpuOf_updCore (s : State) (k : Fin 2) (f : Core → Core) : (s.updCore k f).cpuOf d j = s.cpuOf d j := rfl

theorem cpuOf_congr (app : t.app = s.app) : t.cpuOf d k = s.cpuOf d k := by
  unfold State.cpuOf State.appOf
  rw [app]

theorem running_congr (app : t.app = s.app) : t.running k = s.running k := by
  unfold State.running
  simp only [cpuOf_congr app]

theorem running_st (runs : s.running k = some d) : (s.cpuOf d k).st = .running := by
  simpa using List.find?_some runs

/-! ## Taking off and putting on -/

/-- The share of an applet taken off its core with what the core holds. -/
def AppCore.off (x : AppCore) (c : Core) (st : AppSt) : AppCore := { x with st := st, regs := c.regs, pc := c.pc }

theorem takeOff_eq (runs : s.running k = some d) (st : AppSt) : s.takeOff k st =
    (s.updCpu d k (fun x => x.off (s.coreOf k) st)).updCore k (fun x => { x with level := .p1 }) := by
  unfold State.takeOff
  rw [runs]
  rfl

theorem takeOff_running (runs : s.running k = some d) (st : AppSt) :
    (s.takeOff k st).cpuOf d k = (s.cpuOf d k).off (s.coreOf k) st := by
  rw [takeOff_eq runs, cpuOf_updCore, cpuOf_updCpu_self]

theorem takeOff_other (runs : s.running k = some d) (ne : e ≠ d) (st : AppSt) : (s.takeOff k st).cpuOf e j = s.cpuOf e j := by
  rw [takeOff_eq runs, cpuOf_updCore, cpuOf_updCpu_domain ne]

theorem takeOff_none (idle : s.running k = none) (st : AppSt) : s.takeOff k st = s := by
  unfold State.takeOff
  rw [idle]

theorem takeOff_core (ne : j ≠ k) (st : AppSt) : (s.takeOff k st).cpuOf e j = s.cpuOf e j := by
  cases runs : s.running k with
  | none => rw [takeOff_none runs]
  | some d => rw [takeOff_eq runs, cpuOf_updCore, cpuOf_updCpu_core ne]

/-- The core in the hands of the applet `d` that is put on it. -/
def Core.given (c : Core) (d : Fin 16) (x : AppCore) : Core :=
  { c with level := .p2, domain := d.val, regs := x.regs, pc := x.pc, wfi := false, tw := true }

theorem putOn_eq (s : State) (k : Fin 2) (d : Fin 16) : s.putOn k d =
    (s.updCpu d k (fun x => { x with st := .running })).updCore k (fun c => c.given d (s.cpuOf d k)) := rfl

theorem putOn_self (s : State) (k : Fin 2) (d : Fin 16) : (s.putOn k d).cpuOf d k = { s.cpuOf d k with st := .running } := by
  rw [putOn_eq, cpuOf_updCore, cpuOf_updCpu_self]

theorem putOn_other (ne : e ≠ d) : (s.putOn k d).cpuOf e j = s.cpuOf e j := by
  rw [putOn_eq, cpuOf_updCore, cpuOf_updCpu_domain ne]

theorem putOn_core (ne : j ≠ k) : (s.putOn k d).cpuOf e j = s.cpuOf e j := by
  rw [putOn_eq, cpuOf_updCore, cpuOf_updCpu_core ne]

/-! ## The applet that goes first (R781) -/

/-- The better of two candidates: the later one only where its priority is higher. -/
def State.prefer (s : State) (b : Option (Fin 16)) (d : Fin 16) : Option (Fin 16) :=
  match b with
  | none => some d
  | some x => if s.priority x < s.priority d then some d else some x

/-- The applets READY on core `k`, in turn. -/
def State.readyOn (s : State) (k : Fin 2) : List (Fin 16) := (afterDom (s.coreOf k).domain).filter (fun d => (s.cpuOf d k).st == .ready)

theorem nextReady_eq (s : State) (k : Fin 2) : s.nextReady k = (s.readyOn k).foldl s.prefer none := rfl

/-- The candidate left is one of those listed or the first held, and none listed has a higher priority. -/
theorem prefer_some (l : List (Fin 16)) (b : Fin 16) : ∃ x, l.foldl s.prefer (some b) = some x ∧ (x = b ∨ x ∈ l) ∧ s.priority b ≤ s.priority x ∧
    ∀ f ∈ l, s.priority f ≤ s.priority x := by
  induction l generalizing b with
  | nil => exact ⟨b, rfl, .inl rfl, Nat.le_refl _, fun f h => absurd h List.not_mem_nil⟩
  | cons a l ih =>
    have step : ∃ m, s.prefer (some b) a = some m ∧ (m = b ∨ m = a) ∧ s.priority b ≤ s.priority m ∧ s.priority a ≤ s.priority m := by
      unfold State.prefer
      dsimp only
      split
      · exact ⟨a, rfl, .inr rfl, by omega, Nat.le_refl _⟩
      · exact ⟨b, rfl, .inl rfl, Nat.le_refl _, by omega⟩
    obtain ⟨m, first, which, pb, pa⟩ := step
    obtain ⟨x, found, mem, le, most⟩ := ih m
    refine ⟨x, by rw [List.foldl_cons, first, found], ?_, pb.trans le, fun f h => ?_⟩
    · rcases mem with rfl | later
      · rcases which with rfl | rfl
        · exact .inl rfl
        · exact .inr List.mem_cons_self
      · exact .inr (List.mem_cons_of_mem a later)
    · rcases List.mem_cons.mp h with rfl | later
      · exact pa.trans le
      · exact most f later

/-- Of candidates that are not none, one of the highest priority is chosen. -/
theorem prefer_chooses {l : List (Fin 16)} (some : l ≠ []) : ∃ x ∈ l, l.foldl s.prefer none = Option.some x ∧ ∀ f ∈ l, s.priority f ≤ s.priority x := by
  cases l with
  | nil => exact absurd rfl some
  | cons a l =>
    obtain ⟨x, found, mem, le, most⟩ := prefer_some (s := s) l a
    refine ⟨x, List.mem_cons.mpr mem, found, fun f h => ?_⟩
    rcases List.mem_cons.mp h with rfl | later
    · exact le
    · exact most f later

theorem mem_readyOn : d ∈ s.readyOn k ↔ d ∈ afterDom (s.coreOf k).domain ∧ (s.cpuOf d k).st = .ready := by
  simp [State.readyOn]

theorem nextReady_ready (next : s.nextReady k = some d) : (s.cpuOf d k).st = .ready := by
  have some : s.readyOn k ≠ [] := fun none => by rw [nextReady_eq, none] at next; cases next
  obtain ⟨x, mem, found, -⟩ := prefer_chooses (s := s) some
  rw [nextReady_eq, found] at next
  cases next
  exact (mem_readyOn.mp mem).2

/-! ## Scheduling (R781) -/

/-- What the scheduler makes of a share: its call, its budget and the tick it runs since stay; only one that runs or is READY changes its run
state, and stays one of these; only one that runs takes the core's registers. -/
structure AppCore.Scheduled (x y : AppCore) : Prop where
  call : y.call = x.call
  used : y.used = x.used
  runSince : y.runSince = x.runSince
  regs : x.st ≠ .running → y.regs = x.regs
  st : y.st = x.st ∨ ((x.st = .running ∨ x.st = .ready) ∧ (y.st = .running ∨ y.st = .ready))

theorem AppCore.Scheduled.refl (x : AppCore) : x.Scheduled x := ⟨rfl, rfl, rfl, fun _ => rfl, .inl rfl⟩

theorem putOn_scheduled (ready : (s.cpuOf d k).st = .ready) : (s.cpuOf e k).Scheduled ((s.putOn k d).cpuOf e k) := by
  by_cases same : e = d
  · subst same
    rw [putOn_self]
    exact ⟨rfl, rfl, rfl, fun _ => rfl, .inr ⟨.inr ready, .inl rfl⟩⟩
  · rw [putOn_other same]
    exact .refl _

theorem schedule_scheduled (s : State) (k : Fin 2) (e : Fin 16) : (s.cpuOf e k).Scheduled ((s.schedule k).cpuOf e k) := by
  unfold State.schedule
  split
  · exact .refl _
  split
  · exact .refl _
  rename_i d next
  have ready := nextReady_ready next
  split
  · exact putOn_scheduled ready
  rename_i r runs
  split
  · have running := running_st runs
    have ne : d ≠ r := fun h => by rw [h, running] at ready; exact absurd ready (by decide)
    by_cases same : e = r
    · subst same
      rw [putOn_other ne.symm, takeOff_running runs]
      exact ⟨rfl, rfl, rfl, fun h => absurd running h, .inr ⟨.inl running, .inr rfl⟩⟩
    · have kept : (s.takeOff k .ready).cpuOf e k = s.cpuOf e k := takeOff_other runs same .ready
      rw [← kept]
      refine putOn_scheduled ?_
      rw [takeOff_other runs ne]; exact ready
  · exact .refl _

theorem schedule_core (ne : j ≠ k) : (s.schedule k).cpuOf e j = s.cpuOf e j := by
  unfold State.schedule
  repeat' split
  · rfl
  · rfl
  · exact putOn_core ne
  · exact (putOn_core ne).trans (takeOff_core ne .ready)
  · rfl

theorem reschedule_scheduled (s : State) (e : Fin 16) (k : Fin 2) : (s.cpuOf e k).Scheduled (s.reschedule.cpuOf e k) := by
  unfold State.reschedule
  rcases Fin.exists_fin_two.mp ⟨k, rfl⟩ with rfl | rfl
  · rw [schedule_core (by decide)]
    exact schedule_scheduled s 0 e
  · rw [← schedule_core (s := s) (k := 0) (j := 1) (e := e) (by decide)]
    exact schedule_scheduled _ 1 e

/-! ## An applet stopped on both cores (R789, R790) -/

/-- The applet of domain `d` leaves core `k` in run state `st`. -/
def State.offCore (s : State) (d : Fin 16) (st : AppSt) (k : Fin 2) : State :=
  if s.running k = some d then s.takeOff k st else s.updCpu d k (fun c => if c.st == .absent then c else { c with st := st })

theorem stopApplet_eq (s : State) (d : Fin 16) (st : AppSt) : s.stopApplet d st =
    ((s.offCore d st 0).offCore d st 1).updApp d (fun a => { a with cpu := a.cpu.map (fun c => { c with call := none }) }) := rfl

theorem offCore_core (ne : j ≠ k) (st : AppSt) : (s.offCore d st k).cpuOf e j = s.cpuOf e j := by
  unfold State.offCore
  split
  · exact takeOff_core ne st
  · exact cpuOf_updCpu_core ne d e _

theorem offCore_running (runs : s.running k = some d) (st : AppSt) : ((s.offCore d st k).cpuOf d k).st = st := by
  unfold State.offCore
  rw [if_pos runs, takeOff_running runs]
  rfl

theorem running_core (ne : j ≠ k) (st : AppSt) : (s.offCore d st k).running j = s.running j := by
  unfold State.running
  simp only [offCore_core ne]

theorem stopApplet_running (runs : s.running k = some d) (st : AppSt) : ((s.stopApplet d st).cpuOf d k).st = st := by
  have calls (u : State) : ((u.updApp d (fun a => { a with cpu := a.cpu.map (fun c => { c with call := none }) })).cpuOf d k).st = (u.cpuOf d k).st := by
    unfold State.cpuOf
    rw [appOf_updApp_self]
    simp
  rw [stopApplet_eq, calls]
  rcases Fin.exists_fin_two.mp ⟨k, rfl⟩ with rfl | rfl
  · rw [offCore_core (by decide)]
    exact offCore_running runs st
  · exact offCore_running ((running_core (by decide) st).trans runs) st

end Sys2Proof.Machine
end

section
/-! SUPPORT. The entry of a kernel call, and the exchange of an applet's image; O52 (13_cores.md R516, R528; 21_applets.md R790–R793,
R799). -/

namespace Sys2Proof.Machine

open Sys2Proof

variable {s t u : State} {d e : Fin 16} {k : Fin 2}

/-! ## The entry of a call (R516, R528) -/

/-- From `s` to `t` stores of core `k` have gone to memory: applets, channels, engines and the core's own state of execution stay. -/
structure State.Poured (s t : State) (k : Fin 2) : Prop where
  app : t.app = s.app
  ch : t.ch = s.ch
  eng : t.eng = s.eng
  regs : t.core[k].regs = s.core[k].regs
  pc : t.core[k].pc = s.core[k].pc
  level : t.core[k].level = s.core[k].level
  fence : t.core[k].fence = s.core[k].fence

theorem State.Poured.refl (s : State) (k : Fin 2) : s.Poured s k := ⟨rfl, rfl, rfl, rfl, rfl, rfl, rfl⟩

theorem State.Poured.trans (h : s.Poured t k) (g : t.Poured u k) : s.Poured u k :=
  ⟨g.app.trans h.app, g.ch.trans h.ch, g.eng.trans h.eng, g.regs.trans h.regs, g.pc.trans h.pc, g.level.trans h.level, g.fence.trans h.fence⟩

theorem sramStore_same (s : State) (e : StoreEnt) (ecc : Ecc) :
    (s.sramStore e ecc).app = s.app ∧ (s.sramStore e ecc).ch = s.ch ∧ (s.sramStore e ecc).eng = s.eng := by
  unfold State.sramStore State.sramBad
  dsimp only
  split_ifs <;> exact ⟨rfl, rfl, rfl⟩

theorem drainOne_poured (free : s.core[k].fence = false) (ecc : Ecc) : s.Poured (s.drainOne k ecc) k := by
  unfold State.drainOne
  split
  · exact .refl s k
  · rename_i e l _
    obtain ⟨app, ch, eng⟩ := sramStore_same s e ecc
    obtain ⟨-, core⟩ := sramStore_cores s e ecc
    have none : (s.coreOf k).fence = false := free
    dsimp only
    rw [none, if_neg (by simp)]
    refine ⟨app, ch, eng, ?_, ?_, ?_, ?_⟩ <;> rw [core_updCore_self, core]

theorem drainAll_poured (free : s.core[k].fence = false) : s.Poured (s.drainAll k) k :=
  List.foldlRecOn (motive := fun t => s.Poured t k) _ _ (.refl s k) fun _ ht _ _ => ht.trans (drainOne_poured (ht.fence.trans free) _)

/-- From `s` to `t` core `k` has entered a call: applets, channels, engines and registers stay, and the pc is past the ECALL. -/
structure State.Entered (s t : State) (k : Fin 2) : Prop where
  app : t.app = s.app
  ch : t.ch = s.ch
  eng : t.eng = s.eng
  regs : t.core[k].regs = s.core[k].regs
  pc : t.core[k].pc = (s.core[k].pc + 4) % 2 ^ 32
  level : t.core[k].level = s.core[k].level

theorem ecallEntry_entered (free : s.core[k].fence = false) : s.Entered (s.ecallEntry k) k := by
  have poured := drainAll_poured free
  refine ⟨poured.app, poured.ch, poured.eng, ?_, ?_, ?_⟩
  · rw [State.ecallEntry, core_retire_regs, core_updCore_self]; exact poured.regs
  · rw [State.ecallEntry, core_retire_pc, core_updCore_self]
    exact congrArg (fun n => (n + 4) % 2 ^ 32) poured.pc
  · rw [State.ecallEntry, State.retire, core_updCore_self, core_updCore_self]; exact poured.level

/-- A core that makes a call runs the caller in U mode, and waits for no FENCE. -/
theorem caller_runs {n : Nat} {c : KCall} (calls : s.caller k = some (n, c)) :
    s.running k = some c.dom ∧ c.core = k ∧ s.core[k].level = .p2 ∧ s.core[k].fence = false := by
  unfold State.caller at calls
  split at calls
  · rename_i d runs
    split at calls
    · rename_i made
      simp only [Bool.and_eq_true, beq_iff_eq] at made
      obtain ⟨-, -, fence, -⟩ := coreActive_free made.1
      cases calls
      exact ⟨runs, rfl, made.2, fence⟩
    · cases calls
  · cases calls

/-- An allowed call of the table is what the Wheel does for it, once entered. -/
theorem callNo_takes {n : Nat} {c : KCall} {f : State → KCall → State} (calls : s.Calls n c) (small : n < 0x100) (named : callTable n = some f) :
    s.callNo c.core n = f (s.ecallEntry c.core) c := by
  obtain ⟨caller, allowed⟩ := calls
  obtain ⟨-, -, -, fence⟩ := caller_runs caller
  have entered := ecallEntry_entered fence
  have still : (s.ecallEntry c.core).callAllowed c.dom n = true := by
    unfold State.callAllowed State.appOf
    rw [entered.app]
    exact allowed
  unfold State.callNo
  rw [caller]
  dsimp only
  rw [if_pos rfl, State.kernelCall, if_neg (by omega), named]
  exact if_pos still

theorem core_setReg_level (s : State) (k : Fin 2) (rd : Fin 32) (n : Nat) : (s.setReg k rd n).core[k].level = s.core[k].level := by
  unfold State.setReg
  split
  · rfl
  · rw [core_updCore_self]

/-- A call entered in `s` that comes back at once: what it did before left the core as it was. -/
theorem Returned.of_callReturn {c : KCall} (level : s.core[c.core].level = .p2) (entered : s.Entered t c.core) (same : u.core = t.core) (code x : Nat) :
    Returned s (u.callReturn c code x) c code x := by
  have other (r : Fin 32) (h10 : r ≠ 10) (h11 : r ≠ 11) : (u.callReturn c code x).core[c.core].regs[r] = s.core[c.core].regs[r] := by
    rw [State.callReturn, regs_setReg_ne (.inl h11), regs_setReg_ne (.inl h10), same, entered.regs]
  have code10 : (u.callReturn c code x).core[c.core].regs[(10 : Fin 32)] = BitVec.ofNat 32 code :=
    (regs_setReg_ne (.inl (by decide)) x).trans (regs_setReg_self (by decide) code)
  have value11 : (u.callReturn c code x).core[c.core].regs[(11 : Fin 32)] = BitVec.ofNat 32 x := regs_setReg_self (by decide) x
  refine ⟨code10, value11, ?_, ?_, other⟩
  · rw [State.callReturn, core_setReg_level, core_setReg_level, same, entered.level, level]
  · rw [State.callReturn, core_setReg_pc, core_setReg_pc, same, entered.pc]

theorem callReturn_ch (s : State) (c : KCall) (code x : Nat) : (s.callReturn c code x).ch = s.ch := by
  have kept (v : State) (rd : Fin 32) (n : Nat) : (v.setReg c.core rd n).ch = v.ch := by
    unfold State.setReg; split <;> rfl
  rw [State.callReturn, kept, kept]

/-! ## QUIESCE (R790, R791, R799) -/

/-- With no exchange requested, QUIESCE comes back at once. -/
theorem callQuiesce_unasked {c : KCall} (unasked : (s.appOf c.dom).xstep ≠ .requested) : s.callQuiesce c = (s.callNoted c).callReturn c 0 0 :=
  if_neg unasked

theorem quiesce_runsOn {c : KCall} (calls : s.Calls 0x03 c) (unasked : s.app[c.dom].xstep ≠ .requested) :
    Does (.quiesce c.core) s (fun t => Returned s t c 0 0 ∧ t.ch = s.ch) := by
  obtain ⟨-, -, level, fence⟩ := caller_runs calls.1
  have entered := ecallEntry_entered fence
  have takes : s.callNo c.core 0x03 = (s.ecallEntry c.core).callQuiesce c := callNo_takes calls (by decide) rfl
  generalize s.ecallEntry c.core = u at entered takes
  have app : (u.appOf c.dom).xstep ≠ .requested := by
    unfold State.appOf
    rw [entered.app]
    exact unasked
  rw [callQuiesce_unasked app] at takes
  exact ⟨_, congrArg Host.Outcome.next takes, Returned.of_callReturn level entered rfl 0 0, (callReturn_ch _ _ _ _).trans entered.ch⟩

/-- The channels that applet `d` guards, from its manifest and the channels' classes. -/
theorem guardedBy_congr (man : (t.appOf d).man = (s.appOf d).man) (eclass : ∀ c, (t.chan c).eclass = (s.chan c).eclass) :
    t.guardedBy d = s.guardedBy d := by
  have governed : t.governed d = s.governed d := by
    unfold State.governed
    rw [man]
  unfold State.guardedBy
  rw [governed]
  simp only [eclass]

/-- A fold whose every step keeps `P`, and whose step at `a` brings `Q`, which further steps keep. -/
theorem foldl_marks {α β : Type} {f : β → α → β} {P Q : β → Prop} {a : α} (keeps : ∀ b x, P b → P (f b x))
    (marks : ∀ b x, P b → a = x ∨ Q b → Q (f b x)) {l : List α} {b : β} (begins : P b) (reached : a ∈ l ∨ Q b) : Q (l.foldl f b) := by
  induction l generalizing b with
  | nil => exact reached.resolve_left List.not_mem_nil
  | cons x l ih =>
    refine ih (keeps b x begins) ?_
    rcases reached with mem | already
    · rcases List.mem_cons.mp mem with here | later
      · exact .inr (marks b x begins (.inl here))
      · exact .inl later
    · exact .inr (marks b x begins (.inr already))

/-- A freeze by an exchange leaves what it depends on. -/
theorem Chan.xfreeze_kept (x : Chan) (v : Bool) (n : Nat) :
    (x.xfreeze v n).fused = x.fused ∧ (x.xfreeze v n).eclass = x.eclass ∧ (x.xfreeze v n).service = x.service := by
  have load : (x.loadContracted v n).fused = x.fused ∧ (x.loadContracted v n).eclass = x.eclass ∧ (x.loadContracted v n).service = x.service := by
    unfold Chan.loadContracted
    split <;> simp
  have freeze (y : Chan) : (y.freeze .exchange n).fused = y.fused ∧ (y.freeze .exchange n).eclass = y.eclass ∧ (y.freeze .exchange n).service = y.service := by
    unfold Chan.freeze
    dsimp only
    split_ifs <;> simp
  unfold Chan.xfreeze
  split
  · exact ⟨rfl, rfl, rfl⟩
  split
  · exact ⟨rfl, rfl, rfl⟩
  · obtain ⟨fused, eclass, service⟩ := freeze (x.loadContracted v n)
    exact ⟨fused.trans load.1, eclass.trans load.2.1, service.trans load.2.2⟩

/-- An exchange can freeze the channel: guarded, in service, not fused. -/
def Chan.Freezable (x : Chan) : Prop := x.fused = false ∧ x.eclass.guarded = true ∧ x.service = true

/-- The exchange's freeze of one channel. -/
def State.xfreezeCh (s : State) (c : Fin 16) : State := s.chOp c (fun x => x.xfreeze x.contracted s.tick)

theorem Chan.Freezable.due {c : Fin 16} (able : (s.chan c).Freezable) : (s.due c).Freezable := by
  obtain ⟨unfused, guarded, service⟩ := able
  unfold State.due
  exact ⟨by simp [unfused], by simp [guarded], by simp [service]⟩

theorem Chan.Freezable.xfreeze {x : Chan} (able : x.Freezable) (v : Bool) (n : Nat) : (x.xfreeze v n).Freezable := by
  obtain ⟨fused, eclass, service⟩ := Chan.xfreeze_kept x v n
  unfold Chan.Freezable
  rw [fused, eclass, service]
  exact able

theorem xfreezeCh_freezable {c : Fin 16} (able : (s.chan c).Freezable) (a : Fin 16) : ((s.xfreezeCh a).chan c).Freezable := by
  unfold State.xfreezeCh
  rw [chan_chOp]
  split
  · rename_i same
    subst same
    exact able.due.xfreeze _ _
  · exact able

theorem xfreezeCh_exchange {c : Fin 16} (able : (s.chan c).Freezable) {a : Fin 16} (frozen : c = a ∨ (s.chan c).frz.exchange = true) :
    ((s.xfreezeCh a).chan c).frz.exchange = true := by
  unfold State.xfreezeCh
  rw [chan_chOp]
  split
  · rename_i same
    subst same
    obtain ⟨unfused, guarded, service⟩ := able.due
    exact (Chan.xfreeze_of_service unfused guarded service _).1
  · rename_i other
    exact frozen.resolve_left other

/-- An exchange's freeze of a list of channels: each of them that can be frozen is, and stays so. -/
theorem xfreezeCh_all (l : List (Fin 16)) {c : Fin 16} (able : (s.chan c).Freezable) (mem : c ∈ l) :
    ((l.foldl State.xfreezeCh s).chan c).frz.exchange = true :=
  foldl_marks (P := fun t : State => (t.chan c).Freezable) (Q := fun t : State => (t.chan c).frz.exchange = true)
    (fun _ a able => xfreezeCh_freezable able a) (fun _ _ able frozen => xfreezeCh_exchange able frozen) able (.inl mem)

theorem State.Filed.man {x : Dossier} (h : s.Filed d x) : (s.appOf d).man = x.app.man := congrArg (fun y => y.app.man) h
theorem State.Filed.xstep {x : Dossier} (h : s.Filed d x) : (s.appOf d).xstep = x.app.xstep := congrArg (fun y => y.app.xstep) h
theorem State.Filed.startedAt {x : Dossier} (h : s.Filed d x) : (s.appOf d).startedAt = x.app.startedAt := congrArg (fun y => y.app.startedAt) h
theorem State.Filed.incoming {x : Dossier} (h : s.Filed d x) : (s.appOf d).incoming = x.app.incoming := congrArg (fun y => y.app.incoming) h
theorem State.Filed.decided {x : Dossier} (h : s.Filed d x) : (s.appOf d).decided = x.app.decided := congrArg (fun y => y.app.decided) h
theorem State.Filed.app {x : Dossier} (h : s.Filed d x) : (s.appOf d).offCores = x.app := congrArg Dossier.app h

theorem OnlyChans.eng (h : OnlyChans s t) : t.eng = s.eng := by rw [h.1]
theorem OnlyChans.app (h : OnlyChans s t) : t.app = s.app := by rw [h.1]
theorem Ran.eng (h : Ran s t) : t.eng = s.eng := by unfold Ran at h; rw [h]
theorem updApp_eng (s : State) (d : Fin 16) (f : App → App) : (s.updApp d f).eng = s.eng := rfl
theorem updApp_chan (s : State) (d : Fin 16) (f : App → App) (c : Fin 16) : (s.updApp d f).chan c = s.chan c := rfl

theorem stopApplet_ran (s : State) (d : Fin 16) (st : AppSt) : Ran s (s.stopApplet d st) := by
  have off (u : State) (k : Fin 2) : Ran u (u.offCore d st k) := by
    unfold State.offCore
    split
    · exact takeOff_ran u k st
    · rfl
  rw [stopApplet_eq]
  refine ((off s 0).trans (off _ 1)).trans ?_
  generalize (s.offCore d st 0).offCore d st 1 = u
  rfl

theorem xFreeze_eq (s : State) (d : Fin 16) :
    s.xFreeze d = ((s.stopApplet d .exchanging).guardedBy d).foldl State.xfreezeCh (s.stopApplet d .exchanging) := rfl

/-- After step X3 only channels are other than with the applet stopped. -/
theorem xFreeze_onlyChans (s : State) (d : Fin 16) : OnlyChans (s.stopApplet d .exchanging) (s.xFreeze d) := by
  rw [xFreeze_eq]
  exact List.foldlRecOn (motive := OnlyChans _) _ _ (.refl _) fun _ ht c _ => ht.trans (only_chOp _ _ _).onlyChans

theorem xFreeze_exchange {c : Fin 16} (mem : c ∈ s.guardedBy d) (unfused : (s.chan c).fused = false) (service : (s.chan c).service = true) :
    ((s.xFreeze d).chan c).frz.exchange = true := by
  have ran := stopApplet_ran s d .exchanging
  have man : ((s.stopApplet d .exchanging).appOf d).man = (s.appOf d).man :=
    (State.Filed.self s d).stopApplet.man
  have same : (s.stopApplet d .exchanging).guardedBy d = s.guardedBy d := guardedBy_congr man fun c => by rw [ran.chan]
  have guarded : (s.chan c).eclass.guarded = true := (List.mem_filter.mp mem).2
  rw [xFreeze_eq, same]
  refine xfreezeCh_all _ ?_ mem
  rw [ran.chan]
  exact ⟨unfused, guarded, service⟩

/-- Steps X4 to X6 wait for the rings to be drained. -/
theorem xFinish_waits (pending : ∀ m, (s.appOf d).man = some m → s.drained m = false) : s.xFinish d = s := by
  unfold State.xFinish
  split
  · rename_i old _ _ _ man _ _
    rw [pending old man]
    exact if_pos rfl
  · rfl

theorem drained_congr (eng : t.eng = s.eng) (m : Manifest) : t.drained m = s.drained m := by
  unfold State.drained State.ring State.engOf
  rw [eng]

/-- The state of an exchange that drains. -/
def State.drains (s : State) (d : Fin 16) : State := (s.xFreeze d).updApp d (fun a => { a with xstep := .draining })

theorem drains_filed (s : State) (d : Fin 16) :
    (s.drains d).Filed d { s.dossier d with app := { (s.appOf d).offCores with xstep := .draining } } := by
  have out := (State.Filed.self s d).xFreeze (e := d)
  have off : ((s.xFreeze d).appOf d).offCores = (s.appOf d).offCores := out.app
  have changed := out.change (f := fun a => { a with xstep := .draining })
  have app : App.offCores { (s.xFreeze d).appOf d with xstep := .draining } = { (s.appOf d).offCores with xstep := .draining } :=
    congrArg (fun a : App => { a with xstep := .draining }) off
  rw [app] at changed
  exact changed

theorem drains_eng (s : State) (d : Fin 16) : (s.drains d).eng = s.eng := by
  unfold State.drains
  rw [updApp_eng, (xFreeze_onlyChans s d).eng, (stopApplet_ran s d .exchanging).eng]

theorem drains_st (runs : s.running k = some d) : ((s.drains d).cpuOf d k).st = .exchanging := by
  have app : (s.xFreeze d).app = (s.stopApplet d .exchanging).app := (xFreeze_onlyChans s d).app
  have kept : (s.drains d).cpuOf d k = (s.xFreeze d).cpuOf d k := by
    unfold State.drains State.cpuOf
    rw [appOf_updApp_self]
  rw [kept, cpuOf_congr app]
  exact stopApplet_running runs .exchanging

/-- With an exchange requested, QUIESCE stops the applet, and with rings to drain it goes no further. -/
theorem callQuiesce_asked {c : KCall} (asked : (s.appOf c.dom).xstep = .requested)
    (pending : ∀ m, (s.appOf c.dom).man = some m → s.drained m = false) : s.callQuiesce c = (s.drains c.dom).reschedule := by
  have waits : (s.drains c.dom).xFinish c.dom = s.drains c.dom := by
    refine xFinish_waits fun m man => ?_
    rw [drained_congr (drains_eng s c.dom)]
    exact pending m ((drains_filed s c.dom).man.symm.trans man)
  exact (if_pos asked).trans (congrArg State.reschedule waits)

theorem quiesce_drains {c : KCall} (calls : s.Calls 0x03 c) (asked : s.app[c.dom].xstep = .requested)
    (pending : ∀ m, s.app[c.dom].man = some m → s.drained m = false) : Does (.quiesce c.core) s (fun t =>
      t.app[c.dom].xstep = .draining ∧ (t.cpuOf c.dom c.core).st = .exchanging ∧
      ∀ ch ∈ s.guardedBy c.dom, (s.chan ch).service = true → (s.chan ch).fused = false → (t.chan ch).frz.exchange = true) := by
  obtain ⟨runs, -, -, fence⟩ := caller_runs calls.1
  have entered := ecallEntry_entered fence
  have takes : s.callNo c.core 0x03 = (s.ecallEntry c.core).callQuiesce c := callNo_takes calls (by decide) rfl
  have chan (ch : Fin 16) : (s.ecallEntry c.core).chan ch = s.chan ch := by
    unfold State.chan
    rw [entered.ch]
  have app : (s.ecallEntry c.core).appOf c.dom = s.appOf c.dom := by
    unfold State.appOf
    rw [entered.app]
  generalize s.ecallEntry c.core = u at entered takes chan app
  rw [callQuiesce_asked (by rw [app]; exact asked) (by rw [app]; intro m man; rw [drained_congr entered.eng]; exact pending m man)] at takes
  have st := drains_st ((running_congr entered.app).trans runs)
  have ran := reschedule_ran (u.drains c.dom)
  refine ⟨_, congrArg Host.Outcome.next takes, (drains_filed u c.dom).reschedule.xstep, ?_, fun ch mem service unfused => ?_⟩
  · rcases (reschedule_scheduled (u.drains c.dom) c.dom c.core).st with same | ⟨before, -⟩
    · exact same.trans st
    · rw [st] at before
      simp at before
  · have same : u.guardedBy c.dom = s.guardedBy c.dom := guardedBy_congr (congrArg App.man app) fun ch => by rw [chan]
    have frozen := xFreeze_exchange (s := u) (d := c.dom) (same ▸ mem) (by rw [chan]; exact unfused) (by rw [chan]; exact service)
    rw [ran.chan, State.drains, updApp_chan]
    exact frozen

/-! ## An exchange that times out (R792) -/

theorem State.Filed.updApp_ne {x : Dossier} {f : App → App} (ne : d ≠ e) (h : s.Filed d x) : (s.updApp e f).Filed d x := by
  subst h
  unfold State.Filed State.dossier
  rw [appOf_updApp_ne ne]
  rfl

theorem measureApplet_tick (s : State) (km ki : Fin 24) (em ei : Nat) (img : Bytes) : (s.measureApplet km ki em ei img).tick = s.tick := by
  have one (u : State) (k : Fin 24) (level event : Nat) (msg : Bytes) : (u.measure k level event msg).tick = u.tick := by
    unfold State.measure
    split <;> rfl
  unfold State.measureApplet
  dsimp only
  rw [one]
  split
  · rw [one]
  · rfl

theorem xRequest_other {x : Dossier} (ne : d ≠ e) (h : s.Filed d x) : (s.xRequest e).Filed d x ∧ (s.xRequest e).tick = s.tick := by
  unfold State.xRequest
  split
  · split
    · dsimp only
      split
      · exact ⟨h.measureApplet.updApp_ne ne, measureApplet_tick s _ _ _ _ _⟩
      · exact ⟨h.updApp_ne ne, rfl⟩
    · exact ⟨h.updApp_ne ne, rfl⟩
  · exact ⟨h, rfl⟩

/-- The next exchange is of an applet with an incoming image; the others stay. -/
theorem xNext_other {x : Dossier} (noImage : x.app.incoming = none) (h : s.Filed d x) : s.xNext.Filed d x ∧ s.xNext.tick = s.tick := by
  unfold State.xNext
  split
  · exact ⟨h, rfl⟩
  split
  · rename_i e found
    refine xRequest_other (fun same => ?_) h
    have incoming := List.find?_some found
    rw [← same, h.incoming, noImage] at incoming
    simp at incoming
  · exact ⟨h, rfl⟩

theorem abandonExchange_filed {x : Dossier} (h : s.Filed d x) :
    (s.abandonExchange d).Filed d { x with app := { x.app with xstep := .none, incoming := none } } := by
  have changed := h.change (f := fun a => { a with xstep := .none, incoming := none })
  have app : App.offCores { s.appOf d with xstep := .none, incoming := none } = { x.app with xstep := .none, incoming := none } := by
    rw [← h.app]
    rfl
  rw [app] at changed
  exact changed.wlog

theorem abandonExchange_tick (s : State) (d : Fin 16) : (s.abandonExchange d).tick = s.tick := by
  unfold State.abandonExchange
  exact (wlog_logged _ _ _ _ _).tick

theorem quiesceTimeout_abandons {m : Manifest} (wheel : s.wheelRuns = true) (src : s.clk.tickSrc ≠ none) (man : s.app[d].man = some m)
    (asked : s.app[d].xstep = .requested) : Does (.quiesceTimeout d) s (fun t => t.app[d].xstep = .none ∧ t.app[d].incoming = none ∧
      t.tick = max s.tick (min (s.app[d].xTick + m.quiesceMax) (2 ^ 48 - 1))) := by
  have shape : execQuiesceTimeout d s = .next (((s.ended (s.app[d].xTick + m.quiesceMax)).abandonExchange d).xNext) := by
    have man' : (s.appOf d).man = some m := man
    have asked' : (s.appOf d).xstep = .requested := asked
    have counts : (s.wheelRuns && s.clk.tickSrc.isSome) = true := by simp [wheel, Option.isSome_iff_ne_none, src]
    unfold execQuiesceTimeout
    rw [asked', man']
    dsimp only
    rw [if_pos counts]
    rfl
  obtain ⟨out, tick⟩ := xNext_other rfl (abandonExchange_filed (State.Filed.self (s.ended (s.app[d].xTick + m.quiesceMax)) d))
  refine ⟨_, shape, out.xstep, out.incoming, ?_⟩
  rw [tick, abandonExchange_tick, ended_tick]

/-! ## Decisions that time out (R793) -/

/-- The Wheel's decision for the channel is to clear it, and takes effect: class H, not fused and not frozen. -/
def Chan.Clearable (x : Chan) : Prop := x.fused = false ∧ x.eclass = .h ∧ x.frozen = false

theorem Chan.Clearable.closeDue {x : Chan} (able : x.Clearable) (n : Nat) : (x.closeDue n).Clearable := by
  obtain ⟨unfused, eclass, free⟩ := able
  unfold Chan.frozen at free
  exact ⟨by simp [unfused], by simp [eclass], by simp [Chan.frozen, free]⟩

/-- The Wheel's refusal clears the latch of such a channel. -/
theorem Chan.Clearable.cleared {x : Chan} (able : x.Clearable) (n : Nat) : (x.guardWrite false n).Clearable ∧ (x.guardWrite false n).latch = false := by
  obtain ⟨unfused, eclass, free⟩ := able
  have taken : x.guardWrite false n = x.clearLatch.settle n := (Chan.guardWrite_taken unfused (by rw [eclass]; rfl) free).2
  rw [taken]
  unfold Chan.frozen at free
  exact ⟨⟨by simp [unfused], by simp [eclass], by simp [Chan.frozen, free]⟩, by simp [Chan.clearLatch_latch]⟩

/-- The Wheel's decision for one channel, logged. -/
def State.decideLate (s : State) (d c : Fin 16) : State := (s.wheelDecide c).wlog 0x0A04 0 (faultDetail d c.val 0 0 0 0) true

theorem decideFor_eq (s : State) (d : Fin 16) : s.decideFor d =
    (((s.guardedBy d).filter (fun c => !(s.appOf d).decided.contains c.val)).foldl (fun t c => t.decideLate d c) s).updApp d
      (fun a => { a with startedAt := none }) := rfl

/-- The Wheel's decision for a channel is at most one operation on it. -/
theorem wheelDecide_eq (s : State) (c : Fin 16) : s.wheelDecide c = s ∨ ∃ f, s.wheelDecide c = s.chOp c f := by
  unfold State.wheelDecide
  dsimp only
  split
  · exact .inr ⟨_, rfl⟩
  · split
    · split
      · exact .inr ⟨_, rfl⟩
      · exact .inl rfl
    · exact .inr ⟨_, rfl⟩
  · exact .inl rfl

theorem wheelDecide_other {a c : Fin 16} (ne : c ≠ a) : (s.wheelDecide a).chan c = s.chan c := by
  rcases wheelDecide_eq s a with same | ⟨f, op⟩
  · rw [same]
  · rw [op, chan_chOp, if_neg ne]

theorem decideLate_chan {c : Fin 16} (able : (s.chan c).Clearable) (a : Fin 16) :
    ((s.decideLate d a).chan c).Clearable ∧ (c = a ∨ (s.chan c).latch = false → ((s.decideLate d a).chan c).latch = false) := by
  unfold State.decideLate
  rw [(wlog_logged _ _ _ _ _).chan]
  by_cases same : c = a
  · subst same
    have decides : s.wheelDecide c = s.chOp c (fun y => y.guardWrite false s.tick) := by
      unfold State.wheelDecide
      dsimp only
      rw [able.2.1]
    rw [decides, chan_chOp_self]
    have out := (able.closeDue s.tick).cleared s.tick
    exact ⟨out.1, fun _ => out.2⟩
  · rw [wheelDecide_other same]
    exact ⟨able, fun before => before.resolve_left same⟩

theorem decideLate_tick (s : State) (d c : Fin 16) : (s.decideLate d c).tick = s.tick := by
  unfold State.decideLate
  rw [(wlog_logged _ _ _ _ _).tick]
  rcases wheelDecide_eq s c with same | ⟨f, op⟩
  · rw [same]
  · rw [op]
    exact (only_chOp _ _ _).onlyChans.tick

theorem decideFor_tick (s : State) (d : Fin 16) : (s.decideFor d).tick = s.tick := by
  rw [decideFor_eq]
  exact List.foldlRecOn (motive := fun t : State => t.tick = s.tick) _ _ rfl fun _ ht c _ => (decideLate_tick _ d c).trans ht

theorem decideFor_clears {c : Fin 16} (mem : c ∈ s.guardedBy d) (late : c.val ∉ (s.appOf d).decided) (able : (s.chan c).Clearable) :
    ((s.decideFor d).chan c).latch = false := by
  rw [decideFor_eq, updApp_chan]
  exact foldl_marks (P := fun t : State => (t.chan c).Clearable) (Q := fun t : State => (t.chan c).latch = false) (fun _ a able => (decideLate_chan able a).1)
    (fun _ a able => (decideLate_chan able a).2) able
    (.inl (by simp [mem, late]))

theorem decideTimeout_decides {m : Manifest} {n : Nat} (wheel : s.wheelRuns = true) (src : s.clk.tickSrc ≠ none) (man : s.app[d].man = some m)
    (started : s.app[d].startedAt = some n) : Does (.decideTimeout d) s (fun t => t.app[d].startedAt = none ∧
      t.tick = max s.tick (min (n + m.decideMax) (2 ^ 48 - 1)) ∧
      ∀ ch ∈ s.guardedBy d, ch.val ∉ s.app[d].decided → (s.chan ch).eclass = .h → (s.chan ch).fused = false → (s.chan ch).frozen = false →
        (t.chan ch).latch = false) := by
  have shape : execDecideTimeout d s = .next ((s.ended (n + m.decideMax)).decideFor d) := by
    have man' : (s.appOf d).man = some m := man
    have started' : (s.appOf d).startedAt = some n := started
    have counts : (s.wheelRuns && s.clk.tickSrc.isSome) = true := by simp [wheel, Option.isSome_iff_ne_none, src]
    unfold execDecideTimeout
    rw [started', man']
    dsimp only
    rw [if_pos counts]
    rfl
  have chan (c : Fin 16) : (s.ended (n + m.decideMax)).chan c = (s.chan c).closeDue (max s.tick (min (n + m.decideMax) (2 ^ 48 - 1))) :=
    chan_closeWindows _ c
  have app : (s.ended (n + m.decideMax)).appOf d = s.appOf d := by
    unfold State.appOf
    rw [State.ended, (onlyChans_closeWindows (s.advanceTo (n + m.decideMax))).app]
    rfl
  have tick := ended_tick s (n + m.decideMax)
  generalize s.ended (n + m.decideMax) = u at shape chan app tick
  refine ⟨_, shape, ?_, (decideFor_tick u d).trans tick, fun c mem late eclass unfused free => ?_⟩
  · show ((u.decideFor d).appOf d).startedAt = none
    rw [decideFor_eq, appOf_updApp_self]
  · have same : u.guardedBy d = s.guardedBy d := guardedBy_congr (congrArg App.man app) fun c => by rw [chan, Chan.closeDue_eclass]
    refine decideFor_clears (same ▸ mem) (by rw [app]; exact late) ?_
    rw [chan]
    exact Chan.Clearable.closeDue ⟨unfused, eclass, free⟩ _

/-- Settles O52: QUIESCE with and without a request, and the two limits of an exchange. -/
theorem exchanges : Obligations.Exchanges := by
  unfold Obligations.Exchanges
  intro d s
  refine ⟨fun c calls same => ?_, fun wheel src m man => ⟨quiesceTimeout_abandons wheel src man, fun n => decideTimeout_decides wheel src man⟩⟩
  subst same
  exact ⟨quiesce_runsOn calls, quiesce_drains calls⟩

end Sys2Proof.Machine
end

section
/-! SUPPORT. A WAIT while every waiting call is judged (21_applets.md R785): what becomes of the other calls, and of the rings that fetch for
them, leaves it; O51. -/

namespace Sys2Proof.Machine

open Sys2Proof

variable {s t : State} {d e : Fin 16} {k j : Fin 2} {x : AppCore}

/-! ## The predicate -/

/-- The share of core `k` of the applet of domain `d` is `x`, or it waits in no call any more. -/
def State.Pends (d : Fin 16) (k : Fin 2) (x : AppCore) (s : State) : Prop := s.cpuOf d k = x ∨ (s.cpuOf d k).call = none

theorem State.Pends.of_cpu (h : s.Pends d k x) (cpu : t.cpuOf d k = s.cpuOf d k) : t.Pends d k x := by
  unfold State.Pends
  rw [cpu]
  exact h

theorem State.Pends.of_app (h : s.Pends d k x) (app : t.app = s.app) : t.Pends d k x := h.of_cpu (cpuOf_congr app)

theorem State.Pends.logged (h : s.Pends d k x) (l : Logged s t) : t.Pends d k x := h.of_app l.app

theorem Worked.app (w : Worked s t) : t.app = s.app := by
  unfold Worked at w
  exact w.app

theorem State.Pends.worked (h : s.Pends d k x) (w : Worked s t) : t.Pends d k x := h.of_app w.app

theorem State.Pends.updRing {n : Eng} {r : Nat} {f : Machine.Ring → Machine.Ring} (h : s.Pends d k x) : (s.updRing n r f).Pends d k x :=
  h.worked (worked_updRing s n r f)

theorem State.Pends.complete {n : Eng} {r : Nat} {o : Done} (h : s.Pends d k x) : (s.complete n r o).Pends d k x :=
  h.worked (worked_complete s n r o)

/-! ## Calls of another number that return -/

theorem cpuOf_returnCalls (s : State) (n code v : Nat) (d : Fin 16) (k : Fin 2) :
    State.cpuOf { s with app := s.app.map (fun a => a.returnCalls n code v) } d k =
      if (s.cpuOf d k).waitsIn n then (s.cpuOf d k).returns code v else s.cpuOf d k := by
  simp only [State.cpuOf, State.appOf, App.returnCalls, Fin.getElem_fin, Vector.getElem_map]
  rfl

theorem AppCore.waitsIn_of_none {y : AppCore} (idle : y.call = none) (n : Nat) : y.waitsIn n = false := by
  unfold AppCore.waitsIn
  rw [idle]

theorem State.Pends.returnCalls {n code v : Nat} (other : x.waitsIn n = false) (h : s.Pends d k x) :
    State.Pends d k x { s with app := s.app.map (fun a => a.returnCalls n code v) } := by
  refine h.of_cpu ?_
  rw [cpuOf_returnCalls, if_neg]
  rcases h with same | idle
  · simp [same, other]
  · simp [AppCore.waitsIn_of_none idle]

/-! ## Entry into Hold (R200) -/

section
variable (wait : ∀ n, n ≠ 1 → x.waitsIn n = false)
include wait

theorem State.Pends.dropSessions (h : s.Pends d k x) : s.dropSessions.Pends d k x := by
  have links : (s.eachCh (fun c t => (t.updLnk c Link.dropSession).updCh c (fun x => x.pairBack t.tick))).app = s.app := by
    rw [eachCh_links_eq fun _ _ => rfl]
  exact (h.of_app links).returnCalls (wait _ (by decide))

theorem State.Pends.dropSlip (h : s.Pends d k x) : s.dropSlip.Pends d k x := by
  unfold State.dropSlip
  dsimp only
  split
  · exact (h.returnCalls (wait _ (by decide))).of_app rfl
  · exact h.of_app rfl

omit wait in
theorem flushPages_app (s : State) : s.flushPages.app = s.app := by
  unfold State.flushPages State.journalClose
  dsimp only
  rw [State.flushLog, State.flushPointers]
  exact (journalAdd_logged _ _).app

omit wait in
theorem State.Pends.abandonRun (h : s.Pends d k x) : s.abandonRun.Pends d k x := by
  unfold State.abandonRun
  split
  · exact h
  · exact h.of_app rfl

omit wait in
theorem State.Pends.portsDown (h : s.Pends d k x) : s.portsDown.Pends d k x := h.of_app rfl

omit wait in
theorem State.Pends.withPwr {p : Pwr} (h : s.Pends d k x) : State.Pends d k x { s with pwr := p } := h.of_app rfl

omit wait in
theorem State.Pends.freezeMain (h : s.Pends d k x) : s.freezeMain.Pends d k x := h.of_app (onlyChans_freezeAll s .main).app

theorem State.Pends.enterHold {r : HoldReason} (h : s.Pends d k x) : (s.enterHold r).Pends d k x := by
  have flushed : (if s.mainUp && !s.starting then s.flushPages else s.flushLog).Pends d k x := by
    split
    · exact h.of_app (flushPages_app s)
    · exact h.of_app rfl
  have aborted := flushed.worked (worked_abortEngines _ allEngines .abortReset)
  have logged := aborted.abandonRun.logged (logEv_logged _ 0x0102 0 0 (beBytes 1 r.code) true false)
  unfold State.enterHold
  dsimp only
  exact ((logged.dropSessions wait).dropSlip wait).portsDown.withPwr.freezeMain

/-! ## Fetching (R595, R611) -/

omit wait in
theorem State.Pends.saggarOnStop {n : Eng} {r : Nat} (h : s.Pends d k x) : (s.saggarOnStop n r).Pends d k x := by
  have freed : (s.freeSaggar r).Pends d k x := by
    unfold State.freeSaggar
    split
    · split
      · exact h.of_app rfl
      · exact h
    · exact h
  unfold State.saggarOnStop
  split
  · exact freed
  · exact freed
  · exact h

theorem State.Pends.haltRing {n : Eng} {r i reason : Nat} (h : s.Pends d k x) : (s.haltRing n r i reason).Pends d k x := by
  unfold State.haltRing
  dsimp only
  split
  · exact h.updRing.enterHold wait
  · exact h.updRing.updRing.saggarOnStop

omit wait in
theorem State.Pends.finishDesc {n : Eng} {r : Nat} {o : Done} (h : s.Pends d k x) : (s.finishDesc n r o).Pends d k x := h.complete.saggarOnStop

theorem State.Pends.malformed {n : Eng} {r reason : Nat} (h : s.Pends d k x) : (s.malformed n r reason).Pends d k x := h.complete.haltRing wait

omit wait in
theorem State.Pends.holdDma {n : Eng} {r : Nat} (h : s.Pends d k x) : (s.holdDma n r).Pends d k x := by
  unfold State.holdDma
  split
  · exact h
  · exact h.of_app rfl

omit wait in
theorem State.Pends.newWait {n : Eng} {r : Nat} (h : s.Pends d k x) : (s.newWait n r).Pends d k x := by
  unfold State.newWait
  split
  · exact h.of_app rfl
  · exact h

omit wait in
theorem State.Pends.takeDesc {n : Eng} {r : Nat} {o : Desc} (h : s.Pends d k x) : (s.takeDesc n r o).Pends d k x := h.updRing

omit wait in
theorem State.Pends.recordFault {n : Eng} {r kind addr : Nat} {y : AccType} (h : s.Pends d k x) :
    (s.recordFault n r y kind addr).Pends d k x := h.of_app rfl

omit wait in
theorem State.Pends.dropDma {n : Eng} {r : Nat} (h : s.Pends d k x) : (s.dropDma n r).Pends d k x := h.of_app rfl

theorem State.Pends.formStep {n : Eng} {r : Nat} {o : Desc} {tmo : Bool} (h : s.Pends d k x) : (s.formStep n r o tmo).Pends d k x := by
  unfold State.formStep
  split
  · exact h.takeDesc
  · exact h.malformed wait
  · split
    · exact h.takeDesc
    · exact h.malformed wait
    · exact h.recordFault.finishDesc
    · exact h.finishDesc
    · exact h.takeDesc.holdDma
    · exact h.finishDesc

theorem State.Pends.fetchStep {n : Eng} {r : Nat} {tmo : Bool} (h : s.Pends d k x) : (s.fetchStep n r tmo).Pends d k x := by
  have refused {y : AccType} {kind addr i reason : Nat} : (((s.dropDma n r).recordFault n r y kind addr).haltRing n r i reason).Pends d k x :=
    h.dropDma.recordFault.haltRing wait
  unfold State.fetchStep
  dsimp only
  split
  · exact h.holdDma
  · exact refused
  split
  · exact refused
  split
  · exact h.dropDma.haltRing wait
  split
  · exact h.dropDma.newWait.takeDesc.finishDesc
  · exact h.dropDma.newWait.takeDesc.formStep wait

theorem State.Pends.fetchNext {n : Eng} {r : Nat} (h : s.Pends d k x) : (s.fetchNext n r).Pends d k x := by
  have loop (m : Nat) (u : State) (hu : u.Pends d k x) : (State.fetchLoop m u n r).Pends d k x := by
    induction m generalizing u with
    | zero => exact hu
    | succ m ih =>
      unfold State.fetchLoop
      split
      · exact ih _ (hu.fetchStep wait)
      · exact hu
  exact loop _ s h

/-! ## Every waiting call judged (R785) -/

omit wait in
theorem cpuOf_updCpu_ne (other : ¬(d = e ∧ k = j)) (f : AppCore → AppCore) : (s.updCpu e j f).cpuOf d k = s.cpuOf d k := by
  by_cases same : d = e
  · exact cpuOf_updCpu_core (fun core => other ⟨same, core⟩) e d f
  · exact cpuOf_updCpu_domain same j k f

omit wait in
theorem AppCore.returns_call (y : AppCore) (code v : Nat) : y.returns code v = y ∨ (y.returns code v).call = none := by
  unfold AppCore.returns
  split
  · exact .inr rfl
  · exact .inl rfl

omit wait in
theorem cpuOf_waitReturns (s : State) (e : Fin 16) (j : Fin 2) (d : Fin 16) (k : Fin 2) :
    (s.waitReturns e j).cpuOf d k = (s.updCpu e j (fun y => y.returns 0 (s.waitEvents e))).cpuOf d k := by
  unfold State.waitReturns
  dsimp only
  generalize s.updCpu e j _ = u
  unfold State.cpuOf
  by_cases same : d = e
  · subst same
    rw [appOf_updApp_self]
  · rw [appOf_updApp_ne same]

omit wait in
/-- A WAIT that is judged goes on or returns. -/
theorem pollWait_eq (s : State) (e : Fin 16) (j : Fin 2) : s.pollWait e j = s ∨ s.pollWait e j = s.waitReturns e j := by
  unfold State.pollWait
  split
  · exact (ite_eq_or_eq _ _ _).symm
  · exact .inl rfl

omit wait in
theorem State.Pends.pollWait (h : s.Pends d k x) : (s.pollWait e j).Pends d k x := by
  have returned : (s.waitReturns e j).Pends d k x := by
    unfold State.Pends
    rw [cpuOf_waitReturns]
    by_cases same : d = e ∧ k = j
    · obtain ⟨rfl, rfl⟩ := same
      rw [cpuOf_updCpu_self]
      rcases AppCore.returns_call (s.cpuOf d k) 0 (s.waitEvents d) with kept | none
      · rw [kept]; exact h
      · exact .inr none
    · rw [cpuOf_updCpu_ne same]; exact h
  rcases pollWait_eq s e j with kept | returns
  · rw [kept]; exact h
  · rw [returns]; exact returned

omit wait in
theorem State.Pends.updOther {f : AppCore → AppCore} (other : ¬(d = e ∧ k = j)) (h : s.Pends d k x) : (s.updCpu e j f).Pends d k x :=
  h.of_cpu (cpuOf_updCpu_ne other f)

theorem State.Pends.not_flash (h : s.Pends d k x) {n : Nat} {args : List Nat} (call : (s.cpuOf d k).call = some (n, args)) : n ≠ 0x70 ∧ n ≠ 0x71 := by
  rcases h with same | none
  · have waits : x.waitsIn n = true := by
      unfold AppCore.waitsIn
      rw [← same, call]
      exact beq_self_eq_true n
    constructor <;> rintro rfl <;> rw [wait _ (by decide)] at waits <;> cases waits
  · rw [none] at call; cases call

theorem State.Pends.pollFlash (h : s.Pends d k x) : (s.pollFlash e j).Pends d k x := by
  unfold State.pollFlash
  split
  · rename_i n args call
    split
    · exact h
    rename_i flash
    have other : ¬(d = e ∧ k = j) := by
      rintro ⟨rfl, rfl⟩
      exact flash (h.not_flash wait call)
    dsimp only
    split
    · split
      · exact (((h.worked (worked_sramWrite s _ _)).updRing).updOther other).fetchNext wait
      · exact h
    · split
      · exact h
      · exact h.updRing.updOther other
  · exact h

/-- The waiting calls of one domain judged. -/
def State.judgeWaits (s : State) (d : Fin 16) : State := (((s.pollWait d 0).pollWait d 1).pollFlash d 0).pollFlash d 1

theorem State.Pends.judgeWaits (h : s.Pends d k x) : (s.judgeWaits e).Pends d k x := (h.pollWait.pollWait.pollFlash wait).pollFlash wait

end

theorem pollWaits_eq (runs : s.wheelRuns = true) : s.pollWaits = ((List.finRange 16).foldl State.judgeWaits s).reschedule := if_pos runs

theorem State.Pends.idle (h : s.Pends d k x) (none : x.call = none) : (s.cpuOf d k).call = Option.none := by
  rcases h with same | idle
  · rw [same]; exact none
  · exact idle

/-- A share in no call stays in none. -/
theorem judgeWaits_none (idle : (s.cpuOf d k).call = none) : ((s.judgeWaits e).cpuOf d k).call = none :=
  (State.Pends.judgeWaits (fun n _ => AppCore.waitsIn_of_none idle n) (.inl rfl)).idle idle

/-- A WAIT whose deadline has passed returns when it is judged. -/
theorem pollWait_due {mask n : Nat} (waiting : s.waitingOn d k = some (mask, some n)) (st : (s.cpuOf d k).st = .waiting) (due : n ≤ s.tick) :
    ((s.pollWait d k).cpuOf d k).call = none := by
  have returns : s.pollWait d k = s.waitReturns d k := by
    unfold State.pollWait
    rw [waiting]
    dsimp only
    rw [if_pos (by simp [due])]
  rw [returns, cpuOf_waitReturns, cpuOf_updCpu_self]
  unfold AppCore.returns
  rw [st]

theorem waitingOn_congr (cpu : t.cpuOf d k = s.cpuOf d k) : t.waitingOn d k = s.waitingOn d k := by
  unfold State.waitingOn
  rw [cpu]

/-- A share in a WAIT is in no other call. -/
theorem waitsIn_of_waitingOn {w : Nat × Option Nat} (waiting : s.waitingOn d k = some w) (n : Nat) (other : n ≠ 1) : (s.cpuOf d k).waitsIn n = false := by
  unfold State.waitingOn at waiting
  dsimp only at waiting
  split at waiting
  · rename_i m args call
    unfold AppCore.waitsIn
    rw [call]
    dsimp only
    split at waiting
    · rename_i one
      simpa [one] using other.symm
    · cases waiting
  · cases waiting

/-- A WAIT that is still to be judged, and whose deadline has passed, has returned once it is. -/
theorem pollWait_settles {mask n : Nat} (pends : t.Pends d k (s.cpuOf d k)) (waiting : s.waitingOn d k = some (mask, some n))
    (st : (s.cpuOf d k).st = .waiting) (due : n ≤ t.tick) : ((t.pollWait d k).cpuOf d k).call = none := by
  rcases pends with same | idle
  · exact pollWait_due ((waitingOn_congr same).trans waiting) (by rw [same]; exact st) due
  · exact (State.Pends.pollWait (.inl rfl)).idle idle

theorem pollWait_tick (s : State) (e : Fin 16) (j : Fin 2) : (s.pollWait e j).tick = s.tick := by
  rcases pollWait_eq s e j with kept | returns
  · rw [kept]
  · rw [returns]; rfl

/-- The calls of its domain judged, a WAIT whose deadline has passed has returned. -/
theorem judgeWaits_due {mask n : Nat} (pends : t.Pends d k (s.cpuOf d k)) (waiting : s.waitingOn d k = some (mask, some n))
    (st : (s.cpuOf d k).st = .waiting) (due : n ≤ t.tick) : ((t.judgeWaits d).cpuOf d k).call = none := by
  have waits : ((((t.pollWait d 0).pollWait d 1)).cpuOf d k).call = none := by
    rcases Fin.exists_fin_two.mp ⟨k, rfl⟩ with rfl | rfl
    · have first := pollWait_settles pends waiting st due
      exact (State.Pends.pollWait (.inl rfl)).idle first
    · exact pollWait_settles pends.pollWait waiting st (by rw [pollWait_tick]; exact due)
  have calm (n : Nat) (_ : n ≠ 1) := AppCore.waitsIn_of_none waits n
  exact ((State.Pends.pollFlash calm (.inl rfl)).pollFlash calm).idle waits

/-- Every waiting call judged with the deadline of one passed: that one has returned. -/
theorem pollWaits_due {mask n m : Nat} {b : Bool} (awake : t.Awake m b False) (runs : t.wheelRuns = true) (cpu : t.cpuOf d k = s.cpuOf d k)
    (waiting : s.waitingOn d k = some (mask, some n)) (st : (s.cpuOf d k).st = .waiting) (due : n ≤ m) : (t.pollWaits.cpuOf d k).call = none := by
  have calm := waitsIn_of_waitingOn waiting
  rw [pollWaits_eq runs, (reschedule_scheduled _ d k).call]
  refine foldl_marks (P := fun u : State => u.Pends d k (s.cpuOf d k) ∧ u.Awake m b False) (Q := fun u : State => (u.cpuOf d k).call = none) (a := d)
    (fun u e h => ⟨h.1.judgeWaits calm, h.2.pollWait.pollWait.pollFlash.pollFlash⟩) (fun u e h before => ?_) ⟨.inl cpu, awake⟩ (.inl (List.mem_finRange d))
  rcases before with rfl | idle
  · exact judgeWaits_due h.1 waiting st (due.trans h.2.tick_eq.ge)
  · exact judgeWaits_none idle

end Sys2Proof.Machine
end

section
/-! SUPPORT. Scheduling (21_applets.md R780, R781, R782, R785, R788); O51. -/

namespace Sys2Proof.Machine

open Sys2Proof

variable {s t : State} {d e : Fin 16} {k j : Fin 2}

/-! ## A WAIT that returns (R785) -/

/-- A share that is neither on the core nor READY for it stays in its run state. -/
theorem AppCore.Scheduled.parked {x y : AppCore} (h : x.Scheduled y) (off : x.st ≠ .running) (unready : x.st ≠ .ready) : y.st = x.st :=
  h.st.resolve_right fun moved => moved.1.elim off unready

theorem waitReturns_cpu (waiting : (s.cpuOf d k).st = .waiting) : (s.waitReturns d k).cpuOf d k = { s.cpuOf d k with
    st := .ready, call := none, regs := ((s.cpuOf d k).regs.set 10 (BitVec.ofNat 32 0)).set 11 (BitVec.ofNat 32 (s.waitEvents d)) } := by
  rw [cpuOf_waitReturns, cpuOf_updCpu_self]
  unfold AppCore.returns
  rw [waiting]

theorem waitReturn_event {mask : Nat} {dl : Option Nat} (wheel : s.wheelRuns = true) (waits : s.waitingOn d k = some (mask, dl))
    (waiting : (s.cpuOf d k).st = .waiting) (event : mask &&& s.waitEvents d ≠ 0) : Does (.waitReturn d k) s (fun t =>
      (t.cpuOf d k).call = none ∧ (t.cpuOf d k).regs[10] = 0 ∧ (t.cpuOf d k).regs[11] = BitVec.ofNat 32 (s.waitEvents d)) := by
  have shape : execWaitReturn d k s = .next (s.waitReturns d k).reschedule := by
    unfold execWaitReturn
    rw [waits]
    dsimp only
    rw [wheel, if_neg (by simp), if_pos event]
  have cpu := waitReturns_cpu waiting
  have out := reschedule_scheduled (s.waitReturns d k) d k
  rw [cpu] at out
  have regs := out.regs (by simp)
  have call := out.call
  refine ⟨_, shape, call, ?_, ?_⟩
  · rw [regs]
    simp
  · rw [regs]
    simp

theorem waitReturn_deadline {mask n : Nat} (wheel : s.wheelRuns = true) (waits : s.waitingOn d k = some (mask, some n))
    (waiting : (s.cpuOf d k).st = .waiting) (quiet : mask &&& s.waitEvents d = 0) (bound : n < 2 ^ 48) (src : s.clk.tickSrc ≠ none) :
    Does (.waitReturn d k) s (fun t => (t.cpuOf d k).call = none ∧ t.tick = max s.tick n) := by
  have shape : execWaitReturn d k s = .next (s.ended n).pollWaits := by
    unfold execWaitReturn
    rw [waits]
    dsimp only
    rw [wheel, if_neg (by simp), if_neg (by simp [quiet]), if_pos (Option.isSome_iff_ne_none.mpr src)]
    rfl
  have only := onlyChans_closeWindows (s.advanceTo n)
  have runs : s.mainRuns = true := by
    unfold State.wheelRuns at wheel
    simp only [Bool.and_eq_true] at wheel
    exact wheel.1.1.1
  have pwr := ended_running runs n
  have tick : (s.ended n).tick = max s.tick n := by
    rw [ended_tick, Nat.min_eq_left (by omega)]
  have wheel' : (s.ended n).wheelRuns = true := by
    have life : (s.ended n).life = s.life := by
      rw [State.ended, only.1]
      rfl
    unfold State.wheelRuns
    rw [pwr, life]
    exact wheel
  have awake : (s.ended n).Awake (max s.tick n) s.pwr.sleepReq False := by
    unfold State.Awake
    rw [pwr]
    exact ⟨tick, .inl (by simpa [State.mainRuns] using runs), rfl, False.elim⟩
  have cpu : (s.ended n).cpuOf d k = s.cpuOf d k := cpuOf_congr only.app
  exact ⟨_, shape, pollWaits_due awake wheel' cpu waits waiting (by omega), awake.pollWaits.tick_eq⟩

/-! ## Budgets (R781) -/

theorem cpuOf_updApp {f : App → App} (kept : ∀ a, (f a).cpu = a.cpu) (e : Fin 16) : (s.updApp e f).cpuOf d k = s.cpuOf d k := by
  unfold State.cpuOf
  by_cases same : d = e
  · subst same
    rw [appOf_updApp_self]
    dsimp only
    rw [kept]
  · rw [appOf_updApp_ne same]

theorem running_of_st (st : ∀ d, (t.cpuOf d k).st = (s.cpuOf d k).st) : t.running k = s.running k := by
  unfold State.running
  simp only [st]

/-- A budget used up and counted. -/
def State.overrun (s : State) (d : Fin 16) (k : Fin 2) (us : Nat) : State :=
  (s.updCpu d k (fun x => { x with used := us })).updApp d (fun a => { a with overruns := sat16 a.overruns })

theorem overrun_cpu (us : Nat) : (s.overrun d k us).cpuOf e k = if e = d then { s.cpuOf d k with used := us } else s.cpuOf e k := by
  unfold State.overrun
  rw [cpuOf_updApp (f := fun a => { a with overruns := sat16 a.overruns }) fun _ => rfl]
  split
  · rename_i same
    subst same
    exact cpuOf_updCpu_self s e k _
  · rename_i other
    exact cpuOf_updCpu_domain other k k _

theorem overrun_running (us : Nat) : (s.overrun d k us).running k = s.running k := by
  refine running_of_st fun e => ?_
  rw [overrun_cpu]
  split
  · rename_i same
    rw [same]
  · rfl

theorem overrun_overruns (us : Nat) : ((s.overrun d k us).appOf d).overruns = sat16 (s.appOf d).overruns := by
  unfold State.overrun State.updCpu
  rw [appOf_updApp_self, appOf_updApp_self]

theorem State.Filed.overruns {x : Dossier} (h : s.Filed d x) : (s.appOf d).overruns = x.app.overruns := congrArg (fun y => y.app.overruns) h

theorem cpuBudgetUsed_throttles {m : Manifest} (wheel : s.wheelRuns = true) (runs : s.running k = some d) (man : s.app[d].man = some m) :
    Does (.cpuBudgetUsed k) s (fun t => (t.cpuOf d k).st = .throttled ∧ (t.cpuOf d k).used = m.cpuUs ∧ t.app[d].overruns = sat16 s.app[d].overruns) := by
  have shape : execCpuBudgetUsed k s = .next (((s.overrun d k m.cpuUs).takeOff k .throttled).schedule k) := by
    have man' : (s.appOf d).man = some m := man
    unfold execCpuBudgetUsed
    rw [runs, wheel]
    dsimp only
    rw [man']
    rfl
  have cpu : (s.overrun d k m.cpuUs).cpuOf d k = { s.cpuOf d k with used := m.cpuUs } := by
    rw [overrun_cpu, if_pos rfl]
  have running := (overrun_running (s := s) (d := d) m.cpuUs).trans runs
  have overruns : ((s.overrun d k m.cpuUs).appOf d).overruns = sat16 s.app[d].overruns := overrun_overruns m.cpuUs
  generalize s.overrun d k m.cpuUs = u at shape cpu running overruns
  have taken := takeOff_running running .throttled
  have kept := (State.Filed.self u d).takeOff (k := k) (st := .throttled)
  generalize u.takeOff k .throttled = v at shape taken kept
  have out := schedule_scheduled v k d
  rw [taken] at out
  have st := out.parked (by simp [AppCore.off]) (by simp [AppCore.off])
  have used := out.used
  rw [cpu] at st used
  exact ⟨_, shape, st, used, kept.schedule.overruns.trans overruns⟩

/-! ## Windows (R781) -/

/-- Budgets renewed, before the cores are scheduled. -/
def State.renewed (s : State) : State := { s with app := s.app.map (fun a => { a with cpu := a.cpu.map AppCore.renew }) }

theorem cpuWindow_eq (s : State) : s.cpuWindow = s.renewed.reschedule := rfl

theorem renewed_cpu : s.renewed.cpuOf e j = (s.cpuOf e j).renew := by
  simp only [State.renewed, State.cpuOf, State.appOf, Fin.getElem_fin, Vector.getElem_map]

theorem AppCore.renew_st (x : AppCore) : x.renew.st ≠ .throttled := by
  unfold AppCore.renew
  dsimp only
  split
  · simp
  · assumption

theorem AppCore.Scheduled.not_throttled {x y : AppCore} (h : x.Scheduled y) (free : x.st ≠ .throttled) : y.st ≠ .throttled := by
  rcases h.st with same | ⟨-, on⟩
  · rw [same]; exact free
  · rcases on with on | on <;> rw [on] <;> simp

theorem cpuWindow_renews (wheel : s.wheelRuns = true) (src : s.clk.tickSrc ≠ none) (early : s.tick < 2 ^ 47) : Does .cpuWindow s (fun t =>
    t.tick = (s.tick / 32768 + 1) * 32768 ∧ ∀ (e : Fin 16) (j : Fin 2), (t.cpuOf e j).used = 0 ∧ (t.cpuOf e j).st ≠ .throttled) := by
  have shape : execCpuWindow s = .next (s.ended ((s.tick / 32768 + 1) * 32768)).renewed.reschedule := by
    have counts : (s.wheelRuns && s.clk.tickSrc.isSome) = true := by simp [wheel, Option.isSome_iff_ne_none, src]
    unfold execCpuWindow
    rw [if_pos counts]
    rfl
  have tick : (s.ended ((s.tick / 32768 + 1) * 32768)).tick = (s.tick / 32768 + 1) * 32768 := by
    rw [ended_tick]
    omega
  generalize s.ended ((s.tick / 32768 + 1) * 32768) = u at shape tick
  refine ⟨_, shape, ?_, fun e j => ?_⟩
  · exact (congrArg State.tick (reschedule_ran u.renewed) :).trans tick
  · have out := reschedule_scheduled u.renewed e j
    rw [renewed_cpu] at out
    exact ⟨out.used, out.not_throttled (AppCore.renew_st _)⟩

/-! ## A stuck applet (R782, R788) -/

section
variable {x : Sensing} {K : Prop}

theorem State.Senses.xFreeze (h : s.Senses x K) : (s.xFreeze d).Senses x K := by
  unfold State.xFreeze
  exact h.stopApplet.foldl fun _ _ ht => ht.chOp

theorem State.Senses.awaitDecisions {fresh : Bool} (h : s.Senses x K) : (s.awaitDecisions d fresh).Senses x K := by
  unfold State.awaitDecisions
  exact h.updApp

theorem State.Senses.restartApplet (h : s.Senses x K) : (s.restartApplet d).Senses x K := by
  unfold State.restartApplet
  split
  · exact ((h.measureApplet.xFreeze.foldl fun _ _ ht => ht.xRing).freeContexts.wipeApplet.startApplet.awaitDecisions).reschedule
  · exact h

/-- An applet fault takes no time and moves no powered time. -/
theorem State.Senses.appletFault {mcause mepc mtval pf : Nat} (h : s.Senses x K) : (s.appletFault d mcause mepc mtval pf).Senses x K := by
  unfold State.appletFault
  dsimp only
  have stopped := h.stopApplet.wlog (code := 0x0A01) (grade := 0) (rep := true) (s := s.stopApplet d .exchanging)
    (detail := faultDetail d 0 mcause (mepc - (s.appOf d).imgAt) (s.reportAddr d mtval) pf)
  generalize State.wlog _ _ _ _ _ = u at stopped ⊢
  split
  · exact stopped.quarantine.updApp
  split
  · exact stopped.updApp.quarantine
  · exact stopped.updApp.restartApplet

end

/-- A stuck applet that is not fresh: the fault is remembered at the powered time it has. -/
theorem stuck_faults (seasoned : (s.appOf d).fresh = false) :
    ((s.stuck d k).appOf d).faults.head? = some (s.stuck d k).powered ∧ (s.stuck d k).tick = s.tick := by
  unfold State.stuck
  dsimp only
  have filed : s.tick1.Filed d (s.dossier d) := State.Filed.self s d
  have senses : s.tick1.Senses s.sensing (s.kilnRuns = true) := State.Senses.self s
  obtain ⟨latest, -⟩ := filed.fault_again (mcause := Config.freeNat s.freeCount % 256) (mepc := (s.coreOf k).pc) (mtval := (s.coreOf k).mtval)
    (pf := (s.coreOf k).pFault) seasoned
  have after := (senses.appletFault (d := d) (mcause := Config.freeNat s.freeCount % 256) (mepc := (s.coreOf k).pc) (mtval := (s.coreOf k).mtval)
    (pf := (s.coreOf k).pFault)).reschedule
  generalize State.appletFault _ _ _ _ _ _ = u at latest after ⊢
  have powered : u.reschedule.powered = s.powered := after.powered
  rw [reschedule_faults, powered]
  exact ⟨latest, after.tick⟩

theorem appletStuck_faults (wheel : s.wheelRuns = true) (runs : s.running k = some d) (src : s.clk.tickSrc ≠ none) (seasoned : s.app[d].fresh = false) :
    Does (.appletStuck k) s (fun t => t.app[d].faults.head? = some t.powered ∧
      t.tick = max s.tick (min ((s.cpuOf d k).runSince + 1639) (2 ^ 48 - 1))) := by
  have app : (s.ended ((s.cpuOf d k).runSince + 1639)).app = s.app := (onlyChans_closeWindows (s.advanceTo ((s.cpuOf d k).runSince + 1639))).app
  have shape : execAppletStuck k s = .next ((s.ended ((s.cpuOf d k).runSince + 1639)).stuck d k) := by
    have counts : (s.wheelRuns && s.clk.tickSrc.isSome) = true := by simp [wheel, Option.isSome_iff_ne_none, src]
    have runs' := (running_congr (k := k) app).trans runs
    unfold execAppletStuck
    rw [runs]
    dsimp only
    rw [if_pos counts]
    exact congrArg _ (if_pos runs')
  have tick := ended_tick s ((s.cpuOf d k).runSince + 1639)
  generalize s.ended ((s.cpuOf d k).runSince + 1639) = u at app shape tick
  obtain ⟨latest, same⟩ := stuck_faults (s := u) (d := d) (k := k) (by unfold State.appOf; rw [app]; exact seasoned)
  exact ⟨_, shape, latest, same.trans tick⟩

/-! ## Time slices (R781) -/

theorem priority_congr (man : (t.appOf e).man = (s.appOf e).man) : t.priority e = s.priority e := by
  unfold State.priority
  rw [man]

/-- An applet that alone runs on a core is the one running there. -/
theorem running_of_only (on : (s.cpuOf e k).st = .running) (only : ∀ f, f ≠ e → (s.cpuOf f k).st ≠ .running) : s.running k = some e := by
  unfold State.running
  have some : ((List.finRange 16).find? (fun f => (s.cpuOf f k).st == .running)).isSome := by
    rw [List.find?_isSome]
    exact ⟨e, List.mem_finRange e, by simp [on]⟩
  obtain ⟨f, found⟩ := Option.isSome_iff_exists.mp some
  have runs : (s.cpuOf f k).st = .running := by simpa using List.find?_some found
  rw [found]
  by_contra other
  exact only f (fun same => other (by rw [same])) runs

theorem mem_afterDom (n : Nat) (e : Fin 16) : e ∈ afterDom n := by
  refine List.mem_map.mpr ⟨(e.val + 15 * (n + 1)) % 16, List.mem_range.mpr (Nat.mod_lt _ (by decide)), Fin.ext ?_⟩
  simp only [dom, Fin.val_ofNat]
  omega

/-- Round-robin order from a domain: the others, and then itself. -/
theorem afterDom_last (d : Fin 16) : afterDom d.val = (afterDom d.val).dropLast ++ [d] ∧ d ∉ (afterDom d.val).dropLast := by
  revert d
  decide

/-- A candidate that comes last, and is not of higher priority than one before it, is not chosen. -/
theorem prefer_last {l : List (Fin 16)} {f : Fin 16} (mem : f ∈ l) (absent : d ∉ l) (le : s.priority d ≤ s.priority f) :
    (l ++ [d]).foldl s.prefer none ≠ some d := by
  obtain ⟨b, inside, found, most⟩ := prefer_chooses (s := s) (List.ne_nil_of_mem mem)
  rw [List.foldl_append, found, List.foldl_cons, List.foldl_nil]
  unfold State.prefer
  dsimp only
  rw [if_neg (by have := most f mem; omega)]
  intro same
  cases same
  exact absent inside

/-- A core with no applet on it goes to the one of the READY that comes first. -/
theorem schedule_idle (up : s.coreUp k = true) (idle : s.running k = none) (next : s.nextReady k = some e) : s.schedule k = s.putOn k e := by
  unfold State.schedule
  rw [up, next, idle]
  exact if_neg (by simp)

/-- In turn after a domain that is READY itself: it is not next where another READY one is of no lower priority. -/
theorem nextReady_turn {f : Fin 16} (turn : (s.coreOf k).domain = d.val) (ready : (s.cpuOf d k).st = .ready) (other : f ≠ d)
    (ready' : (s.cpuOf f k).st = .ready) (le : s.priority d ≤ s.priority f) : s.nextReady k ≠ some d := by
  obtain ⟨last, absent⟩ := afterDom_last d
  have order : s.readyOn k = ((afterDom d.val).dropLast.filter fun e => (s.cpuOf e k).st == .ready) ++ [d] := by
    unfold State.readyOn
    rw [turn, last, List.filter_append, List.dropLast_concat]
    simp [ready]
  have before : f ∈ (afterDom d.val).dropLast := by
    have mem := mem_afterDom d.val f
    rw [last] at mem
    simpa [other] using mem
  rw [nextReady_eq, order]
  exact prefer_last (List.mem_filter.mpr ⟨before, by simp [ready']⟩) (fun mem => absent (List.mem_filter.mp mem).1) le

/-- The READY applet that goes first, where one is READY. -/
theorem nextReady_first {f : Fin 16} (ready : (s.cpuOf f k).st = .ready) :
    ∃ e, s.nextReady k = some e ∧ ∀ f, (s.cpuOf f k).st = .ready → s.priority f ≤ s.priority e := by
  have member (f : Fin 16) (ready : (s.cpuOf f k).st = .ready) : f ∈ s.readyOn k := mem_readyOn.mpr ⟨mem_afterDom _ f, ready⟩
  obtain ⟨e, -, found, most⟩ := prefer_chooses (s := s) (List.ne_nil_of_mem (member f ready))
  exact ⟨e, found, fun f ready => most f (member f ready)⟩

theorem takeOff_coreUp (runs : s.running k = some d) (st : AppSt) : (s.takeOff k st).coreUp k = s.coreUp k ∧
    ((s.takeOff k st).coreOf k).domain = (s.coreOf k).domain := by
  rw [takeOff_eq runs]
  unfold State.coreUp State.coreOf
  rw [core_updCore_self]
  exact ⟨rfl, rfl⟩

theorem timeSlice_passes (wheel : s.wheelRuns = true) (runs : s.running k = some d) (up : s.coreUp k = true)
    (alone : ∀ e, e ≠ d → (s.cpuOf e k).st ≠ .running) : Does (.timeSlice k) s (fun t => ∃ e, t.running k = some e ∧
      (∀ f, f = d ∨ (s.cpuOf f k).st = .ready → s.priority f ≤ s.priority e) ∧
      (s.core[k].domain = d.val → (∃ f, f ≠ d ∧ (s.cpuOf f k).st = .ready ∧ s.priority d ≤ s.priority f) → e ≠ d)) := by
  have shape : execTimeSlice k s = .next ((s.takeOff k .ready).schedule k) := by
    unfold execTimeSlice
    rw [runs, wheel]
  obtain ⟨up', turn⟩ := takeOff_coreUp runs .ready
  have self : ((s.takeOff k .ready).cpuOf d k).st = .ready := by rw [takeOff_running runs]; rfl
  have others (f : Fin 16) (other : f ≠ d) : (s.takeOff k .ready).cpuOf f k = s.cpuOf f k := takeOff_other runs other .ready
  have priority (f : Fin 16) : (s.takeOff k .ready).priority f = s.priority f := priority_congr (State.Filed.self s f).takeOff.man
  generalize s.takeOff k .ready = u at shape up' turn self others priority
  have none (f : Fin 16) : (u.cpuOf f k).st ≠ .running := by
    by_cases same : f = d
    · rw [same, self]; decide
    · rw [others f same]; exact alone f same
  have idle : u.running k = Option.none := by
    unfold State.running
    simpa using none
  have ready (f : Fin 16) (h : f = d ∨ (s.cpuOf f k).st = .ready) : (u.cpuOf f k).st = .ready := by
    by_cases same : f = d
    · rw [same]; exact self
    · rw [others f same]; exact h.resolve_left same
  obtain ⟨e, next, most⟩ := nextReady_first self
  rw [schedule_idle (up'.trans up) idle next] at shape
  refine ⟨_, shape, e, running_of_only (by rw [putOn_self]) (fun f other => by rw [putOn_other other]; exact none f), fun f h => ?_, ?_⟩
  · rw [← priority, ← priority e]
    exact most f (ready f h)
  · rintro inTurn ⟨f, other, ready', le⟩ rfl
    refine nextReady_turn (turn.trans inTurn) self other (ready f (.inr ready')) ?_ next
    rw [priority, priority]
    exact le

/-- Settles O51: a WAIT that returns, budgets, a stuck applet, slices and windows. -/
theorem scheduling : Obligations.Scheduling := by
  unfold Obligations.Scheduling
  intro d k s wheel
  refine ⟨fun mask dl waits waiting => ⟨waitReturn_event wheel waits waiting, ?_⟩, fun runs => ⟨fun m => cpuBudgetUsed_throttles wheel runs,
    fun src => appletStuck_faults wheel runs src, timeSlice_passes wheel runs⟩, cpuWindow_renews wheel⟩
  rintro n rfl quiet bound src
  exact waitReturn_deadline wheel waits waiting quiet bound src

end Sys2Proof.Machine
end
